-- ==== Sys2Proof/Word.lean ====
section
/-! DEFINITION. The words of the TB46 that the manual treats as bits: bytes on the links, the run
time (32 bits, wrapping), the day number (16 bits, wrapping) and check words (16 bits). Counts,
serials and money are exact integers (00, "Numbers", "Money", "Blanks and serials") and stay `Nat`. -/

namespace Sys2Proof

/-- One byte of a frame, of a notice record or of a mark record (01 section 1.8). -/
abbrev Byte := BitVec 8

/-- A 16-bit check word, or a 16-bit identifier field. -/
abbrev Word16 := BitVec 16

/-- Run time: an unsigned 32-bit count of tenths of a second (11 R192). -/
abbrev RunTime := BitVec 32

/-- A text of character codes (00, "Text"). -/
abbrev Text := List Byte

end Sys2Proof
end

