-- ==== Sys2Proof/Config.lean ====
section
/-! DEFINITION. What the manual fixes for the part as a whole: the sizes of its tables and the
limits of its arithmetic, each with the rule that gives it. -/

namespace Sys2Proof.Config

/-- Largest body of a frame (01 R2, R4). -/
def maxBody : Nat := 600

/-- Content lines in one request (03 R41, R44, R46). -/
def linesPerRequest : Nat := 12

/-- Characters of a text line (00, "Text"; 02 R33, R37). -/
def lineWidth : Nat := 40

/-- Largest declared line count N (03 R42 step 3). -/
def maxDeclared : Nat := 32

/-- Journal entries reserved for a job (03 R42 step 7, 08 R148). -/
def jobReservation : Nat := 3

/-- Entries of the issue journal (08 R145). -/
def journalSize : Nat := 4096

/-- Records of the pack table (05 R95). -/
def packPlaces : Nat := 16

/-- Entries of the blank table (05 R95). -/
def blankEntries : Nat := 8192

/-- Greatest serial (00, "Blanks and serials"). -/
def maxSerial : Nat := 9999999

/-- Entries of one census block (06 R119). -/
def censusBlock : Nat := 64

/-- Places of the fault list (10 R178). -/
def faultPlaces : Nat := 64

/-- Where a total is held (07 R137). -/
def heldLimit : Nat := 2147483647

/-- Greatest base fare, and greatest floor of a discount entry (07 R131, R132). -/
def maxFare : Nat := 99999

/-- A whole base fare in basis points (07 Table 7.1). -/
def wholeRate : Nat := 10000

/-- Greatest float of a session (08 R142). -/
def maxFloat : Nat := 1000000

/-- Greatest counted amount of a declaration (09 R163). -/
def maxAmount : Nat := 99999999

end Sys2Proof.Config
end

