-- ==== Sys2Proof/Syntax.lean ====
section
/-! DEFINITION. The commands of the TB46: one constructor of `Instr` for each row of
spec/opcode_table.json, with the named fields the chapters give each request.

The manual gives requests by named fields and lays out only the frame (01 section 1.8), so a
request carries the port it comes from, its tag and a body. `none` for a body stands for one whose
length or field layout does not fit the request (R6 step 3). `none` for an enumerated field stands
for a value that is none of the named ones. DESIGN CHOICE, safe: log entries 3 and 23. -/

namespace Sys2Proof

/-- A window, 0 for W1 to 5 for W6. -/
abbrev Window := Fin 6

/-- A lane, 0 for L1 to 3 for L4. -/
abbrev LaneId := Fin 4

/-- A slot of one window, 0 for slot 1 to 7 for slot 8. -/
abbrev SlotId := Fin 8

/-- A port (00 Table 0.5). -/
inductive Port where
  | window (w : Window)
  | office
  deriving DecidableEq, Repr

/-- A request body: `none` where its layout does not fit the request (01 R6 step 3). -/
abbrev Body (α : Type) := Option α

/-- The value of an enumerated field: `none` where it is none of the named values. -/
abbrev Named (α : Type) := Option α

/-- The four tenders (00, "Tenders"). -/
inductive Tender where
  | cash | card | warrant | voucher
  deriving DecidableEq, Repr

/-- One value for each tender. -/
structure PerTender (α : Type) where
  cash : α
  card : α
  warrant : α
  voucher : α
  deriving DecidableEq, Repr

/-- The same value for every tender. -/
def PerTender.same {α : Type} (x : α) : PerTender α := ⟨x, x, x, x⟩

/-- A job's priority (03 Table 3.1). -/
inductive Priority where
  | normal | urgent
  deriving DecidableEq, Repr

/-- The seven marks of a blank (05 Table 5.1). -/
inductive Mark where
  | unused | issued | voided | spoiled | advanced | missing | returned
  deriving DecidableEq, Repr

/-- A set of window grants (01 R7). -/
structure GrantSet where
  issue : Bool
  urgent : Bool
  void : Bool
  declare : Bool
  deriving DecidableEq, Repr

/-- All four grants (01 R7). -/
def GrantSet.all : GrantSet := ⟨true, true, true, true⟩

/-- No grant (01 R7). -/
def GrantSet.empty : GrantSet := ⟨false, false, false, false⟩

/-- A set of lanes L1 to L4. -/
abbrev LaneSet := Vector Bool 4

/-- A set of stock classes 0 to 3. -/
abbrev ClassSet := Vector Bool 4

/-- The mode of a withdrawal (05 section 5.5). -/
inductive WithdrawMode where
  | returnStock | park | missing
  deriving DecidableEq, Repr

/-- The target of a withdrawal (05 R102). -/
inductive WithdrawTarget where
  | lane (n : Nat)
  | pack (n : Nat)
  deriving DecidableEq, Repr

/-- The suspension mode of a census (06 R117). -/
inductive CensusMode where
  | prompt | block
  deriving DecidableEq, Repr

/-- The state of a discount entry (07 Table 7.1). -/
inductive DiscountState where
  | unused | active
  deriving DecidableEq, Repr

/-- A form definition, the fields of Table 2.1 (02). -/
structure FormDef where
  cls : Nat
  lineCount : Nat
  gapStart : Nat
  gapLength : Nat
  counterfoil : Option Nat
  repeatCount : Nat
  ready : Nat
  serialBody : Option Nat
  serialCounterfoil : Option Nat
  timeBody : Option Nat
  timeCounterfoil : Option Nat
  priceBody : Option Nat
  priceCounterfoil : Option Nat
  deriving DecidableEq, Repr

/-- OPEN_SESSION (08 R142). -/
structure OpenBody where
  clerk : Word16
  float : Nat
  deriving DecidableEq, Repr

/-- The fare fields of a job (03 R41, R46). -/
structure FareFields where
  baseFare : Nat
  discount : Nat
  quantity : Nat
  tender : Named Tender
  deriving DecidableEq, Repr

/-- A declared line count with the content lines sent (03 R41, R46). -/
structure Content where
  declared : Nat
  lines : List Text
  deriving DecidableEq, Repr

/-- SUBMIT_JOB (03 R41). -/
structure SubmitBody where
  form : Nat
  lanes : LaneSet
  priority : Named Priority
  fare : FareFields
  content : Content
  deriving DecidableEq, Repr

/-- SUPPLY_LINES (03 R44). -/
structure SupplyBody where
  slot : Nat
  start : Nat
  lines : List Text
  deriving DecidableEq, Repr

/-- AMEND_JOB (03 R46); each part is optional. -/
structure AmendBody where
  slot : Nat
  fare : Option FareFields
  lanes : Option LaneSet
  priority : Option (Named Priority)
  content : Option Content
  deriving DecidableEq, Repr

/-- VOID_TICKET (08 R154). -/
structure VoidBody where
  cls : Nat
  serial : Nat
  deriving DecidableEq, Repr

/-- DECLARE_ITEM (09 R163). -/
structure ItemBody where
  tender : Named Tender
  amount : Nat
  deriving DecidableEq, Repr

/-- DECLARE_CONFIRM (09 R164). -/
structure ConfirmBody where
  voids : Nat
  spoils : Nat
  deriving DecidableEq, Repr

/-- READ_JOB (03 R51). The window is read before the layout of the rest is checked (01 R6 steps 2 and
3): no slot stands for a body that names a window and does not fit after it. -/
structure ReadJobBody where
  window : Nat
  slot : Body Nat
  deriving DecidableEq, Repr

/-- READ_SESSION (08 R144). The first entry number is an optional part; a body that names a window and
does not fit after it has `none` for what follows the window (01 R6 steps 2 and 3). -/
structure ReadSessionBody where
  window : Nat
  firstEntry : Body (Option Nat)
  deriving DecidableEq, Repr

/-- DECLARE_PACK (05 R97). -/
structure PackBody where
  cls : Nat
  first : Nat
  count : Nat
  excluded : List Nat
  deriving DecidableEq, Repr

/-- MOUNT_PACK (05 R100). -/
structure MountBody where
  pack : Nat
  lane : Nat
  deriving DecidableEq, Repr

/-- WITHDRAW_PACK (05 R102). -/
structure WithdrawBody where
  target : WithdrawTarget
  mode : Named WithdrawMode
  deriving DecidableEq, Repr

/-- READ_PACK (05 R113). -/
structure ReadPackBody where
  pack : Nat
  serial : Option Nat
  deriving DecidableEq, Repr

/-- START_CENSUS (06 R117). -/
structure CensusBody where
  pack : Nat
  first : Nat
  last : Nat
  mode : Named CensusMode
  search : Option (Named Mark)
  deriving DecidableEq, Repr

/-- ADVANCE_BLANK (04 R88). -/
structure AdvanceBody where
  lane : Nat
  count : Nat
  deriving DecidableEq, Repr

/-- DEFINE_FORM (02 section 2.2). -/
structure FormBody where
  form : Nat
  layout : FormDef
  deriving DecidableEq, Repr

/-- The fields SET_DISCOUNT carries for an ACTIVE entry (07 R131); the classes by number. -/
structure DiscountTerms where
  rate : Nat
  floor : Nat
  step : Nat
  classes : List Nat
  deriving DecidableEq, Repr

/-- SET_DISCOUNT (07 R131). -/
structure DiscountBody where
  code : Nat
  state : Named DiscountState
  terms : Option DiscountTerms
  deriving DecidableEq, Repr

/-- SET_LIMITS (11 R197); each part is optional. -/
structure LimitsBody where
  waits : Option (List (Nat × Nat))
  voidWindow : Option Nat
  stockLow : Option Nat
  tolerances : Option (List (Named Tender × Nat))
  currencyMark : Option Byte
  deriving DecidableEq, Repr

/-- SET_PERMISSIONS (01 R9). -/
structure PermissionsBody where
  window : Nat
  remove : GrantSet
  add : GrantSet
  deriving DecidableEq, Repr

/-- The optional part of SET_CLOCK (11 R191). -/
structure ClockBody where
  day : Word16
  second : Nat
  deriving DecidableEq, Repr

/-- The commands, one constructor for each row of spec/opcode_table.json. -/
inductive Instr where
  -- receiver events (01 R1 to R3)
  | portByteReceived (p : Port) (b : Byte) (framingError : Bool)
  | gapTimerExpiry (p : Port)
  | quietTimerExpiry (p : Port)
  | answerSent (p : Port)
  -- window requests
  | openSession (p : Port) (tag : Byte) (body : Body OpenBody)
  | submitJob (p : Port) (tag : Byte) (body : Body SubmitBody)
  | supplyLines (p : Port) (tag : Byte) (body : Body SupplyBody)
  | holdJob (p : Port) (tag : Byte) (slot : Body Nat)
  | amendJob (p : Port) (tag : Byte) (body : Body AmendBody)
  | releaseJob (p : Port) (tag : Byte) (slot : Body Nat)
  | withdrawJob (p : Port) (tag : Byte) (slot : Body Nat)
  | voidTicket (p : Port) (tag : Byte) (body : Body VoidBody)
  | declareBegin (p : Port) (tag : Byte) (n : Body Nat)
  | declareItem (p : Port) (tag : Byte) (body : Body ItemBody)
  | declareConfirm (p : Port) (tag : Byte) (body : Body ConfirmBody)
  -- requests of any port
  | fetchNotice (p : Port) (tag : Byte) (body : Body Unit)
  | readJob (p : Port) (tag : Byte) (body : Body ReadJobBody)
  | readSession (p : Port) (tag : Byte) (body : Body ReadSessionBody)
  | readLane (p : Port) (tag : Byte) (lane : Body Nat)
  -- office requests
  | declarePack (p : Port) (tag : Byte) (body : Body PackBody)
  | mountPack (p : Port) (tag : Byte) (body : Body MountBody)
  | withdrawPack (p : Port) (tag : Byte) (body : Body WithdrawBody)
  | collectPack (p : Port) (tag : Byte) (pack : Body Nat)
  | readPack (p : Port) (tag : Byte) (body : Body ReadPackBody)
  | startCensus (p : Port) (tag : Byte) (body : Body CensusBody)
  | suspendCensus (p : Port) (tag : Byte) (body : Body Unit)
  | resumeCensus (p : Port) (tag : Byte) (body : Body Unit)
  | stopCensus (p : Port) (tag : Byte) (body : Body Unit)
  | readCensus (p : Port) (tag : Byte) (body : Body Unit)
  | censusEntryStep
  | clearLane (p : Port) (tag : Byte) (lane : Body Nat)
  | purgeLane (p : Port) (tag : Byte) (lane : Body Nat)
  | advanceBlank (p : Port) (tag : Byte) (body : Body AdvanceBody)
  | ackFault (p : Port) (tag : Byte) (report : Body Nat)
  | readFaults (p : Port) (tag : Byte) (start : Body Nat)
  | defineForm (p : Port) (tag : Byte) (body : Body FormBody)
  | readForm (p : Port) (tag : Byte) (form : Body Nat)
  | setDiscount (p : Port) (tag : Byte) (body : Body DiscountBody)
  | setLimits (p : Port) (tag : Byte) (body : Body LimitsBody)
  | setPermissions (p : Port) (tag : Byte) (body : Body PermissionsBody)
  | collectCashup (p : Port) (tag : Byte) (window : Body Nat)
  | reopenSession (p : Port) (tag : Byte) (window : Body Nat)
  | setClock (p : Port) (tag : Byte) (time : Body (Option ClockBody))
  | restart (p : Port) (tag : Byte) (body : Body Unit)
  | storeReinitialise (p : Port) (tag : Byte) (body : Body Unit)
  -- lane events and the Job Table's own steps
  | claimRequest (l : LaneId)
  | claimAnswer (l : LaneId)
  | scannerVisit
  | positioned (l : LaneId)
  | headReady (l : LaneId)
  | cutDone (l : LaneId)
  | markRecord (l : LaneId) (record : Vector Byte 6)
  | markReadTimeout (l : LaneId)
  | feedTimeout (l : LaneId)
  | strobeTimeout (l : LaneId)
  | cutTimeout (l : LaneId)
  | cabinetOpening (l : LaneId)
  | cabinetRelock (l : LaneId)
  -- supply, reset and clocks
  | powerFailWarningAssert
  | powerFailWarningDeassert
  | resetAsserted
  | powerOn
  | officeClockTick
  | runTimeTick
  /-- The supply fails; `batteryKept` is clear where the battery fails while the supply is absent,
  or the store's contents are damaged (11 R193). -/
  | supplyLoss (batteryKept : Bool)
  deriving DecidableEq, Repr

end Sys2Proof
end

