-- ==== Sys2Proof/Decode.lean ====
section
/-! DEFINITION. Decoding by the table's bits. No row of spec/opcode_table.json gives bits: the
commands are requests given by named fields, and events, so no word spells one (log entry 2). The
frames that carry requests are decoded where their bytes arrive (Machine/Frames.lean,
Machine/Ports.lean). -/

namespace Sys2Proof

/-- The command a word of the table's bits spells: none, since no row has bits. -/
def decodeTableWord (_nbits _w : Nat) : Option Instr := none

end Sys2Proof
end

