-- ==== Sys2Proof/Machine/State.lean ====
section
/-! DEFINITION. The state of the TB46 as plain data: every record, counter, queue, flag and pin the
spec names, the queue of waiting commands, and the state after reset. Outputs that a rule defines as
a function of other state (the attention and clear-to-send lines, a lane's expected serial, a
session's entry list) are functions, not fields (log entries 19 and 20). -/

namespace Sys2Proof.Machine

/-- Why the machine stops with a fault. No command of the TB46 stops the part: each request is
answered and each event is taken or discarded, so there is no constructor. The spec's own faults
(10 Table 10.2) are reports in `State.faults`. -/
inductive Fault where
  deriving DecidableEq, Repr

/-- Why a command is rejected. -/
inductive Refusal where
  /-- Raised by an arm of `exec` for a command that has no meaning yet: safe, since nothing is
  claimed of it. No arm raises it. -/
  | notModelled (mnemonic : String)
  deriving DecidableEq, Repr

/-! ## Answers' result codes (01 R5) -/

/-- The result codes: the eight common ones of Table 1.2, then every other code the manual names. -/
inductive ResultCode where
  | ok | frameRejected | unknownKind | wrongPort | malformed | storeInvalid | notPermitted | none
  | alreadyDeclared | alreadyVoided | badArgument | badDiscount | badFare | badForm | badRange
  | censusBusy | censusNeeded | declarationAbandoned | fixedEntry | formUnknown | jobsOutstanding
  | jobEnded | journalFull | laneBusy | laneLocked | notDeclared | notFaulted | notHeld | notIssued
  | notQueued | notRunning | notSuspended | notWithdrawn | notYours | noCensus | noDeclaration
  | noJob | noPack | noReport | noRoom | noSession | noSlot | outcomeUnread | outOfOrder | overlap
  | packMounted | packReferenced | packWithdrawn | pendingBound | purgeNeeded | sessionDeclaring
  | sessionExists | stillActive | tooLate | tooManyLines | unknownBlank | voidWindowPassed
  | windowInSession | withdrawn
  deriving DecidableEq, Repr

/-- The request kinds of Table 1.3 (01). -/
inductive RequestKind where
  | openSession | submitJob | supplyLines | holdJob | amendJob | releaseJob | withdrawJob
  | voidTicket | declareBegin | declareItem | declareConfirm
  | fetchNotice | readJob | readSession | readLane
  | declarePack | mountPack | withdrawPack | collectPack | readPack
  | startCensus | suspendCensus | resumeCensus | stopCensus | readCensus
  | clearLane | purgeLane | advanceBlank | ackFault | readFaults
  | defineForm | readForm | setDiscount | setLimits | setPermissions
  | collectCashup | reopenSession | setClock | restart | storeReinitialise
  deriving DecidableEq, Repr

/-! ## Notices (01 sections 1.5 and 1.8) -/

/-- The outcomes of a job (01 R13). -/
inductive OutcomeKind where
  | done | spoiled | failed | expired | cancelled
  deriving DecidableEq, Repr

/-- The reason of an outcome (01 R13). -/
inductive OutcomeReason where
  | none | lostLine | mechanical
  deriving DecidableEq, Repr

/-- The fields a SLOT_OUTCOME notice carries (01 R13). -/
structure SlotOutcome where
  outcome : OutcomeKind
  reason : OutcomeReason
  attempts : Nat
  cls : Nat
  serial : Nat
  value : Nat
  deriving DecidableEq, Repr

/-- Notice kinds (01 Table 1.8). -/
inductive NoticeKind where
  | slotOutcome | laneChange | faultsChange | stockChange | censusChange | formsChange
  | storeChange | controllerStart | sessionChange | permissions
  deriving DecidableEq, Repr

/-- Notice objects (01 Table 1.9). -/
inductive NoticeObject where
  | slot (k : SlotId)
  | lane (l : LaneId)
  | ownSession | ownPermissions
  | faultList | stock | census | forms | store
  | controller
  | sessionOf (w : Window)
  deriving DecidableEq, Repr

/-- A notice; `detail` is present in a SLOT_OUTCOME alone, and the fields of every other kind are
zero (01 R13). -/
structure Notice where
  kind : NoticeKind
  object : NoticeObject
  detail : Option SlotOutcome
  deriving DecidableEq, Repr

/-! ## Forms and composers (02) -/

/-- One record of the form table (02 R21). -/
structure FormRecord where
  current : Option FormDef
  pending : Option FormDef
  generation : Nat
  useCount : Nat
  waitingCount : Nat
  deriving DecidableEq, Repr

/-- Composer states (02 Table 2.4). -/
inductive ComposerState where
  | idle | composing | complete
  deriving DecidableEq, Repr

/-- A line composer (02 section 2.5). -/
structure Composer where
  state : ComposerState
  copy : Option FormDef
  serialText : Text
  timeText : Text
  priceText : Text
  index : Nat
  declared : Nat
  lostLine : Bool
  deriving DecidableEq, Repr

/-! ## Jobs (03) -/

/-- The states of a slot that holds a job (03 Table 3.2). -/
inductive JobState where
  | queued | held | printing | retryWait
  | done | failed | expired | cancelled
  deriving DecidableEq, Repr

/-- The job record (03 Table 3.1). -/
structure Job where
  state : JobState
  form : Fin 8
  generation : Option Nat
  lanes : LaneSet
  priority : Priority
  baseFare : Nat
  discount : Nat
  quantity : Nat
  tender : Tender
  unitFare : Nat
  value : Nat
  declared : Nat
  lines : List Text
  submitted : RunTime
  deadline : Option RunTime
  attempts : Nat
  reserved : Nat
  lane : Option LaneId
  latest : Option SlotOutcome
  deriving DecidableEq, Repr

/-- A slot: EMPTY where it holds no job (03 section 3.1). -/
structure Slot where
  unread : Bool
  job : Option Job
  deriving DecidableEq, Repr

/-! ## Lanes (04) -/

/-- Lane states (04 Table 4.2). -/
inductive LaneState where
  | offline | priming | idle | printing | cutting | feeding | verifying | advancing | holding
  | faulted | purging
  deriving DecidableEq, Repr

/-- Holding causes (04 Table 4.1). -/
structure HoldCauses where
  cabinetOpen : Bool
  stockOut : Bool
  deriving DecidableEq, Repr

/-- Head-position status (04 R67). -/
inductive HeadStatus where
  | notPositioned | unverified
  | verified (serial : Nat)
  deriving DecidableEq, Repr

/-- The cabinet-locked input, and the cabinet as last observed (04 R86). -/
inductive Cabinet where
  | locked | opened
  deriving DecidableEq, Repr

/-- The operations a lane issues and then awaits (04 Table 4.3). -/
inductive LaneOp where
  | feed | strobe | cut | read
  deriving DecidableEq, Repr

/-- An operation deferred under the power-fail warning (04 R89). -/
inductive DeferredOp where
  | feed | strobe
  deriving DecidableEq, Repr

/-- The in-flight record (04 section 4.1). -/
structure InFlight where
  window : Window
  slot : SlotId
  form : Fin 8
  quantity : Nat
  serial : Nat
  value : Nat
  tender : Tender
  reserved : Nat
  begun : Bool
  deriving DecidableEq, Repr

/-- What the Job Table hands a lane with a claimed job (03 R56). -/
structure Handed where
  window : Window
  slot : SlotId
  form : Fin 8
  generation : Option Nat
  declared : Nat
  value : Nat
  tender : Tender
  quantity : Nat
  reserved : Nat
  deriving DecidableEq, Repr

/-- A lane: the record of Table 4.1 (04), its composer, its operation timer and deferred operation,
its claim under way, and its connector's inputs and print data. -/
structure Lane where
  state : LaneState
  causes : HoldCauses
  pack : Option Nat
  position : Nat
  head : HeadStatus
  job : Option (Window × SlotId)
  holdAfter : Bool
  line : Nat
  failedReads : Nat
  advances : Nat
  cabinetSeen : Cabinet
  inflight : Option InFlight
  /-- the operation whose timer runs (R72) -/
  awaiting : Option LaneOp
  deferred : Option DeferredOp
  /-- a claim request sent to the Job Table and not yet taken (R53) -/
  claimSent : Bool
  /-- a job handed over and not yet taken by the lane (R56, R79) -/
  handed : Option Handed
  composer : Composer
  /-- the print line last put out (R80) -/
  printData : Option Text
  /-- the cabinet-locked input -/
  cabinetPin : Cabinet
  /-- the stock-present input -/
  stockPin : Bool
  deriving DecidableEq, Repr

/-! ## Packs, blanks and the census (05, 06) -/

/-- One count for each mark (05 Table 5.2). -/
structure MarkCounts where
  unused : Nat
  issued : Nat
  voided : Nat
  spoiled : Nat
  advanced : Nat
  missing : Nat
  returned : Nat
  deriving DecidableEq, Repr

/-- Pack states (05 Table 5.3). -/
inductive PackState where
  | declared | mounted | parked | withdrawn
  deriving DecidableEq, Repr

/-- Census verdicts (05 R111). -/
inductive Verdict where
  | none | matched | mismatch
  deriving DecidableEq, Repr

/-- A pack record (05 Table 5.2) with its entries of the blank table: `marks` holds the mark of the
pack's first serial first, one mark for each blank (05 R92, R95). -/
structure Pack where
  number : Nat
  cls : Nat
  first : Nat
  count : Nat
  excluded : List Nat
  state : PackState
  lane : Option LaneId
  counters : MarkCounts
  sequence : Nat
  references : Nat
  verdict : Verdict
  marks : List Mark
  deriving DecidableEq, Repr

/-- Census states (06 Table 6.1). -/
inductive CensusState where
  | idle | running | suspending | suspended | done | stopped
  deriving DecidableEq, Repr

/-- Why a census was stopped (06 R116). -/
inductive StopCause where
  | office | restart | storeReinitialise
  deriving DecidableEq, Repr

/-- The result record of a census (06 R121). -/
structure CensusResult where
  pack : Nat
  first : Nat
  last : Nat
  mode : CensusMode
  counts : MarkCounts
  found : Option Nat
  startSequence : Nat
  endSequence : Nat
  changed : Bool
  abandonments : Nat
  verdict : Verdict
  deriving DecidableEq, Repr

/-- The census unit (06 R116). -/
structure Census where
  state : CensusState
  pack : Nat
  first : Nat
  last : Nat
  mode : CensusMode
  search : Option Mark
  block : Nat
  position : Nat
  tally : MarkCounts
  tallyFound : Option Nat
  committed : MarkCounts
  found : Option Nat
  startSequence : Nat
  abandoned : Bool
  abandonments : Nat
  suspendedChange : Bool
  result : Option CensusResult
  stopCause : Option StopCause
  deriving DecidableEq, Repr

/-! ## Discounts and limits (07, 11) -/

/-- An entry of the discount table (07 Table 7.1). -/
structure DiscountEntry where
  state : DiscountState
  rate : Nat
  floor : Nat
  step : Nat
  classes : ClassSet
  deriving DecidableEq, Repr

/-- The limits (11 Table 11.2). -/
structure Limits where
  waits : Vector Nat 6
  voidWindow : Nat
  stockLow : Nat
  tolerances : PerTender Nat
  currencyMark : Byte
  deriving DecidableEq, Repr

/-! ## Sessions and the journal (08, 09) -/

/-- A day and second of the office clock. -/
structure ClockStamp where
  day : Word16
  second : Nat
  deriving DecidableEq, Repr

/-- Run time and office clock of a taking (10 Table 10.1). -/
structure Stamp where
  run : RunTime
  clock : ClockStamp
  deriving DecidableEq, Repr

/-- Journal entry kinds (08 Table 8.3). -/
inductive EntryKind where
  | issue | void | spoil
  deriving DecidableEq, Repr

/-- The fields a journal entry is written from (08 Table 8.3). -/
structure EntryData where
  kind : EntryKind
  cls : Nat
  serial : Nat
  pack : Nat
  value : Nat
  tender : Option Tender
  quantity : Nat
  form : Fin 8
  slot : SlotId
  deriving DecidableEq, Repr

/-- A journal entry in use (08 Table 8.3). -/
structure JournalEntry where
  window : Window
  number : Nat
  data : EntryData
  stamp : Stamp
  beforePowerOn : Bool
  deriving DecidableEq, Repr

/-- Session states (08 Table 8.2). -/
inductive SessionState where
  | none | opened | declaring | declared
  deriving DecidableEq, Repr

/-- A declaration in progress (09 Table 9.1): the items in the order received. -/
structure DeclarationInProgress where
  expected : Nat
  items : List (Tender × Nat)
  deriving DecidableEq, Repr

/-- The declared amount of one tender (09 Table 9.1). -/
structure DeclaredAmount where
  amount : Nat
  declared : Bool
  deriving DecidableEq, Repr

/-- A declaration (09 Table 9.1). -/
structure Declaration where
  amounts : PerTender DeclaredAmount
  voids : Nat
  spoils : Nat
  deriving DecidableEq, Repr

/-- Variance classes (07 R140). -/
inductive VarianceClass where
  | within | over | short
  deriving DecidableEq, Repr

/-- The figures of one tender in a result (09 Table 9.2); the variance and its class are absent
where the result is UNRECONCILABLE. -/
structure TenderResult where
  expected : Nat
  declared : Nat
  tolerance : Nat
  variance : Option (Int × VarianceClass)
  flag : Bool
  deriving DecidableEq, Repr

/-- Result states (09 Table 9.2). -/
inductive ResultState where
  | balanced | variance | unreconcilable
  deriving DecidableEq, Repr

/-- A cash-up result (09 Table 9.2). -/
structure CashUp where
  state : ResultState
  tenders : PerTender TenderResult
  voidedCount : Nat
  returnedVoids : Nat
  voidsDiffer : Bool
  spoiledCount : Nat
  returnedSpoils : Nat
  spoilsDiffer : Bool
  saturated : Bool
  confirmed : Stamp
  reopens : Nat
  deriving DecidableEq, Repr

/-- A session record (08 Table 8.1). Its entry list is the journal's entries of its window. -/
structure Session where
  state : SessionState
  clerk : Word16
  float : Nat
  opened : ClockStamp
  issued : PerTender Nat
  voided : PerTender Nat
  issuedCount : Nat
  voidedCount : Nat
  spoiledCount : Nat
  saturated : Bool
  reserved : Nat
  reopens : Nat
  inProgress : Option DeclarationInProgress
  declaration : Option Declaration
  result : Option CashUp
  deriving DecidableEq, Repr

/-! ## Fault reports (10) -/

/-- Fault kinds (10 Table 10.2). -/
inductive FaultKind where
  | cabinetOpen | markUnreadable | stockDiscrepancy | wrongStock | feedJam | cutJam | headStall
  | powerInterrupted | stockTableMismatch | storeLost
  deriving DecidableEq, Repr

/-- The source of a report (10 Table 10.1). -/
inductive FaultSource where
  | lane (l : LaneId)
  | controller
  deriving DecidableEq, Repr

/-- Report states (10 R175). -/
inductive ReportState where
  | active | cleared | acknowledged
  deriving DecidableEq, Repr

/-- How a report was cleared (10 Table 10.1). -/
inductive HowCleared where
  | clear | purge | self | withdraw | ack | reinitialise
  deriving DecidableEq, Repr

/-- The reason of a STOCK_DISCREPANCY (10 Table 10.2). -/
inductive DiscrepancyReason where
  | readAhead | stockAbsent
  deriving DecidableEq, Repr

/-- The context of a report (10 Table 10.2); fields not given for a kind are absent. -/
structure FaultContext where
  reason : Option DiscrepancyReason := none
  pack : Option Nat := none
  expected : Option Nat := none
  serial : Option Nat := none
  readClass : Option Nat := none
  readSerial : Option Nat := none
  markedMissing : Option Nat := none
  job : Option (Window × SlotId) := none
  line : Option Nat := none
  deriving DecidableEq, Repr

/-- A fault report (10 Table 10.1). -/
structure Report where
  number : Nat
  source : FaultSource
  kind : FaultKind
  raised : Stamp
  cleared : Option Stamp
  state : ReportState
  occurrences : Nat
  primary : Option Nat
  lastOther : Option FaultKind
  context : FaultContext
  refused : Nat
  how : Option HowCleared
  deriving DecidableEq, Repr

/-! ## Clock (11) -/

/-- The office clock (11 R190). -/
structure OfficeClock where
  day : Word16
  second : Nat
  isSet : Bool
  deriving DecidableEq, Repr

/-! ## Answers (01 R4): the named fields each chapter gives its answer -/

/-- READ_JOB's fields of a slot that is not EMPTY (03 R51): window and slot, and the rest of the record
of Table 3.1 without the lines' text, which `job` holds empty beside their count. -/
structure JobView where
  window : Window
  slot : SlotId
  job : Job
  supplied : Nat
  boundToCurrent : Bool
  eligible : Vector Bool 4
  deriving DecidableEq, Repr

/-- READ_SESSION's fields (08 R144). -/
structure SessionView where
  grants : GrantSet
  session : Session
  entryCount : Nat
  beforePowerOn : Nat
  journalInUse : Nat
  journalReserved : Nat
  journalFree : Nat
  entries : List JournalEntry
  deriving DecidableEq, Repr

/-- The head-position status without its serial (04 R67, R71). -/
inductive HeadPosition where
  | notPositioned | unverified | verified
  deriving DecidableEq, Repr

/-- READ_LANE's fields (04 R71). Numbers are as the link gives them: windows and slots from 1, and an
absent field zero. -/
structure LaneView where
  state : LaneState
  causes : HoldCauses
  packNumber : Nat
  packClass : Nat
  remaining : Nat
  position : Nat
  expected : Nat
  head : HeadPosition
  headSerial : Nat
  jobWindow : Nat
  jobSlot : Nat
  line : Nat
  inflight : Bool
  inflightSerial : Nat
  begun : Bool
  holdAfter : Bool
  advances : Nat
  failedReads : Nat
  cabinetSeen : Cabinet
  reports : List Nat
  deriving DecidableEq, Repr

/-- A collected pack's final record (05 R108). -/
structure PackFinal where
  number : Nat
  cls : Nat
  first : Nat
  count : Nat
  excluded : List Nat
  counters : MarkCounts
  sequence : Nat
  deriving DecidableEq, Repr

/-- READ_PACK's fields of a pack: those of Table 5.2 (05 R113). -/
structure PackView where
  number : Nat
  cls : Nat
  first : Nat
  count : Nat
  excluded : List Nat
  state : PackState
  lane : Option LaneId
  counters : MarkCounts
  sequence : Nat
  references : Nat
  verdict : Verdict
  deriving DecidableEq, Repr

/-- One line of READ_PACK's summary (05 R113). -/
structure PackSummary where
  number : Nat
  cls : Nat
  state : PackState
  lane : Option LaneId
  deriving DecidableEq, Repr

/-- READ_CENSUS's fields while a census is under way (06 R128). -/
structure CensusProgress where
  state : CensusState
  pack : Nat
  first : Nat
  last : Nat
  mode : CensusMode
  search : Option Mark
  blocks : Nat
  block : Nat
  position : Nat
  committed : MarkCounts
  found : Option Nat
  tallied : Nat
  startSequence : Nat
  packSequence : Option Nat
  abandoned : Bool
  abandonments : Nat
  suspendedChange : Bool
  deriving DecidableEq, Repr

/-- COLLECT_CASHUP's record (09 R170). -/
structure CollectedCashUp where
  session : Session
  issues : Nat
  voids : Nat
  spoils : Nat
  beforePowerOn : Nat
  perPack : List (Nat × Nat)
  deriving DecidableEq, Repr

/-- The fields of an answer after its result code, one constructor for each form of answer. -/
inductive AnswerFields where
  | bare
  | opened (stamp : ClockStamp)
  | submitted (slot : SlotId) (unitFare value : Nat) (downgraded formPending : Bool)
  | supplied (count : Nat)
  | amended (unitFare value : Nat) (downgraded formPending : Bool)
  | voided (entry value : Nat) (tender : Option Tender)
  | declaring (expected : Nat)
  | items (received expected : Nat)
  | cashUp (r : CashUp)
  | notice (n : Notice)
  | job (unread : Bool) (view : Option JobView)
  | session (view : SessionView)
  | lane (view : LaneView)
  | packDeclared (number free : Nat)
  | packMounted (first lowestUnused : Nat)
  | packWithdrawn (number : Nat) (state : PackState) (marked : Nat) (counters : MarkCounts)
  | references (count : Nat)
  | packCollected (p : PackFinal)
  | packTable (packs : List PackSummary) (inUse free next : Nat)
  | packRecord (p : PackView) (lowestUnused : Nat) (mark : Option Mark)
  | censusStarted (blocks startSequence : Nat)
  | censusSuspended (block position : Nat)
  | censusResumed (block position startSequence : Nat)
  | censusIdle
  | censusProgress (v : CensusProgress)
  | censusDone (r : CensusResult) (packSequence : Option Nat)
  | censusStopped (pack first last : Nat) (mode : CensusMode) (cause : Option StopCause)
  | reportsCleared (numbers : List Nat)
  | reportNumber (n : Nat)
  | purged (cleared : Nat) (spoiled : Option Nat) (handedBack : Bool)
  | reportState (st : ReportState)
  | faults (count active counter : Nat) (pairs : Vector (Nat × Nat) 4)
      (reports : List Report)
  | placed (pending : Bool) (generation : Nat)
  | form (f : FormRecord) (currentCounts pendingCounts : Option (Nat × Nat))
  | discount (before after : DiscountEntry) (clamped : Bool)
  | limits (l : Limits) (clamped : Bool)
  | grants (g : GrantSet)
  | collected (r : CollectedCashUp)
  | reopened (count : Nat)
  | clock (before after : ClockStamp) (isSet : Bool) (run : RunTime) (storeValid : Bool)
  deriving DecidableEq, Repr

/-- What an owning block decides: a result code with the answer's fields (01 R4). -/
structure Reply where
  code : ResultCode
  fields : AnswerFields
  deriving DecidableEq, Repr

/-- An answer being sent: the kind byte (the request's with its top bit set), the tag echoed, and
the reply (01 R4). -/
structure Answer where
  kind : Byte
  tag : Byte
  reply : Reply
  deriving DecidableEq, Repr

/-! ## Ports (01) -/

/-- A complete, undamaged frame whose check agrees, held while its request is admitted and taken
(01 R2, R3). -/
structure HeldFrame where
  kind : RequestKind
  tag : Byte
  body : List Byte
  deriving DecidableEq, Repr

/-- Receiver states (01 Table 1.1). -/
inductive Receiver where
  | starting
  | hunting
  /-- the bytes so far, the sync byte first, and whether one had a framing error -/
  | receiving (frame : List Byte) (damaged : Bool)
  /-- a frame being carried out, or, with none held, its answer being sent -/
  | busy (held : Option HeldFrame)
  | draining (answerSent quietExpired : Bool)
  deriving DecidableEq, Repr

/-- One port: its receiver, the answer it is sending, and its notice queue, oldest first. -/
structure PortState where
  rx : Receiver
  tx : Option Answer
  queue : List Notice
  deriving DecidableEq, Repr

/-! ## The whole part -/

/-- Whether the part runs, is held by its reset input, or has no supply (01 R18, 11 R193). -/
inductive Phase where
  | running | resetHeld | unpowered
  deriving DecidableEq, Repr

/-- The state of the TB46, and the commands that wait. -/
structure State where
  phase : Phase
  /-- the power-fail-warning input (04 R89) -/
  powerFail : Bool
  windows : Vector PortState 6
  office : PortState
  grants : Vector GrantSet 6
  forms : Vector FormRecord 8
  slots : Vector (Vector Slot 8) 6
  /-- the slot the deadline scanner visits next, counted over the 48 slots (03 R63) -/
  scanner : Nat
  lanes : Vector Lane 4
  packs : List Pack
  nextPack : Nat
  census : Census
  discounts : Vector DiscountEntry 16
  limits : Limits
  sessions : Vector Session 6
  /-- the journal entries in use, in the order written (08 R145) -/
  journal : List JournalEntry
  journalInUse : Nat
  journalReserved : Nat
  /-- the fault list, oldest first (10 R176) -/
  faults : List Report
  faultCounter : Nat
  clock : OfficeClock
  runTime : RunTime
  /-- the store state: VALID where set (11 section 11.3) -/
  storeValid : Bool
  /-- whether the check word held agrees with the store's contents (11 R193; log entry 8) -/
  checkAgrees : Bool
  pending : List Instr
  deriving DecidableEq, Repr

/-! ## Values of the tables when empty, and the state after reset -/

/-- An UNDEFINED form at generation 0 (02 R21). -/
def FormRecord.undefined : FormRecord := ⟨none, none, 0, 0, 0⟩

/-- A composer with no ticket (02 Table 2.4, R38). DESIGN CHOICE, unsafe: the content index and N are 0
in IDLE, where the spec gives them no value (log entry 33). -/
def Composer.idle : Composer := ⟨.idle, none, [], [], [], 0, 0, false⟩

def Slot.empty : Slot := ⟨false, none⟩

def HoldCauses.empty : HoldCauses := ⟨false, false⟩

def MarkCounts.zero : MarkCounts := ⟨0, 0, 0, 0, 0, 0, 0⟩

/-- A lane with no pack at power-on: OFFLINE, its volatile fields cleared (04 R90). -/
def Lane.offline : Lane where
  state := .offline
  causes := .empty
  pack := none
  position := 0
  head := .notPositioned
  job := none
  holdAfter := false
  line := 0
  failedReads := 0
  advances := 0
  cabinetSeen := .locked
  inflight := none
  awaiting := none
  deferred := none
  claimSent := false
  handed := none
  composer := .idle
  printData := none
  cabinetPin := .locked
  stockPin := true

/-- The census unit at power-on: IDLE, every other field cleared (06 R116). DESIGN CHOICE, unsafe: a
cleared suspension mode is PROMPT (log entry 36). -/
def Census.cleared : Census where
  state := .idle
  pack := 0
  first := 0
  last := 0
  mode := .prompt
  search := none
  block := 0
  position := 0
  tally := .zero
  tallyFound := none
  committed := .zero
  found := none
  startSequence := 0
  abandoned := false
  abandonments := 0
  suspendedChange := false
  result := none
  stopCause := none

/-- Entry 0 of the discount table (07 R130). -/
def DiscountEntry.fixed : DiscountEntry := ⟨.active, 0, 0, 1, .replicate 4 true⟩

/-- An UNUSED entry (07 R130). -/
def DiscountEntry.unused : DiscountEntry := ⟨.unused, 0, 0, 1, .replicate 4 false⟩

/-- The discount table with entry 0 alone (07 R130). -/
def emptyDiscounts : Vector DiscountEntry 16 :=
  (Vector.replicate 16 DiscountEntry.unused).set 0 DiscountEntry.fixed

/-- The defaults of Table 11.2 (11). -/
def Limits.default : Limits := ⟨.replicate 6 120, 300, 20, .same 0, 0xA3⟩

/-- A session in NONE (08 Table 8.1). -/
def Session.none : Session where
  state := .none
  clerk := 0
  float := 0
  opened := ⟨0, 0⟩
  issued := .same 0
  voided := .same 0
  issuedCount := 0
  voidedCount := 0
  spoiledCount := 0
  saturated := false
  reserved := 0
  reopens := 0
  inProgress := Option.none
  declaration := Option.none
  result := Option.none

def Notice.controllerStart : Notice := ⟨.controllerStart, .controller, none⟩

/-- A port at the end of power-on: HUNTING, with CONTROLLER_START in its queue (01 R18). -/
def PortState.started : PortState := ⟨.hunting, none, [.controllerStart]⟩

/-- The part at the end of its first power-on with a VALID store that holds what STORE_REINITIALISE
leaves (11 R194, R196). DESIGN CHOICE, unsafe: the spec does not say what the store holds at the
first power-on, nor where the inputs stand (log entry 1). -/
def State.reset : State where
  phase := .running
  powerFail := false
  windows := .replicate 6 .started
  office := .started
  grants := .replicate 6 .all
  forms := .replicate 8 .undefined
  slots := .replicate 6 (.replicate 8 .empty)
  scanner := 0
  lanes := .replicate 4 .offline
  packs := []
  nextPack := 1
  census := .cleared
  discounts := emptyDiscounts
  limits := .default
  sessions := .replicate 6 .none
  journal := []
  journalInUse := 0
  journalReserved := 0
  faults := []
  faultCounter := 1
  clock := ⟨0, 0, false⟩
  runTime := 0
  storeValid := true
  checkAgrees := true
  pending := []

end Sys2Proof.Machine
end

