-- ==== Sys2Proof/Machine/Operands.lean ====
section
/-! DEFINITION. The operand forms of the requests: identifiers given as numbers, sets, and the
layout checks that admission makes (01 R6 step 3; 00 Table 0.5). -/

namespace Sys2Proof

/-! ## Identifiers given as numbers (00 Table 0.5) -/

/-- Window n, if n is 1 to 6. -/
def windowOf (n : Nat) : Option Window :=
  if h : 1 ≤ n ∧ n ≤ 6 then some ⟨n - 1, by omega⟩ else none

/-- Lane n, if n is 1 to 4. -/
def laneOf (n : Nat) : Option LaneId :=
  if h : 1 ≤ n ∧ n ≤ 4 then some ⟨n - 1, by omega⟩ else none

/-- Slot n, if n is 1 to 8. -/
def slotOf (n : Nat) : Option SlotId :=
  if h : 1 ≤ n ∧ n ≤ 8 then some ⟨n - 1, by omega⟩ else none

/-- Form n, if n is 0 to 7. -/
def formOf (n : Nat) : Option (Fin 8) :=
  if h : n < 8 then some ⟨n, h⟩ else none

/-- Discount code n, if n is 0 to 15. -/
def codeOf (n : Nat) : Option (Fin 16) :=
  if h : n < 16 then some ⟨n, h⟩ else none

/-- Every window, lane and slot in its order. -/
def allWindows : List Window := [0, 1, 2, 3, 4, 5]

def allLanes : List LaneId := [0, 1, 2, 3]

def allSlots : List SlotId := [0, 1, 2, 3, 4, 5, 6, 7]

/-! ## Sets -/

/-- No member: the empty set of lanes or classes. -/
def isEmptySet (v : Vector Bool 4) : Bool := !(v[0] || v[1] || v[2] || v[3])

/-- Whether a set of classes holds class `c`. -/
def ClassSet.holds (v : ClassSet) (c : Nat) : Bool :=
  if h : c < 4 then v[c] else false

/-- The set whose members are the numbers listed. -/
def classSetOf (classes : List Nat) : ClassSet :=
  #v[classes.contains 0, classes.contains 1, classes.contains 2, classes.contains 3]

/-- The grants of `a` without those of `b`. -/
def GrantSet.without (a b : GrantSet) : GrantSet :=
  ⟨a.issue && !b.issue, a.urgent && !b.urgent, a.void && !b.void, a.declare && !b.declare⟩

def GrantSet.union (a b : GrantSet) : GrantSet :=
  ⟨a.issue || b.issue, a.urgent || b.urgent, a.void || b.void, a.declare || b.declare⟩

def GrantSet.meets (a b : GrantSet) : Bool :=
  (a.issue && b.issue) || (a.urgent && b.urgent) || (a.void && b.void) || (a.declare && b.declare)

/-! ## Values kept for each tender -/

def PerTender.get {α : Type} (v : PerTender α) : Tender → α
  | .cash => v.cash
  | .card => v.card
  | .warrant => v.warrant
  | .voucher => v.voucher

def PerTender.set {α : Type} (v : PerTender α) (t : Tender) (x : α) : PerTender α :=
  match t with
  | .cash => { v with cash := x }
  | .card => { v with card := x }
  | .warrant => { v with warrant := x }
  | .voucher => { v with voucher := x }

/-! ## Layout checks of admission (01 R6 step 3) -/

/-- At most 12 content lines of at most 40 characters (03 R41). -/
def linesFit (lines : List Text) : Bool :=
  lines.length ≤ Config.linesPerRequest && lines.all fun t => t.length ≤ Config.lineWidth

def SubmitBody.fits (b : SubmitBody) : Bool := linesFit b.content.lines

def SupplyBody.fits (b : SupplyBody) : Bool := linesFit b.lines

def ReadJobBody.fits (b : ReadJobBody) : Bool := b.slot.isSome

def ReadSessionBody.fits (b : ReadSessionBody) : Bool := b.firstEntry.isSome

/-- New content is a list of lines as SUBMIT_JOB's is, and its bounds are the layout's, as R41 (03) says of
that list. R46 gives the list 0 to 12 lines and no code for one that breaks the bounds: MALFORMED, DEDUCED,
unsafe (log entry 52). -/
def AmendBody.fits (b : AmendBody) : Bool :=
  match b.content with
  | some c => linesFit c.lines
  | none => true

/-- SET_DISCOUNT carries a rate, floor, step and classes for an ACTIVE entry (07 R131): without them
a field is missing. DEDUCED from R131 and R6 (log entry 24). -/
def DiscountBody.fits (b : DiscountBody) : Bool :=
  match b.state with
  | some .active => b.terms.isSome
  | _ => true

namespace Machine

/-! ## Counts by mark -/

def MarkCounts.get (c : MarkCounts) : Mark → Nat
  | .unused => c.unused
  | .issued => c.issued
  | .voided => c.voided
  | .spoiled => c.spoiled
  | .advanced => c.advanced
  | .missing => c.missing
  | .returned => c.returned

def MarkCounts.set (c : MarkCounts) (m : Mark) (n : Nat) : MarkCounts :=
  match m with
  | .unused => { c with unused := n }
  | .issued => { c with issued := n }
  | .voided => { c with voided := n }
  | .spoiled => { c with spoiled := n }
  | .advanced => { c with advanced := n }
  | .missing => { c with missing := n }
  | .returned => { c with returned := n }

def MarkCounts.raise (c : MarkCounts) (m : Mark) : MarkCounts := c.set m (c.get m + 1)

def MarkCounts.lower (c : MarkCounts) (m : Mark) : MarkCounts := c.set m (c.get m - 1)

def MarkCounts.sum (c : MarkCounts) : Nat :=
  c.unused + c.issued + c.voided + c.spoiled + c.advanced + c.missing + c.returned

def MarkCounts.add (a b : MarkCounts) : MarkCounts :=
  ⟨a.unused + b.unused, a.issued + b.issued, a.voided + b.voided, a.spoiled + b.spoiled,
   a.advanced + b.advanced, a.missing + b.missing, a.returned + b.returned⟩

end Machine

end Sys2Proof
end

