-- ==== Sys2Proof/Machine/Pricing.lean ====
section
/-! DEFINITION. The Fare Unit's arithmetic and texts: the price of a job (07 R133), the price text
(07 R135), and the decimal digits the stamps share (02 R37). -/

namespace Sys2Proof.Machine

/-! ## The price of a job (07 R133) -/

/-- Stage 1: the base fare less the rate, rounded down. -/
def reducedFare (base rate : Nat) : Nat := base * (Config.wholeRate - rate) / Config.wholeRate

/-- Stage 2: rounded down to a multiple of the step. -/
def steppedFare (fare step : Nat) : Nat := fare - fare % step

/-- Stages 1 to 3: the unit fare by a discount entry, its floor capped by the base fare. -/
def unitFare (e : DiscountEntry) (base : Nat) : Nat :=
  max (steppedFare (reducedFare base e.rate) e.step) (min e.floor base)

/-- Stage 4: the ticket value. -/
def ticketValue (e : DiscountEntry) (base quantity : Nat) : Nat := unitFare e base * quantity

/-! ## Decimal digits -/

def digit (d : Nat) : Byte := BitVec.ofNat 8 (0x30 + d)

/-- Exactly `k` decimal digits, leading zeros kept. -/
def fixedDigits : Nat → Nat → Text
  | 0, _ => []
  | k + 1, n => fixedDigits k (n / 10) ++ [digit (n % 10)]

/-- The digits of `n` put before `tail`, at most `fuel` of them. -/
def decimalOnto : Nat → Nat → Text → Text
  | 0, _, tail => tail
  | fuel + 1, n, tail =>
    if n < 10 then digit n :: tail else decimalOnto fuel (n / 10) (digit (n % 10) :: tail)

/-- Decimal without leading zeros, "0" for 0; ten digits hold every number the part prints. -/
def decimal (n : Nat) : Text := decimalOnto 10 n []

/-! ## The price text (07 R135, R136) -/

/-- Pounds, a point and two digits of pence. -/
def moneyText (value : Nat) : Text := decimal (value / 100) ++ [0x2E] ++ fixedDigits 2 (value % 100)

/-- Right-aligned in a field of 12 characters. -/
def rightAlign12 (t : Text) : Text := List.replicate (12 - t.length) 0x20 ++ t

/-- The price text of 13 characters: the currency mark, then the field. -/
def priceText (mark : Byte) (value : Nat) : Text := mark :: rightAlign12 (moneyText value)

end Sys2Proof.Machine
end

