-- ==== Sys2Proof/Machine/Composer.lean ====
section
/-! DEFINITION. Form definitions as layouts (02 sections 2.1 and 2.2) and the line composer's walk of
a ticket (02 sections 2.5 to 2.8). -/

namespace Sys2Proof

/-! ## A definition's lines -/

/-- The first line after the body: the counterfoil start, or the line count (02 R21). -/
def FormDef.bodyEnd (d : FormDef) : Nat := d.counterfoil.getD d.lineCount

/-- Whether line `i` is a gap line. -/
def FormDef.isGap (d : FormDef) (i : Nat) : Bool :=
  d.gapStart ≤ i && i < d.gapStart + d.gapLength

def FormDef.bodyStamps (d : FormDef) : List Nat :=
  d.serialBody.toList ++ d.timeBody.toList ++ d.priceBody.toList

def FormDef.counterfoilStamps (d : FormDef) : List Nat :=
  d.serialCounterfoil.toList ++ d.timeCounterfoil.toList ++ d.priceCounterfoil.toList

def FormDef.stamps (d : FormDef) : List Nat := d.bodyStamps ++ d.counterfoilStamps

/-- Body lines that are neither gap lines nor body stamp lines (02 R24). -/
def FormDef.bodyCapacity (d : FormDef) : Nat :=
  ((List.range d.bodyEnd).filter fun i => !d.isGap i && !d.bodyStamps.contains i).length

/-- Counterfoil lines that are not counterfoil stamp lines; 0 without a counterfoil (02 R24). -/
def FormDef.counterfoilContent (d : FormDef) : Nat :=
  match d.counterfoil with
  | none => 0
  | some c =>
    ((List.range d.lineCount).filter fun i => c ≤ i && !d.counterfoilStamps.contains i).length

/-- As stored: a gap length of 0 has a gap start of 0 (02 R22). -/
def FormDef.stored (d : FormDef) : FormDef :=
  if d.gapLength = 0 then { d with gapStart := 0 } else d

/-- The field ranges of R22 (02), and that a definition without a counterfoil gives a repeat count
of 0 and no counterfoil stamp. -/
def FormDef.inRange (d : FormDef) : Bool :=
  d.cls ≤ 3 && (8 ≤ d.lineCount && d.lineCount ≤ 48) && d.gapLength ≤ 8 && d.repeatCount ≤ 8 &&
  d.ready ≤ 32 &&
  (d.counterfoil.isSome || (d.repeatCount == 0 && d.counterfoilStamps.isEmpty))

/-- No line is named twice. -/
def distinct : List Nat → Bool
  | [] => true
  | x :: rest => !rest.contains x && distinct rest

/-- How the fields fit together (02 R23). -/
def FormDef.fitsTogether (d : FormDef) : Bool :=
  d.stamps.all (fun i => i < d.lineCount) &&
  (match d.counterfoil with
   | none => true
   | some c =>
     c < d.lineCount && 1 < c &&
     (d.gapLength == 0 || d.gapStart + d.gapLength ≤ c) &&
     d.bodyStamps.all (fun i => i < c) && d.counterfoilStamps.all (fun i => c ≤ i)) &&
  (d.gapLength == 0 || d.gapStart + d.gapLength ≤ d.lineCount) &&
  distinct d.stamps &&
  d.stamps.all (fun i => !d.isGap i) &&
  d.bodyCapacity ≤ 32

/-- A valid definition passes R22 and R23 (02); it is checked as it will be stored. -/
def FormDef.valid (d : FormDef) : Bool := d.inRange && d.stored.fitsTogether

namespace Machine

/-! ## Texts (02 R33, R37) -/

/-- A content character: one outside 20h to 7Eh prints as "?" (02 R37). -/
def printable (c : Byte) : Byte := if 0x20 ≤ c.toNat ∧ c.toNat ≤ 0x7E then c else 0x3F

/-- A text placed from the first character of a line, the rest spaces. -/
def padLine (t : Text) : Text :=
  t.take Config.lineWidth ++ List.replicate (Config.lineWidth - t.length) 0x20

/-- A content line as printed (02 R37). -/
def contentLine (t : Text) : Text := padLine (t.map printable)

def blankLine : Text := List.replicate Config.lineWidth 0x20

/-- The serial stamp: class digit, solidus, seven digits (02 R37). -/
def serialStamp (cls serial : Nat) : Text := digit cls :: 0x2F :: fixedDigits 7 serial

/-- The time stamp: "D", day, space, hour, colon, minute (02 R37). -/
def timeStamp (t : ClockStamp) : Text :=
  0x44 :: decimal t.day.toNat ++ [0x20] ++ fixedDigits 2 (t.second / 3600) ++ [0x3A] ++
    fixedDigits 2 (t.second % 3600 / 60)

/-! ## The composer -/

/-- A composer that begins a ticket (02 R32). -/
def Composer.begin (d : FormDef) (serialText timeText priceText : Text) (declared : Nat) :
    Composer :=
  ⟨.composing, some d, serialText, timeText, priceText, 0, declared, false⟩

/-- A content line by the content index: printed, blank, or lost (02 R34, R36). -/
def Composer.content (c : Composer) (lines : List Text) : Composer × Text :=
  match lines[c.index]? with
  | some t => ({ c with index := c.index + 1 }, contentLine t)
  | none =>
    if c.declared ≤ c.index then ({ c with index := c.index + 1 }, blankLine)
    else ({ c with index := c.index + 1, lostLine := true }, blankLine)

/-- Line `i` classified and composed (02 R33 to R35). -/
def Composer.classified (c : Composer) (d : FormDef) (lines : List Text) (i : Nat) :
    Composer × Text :=
  if d.serialBody = some i ∨ d.serialCounterfoil = some i then (c, padLine c.serialText)
  else if d.timeBody = some i ∨ d.timeCounterfoil = some i then (c, padLine c.timeText)
  else if d.priceBody = some i ∨ d.priceCounterfoil = some i then (c, padLine c.priceText)
  else if d.isGap i then (c, blankLine)
  else if i < d.bodyEnd then c.content lines
  else if d.repeatCount ≤ c.index then (c, blankLine)
  else c.content lines

/-- The content index at line `i`: 0 at the counterfoil start, before the line is classified
(02 R33). -/
def Composer.atLine (c : Composer) (d : FormDef) (i : Nat) : Composer :=
  if d.counterfoil = some i then { c with index := 0 } else c

/-- The composer enters COMPLETE when the last line has been composed (02 R33). -/
def Composer.afterLine (c : Composer) (d : FormDef) (i : Nat) : Composer :=
  if i + 1 = d.lineCount then { c with state := .complete } else c

/-- The lane asks for line `i`; `lines` are the job's supplied lines at that moment (02 R33). -/
def Composer.compose (c : Composer) (lines : List Text) (i : Nat) : Composer × Text :=
  match c.copy with
  | none => (c, blankLine)
  | some d =>
    let r := (c.atLine d i).classified d lines i
    (r.1.afterLine d i, r.2)

end Machine

end Sys2Proof
end

