-- ==== Sys2Proof/Machine/Flags.lean ====
section
/-! DEFINITION. The flags the part computes: the held addition and its saturation (07 R137), the
variance classes (07 R140), clamping with the CLAMPED flag (07 R131, 11 R197), and ages of run time
(11 R192). -/

namespace Sys2Proof.Machine

/-! ## Held addition (07 R137) -/

/-- A total raised by a value, held at 2,147,483,647. -/
def heldAdd (total value : Nat) : Nat := min (total + value) Config.heldLimit

/-- Whether the held addition sets the saturation flag: the sum passes the limit. -/
def heldOverflows (total value : Nat) : Bool := Config.heldLimit < total + value

/-! ## Variance and its class (07 R139, R140) -/

def variance (declared expected : Nat) : Int := (declared : Int) - (expected : Int)

def classify (v : Int) (tolerance : Nat) : VarianceClass :=
  if v.natAbs ≤ tolerance then .within else if 0 < v then .over else .short

/-! ## Clamping (11 Table 11.2) -/

/-- A job wait limit: 0, or brought to 5 to 600. -/
def clampWait (n : Nat) : Nat := if n = 0 then 0 else max 5 (min n 600)

def clampVoidWindow (n : Nat) : Nat := min n 900

def clampStockLow (n : Nat) : Nat := min n 255

def clampTolerance (n : Nat) : Nat := min n 10000

/-- A discount rate, brought to at most 10,000 (07 R131). -/
def clampRate (n : Nat) : Nat := min n Config.wholeRate

/-! ## Ages of run time (11 R192) -/

/-- The wrapped difference, now minus the held value, modulo 2^32. -/
def age (now held : RunTime) : Nat := (now - held).toNat

/-- Whether a deadline is passed (03 R62, 11 R192). -/
def passed (now deadline : RunTime) : Bool := age now deadline < 2 ^ 31

end Sys2Proof.Machine
end

