-- ==== Sys2Proof/Machine/Frames.lean ====
section
/-! DEFINITION. The byte layouts of 01 section 1.8: the two CRC-16s, the frame, the notice record,
the mark record, and the codes they carry. -/

namespace Sys2Proof

/-- The bytes of an answer's fields after its result code. The manual lays out none but the notice
record (01 section 1.8), so they are free (log entry 5). -/
opaque Config.answerBody : Machine.AnswerFields → List Byte

namespace Machine

/-! ## Check words (01 R19, R20) -/

/-- One bit of a CRC-16 that shifts left: the polynomial is subtracted where a one leaves. -/
def crcBit (poly c : Word16) : Word16 :=
  if c.msb then (c <<< 1) ^^^ poly else c <<< 1

/-- One byte enters the computation, most significant bit first. -/
def crcByte (poly c : Word16) (b : Byte) : Word16 :=
  (crcBit poly)^[8] (c ^^^ (b.setWidth 16 <<< 8))

def crc16 (poly preset : Word16) (bytes : List Byte) : Word16 :=
  bytes.foldl (crcByte poly) preset

/-- The frame check: polynomial 8005h, preset 0000h, no final inversion (01 R19). -/
def frameCheck (bytes : List Byte) : Word16 := crc16 0x8005 0x0000 bytes

/-- The mark record's check: polynomial 1021h, preset FFFFh, no final inversion (01 R20). -/
def markCheck (bytes : List Byte) : Word16 := crc16 0x1021 0xFFFF bytes

/-- A multi-byte quantity sent low byte first (00, "Numbers"). -/
def bytesLow : Nat → Nat → List Byte
  | 0, _ => []
  | k + 1, n => BitVec.ofNat 8 n :: bytesLow k (n / 256)

/-- The quantity whose bytes, low byte first, these are. -/
def fromLow : List Byte → Nat
  | [] => 0
  | b :: rest => b.toNat + 256 * fromLow rest

/-! ## Kinds and result codes -/

/-- The kind byte of a request (01 Table 1.3). -/
def RequestKind.byte : RequestKind → Byte
  | .openSession => 0x10
  | .submitJob => 0x11
  | .supplyLines => 0x12
  | .holdJob => 0x13
  | .amendJob => 0x14
  | .releaseJob => 0x15
  | .withdrawJob => 0x16
  | .voidTicket => 0x17
  | .declareBegin => 0x18
  | .declareItem => 0x19
  | .declareConfirm => 0x1A
  | .fetchNotice => 0x20
  | .readJob => 0x21
  | .readSession => 0x22
  | .readLane => 0x23
  | .declarePack => 0x30
  | .mountPack => 0x31
  | .withdrawPack => 0x32
  | .collectPack => 0x33
  | .readPack => 0x34
  | .startCensus => 0x38
  | .suspendCensus => 0x39
  | .resumeCensus => 0x3A
  | .stopCensus => 0x3B
  | .readCensus => 0x3C
  | .clearLane => 0x40
  | .purgeLane => 0x41
  | .advanceBlank => 0x42
  | .ackFault => 0x44
  | .readFaults => 0x45
  | .defineForm => 0x48
  | .readForm => 0x49
  | .setDiscount => 0x4A
  | .setLimits => 0x4C
  | .setPermissions => 0x4D
  | .collectCashup => 0x50
  | .reopenSession => 0x51
  | .setClock => 0x58
  | .restart => 0x59
  | .storeReinitialise => 0x5F

/-- Every kind of Table 1.3, in its order. -/
def RequestKind.all : List RequestKind :=
  [.openSession, .submitJob, .supplyLines, .holdJob, .amendJob, .releaseJob, .withdrawJob,
   .voidTicket, .declareBegin, .declareItem, .declareConfirm, .fetchNotice, .readJob, .readSession,
   .readLane, .declarePack, .mountPack, .withdrawPack, .collectPack, .readPack, .startCensus,
   .suspendCensus, .resumeCensus, .stopCensus, .readCensus, .clearLane, .purgeLane, .advanceBlank,
   .ackFault, .readFaults, .defineForm, .readForm, .setDiscount, .setLimits, .setPermissions,
   .collectCashup, .reopenSession, .setClock, .restart, .storeReinitialise]

/-- The kind a kind byte names, if Table 1.3 lists it (01 R6 step 1). -/
def RequestKind.ofByte (b : Byte) : Option RequestKind :=
  RequestKind.all.find? fun k => k.byte == b

/-- The result codes without a fixed value, in the order of their names as the manual writes them,
by 7-bit character codes (01 R5). -/
def namedCodes : List ResultCode :=
  [.alreadyDeclared, .alreadyVoided, .badArgument, .badDiscount, .badFare, .badForm, .badRange,
   .censusBusy, .censusNeeded, .declarationAbandoned, .fixedEntry, .formUnknown,
   .jobsOutstanding, .jobEnded, .journalFull, .laneBusy, .laneLocked, .notDeclared, .notFaulted,
   .notHeld, .notIssued, .notQueued, .notRunning, .notSuspended, .notWithdrawn, .notYours,
   .noCensus, .noDeclaration, .noJob, .noPack, .noReport, .noRoom, .noSession, .noSlot,
   .outcomeUnread, .outOfOrder, .overlap, .packMounted, .packReferenced, .packWithdrawn,
   .pendingBound, .purgeNeeded, .sessionDeclaring, .sessionExists, .stillActive, .tooLate,
   .tooManyLines, .unknownBlank, .voidWindowPassed, .windowInSession, .withdrawn]

/-- The value of a result code (01 R5, Table 1.2). -/
def ResultCode.value : ResultCode → Byte
  | .ok => 0x00
  | .frameRejected => 0x01
  | .unknownKind => 0x02
  | .wrongPort => 0x03
  | .malformed => 0x04
  | .storeInvalid => 0x05
  | .notPermitted => 0x06
  | .none => 0x07
  | c => BitVec.ofNat 8 (0x20 + namedCodes.idxOf c)

/-! ## The notice record (01 Table 1.7) -/

def NoticeKind.value : NoticeKind → Byte
  | .slotOutcome => 0x01
  | .laneChange => 0x02
  | .faultsChange => 0x03
  | .stockChange => 0x04
  | .censusChange => 0x05
  | .formsChange => 0x06
  | .storeChange => 0x07
  | .controllerStart => 0x08
  | .sessionChange => 0x09
  | .permissions => 0x0A

def NoticeObject.value : NoticeObject → Byte
  | .slot k => BitVec.ofNat 8 (0x01 + k.val)
  | .lane l => BitVec.ofNat 8 (0x11 + l.val)
  | .ownSession => 0x20
  | .ownPermissions => 0x21
  | .faultList => 0x22
  | .stock => 0x23
  | .census => 0x24
  | .forms => 0x25
  | .store => 0x26
  | .controller => 0x30
  | .sessionOf w => BitVec.ofNat 8 (0x41 + w.val)

def OutcomeKind.value : OutcomeKind → Byte
  | .done => 0x01
  | .spoiled => 0x02
  | .failed => 0x03
  | .expired => 0x04
  | .cancelled => 0x05

def OutcomeReason.value : OutcomeReason → Byte
  | .none => 0x00
  | .lostLine => 0x01
  | .mechanical => 0x02

/-- Bytes 2 to 11 of a notice record. -/
def SlotOutcome.bytes (o : SlotOutcome) : List Byte :=
  [o.outcome.value, o.reason.value, BitVec.ofNat 8 o.attempts, BitVec.ofNat 8 o.cls] ++
  bytesLow 3 o.serial ++ bytesLow 3 o.value

/-- The 12-byte notice record (01 Table 1.7, R13). -/
def Notice.bytes (n : Notice) : List Byte :=
  [n.kind.value, n.object.value] ++
  match n.detail with
  | some o => o.bytes
  | none => List.replicate 10 0

/-! ## Frames (01 Table 1.6) -/

/-- The sync byte (01 Table 1.6). -/
def syncByte : Byte := 0x5A

/-- Bytes 1 to length + 4 of a frame: what its check is computed over (01 R19). -/
def frameCore (kind tag : Byte) (body : List Byte) : List Byte :=
  bytesLow 2 body.length ++ [kind, tag] ++ body

/-- A whole frame, the sync byte first and the check last, low byte first (01 Table 1.6). -/
def frameBytes (kind tag : Byte) (body : List Byte) : List Byte :=
  syncByte :: frameCore kind tag body ++ bytesLow 2 (frameCheck (frameCore kind tag body)).toNat

/-- A kind byte with its top bit set (01 R4). -/
def answerKind (k : Byte) : Byte := k ||| 0x80

/-- The bytes of an answer's fields: the notice record where there is one (01 R15), none for an
answer that is a result code alone (01 R4), and free for the rest, but that a body with its result
code is at most 600 bytes long (01 R4; log entry 5). -/
def AnswerFields.bytes : AnswerFields → List Byte
  | .bare => []
  | .notice n => n.bytes
  | f => (Config.answerBody f).take (Config.maxBody - 1)

/-- The frame of an answer as it stands on the transmit line (01 R4, R19). -/
def Answer.frame (a : Answer) : List Byte :=
  frameBytes a.kind a.tag (a.reply.code.value :: a.reply.fields.bytes)

/-- The body length a frame's bytes give, low byte first (01 R2). -/
def frameLength (frame : List Byte) : Nat := fromLow ((frame.drop 1).take 2)

/-- The kind byte and the tag byte of a frame (01 Table 1.6). -/
def frameKind (frame : List Byte) : Byte := frame.getD 3 0

def frameTag (frame : List Byte) : Byte := frame.getD 4 0

/-- The body of a complete frame. -/
def frameBody (frame : List Byte) : List Byte := (frame.drop 5).take (frameLength frame)

/-- Whether a complete frame's check bytes are the check of its bytes 1 to length + 4 (01 R2, R19). -/
def frameAgrees (frame : List Byte) : Bool :=
  (frame.drop (frameLength frame + 5)).take 2 ==
    bytesLow 2 (frameCheck ((frame.drop 1).take (frameLength frame + 4))).toNat

/-! ## The mark record (01 Table 1.10, R20) -/

/-- The class and serial of a good mark record; `none` for a failed read (01 R20). -/
def goodRead (record : Vector Byte 6) : Option (Nat × Nat) :=
  let data := record.toList.take 4
  let cls := fromLow (data.take 1)
  let serial := fromLow (data.drop 1)
  if record.toList.drop 4 = bytesLow 2 (markCheck data).toNat ∧ cls < 4 ∧ 1 ≤ serial ∧
      serial ≤ Config.maxSerial then some (cls, serial) else none

end Machine

end Sys2Proof
end

