-- ==== Sys2Proof/Machine/Ops.lean ====
section
/-! DEFINITION. The named operations the meanings share: reading and writing the records of State,
posting notices (01), changing marks (05), the journal and its reservations (08), form counts (02),
fault reports (10), and the taking of a request (01 R6). -/

namespace Sys2Proof.Machine

/-! ## Records of State -/

def State.port (s : State) : Port → PortState
  | .window w => s.windows[w]
  | .office => s.office

def State.setPort (s : State) (p : Port) (x : PortState) : State :=
  match p with
  | .window w => { s with windows := s.windows.set w x }
  | .office => { s with office := x }

def State.lane (s : State) (l : LaneId) : Lane := s.lanes[l]

def State.setLane (s : State) (l : LaneId) (x : Lane) : State :=
  { s with lanes := s.lanes.set l x }

def State.slot (s : State) (w : Window) (k : SlotId) : Slot := s.slots[w][k]

def State.setSlot (s : State) (w : Window) (k : SlotId) (x : Slot) : State :=
  { s with slots := s.slots.set w (s.slots[w].set k x) }

/-- The job in a slot, absent where the slot is EMPTY. -/
def State.job (s : State) (w : Window) (k : SlotId) : Option Job := (s.slot w k).job

/-- A changed job in its slot; an EMPTY slot stays EMPTY. -/
def State.mapJob (s : State) (w : Window) (k : SlotId) (f : Job → Job) : State :=
  s.setSlot w k { s.slot w k with job := (s.job w k).map f }

def State.session (s : State) (w : Window) : Session := s.sessions[w]

def State.setSession (s : State) (w : Window) (x : Session) : State :=
  { s with sessions := s.sessions.set w x }

def State.form (s : State) (f : Fin 8) : FormRecord := s.forms[f]

def State.setForm (s : State) (f : Fin 8) (x : FormRecord) : State :=
  { s with forms := s.forms.set f x }

def State.clockStamp (s : State) : ClockStamp := ⟨s.clock.day, s.clock.second⟩

/-- Run time and office clock of the taking. -/
def State.stamp (s : State) : Stamp := ⟨s.runTime, s.clockStamp⟩

/-! ## Notices (01 R11 to R14) -/

/-- A notice posted to a queue: it replaces the unread notice for its object in place, or stands at
the tail (01 R11). -/
def coalesce (q : List Notice) (n : Notice) : List Notice :=
  if q.any (fun m => m.object == n.object) then
    q.map fun m => if m.object = n.object then n else m
  else q ++ [n]

def PortState.posted (p : PortState) (n : Notice) : PortState :=
  { p with queue := coalesce p.queue n }

def State.post (s : State) (p : Port) (n : Notice) : State := s.setPort p ((s.port p).posted n)

/-- A notice posted to the office and to every window (01 Table 1.4). -/
def State.postEvery (s : State) (n : Notice) : State :=
  { s with office := s.office.posted n, windows := s.windows.map fun p => p.posted n }

/-- LANE_CHANGE (01 Table 1.4, 04 R70). -/
def State.postLane (s : State) (l : LaneId) : State :=
  s.postEvery ⟨.laneChange, .lane l, none⟩

/-- SESSION_CHANGE to the owning window and the office (01 Table 1.4, 08 R143). -/
def State.postSession (s : State) (w : Window) : State :=
  (s.post (.window w) ⟨.sessionChange, .ownSession, none⟩).post .office
    ⟨.sessionChange, .sessionOf w, none⟩

def State.postOffice (s : State) (k : NoticeKind) (o : NoticeObject) : State :=
  s.post .office ⟨k, o, none⟩

def State.postStock (s : State) : State := s.postOffice .stockChange .stock

def State.postForms (s : State) : State := s.postOffice .formsChange .forms

def State.postCensus (s : State) : State := s.postOffice .censusChange .census

def State.postStore (s : State) : State := s.postOffice .storeChange .store

def State.postFaults (s : State) : State := s.postOffice .faultsChange .faultList

/-- The attention line: asserted while the queue holds a notice, deasserted in STARTING and while
the reset input is asserted, when every receiver is in STARTING (01 R14, R18). -/
def PortState.attention (p : PortState) : Bool := p.rx != .starting && !p.queue.isEmpty

/-- The clear-to-send line: raised in HUNTING and RECEIVING (01 Table 1.1). -/
def PortState.clearToSend (p : PortState) : Bool :=
  match p.rx with
  | .hunting => true
  | .receiving _ _ => true
  | _ => false

/-! ## Lanes -/

/-- What R70 (04) posts LANE_CHANGE for: a change of state, holding causes or mounted pack, and a
head that becomes VERIFIED. -/
def Lane.visiblyChanged (old new : Lane) : Bool :=
  old.state != new.state || old.causes != new.causes || old.pack != new.pack ||
  (match new.head with
   | .verified _ => old.head != new.head
   | _ => false)

/-- A changed lane, with its LANE_CHANGE where R70 (04) asks for one. -/
def State.moveLane (s : State) (l : LaneId) (f : Lane → Lane) : State :=
  let new := f (s.lane l)
  if (s.lane l).visiblyChanged new then (s.setLane l new).postLane l else s.setLane l new

/-! ## Packs and marks (05) -/

def State.findPack (s : State) (n : Nat) : Option Pack := s.packs.find? fun p => p.number == n

/-- Whether a serial lies in the pack's range (05 section 5.2). -/
def Pack.inRange (p : Pack) (serial : Nat) : Bool :=
  p.first ≤ serial && serial < p.first + p.count

def Pack.holds (p : Pack) (cls serial : Nat) : Bool := p.cls == cls && p.inRange serial

/-- The pack in the table that holds a blank (05 R95). -/
def State.packOf (s : State) (cls serial : Nat) : Option Pack :=
  s.packs.find? fun p => p.holds cls serial

/-- The mark the blank table holds for a serial of the pack. -/
def Pack.markOf (p : Pack) (serial : Nat) : Option Mark :=
  if p.inRange serial then p.marks[serial - p.first]? else none

/-- The remaining count: the UNUSED counter (05 section 5.2). -/
def Pack.remaining (p : Pack) : Nat := p.counters.unused

/-- The lowest serial at or after `low` that holds UNUSED, the list's first mark being that of
serial `at_`. -/
def firstUnused (low : Nat) : Nat → List Mark → Option Nat
  | _, [] => none
  | at_, m :: rest =>
    if m = .unused ∧ low ≤ at_ then some at_ else firstUnused low (at_ + 1) rest

def Pack.lowestUnused (p : Pack) (low : Nat) : Option Nat := firstUnused low p.first p.marks

/-- A changed pack record; every change of a pack posts STOCK_CHANGE (05 R94). -/
def State.updatePack (s : State) (n : Nat) (f : Pack → Pack) : State :=
  State.postStock { s with packs := s.packs.map fun p => if p.number = n then f p else p }

/-- The edges a mark may move along (05 R92). -/
def markEdge (old new : Mark) : Bool :=
  match old, new with
  | .unused, .issued => true
  | .unused, .spoiled => true
  | .unused, .advanced => true
  | .unused, .missing => true
  | .unused, .returned => true
  | .issued, .voided => true
  | _, _ => false

/-- A mark changed in its pack: counters, sequence number, verdict (05 R93 steps 1 to 3). -/
def Pack.remark (p : Pack) (serial : Nat) (old new : Mark) : Pack :=
  { p with
    marks := p.marks.set (serial - p.first) new
    counters := (p.counters.lower old).raise new
    sequence := p.sequence + 1
    verdict := .none }

/-- Whether the scan has committed the block of a serial (06 R119, R120). -/
def Census.hasCommitted (c : Census) (serial : Nat) : Bool :=
  c.first ≤ serial && serial ≤ c.last && serial < c.first + Config.censusBlock * c.block

/-- What a census makes of a mark change (06 R120). -/
def Census.told (c : Census) (pack serial : Nat) : Census :=
  if c.state = .suspended ∧ c.pack = pack ∧ c.hasCommitted serial then
    { c with suspendedChange := true }
  else c

/-- The stock-low test of one mark change (05 R112): the remaining count of a MOUNTED pack falls to
the threshold. A taking that changes several marks lowers the count by ones, so at most one of its
changes meets the test, and it meets it exactly where the whole fall crosses the threshold. -/
def Pack.fellLow (p new : Pack) (threshold : Nat) : Bool :=
  p.state == .mounted && threshold < p.remaining && new.remaining ≤ threshold

def State.stockLow (s : State) (p new : Pack) : State :=
  match p.lane with
  | some l => if p.fellLow new s.limits.stockLow then s.postLane l else s
  | none => s

/-- A mark change made: the pack, STOCK_CHANGE, the stock-low test, and the census told (05 R93). -/
def State.remark (s : State) (p : Pack) (serial : Nat) (old new : Mark) : State :=
  let s1 := (s.updatePack p.number fun q => q.remark serial old new).stockLow p
    (p.remark serial old new)
  { s1 with census := s1.census.told p.number serial }

/-- A mark request (05 R92): made where the blank is in the table and the edge stands, and refused,
with nothing moved, where not. -/
def State.changeMark (s : State) (cls serial : Nat) (new : Mark) : State :=
  match s.packOf cls serial with
  | none => s
  | some p =>
    match p.markOf serial with
    | none => s
    | some old => if markEdge old new then s.remark p serial old new else s

/-- Every serial of a list that holds UNUSED takes a mark (04 R77, 05 R104). -/
def State.markUnused (s : State) (cls : Nat) (new : Mark) (serials : List Nat) : State :=
  serials.foldl (fun t r =>
    if ((t.packOf cls r).bind fun p => p.markOf r) = some .unused then t.changeMark cls r new
    else t) s

/-- The serials of a pack that hold UNUSED, within a range. -/
def Pack.unusedIn (p : Pack) (low high : Nat) : List Nat :=
  ((List.range p.count).map fun i => p.first + i).filter fun r =>
    low ≤ r && r ≤ high && p.markOf r == some .unused

/-! ## The journal and its reservations (08) -/

/-- A session's entry list: its window's entries, in the order written (08 Table 8.1). -/
def State.entriesOf (s : State) (w : Window) : List JournalEntry :=
  s.journal.filter fun e => e.window == w

/-- The free entries (08 R147). -/
def State.journalFree (s : State) : Nat :=
  Config.journalSize - s.journalInUse - s.journalReserved

/-- Entries set aside for a window's session (08 R148). -/
def State.reserve (s : State) (w : Window) (k : Nat) : State :=
  { s.setSession w { s.session w with reserved := (s.session w).reserved + k } with
    journalReserved := s.journalReserved + k }

/-- Reserved entries released, or used by a writing (08 R149). -/
def State.unreserve (s : State) (w : Window) (k : Nat) : State :=
  { s.setSession w { s.session w with reserved := (s.session w).reserved - k } with
    journalReserved := s.journalReserved - k }

/-- The held addition to one tender's total (07 R137). -/
def raiseTotal (totals : PerTender Nat) (t : Option Tender) (value : Nat) : PerTender Nat :=
  match t with
  | some t => totals.set t (heldAdd (totals.get t) value)
  | none => totals

def raiseSaturates (totals : PerTender Nat) (t : Option Tender) (value : Nat) : Bool :=
  match t with
  | some t => heldOverflows (totals.get t) value
  | none => false

/-- A session's totals and counts moved by an entry (08 R151). -/
def Session.withEntry (x : Session) (d : EntryData) : Session :=
  match d.kind with
  | .issue =>
    { x with
      issued := raiseTotal x.issued d.tender d.value
      issuedCount := x.issuedCount + 1
      saturated := x.saturated || raiseSaturates x.issued d.tender d.value }
  | .void =>
    { x with
      voided := raiseTotal x.voided d.tender d.value
      voidedCount := x.voidedCount + 1
      saturated := x.saturated || raiseSaturates x.voided d.tender d.value }
  | .spoil => { x with spoiledCount := x.spoiledCount + 1 }

/-- The entry the next writing to a window's session makes: its number is one more than the entries
the session holds (08 R145). -/
def State.entryFor (s : State) (w : Window) (d : EntryData) : JournalEntry :=
  ⟨w, (s.entriesOf w).length + 1, d, s.stamp, false⟩

/-- A journal entry written: the entry, the session's totals and counts, the pack's references, and
SESSION_CHANGE (08 R145, R151). The reservation it is written from is the caller's. -/
def State.writeEntry (s : State) (w : Window) (d : EntryData) : State :=
  let t : State :=
    { s.setSession w ((s.session w).withEntry d) with
      journal := s.journal ++ [s.entryFor w d]
      journalInUse := s.journalInUse + 1 }
  (t.updatePack d.pack fun p => { p with references := p.references + 1 }).postSession w

/-! ## Form counts (02) -/

/-- One generation up, from 255 and from 0 to 1 (02 R21). -/
def nextGeneration (g : Nat) : Nat := if g = 255 then 1 else g + 1

/-- The pending definition becomes current (02 R29). -/
def FormRecord.applied (f : FormRecord) : FormRecord :=
  ⟨f.pending, none, nextGeneration f.generation, f.waitingCount, 0⟩

/-- The count of a leaving job lowered (02 R28). -/
def FormRecord.lowered (f : FormRecord) (generation : Nat) : FormRecord :=
  if generation = f.generation then { f with useCount := f.useCount - 1 }
  else if generation = nextGeneration f.generation then
    { f with waitingCount := f.waitingCount - 1 }
  else f

/-- Whether a pending definition is due: the use count is 0 (02 R29). -/
def FormRecord.applyDue (f : FormRecord) : Bool := f.useCount == 0 && f.pending.isSome

/-- The definition a job is bound to (02 R27). -/
def FormRecord.bound (f : FormRecord) (generation : Option Nat) : Option FormDef :=
  if generation = some f.generation then f.current
  else if generation = some (nextGeneration f.generation) then f.pending
  else none

/-! ## Eligibility and claims (03) -/

/-- Whether a job holds the lines it needs before it may be printed (03 R52). -/
def Job.ready (j : Job) (d : FormDef) : Bool := min j.declared d.ready ≤ j.lines.length

/-- Whether a job is eligible for a lane (03 R52). -/
def State.eligible (s : State) (j : Job) (l : LaneId) : Bool :=
  j.state == .queued && j.lanes[l] && j.generation == some (s.form j.form).generation &&
  match (s.form j.form).current, (s.lane l).pack.bind s.findPack with
  | some d, some p => d.cls == p.cls && j.ready d
  | _, _ => false

def State.eligibleSomewhere (s : State) (j : Job) : Bool := allLanes.any fun l => s.eligible j l

def HeadStatus.isVerified : HeadStatus → Bool
  | .verified _ => true
  | _ => false

/-- A lane stands ready to claim: IDLE with a VERIFIED blank (03 R53, R54), and no warning asserted
(04 R89). -/
def Lane.mayClaim (x : Lane) (powerFail : Bool) : Bool :=
  x.state == .idle && x.head.isVerified && !powerFail

/-- The lane sends a claim request where it may (03 R54); one still under way serves for this too
(log entry 13). -/
def Lane.claiming (x : Lane) (powerFail : Bool) : Lane :=
  if x.mayClaim powerFail then { x with claimSent := true } else x

/-- The Job Table's report that a job has become eligible reaches every lane that may claim
(03 R54). -/
def State.reportEligible (s : State) : State :=
  { s with lanes := s.lanes.map fun x => x.claiming s.powerFail }

/-- The report where the job of a slot is eligible for some lane (03 R54). -/
def State.reportJob (s : State) (w : Window) (k : SlotId) : State :=
  match s.job w k with
  | some j => if s.eligibleSomewhere j then s.reportEligible else s
  | none => s

/-- Every job in the table, with its window and slot, in the order of the slots. -/
def State.jobs (s : State) : List (Window × SlotId × Job) :=
  allWindows.flatMap fun w => allSlots.filterMap fun k => (s.job w k).map fun j => (w, k, j)

/-- The pending definition applied where it is due: FORMS_CHANGE, and the report of the jobs that
waited for it (02 R29, 03 R54). -/
def State.applyPending (s : State) (f : Fin 8) : State :=
  if (s.form f).applyDue then
    let t := (s.setForm f (s.form f).applied).postForms
    if t.jobs.any fun x => x.2.2.form == f && t.eligibleSomewhere x.2.2 then t.reportEligible else t
  else s

/-- A job leaves the states that hold a binding: its form's count falls, and a pending definition
may be applied (02 R28, R29). A job that has lost its binding lowers no count. -/
def State.unbind (s : State) (f : Fin 8) (generation : Option Nat) : State :=
  match generation with
  | some g =>
    let t := s.setForm f ((s.form f).lowered g)
    if g = (s.form f).generation then t.applyPending f else t
  | none => s

/-! ## Outcomes of a job (03 section 3.6) -/

/-- SLOT_OUTCOME posted for a slot: it becomes the job's latest outcome and sets the outcome-unread
flag (03 R40, R57). -/
def State.postOutcome (s : State) (w : Window) (k : SlotId) (o : SlotOutcome) : State :=
  (s.setSlot w k ⟨true, (s.job w k).map fun j => { j with latest := some o }⟩).post (.window w)
    ⟨.slotOutcome, .slot k, some o⟩

/-- What remains of a job's reservation released (08 R149). -/
def State.releaseJob (s : State) (w : Window) (k : SlotId) : State :=
  match s.job w k with
  | some j => (s.unreserve w j.reserved).mapJob w k fun j => { j with reserved := 0 }
  | none => s

/-- A job reaches a terminal state: reservation released, form count lowered, notice posted, flag
set (03 R57); it leaves the active states, so it holds no deadline (03 R62). -/
def State.endJob (s : State) (w : Window) (k : SlotId) (st : JobState) (o : SlotOutcome) : State :=
  match s.job w k with
  | some j =>
    ((((s.mapJob w k fun j => { j with state := st, lane := none, deadline := none }).releaseJob
      w k).unbind j.form j.generation).postOutcome w k o)
  | none => s

/-- An entry written from a job's reservation, which falls by one (08 R149). -/
def State.writeJobEntry (s : State) (w : Window) (k : SlotId) (d : EntryData) : State :=
  (((s.unreserve w 1).mapJob w k fun j => { j with reserved := j.reserved - 1 })).writeEntry w d

/-- The claim handed back before the first strobe (03 R61). -/
def State.handBack (s : State) (w : Window) (k : SlotId) : State :=
  (s.mapJob w k fun j => { j with state := .queued, lane := none }).reportJob w k

/-- The state a spoil sends a job to, by its new attempt count (03 R59, R60). -/
def afterSpoil (reason : OutcomeReason) (attempts : Nat) : JobState :=
  if 3 ≤ attempts then .failed else if reason = .lostLine then .retryWait else .queued

/-- A spoiled ticket's job: attempt count up by one, then QUEUED, RETRY_WAIT or FAILED, and its
notice (03 R59, R60). -/
def State.spoilJob (s : State) (w : Window) (k : SlotId) (reason : OutcomeReason)
    (cls serial : Nat) : State :=
  match s.job w k with
  | none => s
  | some j =>
    let n := j.attempts + 1
    let t := s.mapJob w k fun j => { j with attempts := n }
    if 3 ≤ n then t.endJob w k .failed ⟨.failed, reason, n, cls, serial, 0⟩
    else
      ((t.mapJob w k fun j => { j with state := afterSpoil reason n, lane := none }).postOutcome w k
        ⟨.spoiled, reason, n, cls, serial, 0⟩).reportJob w k

/-! ## Fault reports (10) -/

def Report.isActive (r : Report) : Bool := r.state == .active

/-- A lane's ACTIVE reports. -/
def State.activeReports (s : State) (l : LaneId) : List Report :=
  s.faults.filter fun r => r.isActive && r.source == .lane l

/-- The lane holds an ACTIVE report of a kind other than CABINET_OPEN: it is locked (04 R72). -/
def State.isLocked (s : State) (l : LaneId) : Bool :=
  (s.activeReports l).any fun r => r.kind != .cabinetOpen

/-- Part of a taking whose notices a later step of the same taking posts (05 R103). -/
def State.unposted (s : State) (f : State → State) : State :=
  { f s with office := s.office, windows := s.windows }

/-- FAULTS_CHANGE, and LANE_CHANGE where the report's source is a lane (10 R179). -/
def State.postReport (s : State) (src : FaultSource) : State :=
  match src with
  | .lane l => s.postFaults.postLane l
  | .controller => s.postFaults

/-- A count held at 255 (10 Table 10.1). -/
def held255 (n : Nat) : Nat := min n 255

/-- Changed reports, in place. -/
def State.mapReports (s : State) (f : Report → Report) : State :=
  { s with faults := s.faults.map f }

/-- One up, from 65,535 to 1 (05 R96, 10 R176). -/
def nextNumber (n : Nat) : Nat := if 65535 ≤ n then 1 else n + 1

/-- The first number from `n` upward that is not taken (05 R96, 10 R176); within `fuel` steps. -/
def freeNumber (taken : List Nat) : Nat → Nat → Nat
  | 0, n => n
  | fuel + 1, n => if taken.contains n then freeNumber taken fuel (nextNumber n) else n

/-- The report ageing removes from a full list: the oldest ACKNOWLEDGED, or else the oldest CLEARED
(10 R178). -/
def agedReport (list : List Report) : Option Report :=
  match list.find? fun r => r.state == .acknowledged with
  | some r => some r
  | none => list.find? fun r => r.state == .cleared

/-- A place made in a full list (10 R178); the removal is a change of the removed report (R179). -/
def State.ageFaults (s : State) : State :=
  if s.faults.length < Config.faultPlaces then s
  else
    match agedReport s.faults with
    | some r => State.postReport { s with faults := s.faults.erase r } r.source
    | none => s

/-- A report placed at the end of the list with the next free number (10 R176). -/
def State.addReport (s : State) (src : FaultSource) (k : FaultKind) (primary : Option Nat)
    (c : FaultContext) : State :=
  let t := s.ageFaults
  let n := freeNumber (t.faults.map (·.number)) 65 t.faultCounter
  State.postReport
    { t with
      faults := t.faults ++
        [⟨n, src, k, s.stamp, none, .active, 1, primary, none, c, 0, none⟩]
      faultCounter := nextNumber n } src

/-- An occurrence added to a report (10 R177, R178). A count held at 255 posts the change all the same:
DEDUCED, unsafe (10 R179; log entry 39). -/
def State.addOccurrence (s : State) (src : FaultSource) (number : Nat) (other : Option FaultKind) :
    State :=
  (s.mapReports fun r =>
    if r.number = number then
      { r with occurrences := held255 (r.occurrences + 1), lastOther := other.or r.lastOther }
    else r).postReport src

/-- A lane fault placed against the lane's ACTIVE reports (10 R177). -/
def State.raiseLane (s : State) (l : LaneId) (k : FaultKind) (c : FaultContext) : State :=
  let active := s.activeReports l
  match active.find? fun r => r.kind == k with
  | some r => s.addOccurrence (.lane l) r.number none
  | none =>
    match active with
    | [] => s.addReport (.lane l) k none c
    | [r] => s.addReport (.lane l) k (some r.number) c
    | r :: r' :: _ =>
      s.addOccurrence (.lane l) (if r.primary.isSome then r.number else r'.number) (some k)

/-- A controller fault (10 R178). -/
def State.raiseController (s : State) (k : FaultKind) (c : FaultContext) : State :=
  match s.faults.find? fun r => r.isActive && r.source == .controller && r.kind == k with
  | some r => s.addOccurrence .controller r.number none
  | none => s.addReport .controller k none c

/-- A report that leaves ACTIVE (10 R175). -/
def Report.leave (r : Report) (st : ReportState) (how : HowCleared) (at_ : Stamp) : Report :=
  { r with state := st, how := some how, cleared := some at_, primary := none }

/-- A lane's only ACTIVE report is its primary (10 R181, "A primary leaving ACTIVE"). -/
def State.promote (s : State) (l : LaneId) : State :=
  if (s.activeReports l).any fun r => r.primary.isNone then s
  else
    s.mapReports fun r =>
      if r.isActive && r.source == .lane l then { r with primary := none } else r

/-- A lane's ACTIVE reports other than CABINET_OPEN cleared, and a standing CABINET_OPEN left alone
with no other kind, as the primary (10 R183 steps 1 and 2, R184 step 3). -/
def Report.recover (r : Report) (l : LaneId) (how : HowCleared) (at_ : Stamp) : Report :=
  if r.isActive && r.source == .lane l then
    if r.kind = .cabinetOpen then { r with primary := none, lastOther := none }
    else r.leave .cleared how at_
  else r

def State.recoverReports (s : State) (l : LaneId) (how : HowCleared) : State :=
  s.mapReports fun r => r.recover l how s.stamp

/-- The numbers of the reports a recovery clears (10 R183), in the order of the fault list, of which the
spec says nothing: DESIGN CHOICE, unsafe (log entry 50). -/
def State.recoverable (s : State) (l : LaneId) : List Nat :=
  ((s.activeReports l).filter fun r => r.kind != .cabinetOpen).map (·.number)

/-- Every ACTIVE report of the lane cleared by a withdrawal, with FAULTS_CHANGE; the one LANE_CHANGE of
the taking is the withdrawal's own (10 R179, R181; 05 R103). -/
def State.clearByWithdrawal (s : State) (l : LaneId) : State :=
  if (s.activeReports l).isEmpty then s
  else
    State.postFaults (s.mapReports fun r =>
      if r.isActive && r.source == .lane l then r.leave .cleared .withdraw s.stamp
      else r)

/-- The lane's ACTIVE CABINET_OPEN report taken at a relock: cleared by SELF, or turned into the
fault folded into it (10 R181). -/
def Report.relock (r : Report) (l : LaneId) (at_ : Stamp) : Report :=
  if r.isActive && r.source == .lane l && r.kind == .cabinetOpen then
    match r.lastOther with
    | none => r.leave .cleared .self at_
    | some k => { r with kind := k, lastOther := none }
  else r

def State.selfClear (s : State) (l : LaneId) : State :=
  if (s.activeReports l).any fun r => r.kind == .cabinetOpen then
    ((s.mapReports fun r => r.relock l s.stamp).promote l).postReport (.lane l)
  else s

/-- A LANE_LOCKED refusal counted on the lane's primary report, if it has one (10 R186). -/
def State.countRefusal (s : State) (l : LaneId) : State :=
  match (s.activeReports l).find? fun r => r.primary.isNone with
  | some r =>
    (s.mapReports fun q =>
      if q.number = r.number then { q with refused := held255 (q.refused + 1) }
      else q).postReport (.lane l)
  | none => s

/-! ## The taking of a request (01 R3, R4, R6) -/

/-- A refusal: the result code alone (01 R4). -/
def refusal (c : ResultCode) : Reply := ⟨c, .bare⟩

def accepted (f : AnswerFields) : Reply := ⟨.ok, f⟩

/-- A field of an optional record as an answer gives it: zero where the record is absent (04 R71; 05
R113; 10 R188). -/
def givenOrZero {α : Type} (x : Option α) (f : α → Nat) : Nat := (x.map f).getD 0

/-- The ports Table 1.3 (01) admits a request from. -/
def RequestKind.fromWindow : RequestKind → Bool
  | .openSession | .submitJob | .supplyLines | .holdJob | .amendJob | .releaseJob | .withdrawJob
  | .voidTicket | .declareBegin | .declareItem | .declareConfirm
  | .fetchNotice | .readJob | .readSession | .readLane => true
  | _ => false

def RequestKind.fromOffice : RequestKind → Bool
  | .openSession | .submitJob | .supplyLines | .holdJob | .amendJob | .releaseJob | .withdrawJob
  | .voidTicket | .declareBegin | .declareItem | .declareConfirm => false
  | _ => true

def RequestKind.admittedFrom (k : RequestKind) : Port → Bool
  | .window _ => k.fromWindow
  | .office => k.fromOffice

/-- The requests refused while the store is INVALID (01 Table 1.3). -/
def RequestKind.needsStore : RequestKind → Bool
  | .submitJob | .voidTicket | .declareBegin | .declarePack | .mountPack | .withdrawPack
  | .collectPack | .readPack => true
  | _ => false

/-- Whether a window's grants cover a request (01 Table 1.3, R7). -/
def RequestKind.granted (k : RequestKind) (g : GrantSet) : Bool :=
  match k with
  | .submitJob => g.issue
  | .voidTicket => g.void
  | .declareBegin => g.declare
  | _ => true

/-- The window requests that abandon a declaration in progress when they reach their block, and are
then taken by their own rules. VOID_TICKET abandons it too and is answered for that, so its meaning
does both (09 R166). -/
def RequestKind.abandons : RequestKind → Bool
  | .openSession | .submitJob | .supplyLines | .holdJob | .amendJob | .releaseJob
  | .withdrawJob => true
  | _ => false

/-- The requests whose body the manual gives as empty. -/
def RequestKind.emptyBody : RequestKind → Bool
  | .fetchNotice | .suspendCensus | .resumeCensus | .stopCensus | .readCensus | .restart
  | .storeReinitialise => true
  | _ => false

/-- Steps 2, 4 and 5 of R6 (01) with step 3 between them: the common refusal, or none where the
request is handed to its block. `own` is clear where a window's read names another window, and
`fits` where the body's layout does not fit. -/
def State.admission (s : State) (p : Port) (k : RequestKind) (own fits : Bool) :
    Option ResultCode :=
  if !(k.admittedFrom p && own) then some .wrongPort
  else if !fits then some .malformed
  else if k.needsStore && !s.storeValid then some .storeInvalid
  else
    match p with
    | .window w => if k.granted s.grants[w] then none else some .notPermitted
    | .office => none

/-- The receiver takes a request's frame: it hunts for one, or holds this very frame checked
(01 R3; log entry 3). -/
def Receiver.takes (r : Receiver) (k : RequestKind) (tag : Byte) : Bool :=
  match r with
  | .hunting => true
  | .busy (some f) => f.kind == k && f.tag == tag
  | _ => false

/-- The answer starts on its way: the receiver is BUSY until it has been sent (01 R3, R4). -/
def State.answerWith (s : State) (p : Port) (kind tag : Byte) (r : Reply) : State :=
  s.setPort p { s.port p with rx := .busy none, tx := some ⟨answerKind kind, tag, r⟩ }

/-- The declaration in progress of a window's session discarded, the session staying DECLARING
(09 R165, R166). -/
def State.dropDeclaration (s : State) (w : Window) : State :=
  s.setSession w { s.session w with inProgress := none }

/-- The request reaches its owning block: a declaration in progress is abandoned by a request that
is not part of it (09 R166). -/
def State.reachBlock (s : State) (p : Port) (k : RequestKind) : State :=
  match p with
  | .window w => if k.abandons then s.dropDeclaration w else s
  | .office => s

/-- One request taken: its frame at a receiver that takes it, admission, the owning block's answer.
A frame that reaches a port whose clear-to-send is dropped is discarded unanswered (01 R3). -/
def State.request {β : Type} (s : State) (p : Port) (tag : Byte) (k : RequestKind) (body : Body β)
    (own fits : β → Bool) (take : β → State → State × Reply) : State :=
  if (s.port p).rx.takes k tag then
    match body with
    | none =>
      s.answerWith p k.byte tag (refusal ((s.admission p k true false).getD .malformed))
    | some b =>
      match s.admission p k (own b) (fits b) with
      | some c => s.answerWith p k.byte tag (refusal c)
      | none =>
        let r := take b (s.reachBlock p k)
        r.1.answerWith p k.byte tag r.2
  else s

/-- A request of a window, on that port's window. -/
def State.windowRequest {β : Type} (s : State) (p : Port) (tag : Byte) (k : RequestKind)
    (body : Body β) (fits : β → Bool) (take : Window → β → State → State × Reply) : State :=
  s.request p tag k body (fun _ => true) fits fun b t =>
    match p with
    | .window w => take w b t
    | .office => (t, refusal .wrongPort)

/-- A request of the office, or of any port alike. -/
def State.plainRequest {β : Type} (s : State) (p : Port) (tag : Byte) (k : RequestKind)
    (body : Body β) (fits : β → Bool) (take : β → State → State × Reply) : State :=
  s.request p tag k body (fun _ => true) fits take

/-- Whether a read from this port may name this window (01 R6 step 2). -/
def ownsWindow (p : Port) (n : Nat) : Bool :=
  match p with
  | .window w => windowOf n == some w
  | .office => true

/-- An event of the part's own: it happens only while the part runs (01 R18, 11 R190, R192). -/
def State.whenRunning (s : State) (f : State → State) : State :=
  if s.phase = .running then f s else s

end Sys2Proof.Machine
end

