-- ==== Sys2Proof/Machine/Forms.lean ====
section
/-! DEFINITION. The Form Table's commands (02): DEFINE_FORM and READ_FORM, and the binding of a
submitted job (02 R27). -/

namespace Sys2Proof

/-- The two counts kept with a definition (02 R24). -/
def FormDef.counts (d : FormDef) : Nat × Nat := (d.bodyCapacity, d.counterfoilContent)

namespace Machine

/-- Whether a job is in one of the active states (03 Table 3.2). -/
def Job.isActive (j : Job) : Bool :=
  match j.state with
  | .queued | .held | .printing | .retryWait => true
  | .done | .failed | .expired | .cancelled => false

/-- The largest declared line count of the active jobs bound to a form's coming generation
(02 R26). -/
def State.largestWaiting (s : State) (f : Fin 8) : Nat :=
  ((s.jobs.filter fun x =>
      x.2.2.isActive && x.2.2.form == f &&
        x.2.2.generation == some (nextGeneration (s.form f).generation)).map
    fun x => x.2.2.declared).foldl max 0

/-- Whether a replacement would break what the waiting jobs were checked against (02 R26). -/
def State.pendingBound (s : State) (f : Fin 8) (d : FormDef) : Bool :=
  match (s.form f).pending with
  | some old =>
    0 < (s.form f).waitingCount &&
      !(d.cls == old.cls && s.largestWaiting f ≤ d.bodyCapacity)
  | none => false

/-- A definition checked and stored, as the form's current one or as its pending one (02 R22 to R26). A
request with both a form number outside 0 to 7 and a value Table 2.1 refuses answers BAD_ARGUMENT: the
spec gives the two refusals and no order between them: DESIGN CHOICE, unsafe (log entry 40). -/
def State.defineForm (b : FormBody) (s : State) : State × Reply :=
  match formOf b.form with
  | none => (s, refusal .badArgument)
  | some f =>
    let r := s.form f
    let d := b.layout.stored
    let coming := nextGeneration r.generation
    if !b.layout.valid then (s, refusal .badForm)
    else if r.useCount = 0 then
      ((s.setForm f { r with current := some d, generation := coming }).postForms,
        accepted (.placed false coming))
    else if s.pendingBound f d then (s, refusal .pendingBound)
    else ((s.setForm f { r with pending := some d }).postForms, accepted (.placed true coming))

/-- DEFINE_FORM (02 R22 to R26). -/
def execDefineForm (p : Port) (tag : Byte) (body : Body FormBody) (s : State) :
    Host.Outcome State Fault Refusal :=
  .next (s.plainRequest p tag .defineForm body (fun _ => true) fun b t => t.defineForm b)

def State.readForm (n : Nat) (s : State) : State × Reply :=
  match formOf n with
  | none => (s, refusal .badArgument)
  | some f =>
    let r := s.form f
    (s, accepted (.form r (r.current.map FormDef.counts) (r.pending.map FormDef.counts)))

/-- READ_FORM (02 R30). -/
def execReadForm (p : Port) (tag : Byte) (form : Body Nat) (s : State) :
    Host.Outcome State Fault Refusal :=
  .next (s.plainRequest p tag .readForm form (fun _ => true) fun n t => t.readForm n)

/-! ## Binding a job (02 R27) -/

/-- What the Form Table hands the Job Table for a submitted job; `coming` where the job is bound to
the coming generation. -/
structure Binding where
  form : Fin 8
  generation : Nat
  layout : FormDef
  coming : Bool
  deriving DecidableEq, Repr

/-- The binding of a job to form `n`; absent where the form is unknown (02 R27). -/
def State.binding (s : State) (n : Nat) : Option Binding :=
  match formOf n with
  | none => none
  | some f =>
    let r := s.form f
    match r.current, r.pending with
    | none, _ => none
    | some _, some d => some ⟨f, nextGeneration r.generation, d, true⟩
    | some d, none => some ⟨f, r.generation, d, false⟩

/-- The count of a bound job raised (02 R27). -/
def FormRecord.raised (r : FormRecord) (coming : Bool) : FormRecord :=
  if coming then { r with waitingCount := r.waitingCount + 1 }
  else { r with useCount := r.useCount + 1 }

end Machine

end Sys2Proof
end

