-- ==== Sys2Proof/Machine/Till.lean ====
section
/-! DEFINITION. The Till Unit's commands on sessions and the journal (08): OPEN_SESSION,
VOID_TICKET and READ_SESSION. -/

namespace Sys2Proof.Machine

/-! ## OPEN_SESSION (08 R142) -/

/-- A session newly opened (08 R142). -/
def Session.openedWith (b : OpenBody) (at_ : ClockStamp) : Session :=
  { Session.none with state := .opened, clerk := b.clerk, float := b.float, opened := at_ }

def State.openSession (w : Window) (b : OpenBody) (s : State) : State × Reply :=
  if (s.session w).state ≠ .none then (s, refusal .sessionExists)
  else if b.clerk = 0 ∨ Config.maxFloat < b.float then (s, refusal .badArgument)
  else
    ((s.setSession w (Session.openedWith b s.clockStamp)).postSession w,
      accepted (.opened s.clockStamp))

/-- OPEN_SESSION (08 R142). -/
def execOpenSession (p : Port) (tag : Byte) (body : Body OpenBody) (s : State) :
    Host.Outcome State Fault Refusal :=
  .next (s.windowRequest p tag .openSession body (fun _ => true) State.openSession)

/-! ## VOID_TICKET (08 R154 to R157) -/

/-- The session's ISSUE entry for a blank (08 R154 step 5). -/
def State.issueEntryOf (s : State) (w : Window) (cls serial : Nat) : Option JournalEntry :=
  (s.entriesOf w).find? fun e =>
    e.data.kind == .issue && e.data.cls == cls && e.data.serial == serial

/-- An ISSUE entry lies outside the void window (08 R155). -/
def State.outsideWindow (s : State) (e : JournalEntry) : Bool :=
  e.beforePowerOn || 10 * s.limits.voidWindow < age s.runTime e.stamp.run

/-- A taken void: the mark, and the VOID entry that repeats the ISSUE entry. The one entry it
reserves it uses in the same taking, so the reservations stand (08 R150, R156). -/
def State.takeVoid (s : State) (w : Window) (e : JournalEntry) : State :=
  (s.changeMark e.data.cls e.data.serial .voided).writeEntry w { e.data with kind := .void }

/-- Steps 5 to 7 of R154 (08), and the void. -/
def State.voidIssued (s : State) (w : Window) (b : VoidBody) : State × Reply :=
  match s.issueEntryOf w b.cls b.serial with
  | none => (s, refusal .notYours)
  | some e =>
    if s.outsideWindow e then (s, refusal .voidWindowPassed)
    else if s.journalFree = 0 then (s, refusal .journalFull)
    else
      (s.takeVoid w e,
        accepted (.voided ((s.entriesOf w).length + 1) e.data.value e.data.tender))

/-- Another window's session holds the blank's ISSUE entry (08 R157). -/
def State.issuedElsewhere (s : State) (w : Window) (cls serial : Nat) : Bool :=
  s.journal.any fun e =>
    e.window != w && e.data.kind == .issue && e.data.cls == cls && e.data.serial == serial

/-- Steps 2 to 7 of R154 (08), in an OPEN session. A blank already VOIDED whose ISSUE entry another
window's session holds is refused NOT_YOURS, as the last paragraph of R157 says, where the order of
R154's steps 4 and 5 alone would give ALREADY_VOIDED: DESIGN CHOICE, unsafe (log entry 43). -/
def State.voidOpen (s : State) (w : Window) (b : VoidBody) : State × Reply :=
  if 3 < b.cls ∨ b.serial < 1 ∨ Config.maxSerial < b.serial then (s, refusal .badArgument)
  else
    match (s.packOf b.cls b.serial).bind fun p => p.markOf b.serial with
    | none => (s, refusal .unknownBlank)
    | some .voided =>
      (s, refusal (if s.issuedElsewhere w b.cls b.serial then .notYours else .alreadyVoided))
    | some .issued => s.voidIssued w b
    | some .unused | some .spoiled | some .advanced | some .missing | some .returned =>
      (s, refusal .notIssued)

/-- Step 1 of R154 (08); a declaration in progress is abandoned (09 R166). -/
def State.voidTicket (w : Window) (b : VoidBody) (s : State) : State × Reply :=
  match (s.session w).state, (s.session w).inProgress with
  | .none, _ => (s, refusal .noSession)
  | .declaring, some _ => (s.dropDeclaration w, refusal .declarationAbandoned)
  | .declaring, none => (s, refusal .sessionDeclaring)
  | .declared, _ => (s, refusal .sessionDeclaring)
  | .opened, _ => s.voidOpen w b

/-- VOID_TICKET (08 R154 to R157). -/
def execVoidTicket (p : Port) (tag : Byte) (body : Body VoidBody) (s : State) :
    Host.Outcome State Fault Refusal :=
  .next (s.windowRequest p tag .voidTicket body (fun _ => true) State.voidTicket)

/-! ## READ_SESSION (08 R144) -/

/-- The entries an answer carries: up to 12 from a first entry number, none without one (08 R144). A
first entry number of 0 gives them from entry 1: DEDUCED, unsafe (log entry 37). -/
def State.entriesFrom (s : State) (w : Window) (first : Option Nat) : List JournalEntry :=
  match first with
  | none => []
  | some n => ((s.entriesOf w).filter fun e => n ≤ e.number).take 12

def State.sessionView (s : State) (w : Window) (first : Option Nat) : SessionView where
  grants := s.grants[w]
  session := s.session w
  entryCount := (s.entriesOf w).length
  beforePowerOn := ((s.entriesOf w).filter (·.beforePowerOn)).length
  journalInUse := s.journalInUse
  journalReserved := s.journalReserved
  journalFree := s.journalFree
  entries := s.entriesFrom w first

def State.readSession (b : ReadSessionBody) (s : State) : State × Reply :=
  match windowOf b.window with
  | none => (s, refusal .badArgument)
  | some w => (s, accepted (.session (s.sessionView w b.firstEntry.join)))

/-- READ_SESSION (08 R144). -/
def execReadSession (p : Port) (tag : Byte) (body : Body ReadSessionBody) (s : State) :
    Host.Outcome State Fault Refusal :=
  .next (s.request p tag .readSession body (fun b => ownsWindow p b.window) ReadSessionBody.fits
    fun b t => t.readSession b)

end Sys2Proof.Machine
end

