-- ==== Sys2Proof/Machine/CashUp.lean ====
section
/-! DEFINITION. The cash-up (09): the declaration sequence, the result, COLLECT_CASHUP and
REOPEN_SESSION. -/

namespace Sys2Proof.Machine

/-! ## The declaration sequence (09 R161 to R166) -/

/-- Whether the window has a job in an active state (09 R161 step 3). -/
def State.hasActiveJob (s : State) (w : Window) : Bool :=
  allSlots.any fun k => ((s.job w k).map Job.isActive).getD false

/-- A new declaration in progress, its items none (09 R161, R162). -/
def State.beginSequence (s : State) (w : Window) (n : Nat) : State :=
  s.setSession w { s.session w with state := .declaring, inProgress := some ⟨n, []⟩ }

def State.declareBegin (w : Window) (n : Nat) (s : State) : State × Reply :=
  match (s.session w).state with
  | .none => (s, refusal .noSession)
  | .declared => (s, refusal .alreadyDeclared)
  | .opened =>
    if n < 1 ∨ 4 < n then (s, refusal .badArgument)
    else if s.hasActiveJob w then (s, refusal .jobsOutstanding)
    else ((s.beginSequence w n).postSession w, accepted (.declaring n))
  | .declaring =>
    if n < 1 ∨ 4 < n then (s, refusal .badArgument)
    else (s.beginSequence w n, accepted (.declaring n))

/-- DECLARE_BEGIN (09 R161, R162). -/
def execDeclareBegin (p : Port) (tag : Byte) (n : Body Nat) (s : State) :
    Host.Outcome State Fault Refusal :=
  .next (s.windowRequest p tag .declareBegin n (fun _ => true) State.declareBegin)

/-- A request of the sequence on a session: without a declaration in progress it is refused by the
session's state (09 Table 9.3). -/
def State.inSequence (s : State) (w : Window)
    (take : DeclarationInProgress → State → State × Reply) : State × Reply :=
  match (s.session w).state, (s.session w).inProgress with
  | .none, _ => (s, refusal .noSession)
  | .declared, _ => (s, refusal .alreadyDeclared)
  | .opened, _ => (s, refusal .noDeclaration)
  | .declaring, none => (s, refusal .noDeclaration)
  | .declaring, some d => take d s

/-- The sequence abandoned by its own request (09 R165). -/
def State.abandonSequence (s : State) (w : Window) : State × Reply :=
  (s.dropDeclaration w, refusal .declarationAbandoned)

/-- An item appended (09 R163). -/
def State.appendItem (s : State) (w : Window) (d : DeclarationInProgress) (t : Tender)
    (amount : Nat) : State :=
  s.setSession w
    { s.session w with inProgress := some { d with items := d.items ++ [(t, amount)] } }

def State.declareItem (w : Window) (b : ItemBody) (s : State) : State × Reply :=
  s.inSequence w fun d s =>
    match b.tender with
    | none => (s, refusal .badArgument)
    | some t =>
      if Config.maxAmount < b.amount then (s, refusal .badArgument)
      else if d.expected ≤ d.items.length then s.abandonSequence w
      else if d.items.any fun i => i.1 == t then s.abandonSequence w
      else (s.appendItem w d t b.amount, accepted (.items (d.items.length + 1) d.expected))

/-- DECLARE_ITEM (09 R163, R165). -/
def execDeclareItem (p : Port) (tag : Byte) (body : Body ItemBody) (s : State) :
    Host.Outcome State Fault Refusal :=
  .next (s.windowRequest p tag .declareItem body (fun _ => true) State.declareItem)

/-! ## The result (07 R138 to R140; 09 R167, R168) -/

/-- A value for each tender. -/
def perTender {α : Type} (f : Tender → α) : PerTender α :=
  ⟨f .cash, f .card, f .warrant, f .voucher⟩

/-- Step 1 of R138 (07). -/
def Session.takings (x : Session) (t : Tender) : Nat := x.issued.get t - x.voided.get t

/-- The expected amount of a tender; the float counts as CASH (07 R138). -/
def Session.expectedAmount (x : Session) (t : Tender) : Nat :=
  if t = .cash then heldAdd (x.takings .cash) x.float else x.takings t

/-- The session's saturation flag once the expected amounts are computed (07 R138, 09 R167). -/
def Session.saturatedAfter (x : Session) : Bool :=
  x.saturated || heldOverflows (x.takings .cash) x.float

/-- The declared amount of a tender: its item's, or 0 where none names it (09 R167). -/
def DeclarationInProgress.amount (d : DeclarationInProgress) (t : Tender) : DeclaredAmount :=
  match d.items.find? fun i => i.1 == t with
  | some i => ⟨i.2, true⟩
  | none => ⟨0, false⟩

def DeclarationInProgress.declaration (d : DeclarationInProgress) (b : ConfirmBody) :
    Declaration :=
  ⟨perTender d.amount, b.voids, b.spoils⟩

/-- The figures of one tender; no variance where the session's flag is set (09 R168). -/
def tenderResult (expected declared tolerance : Nat) (saturated : Bool) : TenderResult :=
  let v := variance declared expected
  let c := classify v tolerance
  if saturated then ⟨expected, declared, tolerance, none, false⟩
  else ⟨expected, declared, tolerance, some (v, c), c != .within⟩

def Session.tenderResults (x : Session) (d : Declaration) (tolerances : PerTender Nat) :
    PerTender TenderResult :=
  perTender fun t =>
    tenderResult (x.expectedAmount t) (d.amounts.get t).amount (tolerances.get t) x.saturatedAfter

/-- The state of a result (09 R168, Table 9.4). -/
def resultState (saturated : Bool) (tenders : PerTender TenderResult) (voids spoils : Bool) :
    ResultState :=
  if saturated then .unreconcilable
  else if tenders.cash.flag || tenders.card.flag || tenders.warrant.flag || tenders.voucher.flag ||
      voids || spoils then .variance
  else .balanced

/-- The result of a confirmation (09 R168). -/
def Session.cashUp (x : Session) (d : Declaration) (tolerances : PerTender Nat) (at_ : Stamp) :
    CashUp :=
  let tenders := x.tenderResults d tolerances
  let voidsDiffer := d.voids != x.voidedCount
  let spoilsDiffer := d.spoils != x.spoiledCount
  { state := resultState x.saturatedAfter tenders voidsDiffer spoilsDiffer
    tenders := tenders
    voidedCount := x.voidedCount
    returnedVoids := d.voids
    voidsDiffer := voidsDiffer
    spoiledCount := x.spoiledCount
    returnedSpoils := d.spoils
    spoilsDiffer := spoilsDiffer
    saturated := x.saturatedAfter
    confirmed := at_
    reopens := x.reopens }

/-- The session a confirmation leaves (09 R168). -/
def Session.confirm (x : Session) (d : Declaration) (r : CashUp) : Session :=
  { x with
    state := .declared
    saturated := x.saturatedAfter
    inProgress := Option.none
    declaration := some d
    result := some r }

def State.confirm (s : State) (w : Window) (d : DeclarationInProgress) (b : ConfirmBody) :
    State × Reply :=
  let x := s.session w
  let r := x.cashUp (d.declaration b) s.limits.tolerances s.stamp
  ((s.setSession w (x.confirm (d.declaration b) r)).postSession w, accepted (.cashUp r))

def State.declareConfirm (w : Window) (b : ConfirmBody) (s : State) : State × Reply :=
  s.inSequence w fun d s =>
    if Config.journalSize < b.voids ∨ Config.journalSize < b.spoils then (s, refusal .badArgument)
    else if d.items.length < d.expected then s.abandonSequence w
    else s.confirm w d b

/-- DECLARE_CONFIRM (09 R164, R167, R168). -/
def execDeclareConfirm (p : Port) (tag : Byte) (body : Body ConfirmBody) (s : State) :
    Host.Outcome State Fault Refusal :=
  .next (s.windowRequest p tag .declareConfirm body (fun _ => true) State.declareConfirm)

/-! ## COLLECT_CASHUP (09 R170; 08 R146) -/

/-- The number of a session's entries of one kind. -/
def State.countEntries (s : State) (w : Window) (k : EntryKind) : Nat :=
  ((s.entriesOf w).filter fun e => e.data.kind == k).length

/-- The number of a session's entries that name a pack (08 R146). -/
def State.entriesNaming (s : State) (w : Window) (pack : Nat) : Nat :=
  ((s.entriesOf w).filter fun e => e.data.pack == pack).length

/-- The packs a session's entries name, each once, with the number of entries naming it (09 R170), in
the order of each pack's last entry: DESIGN CHOICE, unsafe (log entry 38). -/
def State.perPack (s : State) (w : Window) : List (Nat × Nat) :=
  ((s.entriesOf w).map fun e => e.data.pack).dedup.map fun n => (n, s.entriesNaming w n)

def State.collected (s : State) (w : Window) : CollectedCashUp where
  session := s.session w
  issues := s.countEntries w .issue
  voids := s.countEntries w .void
  spoils := s.countEntries w .spoil
  beforePowerOn := ((s.entriesOf w).filter (·.beforePowerOn)).length
  perPack := s.perPack w

/-- The session's entries freed, and the packs' references lowered; STOCK_CHANGE where a pack's
references change (09 R170 step 2). -/
def State.freeEntries (s : State) (w : Window) : State :=
  let t : State :=
    { s with
      journal := s.journal.filter fun e => e.window != w
      journalInUse := s.journalInUse - (s.entriesOf w).length
      packs := s.packs.map fun p =>
        { p with references := p.references - s.entriesNaming w p.number } }
  if s.packs.any fun p => 0 < s.entriesNaming w p.number then t.postStock else t

def State.collectCashup (n : Nat) (s : State) : State × Reply :=
  match windowOf n with
  | none => (s, refusal .badArgument)
  | some w =>
    if (s.session w).state ≠ .declared then (s, refusal .notDeclared)
    else
      (((s.freeEntries w).setSession w .none).postSession w,
        accepted (.collected (s.collected w)))

/-- COLLECT_CASHUP (09 R170). -/
def execCollectCashup (p : Port) (tag : Byte) (window : Body Nat) (s : State) :
    Host.Outcome State Fault Refusal :=
  .next (s.plainRequest p tag .collectCashup window (fun _ => true) fun n t => t.collectCashup n)

/-! ## REOPEN_SESSION (09 R172) -/

def Session.reopened (x : Session) : Session :=
  { x with
    state := .opened
    reopens := held255 (x.reopens + 1)
    declaration := Option.none
    result := Option.none }

def State.reopenSession (n : Nat) (s : State) : State × Reply :=
  match windowOf n with
  | none => (s, refusal .badArgument)
  | some w =>
    if (s.session w).state ≠ .declared then (s, refusal .notDeclared)
    else
      ((s.setSession w (s.session w).reopened).postSession w,
        accepted (.reopened (s.session w).reopened.reopens))

/-- REOPEN_SESSION (09 R172). -/
def execReopenSession (p : Port) (tag : Byte) (window : Body Nat) (s : State) :
    Host.Outcome State Fault Refusal :=
  .next (s.plainRequest p tag .reopenSession window (fun _ => true) fun n t => t.reopenSession n)

end Sys2Proof.Machine
end

