-- ==== Sys2Proof/Machine/LaneOps.lean ====
section
/-! DEFINITION. What a lane does, as operations the lane events, the pack requests, the recovery
requests and power-on share (04, and 10 R180): holding and claiming, feeds, verification, strobes,
cut completion, faults, priming and the cabinet. -/

namespace Sys2Proof.Machine

/-! ## The pack under a lane -/

/-- The record of the lane's mounted pack. -/
def State.mounted (s : State) (l : LaneId) : Option Pack := (s.lane l).pack.bind s.findPack

/-- The stock class of the lane's mounted pack; 0 where it has none, which no ticket meets. -/
def State.mountedClass (s : State) (l : LaneId) : Nat := ((s.mounted l).map Pack.cls).getD 0

/-- The mounted pack's count of UNUSED blanks (04 R68). -/
def State.remaining (s : State) (l : LaneId) : Nat := ((s.mounted l).map Pack.remaining).getD 0

/-- The expected serial: the lowest UNUSED serial at or after the position (04 R68). -/
def State.expected (s : State) (l : LaneId) : Option Nat :=
  (s.mounted l).bind fun p => p.lowestUnused (s.lane l).position

/-- What step 2 of R74 and of R75 takes for a remaining count of 0 (04 R68). -/
def State.stockOut (s : State) (l : LaneId) : Bool :=
  s.remaining l == 0 || (s.expected l).isNone

/-! ## IDLE, HOLDING and the lock -/

/-- A locked lane at a point that would send it to IDLE or HOLDING (04 R72). The flag and the
advances are cleared as at a fault (log entry 14). -/
def Lane.lockedIn (x : Lane) : Lane :=
  { x with state := .faulted, causes := .empty, holdAfter := false, advances := 0 }

/-- HOLDING with the causes given; the hold-after-ticket flag and the advances are used up (04 R78,
R84, R88). -/
def Lane.heldFor (x : Lane) (c : HoldCauses) : Lane :=
  { x with state := .holding, causes := c, holdAfter := false, advances := 0 }

/-- The lane enters HOLDING, or FAULTED where a report locks it (04 R72). -/
def State.enterHolding (s : State) (l : LaneId) (c : HoldCauses) : State :=
  s.moveLane l fun x => if s.isLocked l then x.lockedIn else x.heldFor c

/-- The lane enters IDLE and sends its claim request, or enters FAULTED where a report locks it
(04 R72, R78; 03 R54). -/
def State.enterIdle (s : State) (l : LaneId) : State :=
  s.moveLane l fun x =>
    if s.isLocked l then x.lockedIn else Lane.claiming { x with state := .idle } s.powerFail

/-! ## A ticket ended before its cut completion (10 R180) -/

/-- The lane lets go of its ticket: composer IDLE, in-flight record and job cleared (02 R38). -/
def Lane.endTicket (x : Lane) (head : HeadStatus) : Lane :=
  { x with composer := .idle, inflight := none, job := none, head := head }

/-- The SPOIL entry of a ticket (08 R153). -/
def InFlight.spoilEntry (r : InFlight) (cls pack : Nat) : EntryData :=
  ⟨.spoil, cls, r.serial, pack, 0, none, r.quantity, r.form, r.slot⟩

/-- The ISSUE entry of a ticket (08 R152). -/
def InFlight.issueEntry (r : InFlight) (cls pack : Nat) : EntryData :=
  ⟨.issue, cls, r.serial, pack, r.value, some r.tender, r.quantity, r.form, r.slot⟩

/-- A ticket spoiled: the mark, the SPOIL entry, the job, and the lane's record, in that order
(04 R83, 10 R180). -/
def State.spoilTicket (s : State) (l : LaneId) (r : InFlight) (reason : OutcomeReason) : State :=
  let cls := s.mountedClass l
  let pack := (s.lane l).pack.getD 0
  let t := s.changeMark cls r.serial .spoiled
  let t := t.writeJobEntry r.window r.slot (r.spoilEntry cls pack)
  let t := t.spoilJob r.window r.slot reason cls r.serial
  t.moveLane l fun x => x.endTicket .notPositioned

/-- The in-flight record settled at a fault or a purge (10 R180). -/
def State.settle (s : State) (l : LaneId) : State :=
  match (s.lane l).inflight with
  | none => s
  | some r =>
    if r.begun then s.spoilTicket l r .mechanical
    else (s.handBack r.window r.slot).moveLane l fun x => x.endTicket x.head

/-- The operation in progress or deferred is given up, and its timer stopped. -/
def Lane.stopped (x : Lane) : Lane := { x with awaiting := none, deferred := none }

/-- A lane fault: timer stopped, ticket settled, report raised, FAULTED (04 R72, 10 R177, R180). The
context is the caller's, taken before the settling. -/
def State.laneFault (s : State) (l : LaneId) (k : FaultKind) (c : FaultContext) : State :=
  ((((s.moveLane l Lane.stopped).settle l).raiseLane l k c)).moveLane l Lane.lockedIn

/-- The context of a fault of the stock: the pack and the expected serial (10 Table 10.2). -/
def State.stockContext (s : State) (l : LaneId) : FaultContext :=
  { pack := (s.lane l).pack, expected := s.expected l }

/-- The context of a fault of a ticket: pack, serial, job and, for a stalled head, the line
(10 Table 10.2). -/
def State.ticketContext (s : State) (l : LaneId) (line : Option Nat) : FaultContext :=
  { pack := (s.lane l).pack, serial := (s.lane l).inflight.map (·.serial),
    job := (s.lane l).job, line := line }

/-! ## Feeds (04 R75) -/

/-- Step 1 of a feed attempt: a VERIFIED blank that still holds UNUSED is marked ADVANCED. -/
def State.advanceHead (s : State) (l : LaneId) : State :=
  match (s.lane l).head with
  | .verified r =>
    if ((s.mounted l).bind fun p => p.markOf r) = some .unused then
      (s.changeMark (s.mountedClass l) r .advanced).moveLane l fun x =>
        { x with head := .notPositioned }
    else s
  | _ => s

/-- Steps 4 and 5: the stock-present input sampled, and the feed issued. -/
def State.issueFeed (s : State) (l : LaneId) : State :=
  if !(s.lane l).stockPin && 0 < s.remaining l then
    s.laneFault l .stockDiscrepancy { s.stockContext l with reason := some .stockAbsent }
  else
    s.moveLane l fun x =>
      { x with head := .notPositioned, awaiting := some .feed, deferred := none }

/-- A feed attempt, or a ticket's end, that finds the remaining count at 0 (04 R78). -/
def State.stockOutEnd (s : State) (l : LaneId) : State :=
  s.moveLane l fun x =>
    if s.isLocked l then x.lockedIn
    else { x.heldFor ⟨x.holdAfter, true⟩ with head := .notPositioned }

/-- A feed attempt, in the state that makes it (04 R75). -/
def State.feedAttempt (s : State) (l : LaneId) : State :=
  let t := s.advanceHead l
  if t.stockOut l then t.stockOutEnd l
  else if t.powerFail then t.moveLane l fun x => { x with deferred := some .feed }
  else t.issueFeed l

/-! ## Verification (04 R76 to R78) -/

/-- A mark read requested. -/
def Lane.reading (x : Lane) : Lane := { x with awaiting := some .read }

/-- The end of an operation whose verification matched (04 R78, R88; 10 R185). -/
def State.endMatch (s : State) (l : LaneId) : State :=
  let x := s.lane l
  if s.isLocked l then s.moveLane l Lane.lockedIn
  else if x.holdAfter then s.enterHolding l ⟨true, false⟩
  else if x.state = .advancing ∧ 1 < x.advances then
    (s.moveLane l fun y => { y with advances := y.advances - 1 }).feedAttempt l
  else (s.moveLane l fun y => { y with advances := 0 }).enterIdle l

/-- The blank under the head accepted: VERIFIED, and the position its serial (04 R67, R68). -/
def Lane.verify (x : Lane) (serial : Nat) : Lane :=
  { x with head := .verified serial, position := serial }

/-- A serial read ahead of the expected one, in the pack's range and UNUSED (04 R77). -/
def State.readsAhead (s : State) (l : LaneId) (cls serial e : Nat) : Bool :=
  match s.mounted l with
  | some p =>
    cls == p.cls && e < serial && p.inRange serial && p.markOf serial == some .unused
  | none => false

/-- A read ahead: the run passed over marked MISSING, the blank VERIFIED, STOCK_DISCREPANCY raised
(04 R77). -/
def State.readAhead (s : State) (l : LaneId) (cls serial e : Nat) : State :=
  let run := match s.mounted l with
    | some p => p.unusedIn e (serial - 1)
    | none => []
  ((s.markUnused cls .missing run).moveLane l fun x => x.verify serial).laneFault l
    .stockDiscrepancy
    { reason := some .readAhead, pack := (s.lane l).pack, expected := some e,
      readSerial := some serial, markedMissing := some run.length }

/-- The head after a failed read, MARK_UNREADABLE or WRONG_STOCK (04 R67, R77). -/
def Lane.unverified (x : Lane) : Lane := { x with head := .unverified }

/-- WRONG_STOCK (04 R67, R77). -/
def State.wrongStock (s : State) (l : LaneId) (cls serial : Nat) : State :=
  (s.moveLane l Lane.unverified).laneFault l .wrongStock
    { s.stockContext l with readClass := some cls, readSerial := some serial }

/-- A good read compared with the mounted pack and the expected serial (04 R77). With no serial
expected there is nothing to match (log entry 22). -/
def State.compareRead (s : State) (l : LaneId) (cls serial : Nat) : State :=
  match s.expected l with
  | some e =>
    if cls = s.mountedClass l ∧ serial = e then (s.moveLane l fun x => x.verify serial).endMatch l
    else if s.readsAhead l cls serial e then s.readAhead l cls serial e
    else s.wrongStock l cls serial
  | none => s.wrongStock l cls serial

/-- A failed read: a new request, or MARK_UNREADABLE at the third; in both the head is left
POSITIONED_UNVERIFIED (04 R67, R76). -/
def State.failedRead (s : State) (l : LaneId) : State :=
  let n := (s.lane l).failedReads + 1
  if n < 3 then s.moveLane l fun x => Lane.reading { x.unverified with failedReads := n }
  else
    (s.moveLane l fun x => { x.unverified with failedReads := 3 }).laneFault l .markUnreadable
      (s.stockContext l)

/-! ## Printing and the cut (04 R79 to R84) -/

/-- The supplied lines of the lane's job, as the record holds them now (02 R36). -/
def State.linesFor (s : State) (l : LaneId) : List Text :=
  (((s.lane l).job.bind fun j => s.job j.1 j.2).map Job.lines).getD []

/-- The line composed and put out, printing-begun set, the strobe issued (04 R80). -/
def Lane.strobe (x : Lane) (lines : List Text) : Lane :=
  let r := x.composer.compose lines x.line
  { x with
    inflight := x.inflight.map fun f => { f with begun := true }
    composer := r.1
    printData := some r.2
    awaiting := some .strobe
    deferred := none }

/-- The line due printed, or deferred while the power-fail warning is asserted (04 R80, R89). -/
def State.strobeLine (s : State) (l : LaneId) : State :=
  if s.powerFail then s.moveLane l fun x => { x with deferred := some .strobe }
  else s.moveLane l fun x => x.strobe (s.linesFor l)

/-- The line count of the ticket under way. -/
def Lane.lineCount (x : Lane) : Nat := (x.composer.copy.map FormDef.lineCount).getD 0

/-- Head-ready taken: the next line, or the cut (04 R80, R81). -/
def State.afterStrobe (s : State) (l : LaneId) : State :=
  let x := s.lane l
  if x.line + 1 < x.lineCount then
    (s.moveLane l fun y => { y with line := y.line + 1, awaiting := none }).strobeLine l
  else s.moveLane l fun y => { y with state := .cutting, awaiting := some .cut }

/-- The attempt count of a job, for its DONE notice (03 R58). -/
def State.attemptsOf (s : State) (w : Window) (k : SlotId) : Nat :=
  ((s.job w k).map Job.attempts).getD 0

/-- A ticket issued: the mark, the ISSUE entry, the job, and the lane's record, in that order
(04 R82). -/
def State.issueTicket (s : State) (l : LaneId) (r : InFlight) : State :=
  let cls := s.mountedClass l
  let pack := (s.lane l).pack.getD 0
  let t := s.changeMark cls r.serial .issued
  let t := t.writeJobEntry r.window r.slot (r.issueEntry cls pack)
  let t := t.endJob r.window r.slot .done
    ⟨.done, .none, s.attemptsOf r.window r.slot, cls, r.serial, r.value⟩
  t.moveLane l fun x => x.endTicket .notPositioned

/-- What comes after a commit or a spoil (04 R84). -/
def State.afterTicket (s : State) (l : LaneId) : State :=
  if (s.lane l).holdAfter then s.enterHolding l ⟨true, s.remaining l == 0⟩
  else if s.remaining l = 0 then s.stockOutEnd l
  else (s.moveLane l fun x => { x with state := .feeding }).feedAttempt l

/-- Cut completion: the ticket is issued or spoiled as the composer's mark decides (04 R81 to
R84). -/
def State.cutCompletion (s : State) (l : LaneId) : State :=
  let t := s.moveLane l fun x => { x with awaiting := none }
  match (s.lane l).inflight with
  | none => t
  | some r =>
    (if (s.lane l).composer.lostLine then t.spoilTicket l r .lostLine
     else t.issueTicket l r).afterTicket l

/-- What a lane starts a ticket with (04 R79, 02 R32). A claim request it has sent since the one this
job answers is withdrawn, since a lane has at most one job: DEDUCED, unsafe (log entry 13). -/
def Lane.startTicket (x : Lane) (h : Handed) (d : FormDef) (cls serial : Nat) (at_ : ClockStamp)
    (mark : Byte) : Lane :=
  { x with
    state := .printing
    claimSent := false
    job := some (h.window, h.slot)
    line := 0
    inflight := some
      ⟨h.window, h.slot, h.form, h.quantity, serial, h.value, h.tender, h.reserved, false⟩
    composer := Composer.begin d (serialStamp cls serial) (timeStamp at_)
      (priceText mark h.value) h.declared }

/-- The definition a handed job is printed by, where its class is that of the mounted pack
(03 R52; 04 R79; log entry 13). -/
def State.handedDef (s : State) (l : LaneId) (h : Handed) : Option FormDef :=
  match (s.form h.form).bound h.generation with
  | some d => if some d.cls = (s.mounted l).map Pack.cls then some d else none
  | none => none

/-! ## The cabinet (04 R85 to R87) -/

/-- CABINET_OPEN raised; it has no context (10 Table 10.2). -/
def State.raiseCabinet (s : State) (l : LaneId) : State := s.raiseLane l .cabinetOpen {}

/-- The effect of an observed opening, by the lane's state (04 R85, R86). -/
def State.observeOpening (s : State) (l : LaneId) : State :=
  let t := s.moveLane l fun x => { x with cabinetSeen := .opened }
  match (s.lane l).state with
  | .offline => t
  | .idle => (t.raiseCabinet l).enterHolding l ⟨true, false⟩
  | .holding =>
    (t.raiseCabinet l).moveLane l fun x =>
      { x with causes := { x.causes with cabinetOpen := true } }
  | .faulted => t.raiseCabinet l
  | .priming | .feeding | .verifying | .advancing | .purging | .printing | .cutting =>
    (t.raiseCabinet l).moveLane l fun x => { x with holdAfter := true }

/-! ## Priming (04 R74) -/

/-- Step 1: an opening found at the sample is observed. -/
def State.sampleAtPriming (s : State) (l : LaneId) : State :=
  let x := s.lane l
  if x.cabinetPin = .opened ∧ x.cabinetSeen = .locked then
    (s.moveLane l fun y => { y with cabinetSeen := .opened }).raiseCabinet l
  else s

/-- The start of priming: cabinet and stock sampled, then HOLDING, a feed or a read. -/
def State.startPriming (s : State) (l : LaneId) : State :=
  let t := s.sampleAtPriming l
  let c : HoldCauses := ⟨(s.lane l).cabinetPin == .opened, t.stockOut l⟩
  if c.cabinetOpen || c.stockOut then t.enterHolding l c
  else if (t.lane l).head = .notPositioned then
    (t.moveLane l fun x => { x with state := .feeding, causes := .empty }).feedAttempt l
  else
    t.moveLane l fun x =>
      Lane.reading { x with state := .priming, causes := .empty, failedReads := 0 }

/-- The effect of a relock, by the lane's state (04 R87). R87 names no effect for IDLE, which a lane
primed with the input already locked may have reached before this event: the state stands, as in
OFFLINE and FAULTED: DEDUCED, unsafe (log entry 47). -/
def State.relock (s : State) (l : LaneId) : State :=
  let t := (s.moveLane l fun x => { x with cabinetSeen := .locked }).selfClear l
  match (s.lane l).state with
  | .holding =>
    let u := t.moveLane l fun x => { x with causes := { x.causes with cabinetOpen := false } }
    if (u.lane l).causes = .empty then u.startPriming l else u
  | .priming | .feeding | .verifying | .advancing | .purging | .printing | .cutting =>
    t.moveLane l fun x => { x with holdAfter := false }
  | .idle | .offline | .faulted => t

end Sys2Proof.Machine
end

