-- ==== Sys2Proof/Machine/Packs.lean ====
section
/-! DEFINITION. The Stock Unit's pack commands (05): DECLARE_PACK, MOUNT_PACK, WITHDRAW_PACK,
COLLECT_PACK and READ_PACK. -/

namespace Sys2Proof

/-- The pack's last serial. -/
def PackBody.last (b : PackBody) : Nat := b.first + b.count - 1

/-- Arguments of a declaration in range (05 R98 step 1). -/
def PackBody.inRange (b : PackBody) : Bool :=
  b.cls ≤ 3 && (1 ≤ b.count && b.count ≤ 1000) && (1 ≤ b.first && b.first ≤ Config.maxSerial) &&
  b.last ≤ Config.maxSerial && b.excluded.length ≤ 8 &&
  b.excluded.all (fun r => b.first ≤ r && r ≤ b.last) && decide b.excluded.Nodup

namespace Machine

/-! ## The pack table -/

/-- A pack record and its marks agree (05 R93): one mark for each blank, and seven counters that
count them. -/
def Pack.wf (p : Pack) : Bool :=
  p.marks.length == p.count &&
  [Mark.unused, .issued, .voided, .spoiled, .advanced, .missing, .returned].all fun m =>
    p.counters.get m == p.marks.count m

/-- The blank table's entries in use (05 R95). -/
def State.entriesUsed (s : State) : Nat := (s.packs.map Pack.count).sum

def State.entriesFree (s : State) : Nat := Config.blankEntries - s.entriesUsed

/-- Two runs of serials of one class that share a serial (05 R95). -/
def Pack.overlaps (p : Pack) (cls first last : Nat) : Bool :=
  p.cls == cls && p.first ≤ last && first < p.first + p.count

/-- Whether a census holds back every structural request (05 R110). -/
def Census.blocksAll (c : Census) : Bool := c.state == .running || c.state == .suspending

/-- Whether a census holds back a structural request on this pack (05 R110). -/
def Census.blocks (c : Census) (pack : Nat) : Bool :=
  c.blocksAll || (c.state == .suspended && c.pack == pack)

/-! ## DECLARE_PACK (05 R97 to R99) -/

/-- The record of a pack taken into the table (05 R99). -/
def PackBody.record (b : PackBody) (number : Nat) : Pack where
  number := number
  cls := b.cls
  first := b.first
  count := b.count
  excluded := b.excluded
  state := .declared
  lane := none
  counters :=
    { MarkCounts.zero with
      unused := b.count - b.excluded.length, missing := b.excluded.length }
  sequence := 0
  references := 0
  verdict := .none
  marks := (List.range b.count).map fun i =>
    if b.excluded.contains (b.first + i) then .missing else .unused

/-- The number a taken declaration gives (05 R96). -/
def State.packNumber (s : State) : Nat := freeNumber (s.packs.map Pack.number) 17 s.nextPack

def State.addPack (s : State) (b : PackBody) : State :=
  State.postStock
    { s with
      packs := s.packs ++ [PackBody.record b s.packNumber]
      nextPack := nextNumber s.packNumber }

def State.declarePack (b : PackBody) (s : State) : State × Reply :=
  if !b.inRange then (s, refusal .badArgument)
  else if s.census.blocksAll then (s, refusal .censusBusy)
  else if s.packs.any fun p => p.overlaps b.cls b.first b.last then (s, refusal .overlap)
  else if Config.packPlaces ≤ s.packs.length ∨ Config.blankEntries < s.entriesUsed + b.count then
    (s, refusal .noRoom)
  else
    let t := s.addPack b
    (t, accepted (.packDeclared s.packNumber t.entriesFree))

/-- DECLARE_PACK (05 R97 to R99). -/
def execDeclarePack (p : Port) (tag : Byte) (body : Body PackBody) (s : State) :
    Host.Outcome State Fault Refusal :=
  .next (s.plainRequest p tag .declarePack body (fun _ => true) fun b t => t.declarePack b)

/-! ## MOUNT_PACK (05 R100, R101; 04 R73) -/

/-- The lane's record as a mount sets it (04 R73). -/
def Lane.mount (x : Lane) (pack first : Nat) : Lane :=
  { x with
    pack := some pack
    position := first
    head := .unverified
    failedReads := 0
    advances := 0
    holdAfter := false
    causes := .empty }

def State.bindPack (s : State) (p : Pack) (l : LaneId) : State :=
  ((s.updatePack p.number fun q => { q with state := .mounted, lane := some l }).moveLane l
    fun x => x.mount p.number p.first).startPriming l

/-- The pack's lowest UNUSED serial as an answer gives it: zero where it has none, as READ_PACK says (05
R113). MOUNT_PACK gives it so too: DEDUCED, unsafe (log entry 51). -/
def Pack.givenUnused (p : Pack) : Nat := givenOrZero (p.lowestUnused p.first) id

/-- The first check of a mount that fails, the lane apart (05 R100 steps 3 and 4). -/
def State.mountRefusal (s : State) (p : Pack) : Option ResultCode :=
  if p.state = .mounted then some .packMounted
  else if p.state = .withdrawn then some .packWithdrawn
  else if s.census.blocks p.number then some .censusBusy
  else none

def State.mountPack (b : MountBody) (s : State) : State × Reply :=
  match laneOf b.lane with
  | none => (s, refusal .badArgument)
  | some l =>
    match s.findPack b.pack with
    | none => (s, refusal .noPack)
    | some p =>
      match s.mountRefusal p with
      | some c => (s, refusal c)
      | none =>
        match (s.lane l).state with
        | .faulted => (s.countRefusal l, refusal .laneLocked)
        | .offline => (s.bindPack p l, accepted (.packMounted p.first p.givenUnused))
        | _ => (s, refusal .laneBusy)

/-- MOUNT_PACK (05 R100, R101). -/
def execMountPack (p : Port) (tag : Byte) (body : Body MountBody) (s : State) :
    Host.Outcome State Fault Refusal :=
  .next (s.plainRequest p tag .mountPack body (fun _ => true) fun b t => t.mountPack b)

/-! ## WITHDRAW_PACK (05 R102 to R105; 04 R73) -/

/-- The state a mode leaves a pack in, and the mark it gives the UNUSED blanks (05 R104). -/
def withdrawnState : WithdrawMode → PackState
  | .park => .parked
  | .returnStock => .withdrawn
  | .missing => .withdrawn

def withdrawnMark : WithdrawMode → Option Mark
  | .park => none
  | .returnStock => some .returned
  | .missing => some .missing

/-- The blanks a mode marks (05 R104). -/
def Pack.toMark (p : Pack) (m : WithdrawMode) : List Nat :=
  match withdrawnMark m with
  | some _ => p.unusedIn p.first (p.first + p.count - 1)
  | none => []

/-- The mode applied to a pack: its state and lane first, so that no stock-low test is made, then
the marks (05 R103, R104). -/
def State.applyMode (s : State) (p : Pack) (m : WithdrawMode) : State :=
  let t := s.updatePack p.number fun q => { q with state := withdrawnState m, lane := none }
  match withdrawnMark m with
  | some mark => t.markUnused p.cls mark (p.toMark m)
  | none => t

/-- The answer of a taken withdrawal (05 R103). -/
def State.withdrawAnswer (s : State) (p : Pack) (m : WithdrawMode) : Reply :=
  accepted (.packWithdrawn p.number (withdrawnState m) (p.toMark m).length
    (((s.findPack p.number).map Pack.counters).getD .zero))

/-- The lane's record as a withdrawal sets it, its operation stopped before (04 R73). DEDUCED, unsafe:
the advances left are 0, and the position, the failed reads and the hold-after-ticket flag stand
(log entry 15). -/
def Lane.unmount (x : Lane) : Lane :=
  { x with
    pack := none
    inflight := none
    head := .notPositioned
    causes := .empty
    advances := 0
    state := .offline }

/-- An operation a withdrawal may not cut short (05 R102 step 3). -/
def Lane.refusesWithdrawal (x : Lane) : Bool :=
  x.state == .printing || x.state == .cutting || x.awaiting == some .feed ||
  x.deferred == some .feed || x.inflight.isSome

/-- The lane's operation stopped, the mode applied, and the lane unmounted: steps 1 and 2 of R103
(05), which post nothing before step 4. -/
def State.releaseLane (s : State) (l : LaneId) (p : Pack) (m : WithdrawMode) : State :=
  s.unposted fun t => ((t.moveLane l Lane.stopped).applyMode p m).moveLane l Lane.unmount

/-- A taken withdrawal by lane, in the order of R103 (05): the lane released, its reports cleared,
STOCK_CHANGE and LANE_CHANGE posted. -/
def State.withdrawLane (s : State) (l : LaneId) (p : Pack) (m : WithdrawMode) : State :=
  (((s.releaseLane l p m).clearByWithdrawal l).postStock).postLane l

def State.withdrawFromLane (n : Nat) (m : WithdrawMode) (s : State) : State × Reply :=
  match laneOf n with
  | none => (s, refusal .badArgument)
  | some l =>
    match s.mounted l with
    | none => (s, refusal .noPack)
    | some p =>
      if s.census.blocks p.number then (s, refusal .censusBusy)
      else if (s.lane l).refusesWithdrawal then (s, refusal .laneBusy)
      else
        let t := s.withdrawLane l p m
        (t, t.withdrawAnswer p m)

def State.withdrawByNumber (n : Nat) (m : WithdrawMode) (s : State) : State × Reply :=
  match s.findPack n with
  | none => (s, refusal .noPack)
  | some p =>
    if p.state = .mounted then (s, refusal .packMounted)
    else if p.state = .withdrawn then (s, refusal .packWithdrawn)
    else if m = .park then (s, refusal .badArgument)
    else if s.census.blocks p.number then (s, refusal .censusBusy)
    else
      let t := s.applyMode p m
      (t, t.withdrawAnswer p m)

def State.withdrawPack (b : WithdrawBody) (s : State) : State × Reply :=
  match b.mode with
  | none => (s, refusal .badArgument)
  | some m =>
    match b.target with
    | .lane n => s.withdrawFromLane n m
    | .pack n => s.withdrawByNumber n m

/-- WITHDRAW_PACK (05 R102 to R105). -/
def execWithdrawPack (p : Port) (tag : Byte) (body : Body WithdrawBody) (s : State) :
    Host.Outcome State Fault Refusal :=
  .next (s.plainRequest p tag .withdrawPack body (fun _ => true) fun b t => t.withdrawPack b)

/-! ## COLLECT_PACK (05 R107, R108) -/

def State.removePack (s : State) (n : Nat) : State :=
  State.postStock { s with packs := s.packs.filter fun p => p.number != n }

/-- What the answer keeps of a collected pack (05 R108). -/
def Pack.final (p : Pack) : PackFinal :=
  ⟨p.number, p.cls, p.first, p.count, p.excluded, p.counters, p.sequence⟩

def State.collectPack (n : Nat) (s : State) : State × Reply :=
  match s.findPack n with
  | none => (s, refusal .noPack)
  | some p =>
    if s.census.blocks p.number then (s, refusal .censusBusy)
    else if p.state ≠ .withdrawn then (s, refusal .notWithdrawn)
    else if 0 < p.references then (s, ⟨.packReferenced, .references p.references⟩)
    else if p.verdict ≠ .matched then (s, refusal .censusNeeded)
    else (s.removePack n, accepted (.packCollected p.final))

/-- COLLECT_PACK (05 R107, R108). -/
def execCollectPack (p : Port) (tag : Byte) (pack : Body Nat) (s : State) :
    Host.Outcome State Fault Refusal :=
  .next (s.plainRequest p tag .collectPack pack (fun _ => true) fun n t => t.collectPack n)

/-! ## READ_PACK (05 R113) -/

def Pack.summary (p : Pack) : PackSummary := ⟨p.number, p.cls, p.state, p.lane⟩

/-- The summaries in ascending pack number. -/
def State.packSummaries (s : State) : List PackSummary :=
  (s.packs.map Pack.summary).insertionSort fun a b => a.number ≤ b.number

/-- The record as READ_PACK shows it (05 R113). -/
def Pack.view (p : Pack) : PackView :=
  ⟨p.number, p.cls, p.first, p.count, p.excluded, p.state, p.lane, p.counters, p.sequence,
   p.references, p.verdict⟩

def Pack.readReply (p : Pack) (serial : Option Nat) : Reply :=
  match serial with
  | none => accepted (.packRecord p.view p.givenUnused none)
  | some r =>
    if p.inRange r then accepted (.packRecord p.view p.givenUnused (p.markOf r))
    else refusal .badArgument

/-- A serial given with pack number 0 is ignored: DEDUCED, unsafe (log entry 35). -/
def State.readPack (b : ReadPackBody) (s : State) : State × Reply :=
  if b.pack = 0 then
    (s, accepted (.packTable s.packSummaries s.entriesUsed s.entriesFree s.nextPack))
  else
    match s.findPack b.pack with
    | none => (s, refusal .noPack)
    | some p => (s, p.readReply b.serial)

/-- READ_PACK (05 R113). -/
def execReadPack (p : Port) (tag : Byte) (body : Body ReadPackBody) (s : State) :
    Host.Outcome State Fault Refusal :=
  .next (s.plainRequest p tag .readPack body (fun _ => true) fun b t => t.readPack b)

end Machine

end Sys2Proof
end

