-- ==== Sys2Proof/Machine/Census.lean ====
section
/-! DEFINITION. The census unit's commands (06): START_CENSUS, SUSPEND_CENSUS, RESUME_CENSUS,
STOP_CENSUS, READ_CENSUS and the entry step. -/

namespace Sys2Proof.Machine

/-! ## The range and its blocks (06 R119) -/

/-- The number of blocks in a range. -/
def blockCount (first last : Nat) : Nat :=
  (last + 1 - first + (Config.censusBlock - 1)) / Config.censusBlock

/-- The first serial of the current block. -/
def Census.blockFirst (c : Census) : Nat := c.first + Config.censusBlock * c.block

/-- The last serial of the current block. -/
def Census.blockLast (c : Census) : Nat :=
  min (c.blockFirst + (Config.censusBlock - 1)) c.last

/-- The census pack's mark-change sequence number, if the pack is in the table. -/
def State.censusSequence (s : State) : Option Nat := (s.findPack s.census.pack).map Pack.sequence

/-- A changed census unit whose state changes: CENSUS_CHANGE is posted (06 R116). -/
def State.moveCensus (s : State) (c : Census) : State := State.postCensus { s with census := c }

/-! ## START_CENSUS (06 R117, R118) -/

/-- The unit as START_CENSUS leaves it (06 R118). -/
def Census.started (b : CensusBody) (mode : CensusMode) (sequence : Nat) : Census :=
  { Census.cleared with
    state := .running
    pack := b.pack
    first := b.first
    last := b.last
    mode := mode
    search := b.search.bind fun m => m
    position := b.first
    startSequence := sequence }

/-- The unit is busy with a census (06 R117 step 2). -/
def Census.isBusy (c : Census) : Bool :=
  c.state == .running || c.state == .suspending || c.state == .suspended

/-- A range that is no run of the pack's serials (06 R117 step 4). -/
def Pack.badRange (p : Pack) (first last : Nat) : Bool :=
  last < first || !p.inRange first || !p.inRange last

def State.startCensus (b : CensusBody) (s : State) : State × Reply :=
  match b.mode with
  | none => (s, refusal .badArgument)
  | some mode =>
    if b.search = some none then (s, refusal .badArgument)
    else if s.census.isBusy then (s, refusal .censusBusy)
    else
      match s.findPack b.pack with
      | none => (s, refusal .noPack)
      | some p =>
        if p.badRange b.first b.last then (s, refusal .badRange)
        else
          (s.moveCensus (Census.started b mode p.sequence),
            accepted (.censusStarted (blockCount b.first b.last) p.sequence))

/-- START_CENSUS (06 R117, R118). -/
def execStartCensus (p : Port) (tag : Byte) (body : Body CensusBody) (s : State) :
    Host.Outcome State Fault Refusal :=
  .next (s.plainRequest p tag .startCensus body (fun _ => true) fun b t => t.startCensus b)

/-! ## Suspending, resuming and stopping (06 R123, R126, R127) -/

def State.suspendCensus (s : State) : State × Reply :=
  if s.census.state = .running then
    (s.moveCensus { s.census with state := .suspending },
      accepted (.censusSuspended s.census.block s.census.position))
  else (s, refusal .notRunning)

/-- SUSPEND_CENSUS (06 R123). -/
def execSuspendCensus (p : Port) (tag : Byte) (body : Body Unit) (s : State) :
    Host.Outcome State Fault Refusal :=
  .next (s.plainRequest p tag .suspendCensus body (fun _ => true) fun _ t => t.suspendCensus)

def State.resumeCensus (s : State) : State × Reply :=
  if s.census.state = .suspended then
    let n := s.censusSequence.getD s.census.startSequence
    (s.moveCensus { s.census with state := .running, startSequence := n },
      accepted (.censusResumed s.census.block s.census.position n))
  else (s, refusal .notSuspended)

/-- RESUME_CENSUS (06 R126). -/
def execResumeCensus (p : Port) (tag : Byte) (body : Body Unit) (s : State) :
    Host.Outcome State Fault Refusal :=
  .next (s.plainRequest p tag .resumeCensus body (fun _ => true) fun _ t => t.resumeCensus)

/-- The unit stopped: tally, counts and result discarded, the cause recorded (06 R127, R129). The fields
those rules do not name stand as they were: block index, position, abandoned flag, abandonment count,
start sequence, search mark and suspended-change flag: DEDUCED, unsafe (log entry 42). -/
def Census.stopped (c : Census) (cause : StopCause) : Census :=
  { c with
    state := .stopped
    tally := .zero
    tallyFound := none
    committed := .zero
    found := none
    result := none
    stopCause := some cause }

/-- The census unit at RESTART and STORE_REINITIALISE: stopped from any state but IDLE (06 R129). -/
def State.haltCensus (s : State) (cause : StopCause) : State :=
  if s.census.state = .idle then s else s.moveCensus (s.census.stopped cause)

def State.stopCensus (s : State) : State × Reply :=
  match s.census.state with
  | .idle => (s, refusal .noCensus)
  | .stopped => (s, accepted .bare)
  | .running | .suspending | .suspended | .done =>
    (s.moveCensus (s.census.stopped .office), accepted .bare)

/-- STOP_CENSUS (06 R127). -/
def execStopCensus (p : Port) (tag : Byte) (body : Body Unit) (s : State) :
    Host.Outcome State Fault Refusal :=
  .next (s.plainRequest p tag .stopCensus body (fun _ => true) fun _ t => t.stopCensus)

/-! ## READ_CENSUS (06 R128) -/

def Census.progress (c : Census) (sequence : Option Nat) : CensusProgress :=
  { state := c.state
    pack := c.pack
    first := c.first
    last := c.last
    mode := c.mode
    search := c.search
    blocks := blockCount c.first c.last
    block := c.block
    position := c.position
    committed := c.committed
    found := c.found
    tallied := c.tally.sum
    startSequence := c.startSequence
    packSequence := sequence
    abandoned := c.abandoned
    abandonments := c.abandonments
    suspendedChange := c.suspendedChange }

/-- READ_CENSUS's fields, by the census state; a unit DONE holds a result (06 R121). -/
def State.censusFields (s : State) : AnswerFields :=
  let c := s.census
  match c.state with
  | .idle => .censusIdle
  | .running | .suspending | .suspended => .censusProgress (c.progress s.censusSequence)
  | .done =>
    match c.result with
    | some r => .censusDone r ((s.findPack r.pack).map Pack.sequence)
    | none => .censusIdle
  | .stopped => .censusStopped c.pack c.first c.last c.mode c.stopCause

/-- READ_CENSUS (06 R128). -/
def execReadCensus (p : Port) (tag : Byte) (body : Body Unit) (s : State) :
    Host.Outcome State Fault Refusal :=
  .next (s.plainRequest p tag .readCensus body (fun _ => true) fun _ t =>
    (t, accepted t.censusFields))

/-! ## The entry step (06 R119 to R122, R124, R125) -/

/-- One entry read: tallied, its serial kept where it is the block's first match, and the position
moved on (06 R119). -/
def Census.readEntry (c : Census) (m : Mark) : Census :=
  { c with
    tally := c.tally.raise m
    tallyFound := c.tallyFound.or (if c.search = some m then some c.position else none)
    position := c.position + 1 }

/-- The block ended: its counts and its match committed (06 R119). -/
def Census.commitBlock (c : Census) : Census :=
  { c with
    committed := c.committed.add c.tally
    found := c.found.or c.tallyFound
    tally := .zero
    tallyFound := none
    abandoned := false
    block := c.block + 1 }

/-- A census of the pack's whole range (06 R122). -/
def Census.coversPack (c : Census) (p : Pack) : Bool :=
  c.first == p.first && c.last + 1 == p.first + p.count

/-- Whether the pack changed under the census (06 R121). -/
def Census.changed (c : Census) (sequence : Nat) : Bool :=
  sequence != c.startSequence || c.suspendedChange

/-- The verdict of a completed census (06 R122). -/
def Census.verdict (c : Census) (p : Pack) : Verdict :=
  if c.coversPack p && !c.changed p.sequence then
    if c.committed = p.counters then .matched else .mismatch
  else .none

/-- The result record (06 R121). -/
def Census.resultFor (c : Census) (p : Pack) : CensusResult :=
  { pack := c.pack
    first := c.first
    last := c.last
    mode := c.mode
    counts := c.committed
    found := c.found
    startSequence := c.startSequence
    endSequence := p.sequence
    changed := c.changed p.sequence
    abandonments := c.abandonments
    verdict := c.verdict p }

/-- A verdict kept in the pack, and a MISMATCH raised (06 R122; 05 R111; 10 R178). STOCK_CHANGE is posted
before FAULTS_CHANGE, an order the spec does not give: DESIGN CHOICE, unsafe (log entry 11). -/
def State.storeVerdict (s : State) (p : Pack) (v : Verdict) : State :=
  match v with
  | .none => s
  | .matched => s.updatePack p.number fun q => { q with verdict := .matched }
  | .mismatch =>
    (s.updatePack p.number fun q => { q with verdict := .mismatch }).raiseController
      .stockTableMismatch { pack := some p.number }

/-- The census completed with the unit `c` (06 R121, R122). CENSUS_CHANGE is posted after the notices of
the verdict, an order the spec does not give: DESIGN CHOICE, unsafe (log entry 11). The suspended-change
flag stands in DONE as it was: DEDUCED, unsafe (log entry 42). -/
def State.completeCensus (s : State) (p : Pack) (c : Census) : State :=
  (s.storeVerdict p (c.verdict p)).moveCensus
    { c with state := .done, result := some (c.resultFor p) }

/-- A suspension takes effect (06 R124, R125): a change made meanwhile is kept for the CHANGED
test. -/
def Census.suspendedAt (c : Census) (sequence : Nat) : Census :=
  { c with
    state := .suspended
    suspendedChange := c.suspendedChange || sequence != c.startSequence }

/-- The current block abandoned, where it has an entry read (06 R124). -/
def Census.abandonBlock (c : Census) : Census :=
  if c.position = c.blockFirst then c
  else
    { c with
      tally := .zero
      tallyFound := none
      abandoned := true
      abandonments := c.abandonments + 1
      position := c.blockFirst }

/-- What follows an entry read: the block's end, its suspension, or the census's completion
(06 R119, R121, R125). -/
def State.afterEntry (s : State) (p : Pack) (c : Census) (atEnd : Bool) : State :=
  if !atEnd then { s with census := c }
  else
    let d := c.commitBlock
    if d.last < d.position then s.completeCensus p d
    else if d.state = .suspending then s.moveCensus (d.suspendedAt p.sequence)
    else { s with census := d }

/-- A PROMPT suspension that takes effect in place of the step (06 R124). -/
def Census.yields (c : Census) : Bool :=
  c.state == .suspending && c.mode == .prompt && !c.abandoned

def State.entryStep (s : State) : State :=
  let c := s.census
  if c.state = .running ∨ c.state = .suspending then
    match s.findPack c.pack with
    | none => s
    | some p =>
      if c.yields then s.moveCensus (c.abandonBlock.suspendedAt p.sequence)
      else
        match p.markOf c.position with
        | none => s
        | some m => s.afterEntry p (c.readEntry m) (c.position == c.blockLast)
  else s

/-- CENSUS_ENTRY_STEP (06 R119 to R125). The census pack stays in the table while the unit scans
(05 R110), so its record is always found. -/
def execCensusEntryStep (s : State) : Host.Outcome State Fault Refusal :=
  .next (s.whenRunning State.entryStep)

end Sys2Proof.Machine
end

