-- ==== Sys2Proof/Machine/Ports.lean ====
section
/-! DEFINITION. The Port Unit's commands (01): the receiver events, FETCH_NOTICE and
SET_PERMISSIONS. -/

namespace Sys2Proof.Machine

/-! ## Receivers (01 R1 to R3) -/

/-- An answer made by the Port Unit itself, and where the receiver then stands (01 R2, R6). -/
def State.portAnswer (s : State) (p : Port) (kind tag : Byte) (c : ResultCode) (rx : Receiver) :
    State :=
  s.setPort p { s.port p with rx := rx, tx := some ⟨answerKind kind, tag, refusal c⟩ }

/-- A checked frame: what admission finds before the body's fields are read, or the frame held for
its request (01 R6 steps 1 to 3; log entry 4). -/
def State.admitFrame (s : State) (p : Port) (kind tag : Byte) (body : List Byte) : State :=
  match RequestKind.ofByte kind with
  | none => s.portAnswer p kind tag .unknownKind (.busy none)
  | some k =>
    if !k.admittedFrom p then s.portAnswer p kind tag .wrongPort (.busy none)
    else if k.emptyBody && !body.isEmpty then s.portAnswer p kind tag .malformed (.busy none)
    else s.setPort p { s.port p with rx := .busy (some ⟨k, tag, body⟩) }

/-- A complete frame (01 R2). -/
def State.completeFrame (s : State) (p : Port) (frame : List Byte) (damaged : Bool) : State :=
  if damaged || !frameAgrees frame then
    s.portAnswer p (frameKind frame) (frameTag frame) .frameRejected (.busy none)
  else s.admitFrame p (frameKind frame) (frameTag frame) (frameBody frame)

/-- A byte appended in RECEIVING: at the tag byte of an overlong frame the receiver rejects it and
drains, and at the last check byte the frame is complete (01 R1, R2). The quiet timer starts with
DRAINING (log entry 25). -/
def State.receiveByte (s : State) (p : Port) (frame : List Byte) (damaged : Bool) : State :=
  if frame.length = 5 ∧ Config.maxBody < frameLength frame then
    s.portAnswer p (frameKind frame) (frameTag frame) .frameRejected (.draining false false)
  else if 7 ≤ frame.length ∧ frame.length = frameLength frame + 7 then
    s.completeFrame p frame damaged
  else s.setPort p { s.port p with rx := .receiving frame damaged }

/-- PORT_BYTE_RECEIVED (01 R1 to R3). -/
def execPortByteReceived (p : Port) (b : Byte) (framingError : Bool) (s : State) :
    Host.Outcome State Fault Refusal :=
  .next <|
    match (s.port p).rx with
    | .hunting =>
      if b = syncByte ∧ framingError = false then
        s.setPort p { s.port p with rx := .receiving [b] false }
      else s
    | .receiving frame damaged => s.receiveByte p (frame ++ [b]) (damaged || framingError)
    | .draining sent _ => s.setPort p { s.port p with rx := .draining sent false }
    | .starting => s
    | .busy _ => s

/-- GAP_TIMER_EXPIRY: the gap timer runs in RECEIVING alone (01 R1). -/
def execGapTimerExpiry (p : Port) (s : State) : Host.Outcome State Fault Refusal :=
  .next <|
    match (s.port p).rx with
    | .receiving _ _ => s.setPort p { s.port p with rx := .hunting }
    | _ => s

/-- QUIET_TIMER_EXPIRY: DRAINING ends once the answer has been sent too (01 R2). -/
def execQuietTimerExpiry (p : Port) (s : State) : Host.Outcome State Fault Refusal :=
  .next <|
    match (s.port p).rx with
    | .draining true _ => s.setPort p { s.port p with rx := .hunting }
    | .draining false _ => s.setPort p { s.port p with rx := .draining false true }
    | _ => s

/-- Where a receiver stands once its answer has been sent (01 R2, R3). -/
def Receiver.afterAnswer : Receiver → Receiver
  | .busy _ => .hunting
  | .draining _ true => .hunting
  | .draining _ false => .draining true false
  | rx => rx

/-- ANSWER_SENT: the last byte of the answer has gone (01 R2, R3). -/
def execAnswerSent (p : Port) (s : State) : Host.Outcome State Fault Refusal :=
  .next <|
    if (s.port p).tx.isSome then
      s.setPort p { s.port p with tx := none, rx := (s.port p).rx.afterAnswer }
    else s

/-! ## FETCH_NOTICE (01 R15, R16; 03 R40) -/

/-- Whether a job has ended (03 Table 3.2). -/
def JobState.isTerminal : JobState → Bool
  | .done | .failed | .expired | .cancelled => true
  | .queued | .held | .printing | .retryWait => false

/-- A slot whose outcome notice has been fetched (03 R40). -/
def Slot.fetched (x : Slot) : Slot :=
  match x.job with
  | some j => if j.state.isTerminal then .empty else { x with unread := false }
  | none => { x with unread := false }

/-- The fetch report to the Job Table (01 R16). -/
def State.reportFetched (s : State) (p : Port) (n : Notice) : State :=
  match p, n.kind, n.object with
  | .window w, .slotOutcome, .slot k => s.setSlot w k (s.slot w k).fetched
  | _, _, _ => s

def State.fetchNotice (p : Port) (s : State) : State × Reply :=
  match (s.port p).queue with
  | [] => (s, refusal .none)
  | n :: rest =>
    ((s.setPort p { s.port p with queue := rest }).reportFetched p n, accepted (.notice n))

/-- FETCH_NOTICE (01 R15). -/
def execFetchNotice (p : Port) (tag : Byte) (body : Body Unit) (s : State) :
    Host.Outcome State Fault Refusal :=
  .next (s.plainRequest p tag .fetchNotice body (fun _ => true) fun _ t => t.fetchNotice p)

/-! ## SET_PERMISSIONS (01 R9, R10) -/

/-- The grants of a window replaced, with a PERMISSIONS notice where they differ (01 R10). -/
def State.regrant (s : State) (w : Window) (g : GrantSet) : State :=
  let t : State := { s with grants := s.grants.set w g }
  if g = s.grants[w] then t else t.post (.window w) ⟨.permissions, .ownPermissions, none⟩

def State.setPermissions (b : PermissionsBody) (s : State) : State × Reply :=
  match windowOf b.window with
  | none => (s, refusal .badArgument)
  | some w =>
    if b.remove.meets b.add then (s, refusal .badArgument)
    else
      let kept := s.grants[w].without b.remove
      if (s.session w).state ≠ .none ∧ b.add ≠ .empty then
        (s.regrant w kept, ⟨.windowInSession, .grants kept⟩)
      else (s.regrant w (kept.union b.add), accepted (.grants (kept.union b.add)))

/-- SET_PERMISSIONS (01 R9, R10). -/
def execSetPermissions (p : Port) (tag : Byte) (body : Body PermissionsBody) (s : State) :
    Host.Outcome State Fault Refusal :=
  .next (s.plainRequest p tag .setPermissions body (fun _ => true) fun b t => t.setPermissions b)

end Sys2Proof.Machine
end

