-- ==== Sys2Proof/Machine/Clock.lean ====
section
/-! DEFINITION. The Clock and Store Unit's commands (11), and those that act on the part as a whole:
the ticks, SET_CLOCK, SET_LIMITS, RESTART, STORE_REINITIALISE, the reset input, power-on and the
loss of supply. -/

namespace Sys2Proof

/-! ## SET_LIMITS (11 R197, Table 11.2) -/

/-- A list of windows by number is refused: one outside 1 to 6, or one named twice. -/
def badWindows (waits : List (Nat × Nat)) : Bool :=
  waits.any (fun x => (windowOf x.1).isNone) || !decide (waits.map Prod.fst).Nodup

/-- A list of tenders is refused: one other than the four, or one named twice. -/
def badTenders (tolerances : List (Named Tender × Nat)) : Bool :=
  tolerances.any (fun x => x.1.isNone) || !decide (tolerances.map Prod.fst).Nodup

/-- SET_LIMITS is refused BAD_ARGUMENT (11 R197). A list of more than 6 windows or 4 tenders names one
twice or one outside its range, so it is refused here and not MALFORMED at admission, between which the
spec does not choose: DESIGN CHOICE, unsafe (log entry 44). -/
def LimitsBody.refused (b : LimitsBody) : Bool :=
  badWindows (b.waits.getD []) || badTenders (b.tolerances.getD []) ||
  (match b.currencyMark with
   | some m => m.toNat < 0x20
   | none => false)

/-- Some value given is clamped (11 R197, Table 11.2). -/
def LimitsBody.clamped (b : LimitsBody) : Bool :=
  (b.waits.getD []).any (fun x => Machine.clampWait x.2 != x.2) ||
  (b.voidWindow.map fun n => Machine.clampVoidWindow n != n).getD false ||
  (b.stockLow.map fun n => Machine.clampStockLow n != n).getD false ||
  (b.tolerances.getD []).any (fun x => Machine.clampTolerance x.2 != x.2)

namespace Machine

/-- One window's wait limit set (11 Table 11.2). -/
def setWait (waits : Vector Nat 6) (x : Nat × Nat) : Vector Nat 6 :=
  match windowOf x.1 with
  | some w => waits.set w (clampWait x.2)
  | none => waits

def setTolerance (tolerances : PerTender Nat) (x : Named Tender × Nat) : PerTender Nat :=
  match x.1 with
  | some t => tolerances.set t (clampTolerance x.2)
  | none => tolerances

/-- Every part given is stored after clamping; the others stand (11 R197). -/
def Limits.with (l : Limits) (b : LimitsBody) : Limits where
  waits := (b.waits.getD []).foldl setWait l.waits
  voidWindow := (b.voidWindow.map clampVoidWindow).getD l.voidWindow
  stockLow := (b.stockLow.map clampStockLow).getD l.stockLow
  tolerances := (b.tolerances.getD []).foldl setTolerance l.tolerances
  currencyMark := b.currencyMark.getD l.currencyMark

def State.setLimits (b : LimitsBody) (s : State) : State × Reply :=
  if b.refused then (s, refusal .badArgument)
  else
    let l := s.limits.with b
    let t : State := { s with limits := l }
    (if l = s.limits then t else t.postStore, accepted (.limits l b.clamped))

/-- SET_LIMITS (11 R197). -/
def execSetLimits (p : Port) (tag : Byte) (body : Body LimitsBody) (s : State) :
    Host.Outcome State Fault Refusal :=
  .next (s.plainRequest p tag .setLimits body (fun _ => true) fun b t => t.setLimits b)

/-! ## The clocks (11 R190 to R192) -/

/-- One second on: the day follows 86,399, wrapping from 65,535 (11 R190). -/
def OfficeClock.advance (c : OfficeClock) : OfficeClock :=
  if 86399 ≤ c.second then { c with day := c.day + 1, second := 0 }
  else { c with second := c.second + 1 }

/-- OFFICE_CLOCK_TICK (11 R190). -/
def execOfficeClockTick (s : State) : Host.Outcome State Fault Refusal :=
  .next (s.whenRunning fun t => { t with clock := t.clock.advance })

/-- RUN_TIME_TICK (11 R192). -/
def execRunTimeTick (s : State) : Host.Outcome State Fault Refusal :=
  .next (s.whenRunning fun t => { t with runTime := t.runTime + 1 })

/-- SET_CLOCK's answer: the clock before, and the state after (11 R191). -/
def State.clockAnswer (before : ClockStamp) (s : State) : Reply :=
  accepted (.clock before s.clockStamp s.clock.isSet s.runTime s.storeValid)

def State.setClock (time : Option ClockBody) (s : State) : State × Reply :=
  match time with
  | none => (s, State.clockAnswer s.clockStamp s)
  | some c =>
    if 86399 < c.second then (s, refusal .badArgument)
    else
      let t : State := { s with clock := ⟨c.day, c.second, true⟩ }
      (t, State.clockAnswer s.clockStamp t)

/-- SET_CLOCK (11 R191). -/
def execSetClock (p : Port) (tag : Byte) (time : Body (Option ClockBody)) (s : State) :
    Host.Outcome State Fault Refusal :=
  .next (s.plainRequest p tag .setClock time (fun _ => true) fun c t => t.setClock c)

/-! ## RESTART (11 R198; 01 R17; 03 R64; 06 R129; 09 R174) -/

/-- Every queue emptied and CONTROLLER_START posted, as one step (01 R17). -/
def PortState.restarted (p : PortState) : PortState := { p with queue := [.controllerStart] }

def State.restartQueues (s : State) : State :=
  { s with office := s.office.restarted, windows := s.windows.map PortState.restarted }

/-- A slot RESTART empties: one whose job is not PRINTING; every flag is cleared (03 R64). -/
def Slot.restarted (x : Slot) : Slot :=
  match x.job with
  | some j => if j.state = .printing then { x with unread := false } else .empty
  | none => .empty

/-- The active jobs RESTART removes, with their windows (03 R64). -/
def State.restartedJobs (s : State) : List (Window × SlotId × Job) :=
  s.jobs.filter fun x => x.2.2.isActive && x.2.2.state != .printing

/-- A removed job's reservation released and its form's count lowered (03 R64). -/
def State.dropJob (s : State) (x : Window × SlotId × Job) : State :=
  (s.unreserve x.1 x.2.2.reserved).unbind x.2.2.form x.2.2.generation

def State.restartSlots (s : State) : State :=
  s.restartedJobs.foldl State.dropJob
    { s with slots := s.slots.map fun v => v.map Slot.restarted }

/-- Every declaration in progress discarded (09 R174). -/
def Session.undeclared (x : Session) : Session := { x with inProgress := Option.none }

def State.dropDeclarations (s : State) : State :=
  { s with sessions := s.sessions.map Session.undeclared }

def State.restart (s : State) : State × Reply :=
  ((s.restartQueues.restartSlots.haltCensus .restart).dropDeclarations, accepted .bare)

/-- RESTART (11 R198). -/
def execRestart (p : Port) (tag : Byte) (body : Body Unit) (s : State) :
    Host.Outcome State Fault Refusal :=
  .next (s.plainRequest p tag .restart body (fun _ => true) fun _ t => t.restart)

/-! ## STORE_REINITIALISE (11 R196) -/

/-- Some job is PRINTING (03 R65). -/
def State.anyPrinting (s : State) : Bool := s.jobs.any fun x => x.2.2.state == .printing

/-- A job cancelled: no binding, no reservation, no deadline (03 R65). -/
def Job.cancelled (j : Job) : Job :=
  { j with state := .cancelled, generation := none, reserved := 0, deadline := none }

/-- The outcome of a cancelled job (03 R65). -/
def Job.cancelOutcome (j : Job) : SlotOutcome := ⟨.cancelled, .none, j.attempts, 0, 0, 0⟩

/-- Step 1 for one job: an active one is CANCELLED, and every job loses its binding (03 R65, 02
R31). -/
def State.cancelJob (s : State) (x : Window × SlotId × Job) : State :=
  if x.2.2.isActive then
    (s.mapJob x.1 x.2.1 Job.cancelled).postOutcome x.1 x.2.1 x.2.2.cancelOutcome
  else s.mapJob x.1 x.2.1 fun j => { j with generation := none }

/-- The jobs in the order of the slots, whose SLOT_OUTCOME notices stand so in a window's queue: DESIGN
CHOICE, unsafe (log entry 48). -/
def State.cancelJobs (s : State) : State := s.jobs.foldl State.cancelJob s

/-- Step 2: the sessions NONE and the journal empty (08 R159). -/
def State.emptySession (s : State) (w : Window) : State :=
  if (s.session w).state = .none then s.setSession w .none
  else (s.setSession w .none).postSession w

/-- The windows in order, whose SESSION_CHANGE notices stand so in the office's queue: DESIGN CHOICE,
unsafe (log entry 48). -/
def State.emptySessions (s : State) : State :=
  { allWindows.foldl State.emptySession s with
    journal := [], journalInUse := 0, journalReserved := 0 }

/-- Step 3: a lane stopped and unbound (04 R91). DEDUCED, unsafe: the advances left are 0, and the
position, the failed reads and the line index stand (log entry 34). -/
def Lane.reinitialised (x : Lane) : Lane :=
  { x.stopped with
    inflight := none
    job := none
    pack := none
    head := .notPositioned
    causes := .empty
    holdAfter := false
    advances := 0
    state := .offline }

/-- The lanes in order, whose LANE_CHANGE notices stand so in each queue: DESIGN CHOICE, unsafe (log
entry 48). -/
def State.reinitialiseLanes (s : State) : State :=
  allLanes.foldl (fun t l => (t.setLane l (t.lane l).reinitialised).postLane l) s

/-- Step 4: the pack table emptied (05 R115). -/
def State.emptyPacks (s : State) : State := State.postStock { s with packs := [], nextPack := 1 }

/-- Step 6: the form table emptied (02 R31). -/
def State.emptyForms (s : State) : State :=
  State.postForms { s with forms := .replicate 8 .undefined }

/-- Step 8: all four grants, with PERMISSIONS where they were not all held (01 R7). -/
def State.grantAll (s : State) : State := allWindows.foldl (fun t w => t.regrant w .all) s

/-- Step 10: an ACTIVE STORE_LOST report kept, cleared (10 R189). -/
def Report.isStoreLost (r : Report) : Bool := r.isActive && r.kind == .storeLost

def State.emptyFaults (s : State) : State :=
  State.postFaults
    { s with
      faults := (s.faults.filter Report.isStoreLost).map fun r =>
        r.leave .cleared .reinitialise s.stamp }

/-- The steps of R196 (11), in its order. -/
def State.reinitialised (s : State) : State :=
  let t := s.cancelJobs.emptySessions.reinitialiseLanes.emptyPacks
  let t := (t.haltCensus .storeReinitialise).emptyForms
  let t : State := { t with discounts := emptyDiscounts }
  let t := t.grantAll
  let t : State := { t with limits := .default }
  let t := t.emptyFaults
  State.postStore { t with storeValid := true, checkAgrees := true }

def State.storeReinitialise (s : State) : State × Reply :=
  if s.anyPrinting then (s, refusal .laneBusy) else (s.reinitialised, accepted .bare)

/-- STORE_REINITIALISE (11 R196). -/
def execStoreReinitialise (p : Port) (tag : Byte) (body : Body Unit) (s : State) :
    Host.Outcome State Fault Refusal :=
  .next (s.plainRequest p tag .storeReinitialise body (fun _ => true) fun _ t =>
    t.storeReinitialise)

/-! ## Reset and loss of supply (01 R18; 11 R193) -/

/-- A port held in STARTING, its transmit line idle (01 R18). -/
def PortState.starting (p : PortState) : PortState := { p with rx := .starting, tx := none }

def State.stopPorts (s : State) : State :=
  { s with office := s.office.starting, windows := s.windows.map PortState.starting }

/-- RESET_ASSERTED: the ports stand in STARTING and the part stops until power-on (01 R18; log entry
10). -/
def execResetAsserted (s : State) : Host.Outcome State Fault Refusal :=
  .next <|
    if s.phase = .unpowered then s else { s.stopPorts with phase := .resetHeld }

/-- What a lane keeps without supply: its binding and in-flight record, and its inputs, which are
not its own (04 Table 4.1). -/
def Lane.retained (x : Lane) : Lane :=
  { Lane.offline with
    pack := x.pack
    inflight := x.inflight
    cabinetPin := x.cabinetPin
    stockPin := x.stockPin }

/-- A form without its counts, which are recomputed from an empty Job Table (02 R31). -/
def FormRecord.uncounted (f : FormRecord) : FormRecord :=
  { f with useCount := 0, waitingCount := 0 }

/-- The state with its volatile part lost: what Table 11.1 does not list (11 R193). -/
def State.volatileLost (s : State) : State :=
  { s with
    windows := .replicate 6 ⟨.starting, none, []⟩
    office := ⟨.starting, none, []⟩
    forms := s.forms.map FormRecord.uncounted
    slots := .replicate 6 (.replicate 8 .empty)
    scanner := 0
    lanes := s.lanes.map Lane.retained
    census := .cleared
    clock := ⟨0, 0, false⟩
    runTime := 0 }

/-- Whether the check word still agrees after a loss of supply: the warning gave the hold-up time,
and the battery keeps the store (11 R193). -/
def State.storeSurvives (s : State) (batteryKept : Bool) : Bool :=
  s.checkAgrees && batteryKept && (s.powerFail || s.phase == .unpowered)

/-- SUPPLY_LOSS (11 R193). -/
def execSupplyLoss (batteryKept : Bool) (s : State) : Host.Outcome State Fault Refusal :=
  .next
    { s.volatileLost with
      phase := .unpowered
      checkAgrees := s.storeSurvives batteryKept }

/-! ## Power-on (11 R194) -/

/-- The reservation an in-flight record retains for a window (08 R158 step 4). -/
def Lane.retainedFor (x : Lane) (w : Window) : Nat :=
  match x.inflight with
  | some r => if r.window = w then r.reserved else 0
  | none => 0

def State.retainedFor (s : State) (w : Window) : Nat :=
  (allLanes.map fun l => (s.lane l).retainedFor w).sum

/-- A session at power-on (08 R158 steps 1, 2 and 4). -/
def State.sessionAtStart (s : State) (w : Window) : Session :=
  { s.session w with inProgress := Option.none, reserved := s.retainedFor w }

/-- The Till Unit's step (08 R158). -/
def State.startTill (s : State) : State :=
  { s with
    sessions := #v[s.sessionAtStart 0, s.sessionAtStart 1, s.sessionAtStart 2,
      s.sessionAtStart 3, s.sessionAtStart 4, s.sessionAtStart 5]
    journal := s.journal.map fun e => { e with beforePowerOn := true }
    journalReserved := (allWindows.map s.retainedFor).sum }

/-- A form's pending definition made current at power-on, the counts being 0 (02 R31). -/
def FormRecord.atStart (f : FormRecord) : FormRecord :=
  if f.pending.isSome then f.applied else f

def State.startForms (s : State) : State :=
  let t : State := { s with forms := s.forms.map FormRecord.atStart }
  if s.forms.toList.any fun f => f.pending.isSome then t.postForms else t

/-- CONTROLLER_START posted and HUNTING entered (01 R18). -/
def PortState.start (p : PortState) : PortState :=
  { p.posted .controllerStart with rx := .hunting }

def State.startPorts (s : State) : State :=
  { s with office := s.office.start, windows := s.windows.map PortState.start }

/-- The lane's first sample of the cabinet, and its position (04 R90). -/
def Lane.started (x : Lane) (pack : Option Pack) : Lane :=
  { x with
    cabinetSeen := x.cabinetPin
    position := (pack.map Pack.first).getD 0
    head := if x.pack.isSome then .unverified else .notPositioned }

/-- The context of POWER_INTERRUPTED (10 Table 10.2). -/
def InFlight.lostContext (r : InFlight) (pack : Option Nat) : FaultContext :=
  { pack := pack, serial := some r.serial, job := some (r.window, r.slot) }

/-- The power-on spoil of a begun ticket, and the feed that follows (04 R90; 08 R153, R158). -/
def State.powerOnSpoil (s : State) (l : LaneId) (r : InFlight) : State :=
  let cls := s.mountedClass l
  let pack := (s.lane l).pack
  let t := s.changeMark cls r.serial .spoiled
  let t := (t.unreserve r.window r.reserved).writeEntry r.window
    (r.spoilEntry cls (pack.getD 0))
  let t := t.raiseLane l .powerInterrupted (r.lostContext pack)
  (t.moveLane l fun x =>
    { x with inflight := none, head := .notPositioned, state := .feeding }).feedAttempt l

/-- A lane's start with a pack mounted (04 R90). -/
def State.startMounted (s : State) (l : LaneId) : State :=
  match (s.lane l).inflight with
  | none => s.startPriming l
  | some r =>
    if r.begun then s.powerOnSpoil l r
    else
      ((s.unreserve r.window r.reserved).moveLane l fun x =>
        { x with inflight := none }).startPriming l

/-- The cabinet reports reconciled with the sample (10 R189). -/
def State.reconcileCabinet (s : State) (l : LaneId) : State :=
  match (s.lane l).cabinetSeen with
  | .locked => s.selfClear l
  | .opened =>
    if (s.lane l).pack.isSome &&
        !((s.activeReports l).any fun r => r.kind == .cabinetOpen) then s.raiseCabinet l
    else s

/-- A lane's start with the store VALID (04 R90, 10 R189). -/
def State.startLane (s : State) (l : LaneId) : State :=
  let t := s.setLane l ((s.lane l).started (s.mounted l))
  (if (s.lane l).pack.isSome then t.startMounted l else t).reconcileCabinet l

/-- Start-up with the check word in agreement (11 R194). -/
def State.startValid (s : State) : State :=
  allLanes.foldl State.startLane
    (State.startPorts (State.startForms (State.startTill { s with storeValid := true })))

/-- A lane with the store INVALID: OFFLINE, no pack and no record, its cabinet sampled (04 R90). -/
def Lane.startedInvalid (x : Lane) : Lane :=
  { Lane.offline with
    cabinetSeen := x.cabinetPin, cabinetPin := x.cabinetPin, stockPin := x.stockPin }

/-- The contents as taken with the store INVALID (11 R194; log entries 18 and 31). -/
def State.disregarded (s : State) : State :=
  { s with
    storeValid := false
    grants := .replicate 6 .empty
    forms := .replicate 8 .undefined
    lanes := s.lanes.map Lane.startedInvalid
    packs := []
    nextPack := 1
    discounts := emptyDiscounts
    limits := .default
    sessions := .replicate 6 .none
    journal := []
    journalInUse := 0
    journalReserved := 0
    faults := []
    faultCounter := 1 }

/-- Start-up with the check word in disagreement (11 R194). -/
def State.startInvalid (s : State) : State :=
  ((s.disregarded.raiseController .storeLost {}).postStore).startPorts

/-- POWER_ON (11 R194). -/
def execPowerOn (s : State) : Host.Outcome State Fault Refusal :=
  .next <|
    let t : State := { s.volatileLost with phase := .running }
    if t.checkAgrees then t.startValid else t.startInvalid

end Machine

end Sys2Proof
end

