-- ==== Sys2Proof/Machine/Fares.lean ====
section
/-! DEFINITION. The Fare Unit's checks and command (07): pricing a job and SET_DISCOUNT. -/

namespace Sys2Proof

/-- Whether an ACTIVE entry's terms are in range, the rate apart (07 R131 step 4). -/
def DiscountTerms.inRange (t : DiscountTerms) : Bool :=
  (t.step == 1 || t.step == 5 || t.step == 10) && t.floor ≤ Config.maxFare &&
    !t.classes.isEmpty && t.classes.all fun c => c ≤ 3

/-- The entry as stored, its rate clamped (07 R131). -/
def DiscountTerms.entry (t : DiscountTerms) : Machine.DiscountEntry :=
  ⟨.active, Machine.clampRate t.rate, t.floor, t.step, classSetOf t.classes⟩

namespace Machine

/-- The discount entry a code names; a code outside the table prices no job (07 R132). -/
def State.discountEntry (s : State) (code : Nat) : DiscountEntry :=
  match codeOf code with
  | some c => s.discounts[c]
  | none => .unused

/-- The first check of a job's price that fails (07 R132). -/
def State.priceRefusal (s : State) (f : FareFields) (cls : Nat) : Option ResultCode :=
  if Config.maxFare < f.baseFare then some .badFare
  else if f.quantity < 1 ∨ 9 < f.quantity then some .badFare
  else if (codeOf f.discount).isNone then some .badDiscount
  else if (s.discountEntry f.discount).state ≠ .active then some .badDiscount
  else if !ClassSet.holds (s.discountEntry f.discount).classes cls then some .badDiscount
  else none

/-! ## SET_DISCOUNT (07 R131) -/

/-- An entry stored, and the answer that shows it before and after (07 R131). -/
def State.storeDiscount (s : State) (c : Fin 16) (e : DiscountEntry) (clamped : Bool) :
    State × Reply :=
  ({ s with discounts := s.discounts.set c e }, accepted (.discount s.discounts[c] e clamped))

def State.setDiscount (b : DiscountBody) (s : State) : State × Reply :=
  match codeOf b.code with
  | none => (s, refusal .badArgument)
  | some c =>
    if c = 0 then (s, refusal .fixedEntry)
    else
      match b.state, b.terms with
      | none, _ => (s, refusal .badArgument)
      | some .unused, _ => s.storeDiscount c .unused false
      | some .active, none => (s, refusal .malformed)
      | some .active, some t =>
        if t.inRange then s.storeDiscount c t.entry (Config.wholeRate < t.rate)
        else (s, refusal .badArgument)

/-- SET_DISCOUNT (07 R131). -/
def execSetDiscount (p : Port) (tag : Byte) (body : Body DiscountBody) (s : State) :
    Host.Outcome State Fault Refusal :=
  .next (s.plainRequest p tag .setDiscount body DiscountBody.fits fun b t => t.setDiscount b)

end Machine

end Sys2Proof
end

