-- ==== Sys2Proof/Machine/Jobs.lean ====
section
/-! DEFINITION. The Job Table's commands (03): the requests a window makes on its jobs, READ_JOB, the
claim request and the scanner's visit. -/

namespace Sys2Proof



/-- The check of a job's lanes, priority and tender, then of its line counts (03 R42 step 3). The step
gives no order between BAD_ARGUMENT and TOO_MANY_LINES; the one it names first is answered: DESIGN
CHOICE, unsafe (log entry 46). -/
def argumentRefusal (lanes : LaneSet) (priority : Named Priority) (tender : Named Tender)
    (declared supplied : Nat) : Option Machine.ResultCode :=
  if isEmptySet lanes || priority.isNone || tender.isNone then some .badArgument
  else if Config.maxDeclared < declared || declared < supplied then some .tooManyLines
  else none

def SubmitBody.argumentRefusal (b : SubmitBody) : Option Machine.ResultCode :=
  Sys2Proof.argumentRefusal b.lanes b.priority b.fare.tender b.content.declared
    b.content.lines.length

namespace Machine

/-! ## SUBMIT_JOB (03 R41 to R43) -/

/-- The window's lowest-numbered EMPTY slot (03 R43). -/
def State.freeSlot (s : State) (w : Window) : Option SlotId :=
  allSlots.find? fun k => (s.job w k).isNone

/-- The deadline a window's wait limit gives (03 R62). -/
def State.deadlineFor (s : State) (w : Window) : Option RunTime :=
  if s.limits.waits[w] = 0 then none
  else some (s.runTime + BitVec.ofNat 32 (10 * s.limits.waits[w]))

/-- Whether a priority asked from a window is degraded (01 R8). -/
def State.downgrades (s : State) (w : Window) (asked : Named Priority) : Bool :=
  asked == some .urgent && !s.grants[w].urgent

/-- The record a taken SUBMIT_JOB makes (03 R43). -/
def State.newJob (s : State) (w : Window) (b : SubmitBody) (g : Binding) : Job :=
  let e := s.discountEntry b.fare.discount
  { state := .queued
    form := g.form
    generation := some g.generation
    lanes := b.lanes
    priority := if s.downgrades w b.priority then .normal else b.priority.getD .normal
    baseFare := b.fare.baseFare
    discount := b.fare.discount
    quantity := b.fare.quantity
    tender := b.fare.tender.getD .cash
    unitFare := unitFare e b.fare.baseFare
    value := ticketValue e b.fare.baseFare b.fare.quantity
    declared := b.content.declared
    lines := b.content.lines
    submitted := s.runTime
    deadline := s.deadlineFor w
    attempts := 0
    reserved := Config.jobReservation
    lane := none
    latest := none }

/-- A taken SUBMIT_JOB: count raised, entries reserved, job placed, lanes told (03 R43, 02 R27, 08
R148). -/
def State.placeJob (s : State) (w : Window) (k : SlotId) (b : SubmitBody) (g : Binding) :
    State × Reply :=
  let j := s.newJob w b g
  let t := s.setForm g.form ((s.form g.form).raised g.coming)
  let t := t.reserve w Config.jobReservation
  let t := t.setSlot w k { t.slot w k with job := some j }
  (t.reportJob w k,
    accepted (.submitted k j.unitFare j.value (s.downgrades w b.priority) g.coming))

/-- Steps 5 to 7 of R42 (03), against the binding of step 4. -/
def State.boundRefusal (s : State) (f : FareFields) (declared : Nat) (d : FormDef) :
    Option ResultCode :=
  match s.priceRefusal f d.cls with
  | some c => some c
  | none => if d.bodyCapacity < declared then some .tooManyLines else none

def State.submitJob (w : Window) (b : SubmitBody) (s : State) : State × Reply :=
  match (s.session w).state with
  | .none => (s, refusal .noSession)
  | .declaring | .declared => (s, refusal .sessionDeclaring)
  | .opened =>
    match s.freeSlot w with
    | none => (s, refusal .noSlot)
    | some k =>
      match b.argumentRefusal with
      | some c => (s, refusal c)
      | none =>
        match s.binding b.form with
        | none => (s, refusal .formUnknown)
        | some g =>
          match s.boundRefusal b.fare b.content.declared g.layout with
          | some c => (s, refusal c)
          | none =>
            if s.journalFree < Config.jobReservation then (s, refusal .journalFull)
            else s.placeJob w k b g

/-- SUBMIT_JOB (03 R41 to R43). -/
def execSubmitJob (p : Port) (tag : Byte) (body : Body SubmitBody) (s : State) :
    Host.Outcome State Fault Refusal :=
  .next (s.windowRequest p tag .submitJob body SubmitBody.fits State.submitJob)

/-! ## Requests on a job (03 Table 3.3) -/

/-- A request on a slot that holds a job: BAD_ARGUMENT, NO_JOB and JOB_ENDED come first (03 Table
3.3). R44, R45, R47 and R49 refuse a slot outside 1 to 8 BAD_ARGUMENT; R46 gives no code for AMEND_JOB,
and it is refused the same: DEDUCED, unsafe (log entry 45). -/
def State.onJob (s : State) (w : Window) (n : Nat)
    (take : SlotId → Job → State → State × Reply) : State × Reply :=
  match slotOf n with
  | none => (s, refusal .badArgument)
  | some k =>
    match s.job w k with
    | none => (s, refusal .noJob)
    | some j => if j.isActive then take k j s else (s, refusal .jobEnded)

/-- Lines appended to a job's (03 R44). A wrong start index answers OUT_OF_ORDER also where the lines
would pass N, between which R44 gives no order: DESIGN CHOICE, unsafe (log entry 46). -/
def State.supplyLines (w : Window) (b : SupplyBody) (s : State) : State × Reply :=
  s.onJob w b.slot fun k j s =>
    if b.start ≠ j.lines.length then (s, refusal .outOfOrder)
    else if j.declared < b.start + b.lines.length then (s, refusal .tooManyLines)
    else
      let supplied := { j with lines := j.lines ++ b.lines }
      let t := s.mapJob w k fun _ => supplied
      (if !s.eligibleSomewhere j && t.eligibleSomewhere supplied then t.reportEligible else t,
        accepted (.supplied supplied.lines.length))

/-- SUPPLY_LINES (03 R44). -/
def execSupplyLines (p : Port) (tag : Byte) (body : Body SupplyBody) (s : State) :
    Host.Outcome State Fault Refusal :=
  .next (s.windowRequest p tag .supplyLines body SupplyBody.fits State.supplyLines)

def State.holdJob (w : Window) (n : Nat) (s : State) : State × Reply :=
  s.onJob w n fun k j s =>
    match j.state with
    | .queued => (s.mapJob w k fun j => { j with state := .held }, accepted .bare)
    | .held => (s, accepted .bare)
    | .printing => (s, refusal .tooLate)
    | .retryWait => (s, refusal .notQueued)
    | .done | .failed | .expired | .cancelled => (s, refusal .jobEnded)

/-- HOLD_JOB (03 R45). -/
def execHoldJob (p : Port) (tag : Byte) (slot : Body Nat) (s : State) :
    Host.Outcome State Fault Refusal :=
  .next (s.windowRequest p tag .holdJob slot (fun _ => true) State.holdJob)

/-- A job returned to QUEUED by its window (03 R47, R48). -/
def State.requeue (s : State) (w : Window) (k : SlotId) : State :=
  (s.mapJob w k fun j => { j with state := .queued }).reportJob w k

def State.releaseRequest (w : Window) (n : Nat) (s : State) : State × Reply :=
  s.onJob w n fun k j s =>
    match j.state with
    | .held => (s.requeue w k, accepted .bare)
    | .retryWait =>
      if (s.slot w k).unread then (s, refusal .outcomeUnread) else (s.requeue w k, accepted .bare)
    | .queued | .printing => (s, refusal .notHeld)
    | .done | .failed | .expired | .cancelled => (s, refusal .jobEnded)

/-- RELEASE_JOB (03 R47, R48). -/
def execReleaseJob (p : Port) (tag : Byte) (slot : Body Nat) (s : State) :
    Host.Outcome State Fault Refusal :=
  .next (s.windowRequest p tag .releaseJob slot (fun _ => true) State.releaseRequest)

/-- The slot becomes EMPTY, its flag as it stood (03 R49). -/
def State.emptySlot (s : State) (w : Window) (k : SlotId) : State :=
  s.setSlot w k { s.slot w k with job := none }

def State.withdrawJob (w : Window) (n : Nat) (s : State) : State × Reply :=
  s.onJob w n fun k j s =>
    match j.state with
    | .queued | .held | .retryWait =>
      (((s.releaseJob w k).emptySlot w k).unbind j.form j.generation, ⟨.withdrawn, .bare⟩)
    | .printing => (s, refusal .tooLate)
    | .done | .failed | .expired | .cancelled => (s, refusal .jobEnded)

/-- WITHDRAW_JOB (03 R49). -/
def execWithdrawJob (p : Port) (tag : Byte) (slot : Body Nat) (s : State) :
    Host.Outcome State Fault Refusal :=
  .next (s.windowRequest p tag .withdrawJob slot (fun _ => true) State.withdrawJob)

/-! ## AMEND_JOB (03 R46) -/

/-- The fare fields as they will stand after the amendment (03 R46). -/
def AmendBody.fareAfter (b : AmendBody) (j : Job) : FareFields :=
  b.fare.getD ⟨j.baseFare, j.discount, j.quantity, some j.tender⟩

def AmendBody.lanesAfter (b : AmendBody) (j : Job) : LaneSet := b.lanes.getD j.lanes

def AmendBody.priorityAfter (b : AmendBody) (j : Job) : Named Priority :=
  b.priority.getD (some j.priority)

def AmendBody.contentAfter (b : AmendBody) (j : Job) : Content :=
  b.content.getD ⟨j.declared, j.lines⟩

/-- Whether an amendment is degraded: URGENT asked without the grant for a job that does not hold it
(01 R8, R9; log entry 17). -/
def State.amendDowngrades (s : State) (w : Window) (b : AmendBody) (j : Job) : Bool :=
  j.priority == .normal && s.downgrades w (AmendBody.priorityAfter b j)

/-- The job after a taken amendment (03 R46). -/
def State.amendedJob (s : State) (w : Window) (b : AmendBody) (j : Job) : Job :=
  let f := AmendBody.fareAfter b j
  let e := s.discountEntry f.discount
  { j with
    lanes := AmendBody.lanesAfter b j
    priority := if s.amendDowngrades w b j then .normal
      else (AmendBody.priorityAfter b j).getD j.priority
    baseFare := f.baseFare
    discount := f.discount
    quantity := f.quantity
    tender := f.tender.getD j.tender
    unitFare := unitFare e f.baseFare
    value := ticketValue e f.baseFare f.quantity
    declared := (AmendBody.contentAfter b j).declared
    lines := (AmendBody.contentAfter b j).lines }

/-- The first check of an amendment that fails (03 R46). A HELD job is bound to a definition its
form holds; were there none, the form would be unknown (log entry 26). -/
def State.amendRefusal (s : State) (b : AmendBody) (j : Job) : Option ResultCode :=
  let f := AmendBody.fareAfter b j
  let c := AmendBody.contentAfter b j
  match argumentRefusal (AmendBody.lanesAfter b j) (AmendBody.priorityAfter b j) f.tender c.declared
      c.lines.length with
  | some code => some code
  | none =>
    match (s.form j.form).bound j.generation with
    | some d => s.boundRefusal f c.declared d
    | none => some .formUnknown

def State.amendJob (w : Window) (b : AmendBody) (s : State) : State × Reply :=
  s.onJob w b.slot fun k j s =>
    match j.state with
    | .held =>
      match s.amendRefusal b j with
      | some c => (s, refusal c)
      | none =>
        let j' := s.amendedJob w b j
        (s.mapJob w k fun _ => j',
          accepted (.amended j'.unitFare j'.value (s.amendDowngrades w b j)
            (j.generation == some (nextGeneration (s.form j.form).generation))))
    | .queued | .retryWait => (s, refusal .notHeld)
    | .printing => (s, refusal .tooLate)
    | .done | .failed | .expired | .cancelled => (s, refusal .jobEnded)

/-- AMEND_JOB (03 R46). -/
def execAmendJob (p : Port) (tag : Byte) (body : Body AmendBody) (s : State) :
    Host.Outcome State Fault Refusal :=
  .next (s.windowRequest p tag .amendJob body AmendBody.fits State.amendJob)

/-! ## READ_JOB (03 R51) -/

/-- A job as READ_JOB shows it: the record without the lines' text. -/
def State.jobView (s : State) (w : Window) (k : SlotId) (j : Job) : JobView :=
  ⟨w, k, { j with lines := [] }, j.lines.length, j.generation == some (s.form j.form).generation,
   #v[s.eligible j 0, s.eligible j 1, s.eligible j 2, s.eligible j 3]⟩

def State.readJob (b : ReadJobBody) (s : State) : State × Reply :=
  match windowOf b.window, b.slot.bind slotOf with
  | some w, some k => (s, accepted (.job (s.slot w k).unread ((s.job w k).map (s.jobView w k))))
  | _, _ => (s, refusal .badArgument)

/-- READ_JOB (03 R51). -/
def execReadJob (p : Port) (tag : Byte) (body : Body ReadJobBody) (s : State) :
    Host.Outcome State Fault Refusal :=
  .next (s.request p tag .readJob body (fun b => ownsWindow p b.window) ReadJobBody.fits fun b t =>
    t.readJob b)

/-! ## Claims (03 R53 to R56) -/

/-- Whether job `a` comes strictly before job `b` by the first two keys of R53 (03). -/
def Job.comesBefore (a b : Job) (now : RunTime) : Bool :=
  if a.priority = b.priority then age now b.submitted < age now a.submitted
  else a.priority == .urgent

/-- The first of two claimants; the earlier in the table stands where the keys are equal. -/
def betterClaim (now : RunTime) (best : Option (Window × SlotId × Job))
    (x : Window × SlotId × Job) : Option (Window × SlotId × Job) :=
  match best with
  | none => some x
  | some y => if x.2.2.comesBefore y.2.2 now then some x else some y

/-- The first job eligible for a lane in the order of R53 (03). -/
def State.selectJob (s : State) (l : LaneId) : Option (Window × SlotId × Job) :=
  (s.jobs.filter fun x => s.eligible x.2.2 l).foldl (betterClaim s.runTime) none

/-- What the lane is handed with a claimed job (03 R56). -/
def Job.handedAs (j : Job) (w : Window) (k : SlotId) : Handed :=
  ⟨w, k, j.form, j.generation, j.declared, j.value, j.tender, j.quantity, j.reserved⟩

/-- A job claimed by a lane (03 R56). -/
def State.claimJob (s : State) (l : LaneId) (w : Window) (k : SlotId) (j : Job) : State :=
  (s.mapJob w k fun j => { j with state := .printing, lane := some l, deadline := none }).moveLane l
    fun x => { x with handed := some (j.handedAs w k) }

/-- The Job Table takes a lane's claim request (03 R53, R55), once the lane has taken the job handed to
it before, if any (log entry 13). -/
def State.takeClaim (s : State) (l : LaneId) : State :=
  if (s.lane l).claimSent && (s.lane l).handed.isNone then
    let t := s.moveLane l fun x => { x with claimSent := false }
    match s.selectJob l with
    | some (w, k, j) => t.claimJob l w k j
    | none => t
  else s

/-- CLAIM_REQUEST (03 R53, R55, R56). -/
def execClaimRequest (l : LaneId) (s : State) : Host.Outcome State Fault Refusal :=
  .next (s.whenRunning fun t => t.takeClaim l)

/-! ## The deadline scanner (03 R63) -/

/-- The slot at a scanner position, window 1 slot 1 first. -/
def scannedWindow (n : Nat) : Window := Fin.ofNat 6 (n / 8)

def scannedSlot (n : Nat) : SlotId := Fin.ofNat 8 n

/-- A job's deadline is present and passed (03 R62). -/
def Job.isLate (j : Job) (now : RunTime) : Bool :=
  match j.deadline with
  | some d => passed now d
  | none => false

/-- One visit (03 R63). -/
def State.visitSlot (s : State) (w : Window) (k : SlotId) : State :=
  match s.job w k with
  | some j =>
    if j.state = .queued ∧ j.isLate s.runTime then
      s.endJob w k .expired ⟨.expired, .none, 0, 0, 0, 0⟩
    else s
  | none => s

def State.scan (s : State) : State :=
  { s.visitSlot (scannedWindow s.scanner) (scannedSlot s.scanner) with
    scanner := (s.scanner + 1) % 48 }

/-- SCANNER_VISIT (03 R63). -/
def execScannerVisit (s : State) : Host.Outcome State Fault Refusal :=
  .next (s.whenRunning State.scan)

end Machine

end Sys2Proof
end

