-- ==== Sys2Proof/Machine/Lanes.lean ====
section
/-! DEFINITION. The lanes' events and requests (04): the claim's answer, the printer's and the mark
reader's events, the timeouts, the cabinet, the power-fail warning, READ_LANE and ADVANCE_BLANK.
Each event is taken while the part runs; one for an operation no longer awaited is discarded
(R72). -/

namespace Sys2Proof.Machine

/-! ## The claim's answer (04 R79) -/

/-- The ticket of a handed job started, and its first line printed (04 R79, R80; 02 R32). -/
def State.startTicket (s : State) (l : LaneId) (h : Handed) (d : FormDef) (serial : Nat) : State :=
  (s.moveLane l fun x =>
    x.startTicket h d (s.mountedClass l) serial s.clockStamp s.limits.currencyMark).strobeLine l

/-- An opening found at the start of a ticket: observed, or already observed, HOLDING (04 R79). -/
def State.openAtStart (s : State) (l : LaneId) : State :=
  match (s.lane l).cabinetSeen with
  | .locked => s.observeOpening l
  | .opened => s.enterHolding l ⟨true, false⟩

/-- A handed job taken by its lane: the ticket started, or the claim handed back (04 R79, 03
R61). -/
def State.answerClaim (s : State) (l : LaneId) (h : Handed) : State :=
  match (s.lane l).state, (s.lane l).head with
  | .idle, .verified serial =>
    if (s.lane l).cabinetPin = .opened then (s.openAtStart l).handBack h.window h.slot
    else if s.powerFail then s.handBack h.window h.slot
    else
      match s.handedDef l h with
      | some d => s.startTicket l h d serial
      | none => s.handBack h.window h.slot
  | _, _ => s.handBack h.window h.slot

def State.takeAnswer (s : State) (l : LaneId) : State :=
  match (s.lane l).handed with
  | some h => (s.moveLane l fun x => { x with handed := none }).answerClaim l h
  | none => s

/-- CLAIM_ANSWER (04 R79, R80; 03 R61). -/
def execClaimAnswer (l : LaneId) (s : State) : Host.Outcome State Fault Refusal :=
  .next (s.whenRunning fun t => t.takeAnswer l)

/-! ## The printer and the mark reader -/

/-- An event a lane takes where it awaits the operation (04 R72). -/
def State.whenAwaiting (s : State) (l : LaneId) (op : LaneOp) (f : State → State) : State :=
  s.whenRunning fun t => if (t.lane l).awaiting = some op then f t else t

/-- The positioned event's effect on a lane: FEEDING becomes VERIFYING (04 R75). -/
def Lane.positioned (x : Lane) : Lane :=
  Lane.reading
    { x with
      head := .unverified
      failedReads := 0
      state := if x.state = .feeding then .verifying else x.state }

/-- POSITIONED (04 R75). -/
def execPositioned (l : LaneId) (s : State) : Host.Outcome State Fault Refusal :=
  .next (s.whenAwaiting l .feed fun t => t.moveLane l Lane.positioned)

/-- HEAD_READY (04 R80, R81). -/
def execHeadReady (l : LaneId) (s : State) : Host.Outcome State Fault Refusal :=
  .next (s.whenAwaiting l .strobe fun t => t.afterStrobe l)

/-- CUT_DONE (04 R81 to R84). -/
def execCutDone (l : LaneId) (s : State) : Host.Outcome State Fault Refusal :=
  .next (s.whenAwaiting l .cut fun t => t.cutCompletion l)

/-- A mark record taken: the timer stops, and a good record is compared (04 R76, 01 R20). -/
def State.takeRecord (s : State) (l : LaneId) (record : Vector Byte 6) : State :=
  let t := s.moveLane l fun x => { x with awaiting := none }
  match goodRead record with
  | some (cls, serial) => t.compareRead l cls serial
  | none => t.failedRead l

/-- MARK_RECORD (04 R76, R77; 01 R20). -/
def execMarkRecord (l : LaneId) (record : Vector Byte 6) (s : State) :
    Host.Outcome State Fault Refusal :=
  .next (s.whenAwaiting l .read fun t => t.takeRecord l record)

/-- MARK_READ_TIMEOUT: a failed read (04 R72, R76). -/
def execMarkReadTimeout (l : LaneId) (s : State) : Host.Outcome State Fault Refusal :=
  .next (s.whenAwaiting l .read fun t =>
    (t.moveLane l fun x => { x with awaiting := none }).failedRead l)

/-- FEED_TIMEOUT: FEED_JAM (04 R72). -/
def execFeedTimeout (l : LaneId) (s : State) : Host.Outcome State Fault Refusal :=
  .next (s.whenAwaiting l .feed fun t => t.laneFault l .feedJam (t.stockContext l))

/-- STROBE_TIMEOUT: HEAD_STALL (04 R72, 10 R180). -/
def execStrobeTimeout (l : LaneId) (s : State) : Host.Outcome State Fault Refusal :=
  .next (s.whenAwaiting l .strobe fun t =>
    t.laneFault l .headStall (t.ticketContext l (some (t.lane l).line)))

/-- CUT_TIMEOUT: CUT_JAM (04 R72, 10 R180). -/
def execCutTimeout (l : LaneId) (s : State) : Host.Outcome State Fault Refusal :=
  .next (s.whenAwaiting l .cut fun t => t.laneFault l .cutJam (t.ticketContext l none))

/-! ## The cabinet (04 R85 to R87) -/

/-- CABINET_OPENING: the input shows the cabinet open; an opening is observed once (04 R86). -/
def execCabinetOpening (l : LaneId) (s : State) : Host.Outcome State Fault Refusal :=
  .next <|
    let t := s.moveLane l fun x => { x with cabinetPin := .opened }
    t.whenRunning fun u =>
      if (u.lane l).cabinetSeen = .locked then u.observeOpening l else u

/-- CABINET_RELOCK: the input shows the cabinet locked (04 R87). -/
def execCabinetRelock (l : LaneId) (s : State) : Host.Outcome State Fault Refusal :=
  .next <|
    let t := s.moveLane l fun x => { x with cabinetPin := .locked }
    t.whenRunning fun u => if (u.lane l).cabinetSeen = .opened then u.relock l else u

/-! ## The power-fail warning (04 R89) -/

/-- POWER_FAIL_WARNING_ASSERT: the input stands asserted; the lanes' rules read it (04 R89). -/
def execPowerFailWarningAssert (s : State) : Host.Outcome State Fault Refusal :=
  .next { s with powerFail := true }

/-- A lane's deferred feed or strobe issued (04 R89). -/
def State.resume (s : State) (l : LaneId) : State :=
  match (s.lane l).deferred with
  | some .feed => s.issueFeed l
  | some .strobe => s.strobeLine l
  | none => s

/-- POWER_FAIL_WARNING_DEASSERT: deferred operations are issued, lane by lane, and every lane IDLE
with a VERIFIED blank claims (04 R89; log entries 12 and 16). -/
def execPowerFailWarningDeassert (s : State) : Host.Outcome State Fault Refusal :=
  .next <|
    let t : State := { s with powerFail := false }
    t.whenRunning fun u => (allLanes.foldl State.resume u).reportEligible

/-! ## Requests (04 R71, R88) -/

/-- The head-position status and its serial, zero where it has none (04 R71). -/
def HeadStatus.given : HeadStatus → HeadPosition × Nat
  | .notPositioned => (.notPositioned, 0)
  | .unverified => (.unverified, 0)
  | .verified serial => (.verified, serial)

/-- A lane's record as READ_LANE gives it, absent fields as zero (04 R71). -/
def Lane.view (x : Lane) (pack : Option Pack) (expected : Option Nat) (reports : List Nat) :
    LaneView :=
  { state := x.state
    causes := x.causes
    packNumber := givenOrZero pack Pack.number
    packClass := givenOrZero pack Pack.cls
    remaining := givenOrZero pack Pack.remaining
    position := x.position
    expected := givenOrZero expected id
    head := x.head.given.1
    headSerial := x.head.given.2
    jobWindow := givenOrZero x.job fun j => j.1.val + 1
    jobSlot := givenOrZero x.job fun j => j.2.val + 1
    line := x.line
    inflight := x.inflight.isSome
    inflightSerial := givenOrZero x.inflight InFlight.serial
    begun := x.inflight.any InFlight.begun
    holdAfter := x.holdAfter
    advances := x.advances
    failedReads := x.failedReads
    cabinetSeen := x.cabinetSeen
    reports := reports }

/-- What READ_LANE answers of a lane (04 R71). Its ACTIVE report numbers stand in the order of the fault
list, oldest first, of which the spec says nothing: DESIGN CHOICE, unsafe (log entry 41). -/
def State.readLane (n : Nat) (s : State) : State × Reply :=
  match laneOf n with
  | none => (s, refusal .badArgument)
  | some l =>
    (s, accepted (.lane ((s.lane l).view (s.mounted l) (s.expected l)
      ((s.activeReports l).map (·.number)))))

/-- READ_LANE (04 R71). -/
def execReadLane (p : Port) (tag : Byte) (lane : Body Nat) (s : State) :
    Host.Outcome State Fault Refusal :=
  .next (s.plainRequest p tag .readLane lane (fun _ => true) fun n t => t.readLane n)

def State.advanceBlank (b : AdvanceBody) (s : State) : State × Reply :=
  match laneOf b.lane with
  | none => (s, refusal .badArgument)
  | some l =>
    if b.count < 1 ∨ 10 < b.count then (s, refusal .badArgument)
    else
      match (s.lane l).state with
      | .faulted => (s.countRefusal l, refusal .laneLocked)
      | .idle =>
        ((s.moveLane l fun x => { x with advances := b.count, state := .advancing }).feedAttempt l,
          accepted .bare)
      | _ => (s, refusal .laneBusy)

/-- ADVANCE_BLANK (04 R88, 10 R186). -/
def execAdvanceBlank (p : Port) (tag : Byte) (body : Body AdvanceBody) (s : State) :
    Host.Outcome State Fault Refusal :=
  .next (s.plainRequest p tag .advanceBlank body (fun _ => true) fun b t => t.advanceBlank b)

end Sys2Proof.Machine
end

