-- ==== Sys2Proof/Machine/Recovery.lean ====
section
/-! DEFINITION. Lane recovery and the fault list (10): CLEAR_LANE, PURGE_LANE, ACK_FAULT and
READ_FAULTS. -/

namespace Sys2Proof.Machine

/-! ## CLEAR_LANE (10 R182, R183) -/

/-- The kinds only PURGE_LANE or a withdrawal may clear (10 Table 10.2). -/
def FaultKind.purgeOnly : FaultKind → Bool
  | .feedJam | .cutJam | .headStall => true
  | .cabinetOpen | .markUnreadable | .stockDiscrepancy | .wrongStock | .powerInterrupted
  | .stockTableMismatch | .storeLost => false

/-- A report whose kind, or last other kind, is purge-only (10 R182 step 4). -/
def Report.needsPurge (r : Report) : Bool :=
  r.kind.purgeOnly || (r.lastOther.map FaultKind.purgeOnly).getD false

/-- The reports cleared, their change posted, and priming started (10 R183). -/
def State.clearTaken (s : State) (l : LaneId) : State :=
  ((s.recoverReports l .clear).postReport (.lane l)).startPriming l

/-- The checks of R182 (10), and the clearing. Where two of the lane's reports need a purge, PURGE_NEEDED
carries the number of the older, which R182 does not say: DESIGN CHOICE, unsafe (log entry 49). -/
def State.clearLane (n : Nat) (s : State) : State × Reply :=
  match laneOf n with
  | none => (s, refusal .badArgument)
  | some l =>
    match (s.lane l).state with
    | .purging => (s, refusal .laneBusy)
    | .faulted =>
      match (s.activeReports l).find? Report.needsPurge with
      | some r => (s, ⟨.purgeNeeded, .reportNumber r.number⟩)
      | none => (s.clearTaken l, accepted (.reportsCleared (s.recoverable l)))
    | _ => (s, refusal .notFaulted)

/-- CLEAR_LANE (10 R182, R183). -/
def execClearLane (p : Port) (tag : Byte) (lane : Body Nat) (s : State) :
    Host.Outcome State Fault Refusal :=
  .next (s.plainRequest p tag .clearLane lane (fun _ => true) fun n t => t.clearLane n)

/-! ## PURGE_LANE (10 R184) -/

/-- Step 1: everything the lane was doing is given up. -/
def Lane.abandon (x : Lane) : Lane := { x.stopped with advances := 0 }

/-- Step 4: PURGING, the flag by the cabinet as last observed. -/
def Lane.purge (x : Lane) : Lane :=
  { x with
    causes := .empty
    holdAfter := x.cabinetSeen == .opened
    failedReads := 0
    state := .purging }

/-- The five steps of a taken purge (10 R184). -/
def State.purge (s : State) (l : LaneId) : State :=
  let t := (s.moveLane l Lane.abandon).settle l
  let t := (t.recoverReports l .purge).postReport (.lane l)
  (t.moveLane l Lane.purge).feedAttempt l

/-- What the settling did, for the answer (10 R184): the serial spoiled, if one was. -/
def Lane.spoiledByPurge (x : Lane) : Option Nat :=
  match x.inflight with
  | some r => if r.begun then some r.serial else none
  | none => none

def Lane.handedBackByPurge (x : Lane) : Bool :=
  match x.inflight with
  | some r => !r.begun
  | none => false

def State.purgeLane (n : Nat) (s : State) : State × Reply :=
  match laneOf n with
  | none => (s, refusal .badArgument)
  | some l =>
    if (s.lane l).state = .offline then (s, refusal .noPack)
    else
      (s.purge l,
        accepted (.purged (s.recoverable l).length (s.lane l).spoiledByPurge
          (s.lane l).handedBackByPurge))

/-- PURGE_LANE (10 R184). -/
def execPurgeLane (p : Port) (tag : Byte) (lane : Body Nat) (s : State) :
    Host.Outcome State Fault Refusal :=
  .next (s.plainRequest p tag .purgeLane lane (fun _ => true) fun n t => t.purgeLane n)

/-! ## ACK_FAULT (10 R187) -/

/-- An ACTIVE report that an acknowledgment may not take (10 R187 steps 2 and 3). -/
def Report.stillActive (r : Report) : Bool :=
  r.isActive && (r.source != .controller || r.kind == .storeLost)

/-- A report acknowledged (10 R187). -/
def Report.acknowledge (r : Report) (at_ : Stamp) : Report :=
  match r.state with
  | .active => r.leave .acknowledged .ack at_
  | .cleared => { r with state := .acknowledged }
  | .acknowledged => r

def State.ackFault (n : Nat) (s : State) : State × Reply :=
  match s.faults.find? fun r => r.number == n with
  | none => (s, refusal .noReport)
  | some r =>
    if r.stillActive then (s, refusal .stillActive)
    else if r.state = .acknowledged then (s, accepted (.reportState .acknowledged))
    else
      ((s.mapReports fun q => if q.number = n then q.acknowledge s.stamp else q).postReport
          r.source,
        accepted (.reportState .acknowledged))

/-- ACK_FAULT (10 R187). -/
def execAckFault (p : Port) (tag : Byte) (report : Body Nat) (s : State) :
    Host.Outcome State Fault Refusal :=
  .next (s.plainRequest p tag .ackFault report (fun _ => true) fun n t => t.ackFault n)

/-! ## READ_FAULTS (10 R188) -/

/-- A lane's primary and secondary reports, by number, or zero (10 R177, R188). -/
def State.reportPair (s : State) (l : LaneId) : Nat × Nat :=
  (givenOrZero ((s.activeReports l).find? fun r => r.primary.isNone) Report.number,
   givenOrZero ((s.activeReports l).find? fun r => r.primary.isSome) Report.number)

def State.readFaults (n : Nat) (s : State) : State × Reply :=
  if Config.faultPlaces ≤ n then (s, refusal .badArgument)
  else
    (s, accepted (.faults s.faults.length (s.faults.filter Report.isActive).length s.faultCounter
      #v[s.reportPair 0, s.reportPair 1, s.reportPair 2, s.reportPair 3]
      ((s.faults.drop n).take 8)))

/-- READ_FAULTS (10 R188). -/
def execReadFaults (p : Port) (tag : Byte) (start : Body Nat) (s : State) :
    Host.Outcome State Fault Refusal :=
  .next (s.plainRequest p tag .readFaults start (fun _ => true) fun n t => t.readFaults n)

end Sys2Proof.Machine
end

