-- ==== Sys2Proof/Machine/Dispatch.lean ====
section
/-! DEFINITION. What each command does: one arm for each row of spec/opcode_table.json, one meaning for
each arm. -/

namespace Sys2Proof.Machine

def exec (i : Instr) (s : State) : Host.Outcome State Fault Refusal :=
  match i with
  | .portByteReceived p b framingError => Sys2Proof.Machine.execPortByteReceived p b framingError s
  | .gapTimerExpiry p => Sys2Proof.Machine.execGapTimerExpiry p s
  | .quietTimerExpiry p => Sys2Proof.Machine.execQuietTimerExpiry p s
  | .answerSent p => Sys2Proof.Machine.execAnswerSent p s
  | .openSession p tag body => Sys2Proof.Machine.execOpenSession p tag body s
  | .submitJob p tag body => Sys2Proof.Machine.execSubmitJob p tag body s
  | .supplyLines p tag body => Sys2Proof.Machine.execSupplyLines p tag body s
  | .holdJob p tag slot => Sys2Proof.Machine.execHoldJob p tag slot s
  | .amendJob p tag body => Sys2Proof.Machine.execAmendJob p tag body s
  | .releaseJob p tag slot => Sys2Proof.Machine.execReleaseJob p tag slot s
  | .withdrawJob p tag slot => Sys2Proof.Machine.execWithdrawJob p tag slot s
  | .voidTicket p tag body => Sys2Proof.Machine.execVoidTicket p tag body s
  | .declareBegin p tag n => Sys2Proof.Machine.execDeclareBegin p tag n s
  | .declareItem p tag body => Sys2Proof.Machine.execDeclareItem p tag body s
  | .declareConfirm p tag body => Sys2Proof.Machine.execDeclareConfirm p tag body s
  | .fetchNotice p tag body => Sys2Proof.Machine.execFetchNotice p tag body s
  | .readJob p tag body => Sys2Proof.Machine.execReadJob p tag body s
  | .readSession p tag body => Sys2Proof.Machine.execReadSession p tag body s
  | .readLane p tag lane => Sys2Proof.Machine.execReadLane p tag lane s
  | .declarePack p tag body => Sys2Proof.Machine.execDeclarePack p tag body s
  | .mountPack p tag body => Sys2Proof.Machine.execMountPack p tag body s
  | .withdrawPack p tag body => Sys2Proof.Machine.execWithdrawPack p tag body s
  | .collectPack p tag pack => Sys2Proof.Machine.execCollectPack p tag pack s
  | .readPack p tag body => Sys2Proof.Machine.execReadPack p tag body s
  | .startCensus p tag body => Sys2Proof.Machine.execStartCensus p tag body s
  | .suspendCensus p tag body => Sys2Proof.Machine.execSuspendCensus p tag body s
  | .resumeCensus p tag body => Sys2Proof.Machine.execResumeCensus p tag body s
  | .stopCensus p tag body => Sys2Proof.Machine.execStopCensus p tag body s
  | .readCensus p tag body => Sys2Proof.Machine.execReadCensus p tag body s
  | .censusEntryStep => Sys2Proof.Machine.execCensusEntryStep s
  | .clearLane p tag lane => Sys2Proof.Machine.execClearLane p tag lane s
  | .purgeLane p tag lane => Sys2Proof.Machine.execPurgeLane p tag lane s
  | .advanceBlank p tag body => Sys2Proof.Machine.execAdvanceBlank p tag body s
  | .ackFault p tag report => Sys2Proof.Machine.execAckFault p tag report s
  | .readFaults p tag start => Sys2Proof.Machine.execReadFaults p tag start s
  | .defineForm p tag body => Sys2Proof.Machine.execDefineForm p tag body s
  | .readForm p tag form => Sys2Proof.Machine.execReadForm p tag form s
  | .setDiscount p tag body => Sys2Proof.Machine.execSetDiscount p tag body s
  | .setLimits p tag body => Sys2Proof.Machine.execSetLimits p tag body s
  | .setPermissions p tag body => Sys2Proof.Machine.execSetPermissions p tag body s
  | .collectCashup p tag window => Sys2Proof.Machine.execCollectCashup p tag window s
  | .reopenSession p tag window => Sys2Proof.Machine.execReopenSession p tag window s
  | .setClock p tag time => Sys2Proof.Machine.execSetClock p tag time s
  | .restart p tag body => Sys2Proof.Machine.execRestart p tag body s
  | .storeReinitialise p tag body => Sys2Proof.Machine.execStoreReinitialise p tag body s
  | .claimRequest l => Sys2Proof.Machine.execClaimRequest l s
  | .claimAnswer l => Sys2Proof.Machine.execClaimAnswer l s
  | .scannerVisit => Sys2Proof.Machine.execScannerVisit s
  | .positioned l => Sys2Proof.Machine.execPositioned l s
  | .headReady l => Sys2Proof.Machine.execHeadReady l s
  | .cutDone l => Sys2Proof.Machine.execCutDone l s
  | .markRecord l record => Sys2Proof.Machine.execMarkRecord l record s
  | .markReadTimeout l => Sys2Proof.Machine.execMarkReadTimeout l s
  | .feedTimeout l => Sys2Proof.Machine.execFeedTimeout l s
  | .strobeTimeout l => Sys2Proof.Machine.execStrobeTimeout l s
  | .cutTimeout l => Sys2Proof.Machine.execCutTimeout l s
  | .cabinetOpening l => Sys2Proof.Machine.execCabinetOpening l s
  | .cabinetRelock l => Sys2Proof.Machine.execCabinetRelock l s
  | .powerFailWarningAssert => Sys2Proof.Machine.execPowerFailWarningAssert s
  | .powerFailWarningDeassert => Sys2Proof.Machine.execPowerFailWarningDeassert s
  | .resetAsserted => Sys2Proof.Machine.execResetAsserted s
  | .powerOn => Sys2Proof.Machine.execPowerOn s
  | .officeClockTick => Sys2Proof.Machine.execOfficeClockTick s
  | .runTimeTick => Sys2Proof.Machine.execRunTimeTick s
  | .supplyLoss batteryKept => Sys2Proof.Machine.execSupplyLoss batteryKept s

end Sys2Proof.Machine
end

