-- ==== Sys2Proof/Safety.lean ====
section
/-! DEFINITION. The terms the statements use: what a command leaves unchanged, what an answer is,
the requests among the commands, a frame received byte by byte, and the rules of the spec that every
state keeps (its "invariants"), each with the rule it states. -/

namespace Sys2Proof.Machine

/-! ## Frames -/

/-- The parts of State a command may change. -/
inductive Part where
  | phase | powerFail | receivers | queues | grants | forms | slots | scanner | lanes | packs
  | nextPack | census | discounts | limits | sessions | journal | faults | clock | runTime | store
  | pending
  deriving DecidableEq, Repr

/-- A part is the same in both states. -/
def State.same (s t : State) : Part → Prop
  | .phase => t.phase = s.phase
  | .powerFail => t.powerFail = s.powerFail
  | .receivers => ∀ q, (t.port q).rx = (s.port q).rx ∧ (t.port q).tx = (s.port q).tx
  | .queues => ∀ q, (t.port q).queue = (s.port q).queue
  | .grants => t.grants = s.grants
  | .forms => t.forms = s.forms
  | .slots => t.slots = s.slots
  | .scanner => t.scanner = s.scanner
  | .lanes => t.lanes = s.lanes
  | .packs => t.packs = s.packs
  | .nextPack => t.nextPack = s.nextPack
  | .census => t.census = s.census
  | .discounts => t.discounts = s.discounts
  | .limits => t.limits = s.limits
  | .sessions => t.sessions = s.sessions
  | .journal =>
    t.journal = s.journal ∧ t.journalInUse = s.journalInUse ∧
      t.journalReserved = s.journalReserved
  | .faults => t.faults = s.faults ∧ t.faultCounter = s.faultCounter
  | .clock => t.clock = s.clock
  | .runTime => t.runTime = s.runTime
  | .store => t.storeValid = s.storeValid ∧ t.checkAgrees = s.checkAgrees
  | .pending => t.pending = s.pending

/-- Every part but those listed is the same. -/
def State.changesOnly (s t : State) (parts : List Part) : Prop :=
  ∀ x, x ∉ parts → s.same t x

/-- The queues of `t` are those of `s` after the notices `posts` are posted. -/
def State.queuesAfter (s t : State) (posts : State → State) : Prop :=
  ∀ q, (t.port q).queue = ((posts s).port q).queue

/-- Only lane `l` may differ. -/
def State.otherLanes (s t : State) (l : LaneId) : Prop := ∀ m, m ≠ l → t.lane m = s.lane m

/-- Only one slot may differ. -/
def State.otherSlots (s t : State) (w : Window) (k : SlotId) : Prop :=
  ∀ v j, (v, j) ≠ (w, k) → t.slot v j = s.slot v j

/-- Only one window's session may differ. -/
def State.otherSessions (s t : State) (w : Window) : Prop :=
  ∀ v, v ≠ w → t.session v = s.session v

/-- Only one form's record may differ. -/
def State.otherForms (s t : State) (f : Fin 8) : Prop := ∀ g, g ≠ f → t.form g = s.form g

/-- Every lane takes a report of an eligible job, where there was one to make (03 R54): one that
stands IDLE with a VERIFIED blank sends its claim request, and nothing else of any lane changes. A
request still under way serves for the new report too (log entry 13). -/
def State.lanesTold (s t : State) (told : Bool) : Prop :=
  ∀ l, t.lane l = if told then (s.lane l).claiming s.powerFail else s.lane l

/-- Only lane `l` may differ, but that another may have sent a claim request (03 R54). -/
def State.otherLanesTold (s t : State) (l : LaneId) : Prop :=
  ∀ m, m ≠ l → t.lane m = s.lane m ∨ t.lane m = (s.lane m).claiming s.powerFail

/-- Only pack `n` may differ. -/
def State.otherPacks (s t : State) (n : Nat) : Prop := ∀ m, m ≠ n → t.findPack m = s.findPack m

/-- Nothing but the answering port's receiver and answer has changed, and a declaration in progress
dropped by a request of its window that is not part of it (01 R5; 09 R166). -/
def State.refusedAt (s t : State) (p : Port) : Prop :=
  s.changesOnly t [.receivers, .sessions] ∧
    ∀ w, t.session w = s.session w ∨
      (p = .window w ∧ t.session w = { s.session w with inProgress := Option.none })

/-! ## Answers (01 R3, R4) -/

/-- The port is answered: its receiver BUSY with the answer being sent; no other port's receiver or
answer has changed. -/
def State.answered (s t : State) (p : Port) (k : RequestKind) (tag : Byte) (r : Reply) : Prop :=
  (t.port p).rx = .busy none ∧ (t.port p).tx = some ⟨answerKind k.byte, tag, r⟩ ∧
    ∀ q, q ≠ p → (t.port q).rx = (s.port q).rx ∧ (t.port q).tx = (s.port q).tx

/-- The port takes this request and admission passes it, a read's window apart (01 R3, R6). -/
abbrev State.admits (s : State) (p : Port) (k : RequestKind) (tag : Byte) : Prop :=
  (s.port p).rx.takes k tag = true ∧ s.admission p k true true = none

/-- The request a command makes: its port, kind and tag. -/
def requestOf : Instr → Option (Port × RequestKind × Byte)
  | .openSession p g _ => some (p, .openSession, g)
  | .submitJob p g _ => some (p, .submitJob, g)
  | .supplyLines p g _ => some (p, .supplyLines, g)
  | .holdJob p g _ => some (p, .holdJob, g)
  | .amendJob p g _ => some (p, .amendJob, g)
  | .releaseJob p g _ => some (p, .releaseJob, g)
  | .withdrawJob p g _ => some (p, .withdrawJob, g)
  | .voidTicket p g _ => some (p, .voidTicket, g)
  | .declareBegin p g _ => some (p, .declareBegin, g)
  | .declareItem p g _ => some (p, .declareItem, g)
  | .declareConfirm p g _ => some (p, .declareConfirm, g)
  | .fetchNotice p g _ => some (p, .fetchNotice, g)
  | .readJob p g _ => some (p, .readJob, g)
  | .readSession p g _ => some (p, .readSession, g)
  | .readLane p g _ => some (p, .readLane, g)
  | .declarePack p g _ => some (p, .declarePack, g)
  | .mountPack p g _ => some (p, .mountPack, g)
  | .withdrawPack p g _ => some (p, .withdrawPack, g)
  | .collectPack p g _ => some (p, .collectPack, g)
  | .readPack p g _ => some (p, .readPack, g)
  | .startCensus p g _ => some (p, .startCensus, g)
  | .suspendCensus p g _ => some (p, .suspendCensus, g)
  | .resumeCensus p g _ => some (p, .resumeCensus, g)
  | .stopCensus p g _ => some (p, .stopCensus, g)
  | .readCensus p g _ => some (p, .readCensus, g)
  | .clearLane p g _ => some (p, .clearLane, g)
  | .purgeLane p g _ => some (p, .purgeLane, g)
  | .advanceBlank p g _ => some (p, .advanceBlank, g)
  | .ackFault p g _ => some (p, .ackFault, g)
  | .readFaults p g _ => some (p, .readFaults, g)
  | .defineForm p g _ => some (p, .defineForm, g)
  | .readForm p g _ => some (p, .readForm, g)
  | .setDiscount p g _ => some (p, .setDiscount, g)
  | .setLimits p g _ => some (p, .setLimits, g)
  | .setPermissions p g _ => some (p, .setPermissions, g)
  | .collectCashup p g _ => some (p, .collectCashup, g)
  | .reopenSession p g _ => some (p, .reopenSession, g)
  | .setClock p g _ => some (p, .setClock, g)
  | .restart p g _ => some (p, .restart, g)
  | .storeReinitialise p g _ => some (p, .storeReinitialise, g)
  | .portByteReceived _ _ _ | .gapTimerExpiry _ | .quietTimerExpiry _ | .answerSent _
  | .censusEntryStep | .claimRequest _ | .claimAnswer _ | .scannerVisit | .positioned _
  | .headReady _ | .cutDone _ | .markRecord _ _ | .markReadTimeout _ | .feedTimeout _
  | .strobeTimeout _ | .cutTimeout _ | .cabinetOpening _ | .cabinetRelock _
  | .powerFailWarningAssert | .powerFailWarningDeassert | .resetAsserted | .powerOn
  | .officeClockTick | .runTimeTick | .supplyLoss _ => none

/-- Whether the body of a request has the length and layout of its kind (01 R6 step 3). -/
def bodyFits : Instr → Bool
  | .openSession _ _ b => b.isSome
  | .submitJob _ _ b => b.any SubmitBody.fits
  | .supplyLines _ _ b => b.any SupplyBody.fits
  | .holdJob _ _ b => b.isSome
  | .amendJob _ _ b => b.any AmendBody.fits
  | .releaseJob _ _ b => b.isSome
  | .withdrawJob _ _ b => b.isSome
  | .voidTicket _ _ b => b.isSome
  | .declareBegin _ _ b => b.isSome
  | .declareItem _ _ b => b.isSome
  | .declareConfirm _ _ b => b.isSome
  | .fetchNotice _ _ b => b.isSome
  | .readJob _ _ b => b.any ReadJobBody.fits
  | .readSession _ _ b => b.any ReadSessionBody.fits
  | .readLane _ _ b => b.isSome
  | .declarePack _ _ b => b.isSome
  | .mountPack _ _ b => b.isSome
  | .withdrawPack _ _ b => b.isSome
  | .collectPack _ _ b => b.isSome
  | .readPack _ _ b => b.isSome
  | .startCensus _ _ b => b.isSome
  | .suspendCensus _ _ b => b.isSome
  | .resumeCensus _ _ b => b.isSome
  | .stopCensus _ _ b => b.isSome
  | .readCensus _ _ b => b.isSome
  | .clearLane _ _ b => b.isSome
  | .purgeLane _ _ b => b.isSome
  | .advanceBlank _ _ b => b.isSome
  | .ackFault _ _ b => b.isSome
  | .readFaults _ _ b => b.isSome
  | .defineForm _ _ b => b.isSome
  | .readForm _ _ b => b.isSome
  | .setDiscount _ _ b => b.any DiscountBody.fits
  | .setLimits _ _ b => b.isSome
  | .setPermissions _ _ b => b.isSome
  | .collectCashup _ _ b => b.isSome
  | .reopenSession _ _ b => b.isSome
  | .setClock _ _ b => b.isSome
  | .restart _ _ b => b.isSome
  | .storeReinitialise _ _ b => b.isSome
  | .portByteReceived _ _ _ | .gapTimerExpiry _ | .quietTimerExpiry _ | .answerSent _
  | .censusEntryStep | .claimRequest _ | .claimAnswer _ | .scannerVisit | .positioned _
  | .headReady _ | .cutDone _ | .markRecord _ _ | .markReadTimeout _ | .feedTimeout _
  | .strobeTimeout _ | .cutTimeout _ | .cabinetOpening _ | .cabinetRelock _
  | .powerFailWarningAssert | .powerFailWarningDeassert | .resetAsserted | .powerOn
  | .officeClockTick | .runTimeTick | .supplyLoss _ => true

/-- A window's read that names another window (01 R6 step 2). -/
def namesOtherWindow : Instr → Bool
  | .readJob (.window w) _ (some b) => windowOf b.window != some w
  | .readSession (.window w) _ (some b) => windowOf b.window != some w
  | _ => false

/-- Whether a request lacks the grant it needs (01 Table 1.3, R7). -/
def lacksGrant (s : State) : Port → RequestKind → Bool
  | .window w, .submitJob => !s.grants[w].issue
  | .window w, .voidTicket => !s.grants[w].void
  | .window w, .declareBegin => !s.grants[w].declare
  | _, _ => false

/-- The commands at which the supply goes or comes. -/
def isPower : Instr → Bool
  | .powerOn => true
  | .supplyLoss _ => true
  | _ => false

/-- The commands that act on the census unit itself; every other reaches it by a mark change alone
(06 R120). -/
def isCensusCommand : Instr → Bool
  | .startCensus _ _ _ | .suspendCensus _ _ _ | .resumeCensus _ _ _ | .stopCensus _ _ _
  | .censusEntryStep | .restart _ _ _ | .storeReinitialise _ _ _ | .powerOn | .supplyLoss _ => true
  | _ => false

/-! ## The names of the result codes (01 R5) -/

/-- A result code's name as the manual writes it. -/
def ResultCode.name : ResultCode → String
  | .ok => "OK"
  | .frameRejected => "FRAME_REJECTED"
  | .unknownKind => "UNKNOWN_KIND"
  | .wrongPort => "WRONG_PORT"
  | .malformed => "MALFORMED"
  | .storeInvalid => "STORE_INVALID"
  | .notPermitted => "NOT_PERMITTED"
  | .none => "NONE"
  | .alreadyDeclared => "ALREADY_DECLARED"
  | .alreadyVoided => "ALREADY_VOIDED"
  | .badArgument => "BAD_ARGUMENT"
  | .badDiscount => "BAD_DISCOUNT"
  | .badFare => "BAD_FARE"
  | .badForm => "BAD_FORM"
  | .badRange => "BAD_RANGE"
  | .censusBusy => "CENSUS_BUSY"
  | .censusNeeded => "CENSUS_NEEDED"
  | .declarationAbandoned => "DECLARATION_ABANDONED"
  | .fixedEntry => "FIXED_ENTRY"
  | .formUnknown => "FORM_UNKNOWN"
  | .jobsOutstanding => "JOBS_OUTSTANDING"
  | .jobEnded => "JOB_ENDED"
  | .journalFull => "JOURNAL_FULL"
  | .laneBusy => "LANE_BUSY"
  | .laneLocked => "LANE_LOCKED"
  | .notDeclared => "NOT_DECLARED"
  | .notFaulted => "NOT_FAULTED"
  | .notHeld => "NOT_HELD"
  | .notIssued => "NOT_ISSUED"
  | .notQueued => "NOT_QUEUED"
  | .notRunning => "NOT_RUNNING"
  | .notSuspended => "NOT_SUSPENDED"
  | .notWithdrawn => "NOT_WITHDRAWN"
  | .notYours => "NOT_YOURS"
  | .noCensus => "NO_CENSUS"
  | .noDeclaration => "NO_DECLARATION"
  | .noJob => "NO_JOB"
  | .noPack => "NO_PACK"
  | .noReport => "NO_REPORT"
  | .noRoom => "NO_ROOM"
  | .noSession => "NO_SESSION"
  | .noSlot => "NO_SLOT"
  | .outcomeUnread => "OUTCOME_UNREAD"
  | .outOfOrder => "OUT_OF_ORDER"
  | .overlap => "OVERLAP"
  | .packMounted => "PACK_MOUNTED"
  | .packReferenced => "PACK_REFERENCED"
  | .packWithdrawn => "PACK_WITHDRAWN"
  | .pendingBound => "PENDING_BOUND"
  | .purgeNeeded => "PURGE_NEEDED"
  | .sessionDeclaring => "SESSION_DECLARING"
  | .sessionExists => "SESSION_EXISTS"
  | .stillActive => "STILL_ACTIVE"
  | .tooLate => "TOO_LATE"
  | .tooManyLines => "TOO_MANY_LINES"
  | .unknownBlank => "UNKNOWN_BLANK"
  | .voidWindowPassed => "VOID_WINDOW_PASSED"
  | .windowInSession => "WINDOW_IN_SESSION"
  | .withdrawn => "WITHDRAWN"

/-- The 7-bit character codes of a result code's name (01 R5). -/
def ResultCode.codeName (c : ResultCode) : List Nat := c.name.toList.map Char.toNat

/-! ## Encodings received -/

/-- Bytes received one after another on a port, without framing errors. -/
def receiveAll (p : Port) : List Byte → State → Host.Outcome State Fault Refusal
  | [], s => .next s
  | b :: rest, s =>
    match exec (.portByteReceived p b false) s with
    | .next t => receiveAll p rest t
    | .fault f => .fault f
    | .refused r => .refused r

/-- The mark record printed on a blank (01 Table 1.10, R20). -/
def markRecordOf (cls serial : Nat) : Vector Byte 6 :=
  let a := BitVec.ofNat 8 cls
  let b := BitVec.ofNat 8 serial
  let c := BitVec.ofNat 8 (serial / 256)
  let d := BitVec.ofNat 8 (serial / 65536)
  let k := (markCheck [a, b, c, d]).toNat
  #v[a, b, c, d, BitVec.ofNat 8 k, BitVec.ofNat 8 (k / 256)]

/-! ## Texts -/

/-- A text is a number in decimal without leading zeros, "0" for 0 (02 R37; 07 R135). -/
def Text.spells (t : Text) (n : Nat) : Prop :=
  t ≠ [] ∧ (∀ x ∈ t, 0x30 ≤ x.toNat ∧ x.toNat ≤ 0x39) ∧
    (1 < t.length → t.head? ≠ some 0x30) ∧
    t.foldl (fun m x => 10 * m + (x.toNat - 0x30)) 0 = n

/-! ## A whole ticket composed -/

/-- A composer back in IDLE, its working copy and stamp texts discarded (02 R38). -/
def Composer.released (c : Composer) : Prop :=
  c.state = .idle ∧ c.copy = none ∧ c.serialText = [] ∧ c.timeText = [] ∧ c.priceText = []

/-- The texts of lines 0 to n − 1 asked for in order, the job holding `lines` throughout, and the
composer after them (02 R33). -/
def Composer.ticket (c : Composer) (lines : List Text) : Nat → Composer × List Text
  | 0 => (c, [])
  | n + 1 =>
    let r := c.ticket lines n
    let x := r.1.compose lines n
    (x.1, r.2 ++ [x.2])

/-- The line numbers of a definition's body content lines, in order (02 R24, Table 2.4). -/
def bodyContentLines (d : FormDef) : List Nat :=
  (List.range d.bodyEnd).filter fun i => !d.isGap i && !d.bodyStamps.contains i

/-! ## What every state keeps -/

/-- The objects of a window's queue, and of the office's (01 Table 1.9). -/
def NoticeObject.atWindow : NoticeObject → Bool
  | .slot _ | .lane _ | .ownSession | .ownPermissions | .controller => true
  | .faultList | .stock | .census | .forms | .store | .sessionOf _ => false

def NoticeObject.atOffice : NoticeObject → Bool
  | .lane _ | .faultList | .stock | .census | .forms | .store | .controller | .sessionOf _ => true
  | .slot _ | .ownSession | .ownPermissions => false

/-- The kind of notice an object has (01 Table 1.4). -/
def NoticeObject.kind : NoticeObject → NoticeKind
  | .slot _ => .slotOutcome
  | .lane _ => .laneChange
  | .ownSession => .sessionChange
  | .sessionOf _ => .sessionChange
  | .ownPermissions => .permissions
  | .faultList => .faultsChange
  | .stock => .stockChange
  | .census => .censusChange
  | .forms => .formsChange
  | .store => .storeChange
  | .controller => .controllerStart

/-- A notice's kind is its object's, and it carries an outcome's fields exactly where it is a
SLOT_OUTCOME (01 R12, R13). -/
def Notice.wf (n : Notice) : Bool :=
  n.kind == n.object.kind && n.detail.isSome == (n.kind == .slotOutcome)

/-- A queue of well-formed notices for the port's own objects, one for each object (01 R11). -/
abbrev queueWf (own : NoticeObject → Bool) (q : List Notice) : Prop :=
  (q.map Notice.object).Nodup ∧ ∀ n ∈ q, n.wf = true ∧ own n.object = true

/-- Every notice queue is well formed (01 R11 to R13). -/
abbrev State.queuesHold (s : State) : Prop :=
  (∀ w : Window, queueWf NoticeObject.atWindow s.windows[w].queue) ∧
    queueWf NoticeObject.atOffice s.office.queue

/-- A form's definitions are valid and kept as stored; it is UNDEFINED exactly at generation 0
(02 R21 to R24). -/
def FormRecord.wf (f : FormRecord) : Bool :=
  f.current.all (fun d => d.valid && d.stored == d) &&
  f.pending.all (fun d => d.valid && d.stored == d) &&
  (f.current.isNone == (f.generation == 0)) && f.generation ≤ 255

abbrev State.formsHold (s : State) : Prop := ∀ f : Fin 8, (s.form f).wf = true

/-- An entry of the discount table in range (07 Table 7.1, R130). -/
def DiscountEntry.wf (e : DiscountEntry) : Bool :=
  match e.state with
  | .unused => e == .unused
  | .active =>
    e.rate ≤ Config.wholeRate && e.floor ≤ Config.maxFare &&
      (e.step == 1 || e.step == 5 || e.step == 10) && !isEmptySet e.classes

/-- The discount table: entry 0 fixed, the others in range (07 R130). -/
abbrev State.discountsHold (s : State) : Prop :=
  s.discounts[0] = .fixed ∧ ∀ c : Fin 16, s.discounts[c].wf = true

/-- The limits in their ranges (11 Table 11.2). -/
def Limits.wf (l : Limits) : Bool :=
  (allWindows.all fun w => l.waits[w] == 0 || (5 ≤ l.waits[w] && l.waits[w] ≤ 600)) &&
  l.voidWindow ≤ 900 && l.stockLow ≤ 255 &&
  l.tolerances.cash ≤ 10000 && l.tolerances.card ≤ 10000 && l.tolerances.warrant ≤ 10000 &&
  l.tolerances.voucher ≤ 10000 && 0x20 ≤ l.currencyMark.toNat

abbrev State.limitsHold (s : State) : Prop := s.limits.wf = true

/-- Two packs share no serial of one class (05 R95). -/
abbrev Pack.apart (p q : Pack) : Prop :=
  ¬ (p.cls = q.cls ∧ p.first < q.first + q.count ∧ q.first < p.first + p.count)

/-- The pack table keeps its limits, its numbers are distinct, its packs apart, and every pack's
counters count its marks (05 R93, R95, R96). -/
abbrev State.stockHolds (s : State) : Prop :=
  s.packs.length ≤ Config.packPlaces ∧ s.entriesUsed ≤ Config.blankEntries ∧
    (s.packs.map Pack.number).Nodup ∧ s.packs.Pairwise Pack.apart ∧
    (∀ p ∈ s.packs, p.wf = true ∧ 1 ≤ p.count ∧ 1 ≤ p.number ∧ p.number ≤ 65535) ∧
    1 ≤ s.nextPack ∧ s.nextPack ≤ 65535

/-- A declaration in progress (09 Table 9.1): 1 to 4 items expected, no more received, no tender
twice. -/
def DeclarationInProgress.wf (d : DeclarationInProgress) : Bool :=
  1 ≤ d.expected && d.expected ≤ 4 && d.items.length ≤ d.expected &&
    decide (d.items.map Prod.fst).Nodup

/-- The cash-up parts a session state has (09 R160). -/
def Session.partsHold (x : Session) : Bool :=
  match x.state with
  | .none => x.inProgress.isNone && x.declaration.isNone && x.result.isNone
  | .opened => x.inProgress.isNone && x.declaration.isNone && x.result.isNone
  | .declaring =>
    x.inProgress.all DeclarationInProgress.wf && x.declaration.isNone && x.result.isNone
  | .declared => x.inProgress.isNone && x.declaration.isSome && x.result.isSome

abbrev State.sessionsHold (s : State) : Prop := ∀ w : Window, (s.session w).partsHold = true

/-- The entries in use are the entries of the journal, and each session's are numbered 1, 2, 3 and
upward in the order written (08 R145, R147). -/
abbrev State.journalHolds (s : State) : Prop :=
  s.journalInUse = s.journal.length ∧
    ∀ w : Window, (s.entriesOf w).map JournalEntry.number =
      (List.range (s.entriesOf w).length).map (· + 1)

/-- A lane's pack is in the table, MOUNTED, with that lane as its own, so a pack is under one lane at
most; and a pack has a lane exactly where it is MOUNTED (05 R101, Table 5.2). -/
def State.bindingsHold (s : State) : Prop :=
  (∀ (l : LaneId) (n : Nat), (s.lane l).pack = some n →
    ∃ p, s.findPack n = some p ∧ p.state = .mounted ∧ p.lane = some l) ∧
    ∀ p ∈ s.packs, p.lane.isSome = (p.state == .mounted)

/-- A pack's journal references count the journal entries that name it, and every entry names a pack
in the table (05 R109; 08 R146). -/
def State.referencesHold (s : State) : Prop :=
  (∀ p ∈ s.packs, p.references =
    (s.journal.filter fun e => e.data.pack == p.number).length) ∧
    ∀ e ∈ s.journal, ∃ p ∈ s.packs, p.number = e.data.pack

/-- A controller report is of one of the controller's two kinds (10 Table 10.2). -/
def Report.kindFits (r : Report) : Bool :=
  r.source != .controller || r.kind == .stockTableMismatch || r.kind == .storeLost

/-- The ACTIVE reports of a source, and of a source and kind. -/
def State.activeOf (s : State) (src : FaultSource) : List Report :=
  s.faults.filter fun r => r.isActive && r.source == src

/-- A lane has at most two ACTIVE reports, of distinct kinds; and a CABINET_OPEN report keeps a last
other kind only as one of two, and never the kind of either, so that the relock that gives it that kind
leaves the kinds distinct (10 R177, R181). -/
abbrev State.laneReportsHold (s : State) (l : LaneId) : Prop :=
  (s.activeOf (.lane l)).length ≤ 2 ∧ ((s.activeOf (.lane l)).map Report.kind).Nodup ∧
    ∀ r ∈ s.activeOf (.lane l), r.kind = .cabinetOpen → r.lastOther ≠ none →
      (s.activeOf (.lane l)).length = 2 ∧
        ∀ x ∈ s.activeOf (.lane l), r.lastOther ≠ some x.kind

/-- The fault list keeps its places and distinct numbers, every lane its ACTIVE reports, and the
controller at most one of each of its kinds (10 R176 to R178). -/
abbrev State.faultsHold (s : State) : Prop :=
  s.faults.length ≤ Config.faultPlaces ∧ (s.faults.map Report.number).Nodup ∧
    (∀ r ∈ s.faults, 1 ≤ r.number ∧ r.number ≤ 65535 ∧ r.kindFits = true) ∧
    (∀ l : LaneId, s.laneReportsHold l) ∧
    ((s.activeOf .controller).map Report.kind).Nodup ∧
    1 ≤ s.faultCounter ∧ s.faultCounter ≤ 65535

/-- Where an operation may be awaited or deferred (04 R75, R76, R80, R81). -/
def LaneOp.fits : LaneOp → LaneState → Bool
  | .feed, .feeding | .feed, .advancing | .feed, .purging => true
  | .strobe, .printing => true
  | .cut, .cutting => true
  | .read, .priming | .read, .verifying | .read, .advancing | .read, .purging => true
  | _, _ => false

def DeferredOp.fits : DeferredOp → LaneState → Bool
  | .feed, .feeding | .feed, .advancing | .feed, .purging => true
  | .strobe, .printing => true
  | _, _ => false

/-- The states with a ticket under way. -/
def LaneState.hasTicket : LaneState → Bool
  | .printing | .cutting => true
  | _ => false

/-- A lane's record fits its state: causes in HOLDING alone, operations where they belong and never
two, a ticket exactly in PRINTING and CUTTING, no pack exactly in OFFLINE, and a VERIFIED blank in
IDLE (04 Table 4.1, R72, R78, R79, R89). -/
def Lane.wf (x : Lane) : Bool :=
  (x.state == .holding || x.causes == .empty) &&
  x.awaiting.all (fun op => op.fits x.state) && x.deferred.all (fun op => op.fits x.state) &&
  (x.awaiting.isNone || x.deferred.isNone) &&
  (x.inflight.isSome == x.state.hasTicket) && (x.job.isSome == x.state.hasTicket) &&
  (x.pack.isNone == (x.state == .offline)) &&
  (x.state != .idle || x.head.isVerified)

/-- Without supply a lane keeps a record only with its binding (04 Table 4.1). -/
def Lane.keptWf (x : Lane) : Bool := x.inflight.isNone || x.pack.isSome

/-- Every lane's record fits its state while the part has its supply; while it does not run, every
receiver is in STARTING (04 Table 4.2; 01 R18). -/
def State.lanesHold (s : State) : Prop :=
  (s.phase ≠ .unpowered → ∀ l : LaneId, (s.lane l).wf = true) ∧
    (∀ l : LaneId, (s.lane l).keptWf = true) ∧
    (s.phase ≠ .running → ∀ p : Port, (s.port p).rx = .starting)

/-- The active jobs bound to a generation of a form (02 R21). -/
def State.boundJobs (s : State) (f : Fin 8) (g : Nat) : Nat :=
  (s.jobs.filter fun x =>
    x.2.2.isActive && x.2.2.form == f && x.2.2.generation == some g).length

/-- While the part has its supply a form's use count counts the active jobs bound to its current
generation and its waiting count those bound to the coming one; a definition is pending only with
jobs in use, jobs wait only for a pending definition, and every active job is bound to one of the
two (02 R21, R25, R27 to R29). -/
def State.formCountsHold (s : State) : Prop :=
  s.phase ≠ .unpowered → ∀ f : Fin 8,
    (s.form f).useCount = s.boundJobs f (s.form f).generation ∧
    (s.form f).waitingCount = s.boundJobs f (nextGeneration (s.form f).generation) ∧
    ((s.form f).pending.isSome = true → 0 < (s.form f).useCount) ∧
    (0 < (s.form f).waitingCount → (s.form f).pending.isSome = true) ∧
    ∀ w k j, s.job w k = some j → j.isActive = true → j.form = f →
      j.generation = some (s.form f).generation ∨
        j.generation = some (nextGeneration (s.form f).generation)

/-- The tickets that had begun to print, in the lanes' order: lane, in-flight record and mounted pack
(04 R90; log entry 12). -/
def State.interrupted (s : State) : List (LaneId × InFlight × Pack) :=
  allLanes.filterMap fun l =>
    match (s.lane l).inflight, s.mounted l with
    | some r, some k => if r.begun then some (l, r, k) else none
    | _, _ => none

/-- The interrupted tickets of a window. -/
def lostOf (x : List (LaneId × InFlight × Pack)) (w : Window) : Nat :=
  (x.filter fun y => y.2.1.window == w).length

/-- The jobs a lane holds, handed to it or under its head, with their reservations. -/
def Lane.holdings (x : Lane) : List (Window × SlotId × Nat) :=
  (x.handed.map fun h => (h.window, h.slot, h.reserved)).toList ++
    (x.inflight.map fun r => (r.window, r.slot, r.reserved)).toList

/-- The reserved entries of a window's jobs. -/
def State.jobReservations (s : State) (w : Window) : Nat :=
  (allSlots.map fun k => ((s.job w k).map Job.reserved).getD 0).sum

/-- The journal's reservations: the sessions' add up to the journal's, and with the entries in use
they never pass its size; an in-flight record retains at least one, and a window's records no more
than its session's; and while the part has its supply a session's are its jobs', an active job's
what its attempts leave of three, in an OPEN session, and an ended job's none; a lane holds one job
at most, PRINTING under that lane with the same reservation, and no claim request of a lane with a ticket
is under way (08 R147 to R149, R158; 03 R53, R56, R57, R59, R60; log entry 13). -/
def State.reservationsHold (s : State) : Prop :=
  s.journalReserved = (allWindows.map fun w => (s.session w).reserved).sum ∧
    s.journalInUse + s.journalReserved ≤ 4096 ∧
    (∀ l r, (s.lane l).inflight = some r → 1 ≤ r.reserved) ∧
    (∀ w, s.retainedFor w ≤ (s.session w).reserved) ∧
    (s.phase ≠ .unpowered →
      (∀ w, (s.session w).reserved = s.jobReservations w) ∧
      (∀ w k j, s.job w k = some j →
        if j.isActive = true then j.attempts ≤ 2 ∧ j.reserved = 3 - j.attempts ∧
          (s.session w).state = .opened
        else j.reserved = 0) ∧
      ∀ l, (s.lane l).holdings.length ≤ 1 ∧
        ((s.lane l).claimSent = true → (s.lane l).inflight = none) ∧
        ∀ x ∈ (s.lane l).holdings, ∃ j, s.job x.1 x.2.1 = some j ∧ j.state = .printing ∧
          j.lane = some l ∧ j.reserved = x.2.2)

end Sys2Proof.Machine
end

