-- ==== Sys2Proof/Certificates/Slice0/Obligations.lean ====
section
/-! DEFINITION. The statements for the provers, from the numbered rules of spec/. Each docstring names
the rule it formalises. -/

open Sys2Proof Sys2Proof.Machine

/-! ## The machine as a whole -/

/-- A step takes the command at the front of the queue and is exec of it with the queue's rest; on an
empty queue the part idles (the idling is the model's choice, log entry 2). -/
def Obligations.StepTakesTheFront : Prop :=
  (∀ (s : State) (c : Instr) (rest : List Instr), s.pending = c :: rest →
    step s = exec c { s with pending := rest }) ∧
  ∀ s : State, s.pending = [] → step s = .next s

/-- Every command is carried out to a next state, and leaves the queue of waiting commands alone (95:
each command is one step). -/
def Obligations.EveryCommandKeepsTheQueue : Prop :=
  ∀ (c : Instr) (s : State), ∃ t, exec c s = .next t ∧ t.pending = s.pending

/-- The state after reset: the ports HUNTING with CONTROLLER_START alone, attention asserted and
clear-to-send raised (01 R18), no job (03 R66), the lanes OFFLINE (04 R90), the census IDLE (06 R116),
the clocks at 0 and not set (11 R190, R192). That the store is VALID with what STORE_REINITIALISE
leaves is the model's choice (log entry 1). Every rule that a step keeps holds there. -/
def Obligations.ResetLeavesThePartStarted : Prop :=
  (∀ p, State.reset.port p = ⟨.hunting, none, [⟨.controllerStart, .controller, none⟩]⟩ ∧
    (State.reset.port p).attention = true ∧ (State.reset.port p).clearToSend = true) ∧
  (∀ w k, State.reset.slot w k = ⟨false, none⟩) ∧ State.reset.scanner = 0 ∧
  (∀ l, (State.reset.lane l).state = .offline ∧ (State.reset.lane l).pack = none ∧
    (State.reset.lane l).head = .notPositioned ∧ (State.reset.lane l).inflight = none) ∧
  (∀ f, State.reset.form f = ⟨none, none, 0, 0, 0⟩) ∧
  (∀ w, (State.reset.session w).state = .none ∧ State.reset.grants[w] = .all) ∧
  State.reset.census.state = .idle ∧ State.reset.packs = [] ∧ State.reset.journal = [] ∧
  State.reset.faults = [] ∧ State.reset.clock = ⟨0, 0, false⟩ ∧ State.reset.runTime = 0 ∧
  State.reset.limits = .default ∧ State.reset.storeValid = true ∧ State.reset.pending = [] ∧
  State.reset.queuesHold ∧ State.reset.formsHold ∧ State.reset.discountsHold ∧
  State.reset.limitsHold ∧ State.reset.stockHolds ∧ State.reset.bindingsHold ∧
  State.reset.referencesHold ∧ State.reset.sessionsHold ∧ State.reset.journalHolds ∧
  State.reset.faultsHold ∧ State.reset.lanesHold ∧ State.reset.formCountsHold ∧
  State.reset.reservationsHold

/-! ## Ports (01) -/

/-- A well-formed frame received from HUNTING is held whole: its kind, tag and body are the ones sent,
for every kind the port admits, every tag and every body of at most 600 bytes (01 R1, R2, R6; Table
1.6). That a checked frame is held in BUSY until its command comes is the model's form of the taking
(log entry 4). -/
def Obligations.GoodFrameIsHeldWhole : Prop :=
  ∀ (s : State) (p : Port) (k : RequestKind) (tag : Byte) (body : List Byte),
    (s.port p).rx = .hunting → body.length ≤ 600 → k.admittedFrom p = true →
    (k.emptyBody = true → body = []) →
    ∃ t, receiveAll p (frameBytes k.byte tag body) s = .next t ∧
      (t.port p).rx = .busy (some ⟨k, tag, body⟩) ∧ (t.port p).tx = (s.port p).tx ∧
      (∀ q, q ≠ p → t.port q = s.port q) ∧ s.changesOnly t [.receivers]

/-- Frames that are answered by the Port Unit itself: a checked frame of an unknown kind, of a kind its
port may not issue, or with a body where its kind has none, in that order; and FRAME_REJECTED for a
frame whose check differs, for an overlong one, which drains, and for one with a damaged byte (01 R2,
R6 steps 1 to 3). -/
def Obligations.FramesAreRefusedInOrder : Prop :=
  ∀ (s : State) (p : Port) (kind tag : Byte),
    (∀ (body : List Byte) (c : ResultCode), (s.port p).rx = .hunting → body.length ≤ 600 →
      c = (match RequestKind.ofByte kind with
        | none => .unknownKind
        | some k => if k.admittedFrom p then .malformed else .wrongPort) →
      (∀ k, RequestKind.ofByte kind = some k → k.admittedFrom p = true →
        k.emptyBody = true ∧ body ≠ []) →
      ∃ t, receiveAll p (frameBytes kind tag body) s = .next t ∧
        (t.port p).rx = .busy none ∧
        (t.port p).tx = some ⟨answerKind kind, tag, refusal c⟩ ∧
        (∀ q, q ≠ p → t.port q = s.port q) ∧ s.changesOnly t [.receivers]) ∧
    (∀ (body : List Byte) (lo hi : Byte), (s.port p).rx = .hunting → body.length ≤ 600 →
      [lo, hi] ≠ bytesLow 2 (frameCheck (frameCore kind tag body)).toNat →
      ∃ t, receiveAll p (syncByte :: frameCore kind tag body ++ [lo, hi]) s = .next t ∧
        (t.port p).rx = .busy none ∧
        (t.port p).tx = some ⟨answerKind kind, tag, refusal .frameRejected⟩ ∧
        (∀ q, q ≠ p → t.port q = s.port q) ∧ s.changesOnly t [.receivers]) ∧
    (∀ n : Nat, (s.port p).rx = .hunting → 600 < n → n < 65536 →
      ∃ t, receiveAll p (syncByte :: bytesLow 2 n ++ [kind, tag]) s = .next t ∧
        (t.port p).rx = .draining false false ∧
        (t.port p).tx = some ⟨answerKind kind, tag, refusal .frameRejected⟩ ∧
        (∀ q, q ≠ p → t.port q = s.port q) ∧ s.changesOnly t [.receivers]) ∧
    (∀ (frame : List Byte) (b : Byte) (damaged fe : Bool),
      (s.port p).rx = .receiving frame damaged → 6 ≤ frame.length →
      frame.length = frameLength frame + 6 → frameLength frame ≤ 600 →
      (damaged = true ∨ fe = true) →
      ∃ t, exec (.portByteReceived p b fe) s = .next t ∧ (t.port p).rx = .busy none ∧
        (t.port p).tx =
          some ⟨answerKind (frameKind frame), frameTag frame, refusal .frameRejected⟩ ∧
        (∀ q, q ≠ p → t.port q = s.port q) ∧ s.changesOnly t [.receivers])

/-- The receiver's single events, by its state: what begins a frame, what is appended, what is
discarded, and what the gap timer, the quiet timer and the end of an answer do (01 Table 1.1, R1 to
R3); that a quiet timer may expire before the answer has been sent, with no byte received since
DRAINING was entered, is the model's inference (log entry 25). Nothing but the port's own receiver
and answer changes. Attention is asserted with a notice waiting outside STARTING, and clear-to-send
raised in HUNTING and RECEIVING (01 R14, Table 1.1). -/
def Obligations.ReceiverEvents : Prop :=
  (∀ x : PortState, (x.attention = true ↔ x.rx ≠ .starting ∧ x.queue ≠ []) ∧
    (x.clearToSend = true ↔ x.rx = .hunting ∨ ∃ f d, x.rx = .receiving f d)) ∧
  ∀ (s : State) (p : Port) (b : Byte) (fe : Bool),
    ∃ t u v x, exec (.portByteReceived p b fe) s = .next t ∧
      exec (.gapTimerExpiry p) s = .next u ∧ exec (.quietTimerExpiry p) s = .next v ∧
      exec (.answerSent p) s = .next x ∧
      s.changesOnly t [.receivers] ∧ s.changesOnly u [.receivers] ∧
      s.changesOnly v [.receivers] ∧ s.changesOnly x [.receivers] ∧
      (∀ q, q ≠ p → t.port q = s.port q ∧ u.port q = s.port q ∧ v.port q = s.port q ∧
        x.port q = s.port q) ∧
      ((s.port p).rx = .hunting →
        (t.port p).rx = if b = 0x5A ∧ fe = false then .receiving [b] false else .hunting) ∧
      (∀ frame damaged, (s.port p).rx = .receiving frame damaged →
        (frame.length = 4 → frameLength (frame ++ [b]) ≤ 600) →
        ¬(6 ≤ frame.length ∧ frame.length = frameLength (frame ++ [b]) + 6) →
        (t.port p).rx = .receiving (frame ++ [b]) (damaged || fe)) ∧
      (∀ h, (s.port p).rx = .busy h → t = s) ∧ ((s.port p).rx = .starting → t = s) ∧
      (∀ sent quiet, (s.port p).rx = .draining sent quiet →
        (t.port p).rx = .draining sent false) ∧
      (u.port p).rx = (match (s.port p).rx with | .receiving _ _ => .hunting | r => r) ∧
      (v.port p).rx = (match (s.port p).rx with
        | .draining true _ => .hunting
        | .draining false _ => .draining false true
        | r => r) ∧
      (∀ a, (s.port p).tx = some a → (x.port p).tx = none ∧
        (x.port p).rx = (match (s.port p).rx with
          | .busy _ => .hunting
          | .draining _ true => .hunting
          | .draining _ false => .draining true false
          | r => r)) ∧
      ((s.port p).tx = none → x = s)

/-- The kinds and the result codes on the link: the forty kind bytes of Table 1.3, each naming its
request and no other, an answer's kind byte with the top bit set, and no request with it set; the
eight common codes of Table 1.2; every other code from 20h upward by the number of code names that
come before its own by their characters; no value given twice; and an answer's body the code first,
at most 600 bytes (01 Tables 1.2, 1.3 and 1.6, R4 to R6). What fills the bytes of an answer's fields
is free (log entry 5). -/
def Obligations.CodesOnTheLink : Prop :=
  (∀ table : List (RequestKind × Byte), table =
    [(.openSession, 0x10), (.submitJob, 0x11), (.supplyLines, 0x12), (.holdJob, 0x13),
      (.amendJob, 0x14), (.releaseJob, 0x15), (.withdrawJob, 0x16), (.voidTicket, 0x17),
      (.declareBegin, 0x18), (.declareItem, 0x19), (.declareConfirm, 0x1A), (.fetchNotice, 0x20),
      (.readJob, 0x21), (.readSession, 0x22), (.readLane, 0x23), (.declarePack, 0x30),
      (.mountPack, 0x31), (.withdrawPack, 0x32), (.collectPack, 0x33), (.readPack, 0x34),
      (.startCensus, 0x38), (.suspendCensus, 0x39), (.resumeCensus, 0x3A), (.stopCensus, 0x3B),
      (.readCensus, 0x3C), (.clearLane, 0x40), (.purgeLane, 0x41), (.advanceBlank, 0x42),
      (.ackFault, 0x44), (.readFaults, 0x45), (.defineForm, 0x48), (.readForm, 0x49),
      (.setDiscount, 0x4A), (.setLimits, 0x4C), (.setPermissions, 0x4D), (.collectCashup, 0x50),
      (.reopenSession, 0x51), (.setClock, 0x58), (.restart, 0x59), (.storeReinitialise, 0x5F)] →
    ∀ k b, (k.byte = b ↔ (k, b) ∈ table) ∧ (RequestKind.ofByte b = some k ↔ (k, b) ∈ table) ∧
      (answerKind k.byte).toNat = k.byte.toNat + 128) ∧
  (∀ b : Byte, b.msb = true → RequestKind.ofByte b = none) ∧
  (∀ common : List ResultCode, common = [.ok, .frameRejected, .unknownKind, .wrongPort, .malformed,
      .storeInvalid, .notPermitted, .none] →
    common.map ResultCode.value = [0, 1, 2, 3, 4, 5, 6, 7] ∧ namedCodes.Nodup ∧
    ∀ c, (c ∈ namedCodes ↔ c ∉ common) ∧ (c ∉ common → c.value.toNat =
      0x20 + (namedCodes.filter fun d => decide (d.codeName < c.codeName)).length)) ∧
  (∀ c d : ResultCode, c.value = d.value → c = d) ∧
  ∀ a : Answer, ∃ fields, a.frame = frameBytes a.kind a.tag (a.reply.code.value :: fields) ∧
    fields.length + 1 ≤ 600 ∧ (a.reply.fields = .bare → fields = []) ∧
    ∀ n, a.reply.fields = .notice n → fields = n.bytes

/-- The notice record: 12 bytes, the kind and object first by the values of Tables 1.8 and 1.9, zeros
in every kind but SLOT_OUTCOME, and in a SLOT_OUTCOME the outcome, reason, attempt count, class, and
the serial and value low byte first (01 Tables 1.7 to 1.9, R13). -/
def Obligations.NoticeRecordLayout : Prop :=
  ([NoticeKind.slotOutcome, .laneChange, .faultsChange, .stockChange, .censusChange, .formsChange,
    .storeChange, .controllerStart, .sessionChange, .permissions].map NoticeKind.value =
      [0x01, 0x02, 0x03, 0x04, 0x05, 0x06, 0x07, 0x08, 0x09, 0x0A]) ∧
  (∀ k : SlotId, (NoticeObject.slot k).value.toNat = k.val + 0x01) ∧
  (∀ l : LaneId, (NoticeObject.lane l).value.toNat = l.val + 0x11) ∧
  (∀ w : Window, (NoticeObject.sessionOf w).value.toNat = w.val + 0x41) ∧
  ([NoticeObject.ownSession, .ownPermissions, .faultList, .stock, .census, .forms, .store,
    .controller].map NoticeObject.value = [0x20, 0x21, 0x22, 0x23, 0x24, 0x25, 0x26, 0x30]) ∧
  ([OutcomeKind.done, .spoiled, .failed, .expired, .cancelled].map OutcomeKind.value =
    [0x01, 0x02, 0x03, 0x04, 0x05]) ∧
  ([OutcomeReason.none, .lostLine, .mechanical].map OutcomeReason.value = [0x00, 0x01, 0x02]) ∧
  ∀ n : Notice, n.bytes.length = 12 ∧ n.bytes.take 2 = [n.kind.value, n.object.value] ∧
    (n.detail = none → n.bytes.drop 2 = List.replicate 10 0) ∧
    ∀ o, n.detail = some o → o.attempts ≤ 3 → o.cls ≤ 3 → o.serial < 2 ^ 24 → o.value < 2 ^ 24 →
      (n.bytes.drop 2).take 2 = [o.outcome.value, o.reason.value] ∧
      ((n.bytes.drop 4).take 2).map BitVec.toNat = [o.attempts, o.cls] ∧
      fromLow ((n.bytes.drop 6).take 3) = o.serial ∧ fromLow (n.bytes.drop 9) = o.value

/-- A mark record is good exactly where it is the record of a class 0 to 3 and a serial 1 to
9,999,999, and it reads as them (01 R20, Table 1.10). -/
def Obligations.GoodMarkRecordsAreTheRecords : Prop :=
  ∀ (r : Vector Byte 6) (c n : Nat), goodRead r = some (c, n) ↔
    (c ≤ 3 ∧ 1 ≤ n ∧ n ≤ 9999999 ∧ r = markRecordOf c n)

/-- Admission: what is refused before the owning block sees it, in the order of R6, with nothing else
changed; and a request at a port that takes none changes nothing at all (01 R3, R6, R7, Table
1.3). That a request's command stands for its frame, so that a port in RECEIVING or holding another
frame takes none, is the model's choice (log entry 3), and so is that an over-long list of SET_LIMITS is
not MALFORMED (log entry 44); that a SET_DISCOUNT without the terms of an ACTIVE entry is MALFORMED (log
entry 24), and so an AMEND_JOB whose content breaks the list's bounds (log entry 52), are its inferences. -/
def Obligations.AdmissionInOrder : Prop :=
  ∀ (c : Instr) (s : State) (p : Port) (k : RequestKind) (tag : Byte),
    requestOf c = some (p, k, tag) →
    ((s.port p).rx.takes k tag = false → exec c s = .next s) ∧
    ∀ code, (s.port p).rx.takes k tag = true →
      (if k.admittedFrom p = false ∨ namesOtherWindow c = true then some .wrongPort
        else if bodyFits c = false then some .malformed
        else if k.needsStore = true ∧ s.storeValid = false then some .storeInvalid
        else if lacksGrant s p k = true then some .notPermitted
        else none) = some code →
      ∃ t, exec c s = .next t ∧ s.answered t p k tag (refusal code) ∧
        s.changesOnly t [.receivers]

/-- A refused request changes nothing but the answering port: the one declaration a request of its
window drops apart, for every refusal but WINDOW_IN_SESSION and LANE_LOCKED, whose rules say
otherwise (01 R5; 09 R166). -/
def Obligations.RefusalsChangeNothing : Prop :=
  ∀ (c : Instr) (s : State) (p : Port) (k : RequestKind) (tag : Byte),
    requestOf c = some (p, k, tag) → (s.port p).rx.takes k tag = true →
    ∃ t a, exec c s = .next t ∧ s.answered t p k tag a ∧
      (a.code ∉ [ResultCode.ok, .withdrawn, .windowInSession, .laneLocked] → s.refusedAt t p)

/-- A request of a window reaches nothing of another window: no session, no slot, no receiver, no
answer, no notice queue, no journal entry; and no grants, limits, discounts, clock, fault report or
lane's state of any (01 section 1.1, R3; 03 R43). -/
def Obligations.WindowsAreApart : Prop :=
  ∀ (c : Instr) (s t : State) (w : Window) (k : RequestKind) (tag : Byte),
    requestOf c = some (.window w, k, tag) → exec c s = .next t →
    (∀ v, v ≠ w → t.session v = s.session v ∧ (∀ j, t.slot v j = s.slot v j) ∧
      (t.port (.window v)).queue = (s.port (.window v)).queue ∧
      s.entriesOf v = t.entriesOf v) ∧
    (∀ q, q ≠ .window w → (t.port q).rx = (s.port q).rx ∧ (t.port q).tx = (s.port q).tx) ∧
    s.changesOnly t [.receivers, .queues, .forms, .slots, .lanes, .packs, .census, .sessions,
      .journal] ∧
    (∀ l, (t.lane l).state = (s.lane l).state ∧ (t.lane l).inflight = (s.lane l).inflight)

/-- A notice posted to a queue takes the place of the unread notice for its object, or stands at the
tail; no object has two, and a window's queue never holds more than 15 notices and the office's
more than 16 (01 R11). -/
def Obligations.NoticeTakesItsPlace : Prop :=
  (∀ (q : List Notice) (n : Notice), (q.map Notice.object).Nodup →
    (∀ (i : Nat) (h : i < q.length), q[i].object = n.object → coalesce q n = q.set i n) ∧
    ((∀ m ∈ q, m.object ≠ n.object) → coalesce q n = q ++ [n]) ∧
    ((coalesce q n).map Notice.object).Nodup) ∧
  ∀ s : State, s.queuesHold →
    (∀ w : Window, s.windows[w].queue.length ≤ 15) ∧ s.office.queue.length ≤ 16

/-- Each kind of notice goes to the ports and objects of Table 1.4, one copy to each, and each port
coalesces its own (01 R12). -/
def Obligations.NoticesAreRouted : Prop :=
  ∀ s : State,
    (∀ l p, ((s.postLane l).port p).queue =
      coalesce (s.port p).queue ⟨.laneChange, .lane l, none⟩) ∧
    (∀ w p, ((s.postSession w).port p).queue =
      if p = .window w then coalesce (s.port p).queue ⟨.sessionChange, .ownSession, none⟩
      else if p = .office then coalesce (s.port p).queue ⟨.sessionChange, .sessionOf w, none⟩
      else (s.port p).queue) ∧
    (∀ w g p, ((s.regrant w g).port p).queue =
      if p = .window w ∧ g ≠ s.grants[w] then
        coalesce (s.port p).queue ⟨.permissions, .ownPermissions, none⟩
      else (s.port p).queue) ∧
    (∀ w k o p, ((s.postOutcome w k o).port p).queue =
      if p = .window w then coalesce (s.port p).queue ⟨.slotOutcome, .slot k, some o⟩
      else (s.port p).queue) ∧
    (∀ w : Window, (s.postFaults.port (.window w)).queue = (s.port (.window w)).queue ∧
      (s.postStock.port (.window w)).queue = (s.port (.window w)).queue ∧
      (s.postCensus.port (.window w)).queue = (s.port (.window w)).queue ∧
      (s.postForms.port (.window w)).queue = (s.port (.window w)).queue ∧
      (s.postStore.port (.window w)).queue = (s.port (.window w)).queue) ∧
    (s.postFaults.port .office).queue =
      coalesce (s.port .office).queue ⟨.faultsChange, .faultList, none⟩ ∧
    (s.postStock.port .office).queue =
      coalesce (s.port .office).queue ⟨.stockChange, .stock, none⟩ ∧
    (s.postCensus.port .office).queue =
      coalesce (s.port .office).queue ⟨.censusChange, .census, none⟩ ∧
    (s.postForms.port .office).queue =
      coalesce (s.port .office).queue ⟨.formsChange, .forms, none⟩ ∧
    (s.postStore.port .office).queue =
      coalesce (s.port .office).queue ⟨.storeChange, .store, none⟩ ∧
    (∀ p, (s.startPorts.port p).queue =
      coalesce (s.port p).queue ⟨.controllerStart, .controller, none⟩) ∧
    ∀ p, (s.restartQueues.port p).queue = [⟨.controllerStart, .controller, none⟩]

/-- Every queue stays well formed at every step: no object twice, only the port's own objects, each
notice of its object's kind, an outcome's fields in a SLOT_OUTCOME alone (01 R11 to R13). -/
def Obligations.QueuesStayWellFormed : Prop :=
  ∀ s t : State, s.queuesHold → step s = .next t → t.queuesHold

/-- FETCH_NOTICE removes the oldest notice of its own port and answers with it; a SLOT_OUTCOME fetched
empties a slot whose job has ended and clears the flag of any other; an empty queue answers NONE; and
the attention line follows the queue (01 R14 to R16; 03 R40). -/
def Obligations.FetchTakesTheOldestNotice : Prop :=
  ∀ (s : State) (p : Port) (tag : Byte), s.admits p .fetchNotice tag →
    ((s.port p).queue = [] → ∃ t, exec (.fetchNotice p tag (some ())) s = .next t ∧
      s.answered t p .fetchNotice tag (refusal .none) ∧ (t.port p).attention = false ∧
      s.changesOnly t [.receivers]) ∧
    ∀ n rest, (s.port p).queue = n :: rest →
      ∃ t, exec (.fetchNotice p tag (some ())) s = .next t ∧
        s.answered t p .fetchNotice tag (accepted (.notice n)) ∧
        (t.port p).queue = rest ∧ ((t.port p).attention = true ↔ rest ≠ []) ∧
        (∀ q, q ≠ p → (t.port q).queue = (s.port q).queue) ∧
        s.changesOnly t [.receivers, .queues, .slots] ∧
        ((n.kind ≠ .slotOutcome ∨ p = .office) → t.slots = s.slots) ∧
        ∀ w k, p = .window w → n.kind = .slotOutcome → n.object = .slot k →
          s.otherSlots t w k ∧
          t.slot w k = (match s.job w k with
            | some j => if j.isActive then ⟨false, some j⟩ else ⟨false, none⟩
            | none => ⟨false, none⟩)

/-- SET_PERMISSIONS: the removals are applied, the additions too where the window's session is NONE, or
else refused WINDOW_IN_SESSION; the window is told where its set differs; a window outside 1 to 6,
and a grant in both sets, are refused with nothing changed (01 R9, R10). -/
def Obligations.SetPermissionsAppliesGrants : Prop :=
  ∀ (s : State) (p : Port) (tag : Byte) (b : PermissionsBody),
    s.admits p .setPermissions tag →
    ((b.window < 1 ∨ 6 < b.window ∨ b.remove.meets b.add = true) →
      ∃ t, exec (.setPermissions p tag (some b)) s = .next t ∧
        s.answered t p .setPermissions tag (refusal .badArgument) ∧
        s.changesOnly t [.receivers]) ∧
    ∀ (w : Window), b.window = w.val + 1 → b.remove.meets b.add = false →
      ∃ t g, exec (.setPermissions p tag (some b)) s = .next t ∧ t.grants[w] = g ∧
        (∀ v : Window, v ≠ w → t.grants[v] = s.grants[v]) ∧
        (((s.session w).state = .none ∨ b.add = .empty) →
          g = (s.grants[w].without b.remove).union b.add ∧
          s.answered t p .setPermissions tag (accepted (.grants g))) ∧
        ((s.session w).state ≠ .none → b.add ≠ .empty →
          g = s.grants[w].without b.remove ∧
          s.answered t p .setPermissions tag ⟨.windowInSession, .grants g⟩) ∧
        (s.queuesAfter t fun x => if g = s.grants[w] then x
          else x.post (.window w) ⟨.permissions, .ownPermissions, none⟩) ∧
        s.changesOnly t [.receivers, .queues, .grants]

/-! ## Forms and the line composer (02) -/

/-- A definition is valid exactly where it meets the ranges and the fit of R22 and R23, its gap start
counting only where there is a gap (02 R22 to R24). -/
def Obligations.DefinitionIsValidExactly : Prop :=
  ∀ d : FormDef, d.valid = true ↔
    (d.cls ≤ 3 ∧ 8 ≤ d.lineCount ∧ d.lineCount ≤ 48 ∧ d.gapLength ≤ 8 ∧ d.repeatCount ≤ 8 ∧
      d.ready ≤ 32 ∧ (d.counterfoil = none → d.repeatCount = 0 ∧ d.counterfoilStamps = [])) ∧
    ((∀ i ∈ d.stamps, i < d.lineCount) ∧
      (d.gapLength ≠ 0 → d.gapStart + d.gapLength - 1 < d.lineCount) ∧
      (∀ c, d.counterfoil = some c → c < d.lineCount ∧ 1 < c ∧
        (d.gapLength ≠ 0 → d.gapStart + d.gapLength ≤ c) ∧
        (∀ i ∈ d.bodyStamps, i < c) ∧ ∀ i ∈ d.counterfoilStamps, c ≤ i) ∧
      d.stamps.Nodup ∧
      (∀ i ∈ d.stamps, ¬(d.gapStart ≤ i ∧ i < d.gapStart + d.gapLength)) ∧
      (bodyContentLines d).length ≤ 32)

/-- DEFINE_FORM: a form outside 0 to 7 and an invalid definition are refused; a valid one is placed at
once where the use count is 0, and stored as pending where it is not, unless it would break what
the waiting jobs were checked against: the pending definition's class, and room for the largest declared
count among the active jobs bound to the coming generation, 0 where there are none; FORMS_CHANGE goes to
the office (02 R22, R25, R26). That a
request with both a form outside 0 to 7 and an invalid definition is refused BAD_ARGUMENT is the
model's choice (log entry 40). -/
def Obligations.DefineFormPlacesTheDefinition : Prop :=
  ∀ (s : State) (p : Port) (tag : Byte) (b : FormBody), s.admits p .defineForm tag →
    (7 < b.form → ∃ t, exec (.defineForm p tag (some b)) s = .next t ∧
      s.answered t p .defineForm tag (refusal .badArgument) ∧ s.changesOnly t [.receivers]) ∧
    ∀ (f : Fin 8) (r : FormRecord) (coming : Nat), b.form = f.val → r = s.form f →
      coming = (if r.generation = 255 then 1 else r.generation + 1) →
      (∀ waits : Job → Prop, (∀ j, waits j ↔
          j.state ∈ [JobState.queued, .held, .printing, .retryWait] ∧ j.form = f ∧
            j.generation = some coming) →
        (∀ w k j, s.job w k = some j → waits j → j.declared ≤ s.largestWaiting f) ∧
        ((∃ w k j, s.job w k = some j ∧ waits j ∧ j.declared = s.largestWaiting f) ∨
          (∀ w k j, s.job w k = some j → ¬waits j) ∧ s.largestWaiting f = 0)) ∧
      (b.layout.valid = false → ∃ t, exec (.defineForm p tag (some b)) s = .next t ∧
        s.answered t p .defineForm tag (refusal .badForm) ∧ s.changesOnly t [.receivers]) ∧
      (b.layout.valid = true → r.useCount = 0 →
        ∃ t, exec (.defineForm p tag (some b)) s = .next t ∧
          s.answered t p .defineForm tag (accepted (.placed false coming)) ∧
          t.form f = { r with current := some b.layout.stored, generation := coming } ∧
          s.otherForms t f ∧ s.queuesAfter t State.postForms ∧
          s.changesOnly t [.receivers, .queues, .forms]) ∧
      (b.layout.valid = true → 0 < r.useCount →
        (r.waitingCount = 0 ∨ ∀ old, r.pending = some old →
          b.layout.cls = old.cls ∧ s.largestWaiting f ≤ b.layout.stored.bodyCapacity) →
        ∃ t, exec (.defineForm p tag (some b)) s = .next t ∧
          s.answered t p .defineForm tag (accepted (.placed true coming)) ∧
          t.form f = { r with pending := some b.layout.stored } ∧
          s.otherForms t f ∧ s.queuesAfter t State.postForms ∧
          s.changesOnly t [.receivers, .queues, .forms]) ∧
      (b.layout.valid = true → 0 < r.useCount → 0 < r.waitingCount →
        (∃ old, r.pending = some old ∧
          (b.layout.cls ≠ old.cls ∨ b.layout.stored.bodyCapacity < s.largestWaiting f)) →
        ∃ t, exec (.defineForm p tag (some b)) s = .next t ∧
          s.answered t p .defineForm tag (refusal .pendingBound) ∧
          s.changesOnly t [.receivers])

/-- A whole ticket composed: 40 characters in every line, and on the body content lines the job's
lines in order and then blanks, where all the declared lines are supplied; the LOST_LINE mark is set
exactly where a declared line is missing (02 R33 to R36, Table 2.4). -/
def Obligations.TicketPrintsTheContentInOrder : Prop :=
  ∀ (d : FormDef) (serialText timeText priceText : Text) (declared : Nat) (lines : List Text),
    d.valid = true → declared ≤ d.bodyCapacity → lines.length ≤ declared →
    ∃ c texts, (Composer.begin d.stored serialText timeText priceText declared).ticket lines
        d.lineCount = (c, texts) ∧
      c.state = .complete ∧ texts.length = d.lineCount ∧ (∀ x ∈ texts, x.length = 40) ∧
      c.lostLine = decide (lines.length < declared) ∧
      (lines.length = declared →
        (bodyContentLines d.stored).map (fun i => texts[i]?) =
          (lines.map fun x => some (contentLine x)) ++
            List.replicate (d.bodyCapacity - declared) (some (List.replicate 40 0x20)))

/-- One line composed, by its kind: a stamp's text, a blank gap, a body content line by the content
index against N and the supplied count, a counterfoil content line by the repeat count first. The
serial stamp is class, solidus and seven digits; the time stamp "D", the day, a space, hour, colon
and minute; the price text the currency mark and the pounds, point and pence right-aligned in 12
characters; a stamp and a content line stand from the first character with spaces after their last,
a content character outside 20h to 7Eh as "?" (02 R33 to R37; 07 R135). -/
def Obligations.LinesAndStampTexts : Prop :=
  (∀ (c : Composer) (d : FormDef) (lines : List Text) (i n : Nat), c.copy = some d →
    n = (if d.counterfoil = some i then 0 else c.index) →
    (i ∈ d.serialBody.toList ++ d.serialCounterfoil.toList →
      (c.compose lines i).2 = padLine c.serialText ∧ (c.compose lines i).1.index = n ∧
        (c.compose lines i).1.lostLine = c.lostLine) ∧
    (i ∉ d.serialBody.toList ++ d.serialCounterfoil.toList →
      i ∈ d.timeBody.toList ++ d.timeCounterfoil.toList →
      (c.compose lines i).2 = padLine c.timeText ∧ (c.compose lines i).1.index = n ∧
        (c.compose lines i).1.lostLine = c.lostLine) ∧
    (i ∉ d.serialBody.toList ++ d.serialCounterfoil.toList →
      i ∉ d.timeBody.toList ++ d.timeCounterfoil.toList →
      i ∈ d.priceBody.toList ++ d.priceCounterfoil.toList →
      (c.compose lines i).2 = padLine c.priceText ∧ (c.compose lines i).1.index = n ∧
        (c.compose lines i).1.lostLine = c.lostLine) ∧
    (i ∉ d.stamps → d.isGap i = true →
      (c.compose lines i).2 = List.replicate 40 0x20 ∧ (c.compose lines i).1.index = n ∧
        (c.compose lines i).1.lostLine = c.lostLine) ∧
    (i ∉ d.stamps → d.isGap i = false → d.bodyEnd ≤ i → d.repeatCount ≤ n →
      (c.compose lines i).2 = List.replicate 40 0x20 ∧ (c.compose lines i).1.index = n ∧
        (c.compose lines i).1.lostLine = c.lostLine) ∧
    (i ∉ d.stamps → d.isGap i = false → (i < d.bodyEnd ∨ n < d.repeatCount) →
      (c.compose lines i).1.index = n + 1 ∧
      (∀ x, lines[n]? = some x → (c.compose lines i).2 = contentLine x ∧
        (c.compose lines i).1.lostLine = c.lostLine) ∧
      (lines.length ≤ n → (c.compose lines i).2 = List.replicate 40 0x20 ∧
        (c.compose lines i).1.lostLine = (c.lostLine || decide (n < c.declared)))) ∧
    ((c.compose lines i).1.state = if i + 1 = d.lineCount then .complete else c.state)) ∧
  (∀ cls serial : Nat, cls ≤ 3 → serial ≤ 9999999 →
    (serialStamp cls serial).length = 9 ∧
    ((serialStamp cls serial).take 2) = [BitVec.ofNat 8 (0x30 + cls), 0x2F] ∧
    (∀ x ∈ (serialStamp cls serial).drop 2, 0x30 ≤ x.toNat ∧ x.toNat ≤ 0x39) ∧
    ((serialStamp cls serial).drop 2).foldl (fun n x => 10 * n + (x.toNat - 0x30)) 0 = serial) ∧
  (∀ c : ClockStamp, c.second ≤ 86399 →
    8 ≤ (timeStamp c).length ∧ (timeStamp c).length ≤ 12 ∧
    ∃ day h h' m m', timeStamp c = 0x44 :: day ++ [0x20, h, h', 0x3A, m, m'] ∧
      Text.spells day c.day.toNat ∧
      h.toNat = 0x30 + c.second / 3600 / 10 ∧ h'.toNat = 0x30 + c.second / 3600 % 10 ∧
      m.toNat = 0x30 + c.second % 3600 / 60 / 10 ∧
      m'.toNat = 0x30 + c.second % 3600 / 60 % 10) ∧
  (∀ (mark : Byte) (value : Nat), value ≤ 899991 →
    (priceText mark value).length = 13 ∧
    ∃ pounds d d', priceText mark value =
        mark :: List.replicate (9 - pounds.length) 0x20 ++ pounds ++ [0x2E, d, d'] ∧
      Text.spells pounds (value / 100) ∧ d.toNat = 0x30 + value % 100 / 10 ∧
      d'.toNat = 0x30 + value % 10) ∧
  (∀ t : Text, t.length ≤ 40 → padLine t = t ++ List.replicate (40 - t.length) 0x20) ∧
  ∀ t : Text, t.length ≤ 40 → (contentLine t).length = 40 ∧
    (∀ (i : Nat) (x : Byte), t[i]? = some x → (contentLine t)[i]? =
      some (if 0x20 ≤ x.toNat ∧ x.toNat ≤ 0x7E then x else 0x3F)) ∧
    ∀ i, t.length ≤ i → i < 40 → (contentLine t)[i]? = some 0x20

/-- The tables' entries stay in range at every step: the form definitions valid and UNDEFINED
exactly at generation 0, entry 0 of the discount table fixed and the others in range, the limits
clamped, and each session's cash-up parts as its state has them; the form counts count the jobs bound
to each generation, and the journal's reservations are those of the jobs and of the lanes' records,
within its 4,096 entries; a lane holds one job at most (02 R21, R28; 03 R39, R53, R56, R57; 07 R130; 08
R147 to R149; 09 R160; 11 Table 11.2). That no claim request of a lane with a ticket is under way is the
model's inference (log entry 13). -/
def Obligations.TablesStayInRange : Prop :=
  ∀ s t : State, step s = .next t →
    (s.formsHold → t.formsHold) ∧ (s.discountsHold → t.discountsHold) ∧
      (s.limitsHold → t.limitsHold) ∧ (s.sessionsHold → t.sessionsHold) ∧
      (s.formCountsHold → s.reservationsHold → s.lanesHold →
        t.formCountsHold ∧ t.reservationsHold)

/-! ## Reads -/

/-- The reads answer from the state and change nothing: READ_JOB, READ_SESSION, READ_LANE, READ_FORM,
READ_FAULTS, READ_CENSUS by the census state, and READ_PACK, each on a window, slot, lane, form,
place or pack that is there; and BAD_ARGUMENT or NO_PACK for one that is not; READ_LANE's absent
fields are zero, and so are a report number and a lowest UNUSED serial that is not there (03 R51; 08 R144; 04 R71;
02 R30; 10 R188; 06 R128; 05 R113). That a lane with no pack shows the position it stands at (log
entry 29), and that a first entry number of 0 gives a session's entries from 1 (log entry 37), are the
model's inferences, and the order of a lane's report numbers, the fault list's, is its choice (log entry
41). -/
def Obligations.ReadsAnswerAndChangeNothing : Prop :=
  ∀ (s : State) (p : Port) (tag : Byte),
    (∀ (w : Window) (k : SlotId), s.admits p .readJob tag → (∀ v, p = .window v → v = w) →
      ∃ t, exec (.readJob p tag (some ⟨w.val + 1, some (k.val + 1)⟩)) s = .next t ∧
        s.answered t p .readJob tag (accepted (.job (s.slot w k).unread ((s.job w k).map fun j =>
          ⟨w, k, { j with lines := [] }, j.lines.length,
            j.generation == some (s.form j.form).generation,
            #v[s.eligible j 0, s.eligible j 1, s.eligible j 2, s.eligible j 3]⟩))) ∧
        s.changesOnly t [.receivers]) ∧
    (∀ (w : Window) (first : Option Nat), s.admits p .readSession tag →
      (∀ v, p = .window v → v = w) →
      ∃ t v, exec (.readSession p tag (some ⟨w.val + 1, some first⟩)) s = .next t ∧
        s.answered t p .readSession tag (accepted (.session v)) ∧ s.changesOnly t [.receivers] ∧
        v.grants = s.grants[w] ∧ v.session = s.session w ∧
        v.entryCount = (s.entriesOf w).length ∧
        v.beforePowerOn = ((s.entriesOf w).filter fun e => e.beforePowerOn).length ∧
        v.journalInUse = s.journalInUse ∧ v.journalReserved = s.journalReserved ∧
        v.journalFree = 4096 - s.journalInUse - s.journalReserved ∧
        v.entries = (match first with
          | none => []
          | some n => ((s.entriesOf w).filter fun e => n ≤ e.number).take 12)) ∧
    (∀ l : LaneId, s.admits p .readLane tag →
      ∃ t v, exec (.readLane p tag (some (l.val + 1))) s = .next t ∧
        s.answered t p .readLane tag (accepted (.lane v)) ∧ s.changesOnly t [.receivers] ∧
        v.state = (s.lane l).state ∧ v.causes = (s.lane l).causes ∧
        (v.packNumber, v.packClass, v.remaining) = (match s.mounted l with
          | some k => (k.number, k.cls, k.counters.unused)
          | none => (0, 0, 0)) ∧
        v.position = (s.lane l).position ∧ v.expected = (s.expected l).getD 0 ∧
        (v.head, v.headSerial) = (match (s.lane l).head with
          | .notPositioned => (.notPositioned, 0)
          | .unverified => (.unverified, 0)
          | .verified e => (.verified, e)) ∧
        (v.jobWindow, v.jobSlot) = (match (s.lane l).job with
          | some (w, k) => (w.val + 1, k.val + 1)
          | none => (0, 0)) ∧
        v.line = (s.lane l).line ∧
        (v.inflight, v.inflightSerial, v.begun) = (match (s.lane l).inflight with
          | some r => (true, r.serial, r.begun)
          | none => (false, 0, false)) ∧
        v.holdAfter = (s.lane l).holdAfter ∧ v.advances = (s.lane l).advances ∧
        v.failedReads = (s.lane l).failedReads ∧ v.cabinetSeen = (s.lane l).cabinetSeen ∧
        v.reports = (s.activeOf (.lane l)).map Report.number ∧
        (s.stockHolds → ∀ k e, s.mounted l = some k → (s.expected l = some e ↔
          k.markOf e = some .unused ∧ (s.lane l).position ≤ e ∧
            ∀ n, (s.lane l).position ≤ n → n < e → k.markOf n ≠ some .unused))) ∧
    (∀ f : Fin 8, s.admits p .readForm tag →
      ∃ t, exec (.readForm p tag (some f.val)) s = .next t ∧
        s.answered t p .readForm tag (accepted (.form (s.form f)
          ((s.form f).current.map fun d => (d.bodyCapacity, d.counterfoilContent))
          ((s.form f).pending.map fun d => (d.bodyCapacity, d.counterfoilContent)))) ∧
        s.changesOnly t [.receivers]) ∧
    (∀ n : Nat, s.admits p .readFaults tag → n < 64 →
      ∃ t pairs, exec (.readFaults p tag (some n)) s = .next t ∧
        s.answered t p .readFaults tag (accepted (.faults s.faults.length
          (s.faults.filter Report.isActive).length s.faultCounter pairs
          ((s.faults.drop n).take 8))) ∧ s.changesOnly t [.receivers] ∧
        ∀ l : LaneId, pairs[l] =
          ((((s.activeOf (.lane l)).find? fun r => r.primary.isNone).map Report.number).getD 0,
            (((s.activeOf (.lane l)).find? fun r => r.primary.isSome).map Report.number).getD 0)) ∧
    (s.admits p .readCensus tag → ∀ c, c = s.census →
      ∃ t a, exec (.readCensus p tag (some ())) s = .next t ∧
        s.answered t p .readCensus tag (accepted a) ∧ s.changesOnly t [.receivers] ∧
        (c.state = .idle → a = .censusIdle) ∧
        (c.state ∈ [CensusState.running, .suspending, .suspended] → a = .censusProgress
          { state := c.state, pack := c.pack, first := c.first, last := c.last, mode := c.mode
            search := c.search, blocks := (c.last + 1 - c.first + 63) / 64, block := c.block
            position := c.position, committed := c.committed, found := c.found
            tallied := c.tally.unused + c.tally.issued + c.tally.voided + c.tally.spoiled +
              c.tally.advanced + c.tally.missing + c.tally.returned
            startSequence := c.startSequence
            packSequence := (s.findPack c.pack).map Pack.sequence, abandoned := c.abandoned
            abandonments := c.abandonments, suspendedChange := c.suspendedChange }) ∧
        (∀ r, c.state = .done → c.result = some r →
          a = .censusDone r ((s.findPack r.pack).map Pack.sequence)) ∧
        (c.state = .stopped → a = .censusStopped c.pack c.first c.last c.mode c.stopCause)) ∧
    (s.admits p .readPack tag →
      (∃ t rows, exec (.readPack p tag (some ⟨0, none⟩)) s = .next t ∧
        s.answered t p .readPack tag (accepted (.packTable rows (s.packs.map Pack.count).sum
          (8192 - (s.packs.map Pack.count).sum) s.nextPack)) ∧ s.changesOnly t [.receivers] ∧
        rows.Perm (s.packs.map fun k => ⟨k.number, k.cls, k.state, k.lane⟩) ∧
        rows.Pairwise fun a b => a.number ≤ b.number) ∧
      (∀ n serial, n ≠ 0 → s.findPack n = none →
        ∃ t, exec (.readPack p tag (some ⟨n, serial⟩)) s = .next t ∧
          s.answered t p .readPack tag (refusal .noPack) ∧ s.changesOnly t [.receivers]) ∧
      ∀ n k v, n ≠ 0 → s.findPack n = some k →
        v = (⟨k.number, k.cls, k.first, k.count, k.excluded, k.state, k.lane, k.counters,
          k.sequence, k.references, k.verdict⟩ : PackView) →
        ∃ t, exec (.readPack p tag (some ⟨n, none⟩)) s = .next t ∧
          s.answered t p .readPack tag (accepted (.packRecord v
            ((k.lowestUnused k.first).getD 0) none)) ∧
          s.changesOnly t [.receivers] ∧
          (s.stockHolds → ∀ e, k.lowestUnused k.first = some e ↔
            k.markOf e = some .unused ∧ ∀ n, n < e → k.markOf n ≠ some .unused) ∧
          ∀ r, ∃ u, exec (.readPack p tag (some ⟨n, some r⟩)) s = .next u ∧
            s.answered u p .readPack tag (if k.first ≤ r ∧ r < k.first + k.count then
              accepted (.packRecord v ((k.lowestUnused k.first).getD 0) (k.markOf r))
              else refusal .badArgument) ∧
            s.changesOnly u [.receivers]) ∧
    ∀ c k, ((k = .readJob ∧ ∃ w j, c = .readJob p tag (some ⟨w, some j⟩) ∧
          (∀ v : Window, p = .window v → w = v.val + 1) ∧ (w < 1 ∨ 6 < w ∨ j < 1 ∨ 8 < j)) ∨
        (k = .readSession ∧ ∃ w first, c = .readSession p tag (some ⟨w, some first⟩) ∧
          p = .office ∧ (w < 1 ∨ 6 < w)) ∨
        (k = .readLane ∧ ∃ l, c = .readLane p tag (some l) ∧ (l < 1 ∨ 4 < l)) ∨
        (k = .readForm ∧ ∃ f, c = .readForm p tag (some f) ∧ 7 < f) ∨
        (k = .readFaults ∧ ∃ n, c = .readFaults p tag (some n) ∧ 63 < n)) →
      s.admits p k tag → ∃ t, exec c s = .next t ∧
        s.answered t p k tag (refusal .badArgument) ∧ s.changesOnly t [.receivers]

/-! ## Jobs (03) -/

/-- SUBMIT_JOB: its refusals in order, with nothing changed; and one that passes every check: the job
stands QUEUED in the lowest-numbered EMPTY slot with the fields R43 gives, bound to the pending
definition's generation where there is one, three journal entries are set aside, and the lanes are
told where it is eligible (03 R42, R43, R54; 01 R8; 02 R27; 07 R132, R133; 08 R148). That a claim
request still under way serves for the new report is the model's inference (log entry 13), and
BAD_ARGUMENT before TOO_MANY_LINES its choice (log entry 46). -/
def Obligations.SubmitPlacesTheJob : Prop :=
  (∀ (s : State) (w : Window) (tag : Byte) (b : SubmitBody) (f : FormRecord) (e : DiscountEntry),
    s.admits (.window w) .submitJob tag → b.fits = true → f = s.form (Fin.ofNat 8 b.form) →
    e = s.discounts[Fin.ofNat 16 b.fare.discount] →
    ∀ code, (match (s.session w).state with
      | .none => some ResultCode.noSession
      | .declaring | .declared => some .sessionDeclaring
      | .opened =>
        if ∀ k, s.job w k ≠ none then some .noSlot
        else if b.lanes = .replicate 4 false ∨ b.priority = none ∨ b.fare.tender = none then
          some .badArgument
        else if 32 < b.content.declared ∨ b.content.declared < b.content.lines.length then
          some .tooManyLines
        else if 7 < b.form then some .formUnknown
        else match f.current, f.pending.or f.current with
          | some _, some d =>
            if 99999 < b.fare.baseFare ∨ b.fare.quantity < 1 ∨ 9 < b.fare.quantity then
              some .badFare
            else if 15 < b.fare.discount ∨ e.state ≠ .active ∨ e.classes.holds d.cls = false then
              some .badDiscount
            else if d.bodyCapacity < b.content.declared then some .tooManyLines
            else if 4096 < s.journalInUse + s.journalReserved + 3 then some .journalFull
            else none
          | _, _ => some .formUnknown) = some code →
    ∃ t, exec (.submitJob (.window w) tag (some b)) s = .next t ∧
      s.answered t (.window w) .submitJob tag (refusal code) ∧ s.refusedAt t (.window w)) ∧
  ∀ (s : State) (w : Window) (tag : Byte) (b : SubmitBody) (k : SlotId) (f : Fin 8) (d : FormDef)
    (coming : Bool) (code : Fin 16) (pr : Priority) (tn : Tender) (j : Job),
    s.admits (.window w) .submitJob tag → b.fits = true →
    (s.session w).state = .opened → s.job w k = none → (∀ i, i < k → s.job w i ≠ none) →
    isEmptySet b.lanes = false → b.priority = some pr → b.fare.tender = some tn →
    b.content.declared ≤ 32 → b.content.lines.length ≤ b.content.declared →
    b.form = f.val → (s.form f).current ≠ none →
    (if coming then (s.form f).pending = some d
      else (s.form f).pending = none ∧ (s.form f).current = some d) →
    b.fare.baseFare ≤ 99999 → 1 ≤ b.fare.quantity → b.fare.quantity ≤ 9 →
    b.fare.discount = code.val → s.discounts[code].state = .active →
    s.discounts[code].classes.holds d.cls = true →
    b.content.declared ≤ d.bodyCapacity → s.journalInUse + s.journalReserved + 3 ≤ 4096 →
    j = { state := .queued
          form := f
          generation := some (if coming then nextGeneration (s.form f).generation
            else (s.form f).generation)
          lanes := b.lanes
          priority := if s.grants[w].urgent then pr else .normal
          baseFare := b.fare.baseFare
          discount := code.val
          quantity := b.fare.quantity
          tender := tn
          unitFare := unitFare s.discounts[code] b.fare.baseFare
          value := unitFare s.discounts[code] b.fare.baseFare * b.fare.quantity
          declared := b.content.declared
          lines := b.content.lines
          submitted := s.runTime
          deadline := if s.limits.waits[w] = 0 then none
            else some (s.runTime + BitVec.ofNat 32 (10 * s.limits.waits[w]))
          attempts := 0
          reserved := 3
          lane := none
          latest := none } →
    ∃ t, exec (.submitJob (.window w) tag (some b)) s = .next t ∧
      s.answered t (.window w) .submitJob tag (accepted (.submitted k j.unitFare j.value
        (pr == .urgent && !s.grants[w].urgent) coming)) ∧
      t.slot w k = ⟨(s.slot w k).unread, some j⟩ ∧ s.otherSlots t w k ∧
      t.form f = (if coming then { s.form f with waitingCount := (s.form f).waitingCount + 1 }
        else { s.form f with useCount := (s.form f).useCount + 1 }) ∧ s.otherForms t f ∧
      t.session w = { s.session w with
        reserved := (s.session w).reserved + 3, inProgress := none } ∧ s.otherSessions t w ∧
      t.journalReserved = s.journalReserved + 3 ∧ t.journalInUse = s.journalInUse ∧
      t.journal = s.journal ∧ s.lanesTold t (s.eligibleSomewhere j) ∧
      s.changesOnly t [.receivers, .slots, .forms, .sessions, .journal, .lanes]

/-- SUPPLY_LINES and AMEND_JOB: their refusals in order, with nothing changed, by the slot's state and
then by the fields as they will stand; SUPPLY_LINES on a job in an active state appends the lines,
and AMEND_JOB on a HELD one sets the parts given and computes the unit fare and the value again (03
R44, R46; 01 R8; 07 R132). That an amendment of a job that holds URGENT keeps it without the grant is
the model's inference (log entry 17), as are FORM_UNKNOWN for a HELD job bound to no definition (log
entry 26), BAD_ARGUMENT for an AMEND_JOB of a slot outside 1 to 8 (log entry 45), and that a claim
request still under way serves for the new report (log entry 13); the order of two refusals of one check
is its choice (log entry 46). -/
def Obligations.SupplyAndAmendChangeTheJob : Prop :=
  (∀ (s : State) (w : Window) (tag : Byte),
    (∀ b : SupplyBody, s.admits (.window w) .supplyLines tag → b.fits = true →
      ∀ code, (if b.slot < 1 ∨ 8 < b.slot then some ResultCode.badArgument
        else match s.job w (Fin.ofNat 8 (b.slot - 1)) with
          | none => some .noJob
          | some j =>
            if j.state ∈ [JobState.done, .failed, .expired, .cancelled] then some .jobEnded
            else if b.start ≠ j.lines.length then some .outOfOrder
            else if j.declared < b.start + b.lines.length then some .tooManyLines
            else none) = some code →
      ∃ t, exec (.supplyLines (.window w) tag (some b)) s = .next t ∧
        s.answered t (.window w) .supplyLines tag (refusal code) ∧
        s.refusedAt t (.window w)) ∧
    (∀ b : AmendBody, s.admits (.window w) .amendJob tag → b.fits = true →
      ∀ code, (if b.slot < 1 ∨ 8 < b.slot then some ResultCode.badArgument
        else match (s.job w (Fin.ofNat 8 (b.slot - 1))).map Job.state with
          | none => some .noJob
          | some .queued | some .retryWait => some .notHeld
          | some .printing => some .tooLate
          | some .done | some .failed | some .expired | some .cancelled => some .jobEnded
          | some .held => none) = some code →
      ∃ t, exec (.amendJob (.window w) tag (some b)) s = .next t ∧
        s.answered t (.window w) .amendJob tag (refusal code) ∧ s.refusedAt t (.window w)) ∧
    ∀ (b : AmendBody) (k : SlotId) (j : Job) (f : FareFields) (c : Content) (e : DiscountEntry),
      s.admits (.window w) .amendJob tag → b.fits = true → b.slot = k.val + 1 →
      s.job w k = some j → j.state = .held →
      f = b.fare.getD ⟨j.baseFare, j.discount, j.quantity, some j.tender⟩ →
      c = b.content.getD ⟨j.declared, j.lines⟩ → e = s.discounts[Fin.ofNat 16 f.discount] →
      ∀ code, (if b.lanes.getD j.lanes = .replicate 4 false ∨ b.priority = some none ∨
            f.tender = none then some ResultCode.badArgument
        else if 32 < c.declared ∨ c.declared < c.lines.length then some .tooManyLines
        else match (s.form j.form).bound j.generation with
          | none => some .formUnknown
          | some d =>
            if 99999 < f.baseFare ∨ f.quantity < 1 ∨ 9 < f.quantity then some .badFare
            else if 15 < f.discount ∨ e.state ≠ .active ∨ e.classes.holds d.cls = false then
              some .badDiscount
            else if d.bodyCapacity < c.declared then some .tooManyLines
            else none) = some code →
      ∃ t, exec (.amendJob (.window w) tag (some b)) s = .next t ∧
        s.answered t (.window w) .amendJob tag (refusal code) ∧ s.refusedAt t (.window w)) ∧
  ∀ (s : State) (w : Window) (tag : Byte) (k : SlotId) (j : Job), s.job w k = some j →
    (∀ (start : Nat) (lines : List Text), s.admits (.window w) .supplyLines tag →
      linesFit lines = true → j.isActive = true → start = j.lines.length →
      start + lines.length ≤ j.declared →
      ∃ t j', j' = { j with lines := j.lines ++ lines } ∧
        exec (.supplyLines (.window w) tag (some ⟨k.val + 1, start, lines⟩)) s = .next t ∧
        s.answered t (.window w) .supplyLines tag
          (accepted (.supplied (j.lines.length + lines.length))) ∧
        t.slot w k = ⟨(s.slot w k).unread, some j'⟩ ∧ s.otherSlots t w k ∧
        t.sessions = (s.dropDeclaration w).sessions ∧
        s.lanesTold t (!s.eligibleSomewhere j && s.eligibleSomewhere j') ∧
        s.changesOnly t [.receivers, .slots, .sessions, .lanes]) ∧
    ∀ (fare : Option FareFields) (lanes : Option LaneSet) (priority : Option (Named Priority))
      (content : Option Content) (f : FareFields) (x : LaneSet) (pr : Priority) (c : Content)
      (tn : Tender) (d : FormDef) (code : Fin 16),
      s.admits (.window w) .amendJob tag → (∀ y, content = some y → linesFit y.lines = true) →
      j.state = .held → (s.form j.form).bound j.generation = some d →
      f = fare.getD ⟨j.baseFare, j.discount, j.quantity, some j.tender⟩ → x = lanes.getD j.lanes →
      some pr = priority.getD (some j.priority) → c = content.getD ⟨j.declared, j.lines⟩ →
      isEmptySet x = false → f.tender = some tn → c.declared ≤ 32 → c.lines.length ≤ c.declared →
      f.baseFare ≤ 99999 → 1 ≤ f.quantity → f.quantity ≤ 9 → f.discount = code.val →
      s.discounts[code].state = .active → s.discounts[code].classes.holds d.cls = true →
      c.declared ≤ d.bodyCapacity →
      ∃ t j' down, down = (pr == .urgent && j.priority == .normal && !s.grants[w].urgent) ∧
        j' = { j with
          lanes := x
          priority := if down then .normal else pr
          baseFare := f.baseFare
          discount := code.val
          quantity := f.quantity
          tender := tn
          unitFare := unitFare s.discounts[code] f.baseFare
          value := unitFare s.discounts[code] f.baseFare * f.quantity
          declared := c.declared
          lines := c.lines } ∧
        exec (.amendJob (.window w) tag (some ⟨k.val + 1, fare, lanes, priority, content⟩)) s =
          .next t ∧
        s.answered t (.window w) .amendJob tag (accepted (.amended j'.unitFare j'.value down
          (j.generation == some (nextGeneration (s.form j.form).generation)))) ∧
        t.slot w k = ⟨(s.slot w k).unread, some j'⟩ ∧ s.otherSlots t w k ∧
        t.sessions = (s.dropDeclaration w).sessions ∧
        s.changesOnly t [.receivers, .slots, .sessions]

/-- HOLD_JOB in each state of the slot; a HELD job is eligible for no lane, and the scanner's visit
passes it by (03 R45). -/
def Obligations.HoldJobByTheSlotsState : Prop :=
  ∀ (s : State) (w : Window) (tag : Byte) (n : Nat), s.admits (.window w) .holdJob tag →
    (∀ code, (if n < 1 ∨ 8 < n then some ResultCode.badArgument
        else match s.job w (Fin.ofNat 8 (n - 1)) with
          | none => some .noJob
          | some j => match j.state with
            | .queued => none
            | .held => some .ok
            | .printing => some .tooLate
            | .retryWait => some .notQueued
            | .done | .failed | .expired | .cancelled => some .jobEnded) = some code →
      ∃ t, exec (.holdJob (.window w) tag (some n)) s = .next t ∧
        s.answered t (.window w) .holdJob tag (refusal code) ∧ s.refusedAt t (.window w)) ∧
    (∀ (k : SlotId) (j : Job), n = k.val + 1 → s.job w k = some j → j.state = .queued →
      ∃ t, exec (.holdJob (.window w) tag (some n)) s = .next t ∧
        s.answered t (.window w) .holdJob tag (accepted .bare) ∧
        t.slot w k = ⟨(s.slot w k).unread, some { j with state := .held }⟩ ∧
        s.otherSlots t w k ∧ t.sessions = (s.dropDeclaration w).sessions ∧
        s.changesOnly t [.receivers, .slots, .sessions]) ∧
    ∀ (k : SlotId) (j : Job), s.job w k = some j → j.state = .held →
      (∀ l, s.eligible j l = false) ∧ s.visitSlot w k = s

/-- RELEASE_JOB and WITHDRAW_JOB in each state of the slot: a HELD job, and a RETRY_WAIT job whose
outcome has been fetched, go back to QUEUED and the lanes are told; a withdrawal empties the slot at
once, releases the reservation and lowers the form's count; an EMPTY slot gives NO_JOB and a slot
outside 1 to 8 BAD_ARGUMENT (03 R47 to R49, R54, Table 3.3; 02 R28; 08 R149). That a claim request still
under way serves for the new report is the model's inference (log entry 13). -/
def Obligations.ReleaseAndWithdrawByTheSlotsState : Prop :=
  (∀ (s : State) (w : Window) (tag : Byte) (n : Nat) (c : Instr) (rk : RequestKind),
    ((rk = .releaseJob ∧ c = .releaseJob (.window w) tag (some n)) ∨
      (rk = .withdrawJob ∧ c = .withdrawJob (.window w) tag (some n))) →
    s.admits (.window w) rk tag →
    ∀ code, (if n < 1 ∨ 8 < n then some ResultCode.badArgument
      else if s.job w (Fin.ofNat 8 (n - 1)) = none then some .noJob else none) = some code →
    ∃ t, exec c s = .next t ∧ s.answered t (.window w) rk tag (refusal code) ∧
      s.refusedAt t (.window w)) ∧
  ∀ (s : State) (w : Window) (tag : Byte) (k : SlotId) (j : Job), s.job w k = some j →
    (s.admits (.window w) .releaseJob tag →
      (j.state = .held ∨ (j.state = .retryWait ∧ (s.slot w k).unread = false)) →
      ∃ t, exec (.releaseJob (.window w) tag (some (k.val + 1))) s = .next t ∧
        s.answered t (.window w) .releaseJob tag (accepted .bare) ∧
        t.slot w k = ⟨(s.slot w k).unread, some { j with state := .queued }⟩ ∧
        s.otherSlots t w k ∧ t.sessions = (s.dropDeclaration w).sessions ∧
        s.lanesTold t (s.eligibleSomewhere { j with state := .queued }) ∧
        s.changesOnly t [.receivers, .slots, .sessions, .lanes]) ∧
    (s.admits (.window w) .releaseJob tag → ∀ code,
      (match j.state with
        | .held => none
        | .retryWait => if (s.slot w k).unread then some .outcomeUnread else none
        | .queued | .printing => some ResultCode.notHeld
        | .done | .failed | .expired | .cancelled => some .jobEnded) = some code →
      ∃ t, exec (.releaseJob (.window w) tag (some (k.val + 1))) s = .next t ∧
        s.answered t (.window w) .releaseJob tag (refusal code) ∧ s.refusedAt t (.window w)) ∧
    (s.admits (.window w) .withdrawJob tag →
      (j.state = .queued ∨ j.state = .held ∨ j.state = .retryWait) →
      ∃ t, exec (.withdrawJob (.window w) tag (some (k.val + 1))) s = .next t ∧
        s.answered t (.window w) .withdrawJob tag ⟨.withdrawn, .bare⟩ ∧
        t.slot w k = ⟨(s.slot w k).unread, none⟩ ∧ s.otherSlots t w k ∧
        t.session w = { s.session w with
          reserved := (s.session w).reserved - j.reserved, inProgress := none } ∧
        s.otherSessions t w ∧ t.journalReserved = s.journalReserved - j.reserved ∧
        t.journal = s.journal ∧ s.otherForms t j.form ∧
        (∀ g, j.generation = some g → g = (s.form j.form).generation →
          (1 < (s.form j.form).useCount ∨ (s.form j.form).pending = none) →
          t.form j.form = { s.form j.form with useCount := (s.form j.form).useCount - 1 } ∧
          (∀ q, (t.port q).queue = (s.port q).queue)) ∧
        (∀ g d, j.generation = some g → g = (s.form j.form).generation →
          (s.form j.form).useCount = 1 → (s.form j.form).pending = some d →
          t.form j.form = ⟨some d, none, nextGeneration g, (s.form j.form).waitingCount, 0⟩ ∧
          s.queuesAfter t State.postForms) ∧
        (j.generation = some (nextGeneration (s.form j.form).generation) →
          t.form j.form =
            { s.form j.form with waitingCount := (s.form j.form).waitingCount - 1 } ∧
          ∀ q, (t.port q).queue = (s.port q).queue) ∧
        (∀ l, t.lane l = s.lane l ∨ t.lane l = (s.lane l).claiming s.powerFail) ∧
        s.changesOnly t [.receivers, .queues, .slots, .sessions, .journal, .forms, .lanes]) ∧
    (s.admits (.window w) .withdrawJob tag → ∀ code,
      (match j.state with
        | .queued | .held | .retryWait => none
        | .printing => some ResultCode.tooLate
        | .done | .failed | .expired | .cancelled => some .jobEnded) = some code →
      ∃ t, exec (.withdrawJob (.window w) tag (some (k.val + 1))) s = .next t ∧
        s.answered t (.window w) .withdrawJob tag (refusal code) ∧ s.refusedAt t (.window w))

/-- A claim request taken: among the jobs eligible for the lane, the one no other comes before by
priority, age, window and slot becomes PRINTING, holds no deadline, and is handed to the lane; with none
eligible the request is answered with no job. A job is eligible for a lane exactly when it is QUEUED, the
lane is one it allows, it is bound to its form's current generation, the lane's pack is of the current
definition's class, and its supplied lines reach the smaller of its declared count and the ready threshold
(03 R52, R53, R55, R56). That a request sent while a job
handed to the lane is not yet taken waits, as the premise leaves out, is the model's inference (log
entry 13). -/
def Obligations.ClaimTakesTheFirstEligibleJob : Prop :=
  (∀ (s : State) (j : Job),
    (s.eligibleSomewhere j = true ↔ ∃ l, s.eligible j l = true) ∧
    ∀ l : LaneId, s.eligible j l = true ↔
      j.state = .queued ∧ j.lanes[l] = true ∧
      j.generation = some (s.form j.form).generation ∧
      ∃ d p, (s.form j.form).current = some d ∧ s.mounted l = some p ∧ d.cls = p.cls ∧
        min j.declared d.ready ≤ j.lines.length) ∧
  ∀ (s : State) (l : LaneId), s.phase = .running → (s.lane l).claimSent = true →
    (s.lane l).handed = none →
    ((∀ w k j, s.job w k = some j → s.eligible j l = false) →
      ∃ t, exec (.claimRequest l) s = .next t ∧
        t.lane l = { s.lane l with claimSent := false } ∧ s.otherLanes t l ∧
        s.changesOnly t [.lanes]) ∧
    ((∃ w k j, s.job w k = some j ∧ s.eligible j l = true) →
      ∃ t w k j, exec (.claimRequest l) s = .next t ∧ s.job w k = some j ∧
        s.eligible j l = true ∧
        (∀ v i x, s.job v i = some x → s.eligible x l = true → (v, i) ≠ (w, k) →
          (j.priority = .urgent ∧ x.priority = .normal) ∨
          (j.priority = x.priority ∧
            ((s.runTime - x.submitted).toNat < (s.runTime - j.submitted).toNat ∨
              ((s.runTime - x.submitted).toNat = (s.runTime - j.submitted).toNat ∧
                (w < v ∨ (w = v ∧ k < i)))))) ∧
        t.slot w k = ⟨(s.slot w k).unread,
          some { j with state := .printing, lane := some l, deadline := none }⟩ ∧
        s.otherSlots t w k ∧
        t.lane l = { s.lane l with
          claimSent := false
          handed := some ⟨w, k, j.form, j.generation, j.declared, j.value, j.tender, j.quantity,
            j.reserved⟩ } ∧
        s.otherLanes t l ∧ s.changesOnly t [.slots, .lanes])

/-- The scanner's visit: a QUEUED job whose deadline is present and passed becomes EXPIRED with its
notice, its reservation released and its form's count lowered, which may apply a pending definition and
tell the lanes of a job it makes eligible; any other slot is passed by; and the scanner goes on to the next
of the 48 slots (02 R28, R29; 03 R54, R57, R62, R63). That a claim request still under way serves for
another is the model's inference (log entry 13). -/
def Obligations.ScannerExpiresLateJobs : Prop :=
  ∀ (s : State) (w : Window) (k : SlotId), s.phase = .running → s.scanner = 8 * w.val + k.val →
    ((∀ j d, s.job w k = some j → j.state = .queued → j.deadline = some d →
        2 ^ 31 ≤ (s.runTime - d).toNat) →
      ∃ t, exec .scannerVisit s = .next t ∧ t.scanner = (s.scanner + 1) % 48 ∧
        s.changesOnly t [.scanner]) ∧
    ∀ j d, s.job w k = some j → j.state = .queued → j.deadline = some d →
      (s.runTime - d).toNat < 2 ^ 31 →
      ∃ t o, exec .scannerVisit s = .next t ∧ o = ⟨.expired, .none, 0, 0, 0, 0⟩ ∧
        t.slot w k = ⟨true, some { j with
          state := .expired, lane := none, deadline := none, reserved := 0, latest := some o }⟩ ∧
        s.otherSlots t w k ∧
        t.session w = { s.session w with reserved := (s.session w).reserved - j.reserved } ∧
        s.otherSessions t w ∧
        t.journalReserved = s.journalReserved - j.reserved ∧ t.journal = s.journal ∧
        (∀ v, (t.port (.window v)).queue = if v = w then
          coalesce (s.port (.window v)).queue ⟨.slotOutcome, .slot k, some o⟩
          else (s.port (.window v)).queue) ∧
        s.otherForms t j.form ∧ t.scanner = (s.scanner + 1) % 48 ∧
        (∀ f g, f = s.form j.form →
          g = (if f.generation = 255 then 1 else f.generation + 1) →
          (j.generation = some f.generation → (1 < f.useCount ∨ f.pending = none) →
            t.form j.form = { f with useCount := f.useCount - 1 } ∧
            (t.port .office).queue = (s.port .office).queue ∧ t.lanes = s.lanes) ∧
          (j.generation = some g →
            t.form j.form = { f with waitingCount := f.waitingCount - 1 } ∧
            (t.port .office).queue = (s.port .office).queue ∧ t.lanes = s.lanes) ∧
          (j.generation ≠ some f.generation → j.generation ≠ some g →
            t.form j.form = f ∧
            (t.port .office).queue = (s.port .office).queue ∧ t.lanes = s.lanes) ∧
          (j.generation = some f.generation → f.useCount = 1 → f.pending ≠ none →
            t.form j.form = ⟨f.pending, none, g, f.waitingCount, 0⟩ ∧
            (t.port .office).queue = (s.postForms.port .office).queue ∧
            ∀ told : Bool, (told = true ↔ ∃ v i x, t.job v i = some x ∧ x.form = j.form ∧
              t.eligibleSomewhere x = true) → s.lanesTold t told)) ∧
        s.changesOnly t [.queues, .slots, .sessions, .journal, .forms, .lanes, .scanner]

/-! ## Lanes (04) -/

/-- A handed job taken by a lane IDLE with a VERIFIED blank: the ticket starts and its first line is
strobed; with the cabinet found open the claim is handed back and the lane goes to HOLDING; under
the power-fail warning it is handed back and the lane stays IDLE (04 R79, R80, R86; 02 R32; 03
R61). That a claim request sent meanwhile is withdrawn at the ticket's start is the model's inference (log
entry 13). -/
def Obligations.ClaimAnswerStartsTheTicket : Prop :=
  ∀ (s : State) (l : LaneId) (h : Handed) (serial : Nat), s.phase = .running →
    (s.lane l).handed = some h → (s.lane l).state = .idle →
    (s.lane l).head = .verified serial →
    (∀ (d : FormDef) (c : Composer × Text), (s.lane l).cabinetPin = .locked →
      s.powerFail = false → (s.form h.form).bound h.generation = some d →
      (s.mounted l).map Pack.cls = some d.cls →
      c = (Composer.begin d (serialStamp d.cls serial) (timeStamp s.clockStamp)
        (priceText s.limits.currencyMark h.value) h.declared).compose
          (((s.job h.window h.slot).map Job.lines).getD []) 0 →
      ∃ t, exec (.claimAnswer l) s = .next t ∧
        t.lane l = { s.lane l with
          state := .printing
          handed := none
          claimSent := false
          job := some (h.window, h.slot)
          line := 0
          inflight := some
            ⟨h.window, h.slot, h.form, h.quantity, serial, h.value, h.tender, h.reserved, true⟩
          composer := c.1
          printData := some c.2
          awaiting := some .strobe
          deferred := none } ∧
        s.otherLanes t l ∧ (s.queuesAfter t fun x => x.postLane l) ∧
        s.changesOnly t [.lanes, .queues]) ∧
    (∀ j, (s.lane l).cabinetPin = .opened → (s.lane l).cabinetSeen = .locked →
      s.isLocked l = false → s.job h.window h.slot = some j →
      ∃ t, exec (.claimAnswer l) s = .next t ∧
        (t.lane l).state = .holding ∧ (t.lane l).causes = ⟨true, false⟩ ∧
        (t.lane l).cabinetSeen = .opened ∧ (t.lane l).head = .verified serial ∧
        (t.lane l).handed = none ∧ (t.lane l).inflight = (s.lane l).inflight ∧
        t.job h.window h.slot = some { j with state := .queued, lane := none } ∧
        (∃ r ∈ t.activeOf (.lane l), r.kind = .cabinetOpen) ∧
        s.changesOnly t [.lanes, .queues, .faults, .slots]) ∧
    ∀ j, (s.lane l).cabinetPin = .locked → s.powerFail = true →
      s.job h.window h.slot = some j →
      ∃ t, exec (.claimAnswer l) s = .next t ∧ t.lane l = { s.lane l with handed := none } ∧
        s.otherLanes t l ∧
        t.job h.window h.slot = some { j with state := .queued, lane := none } ∧
        s.otherSlots t h.window h.slot ∧ s.changesOnly t [.lanes, .slots]

/-- POSITIONED and HEAD_READY, where the lane awaits them and where it does not: the blank stands
unverified and a mark read is requested; the next line is strobed, or deferred under the power-fail
warning, or after the last line the cut is issued; an event not awaited is discarded (04 R72, R75,
R80, R81, R89). -/
def Obligations.FeedAndStrobeEvents : Prop :=
  ∀ (s : State) (l : LaneId), s.phase = .running →
    ((s.lane l).awaiting ≠ some .feed → exec (.positioned l) s = .next s) ∧
    ((s.lane l).awaiting = some .feed →
      ∃ t, exec (.positioned l) s = .next t ∧
        t.lane l = { s.lane l with
          head := .unverified
          failedReads := 0
          awaiting := some .read
          state := if (s.lane l).state = .feeding then .verifying else (s.lane l).state } ∧
        s.otherLanes t l ∧
        (s.queuesAfter t fun x => if (s.lane l).state = .feeding then x.postLane l else x) ∧
        s.changesOnly t [.lanes, .queues]) ∧
    ((s.lane l).awaiting ≠ some .strobe → exec (.headReady l) s = .next s) ∧
    ∀ d, (s.lane l).awaiting = some .strobe → (s.lane l).state = .printing →
      (s.lane l).composer.copy = some d →
      ((s.lane l).line + 1 < d.lineCount → s.powerFail = false →
        ∃ t c, exec (.headReady l) s = .next t ∧
          c = (s.lane l).composer.compose (s.linesFor l) ((s.lane l).line + 1) ∧
          t.lane l = { s.lane l with
            line := (s.lane l).line + 1
            inflight := (s.lane l).inflight.map fun r => { r with begun := true }
            composer := c.1
            printData := some c.2
            deferred := none } ∧
          s.otherLanes t l ∧ s.changesOnly t [.lanes]) ∧
      ((s.lane l).line + 1 < d.lineCount → s.powerFail = true →
        ∃ t, exec (.headReady l) s = .next t ∧
          t.lane l = { s.lane l with
            line := (s.lane l).line + 1, awaiting := none, deferred := some .strobe } ∧
          s.otherLanes t l ∧ s.changesOnly t [.lanes]) ∧
      (d.lineCount ≤ (s.lane l).line + 1 →
        ∃ t, exec (.headReady l) s = .next t ∧
          t.lane l = { s.lane l with state := .cutting, awaiting := some .cut } ∧
          s.otherLanes t l ∧ (s.queuesAfter t fun x => x.postLane l) ∧
          s.changesOnly t [.lanes, .queues])

/-- Cut completion without a lost line issues the ticket in one taking: the mark, the pack's counters,
sequence and references, the ISSUE entry, the session's totals and counts, the job DONE with its notice
and its reservation released, the lane's record cleared; and the lane then holds, or feeds, or defers
the feed under the power-fail warning, or with no stock at its input raises STOCK_DISCREPANCY (04 R75,
R81, R82, R84, R89; 05 R93; 07 R137; 08 R149, R152; 03 R57, R58; 02 R38). That a claim request still
under way serves for another is the model's inference (log entry 13). -/
def Obligations.CutDoneIssuesTheTicket : Prop :=
  ∀ (s : State) (l : LaneId) (r : InFlight) (p : Pack) (j : Job) (o : SlotOutcome),
    s.phase = .running → (s.lane l).state = .cutting → (s.lane l).awaiting = some .cut →
    (s.lane l).inflight = some r → (s.lane l).composer.lostLine = false → s.mounted l = some p →
    s.packOf p.cls r.serial = some p → p.markOf r.serial = some .unused →
    s.job r.window r.slot = some j → s.isLocked l = false →
    o = ⟨.done, .none, j.attempts, p.cls, r.serial, r.value⟩ →
    ∃ t q, exec (.cutDone l) s = .next t ∧
      t.findPack p.number = some q ∧ q.markOf r.serial = some .issued ∧
      (∀ n, n ≠ r.serial → q.markOf n = p.markOf n) ∧
      q.counters = { p.counters with
        unused := p.counters.unused - 1, issued := p.counters.issued + 1 } ∧
      q.sequence = p.sequence + 1 ∧ q.verdict = .none ∧ q.references = p.references + 1 ∧
      t.journal = s.journal ++ [⟨r.window, (s.entriesOf r.window).length + 1,
        ⟨.issue, p.cls, r.serial, p.number, r.value, some r.tender, r.quantity, r.form, r.slot⟩,
        s.stamp, false⟩] ∧
      t.journalInUse = s.journalInUse + 1 ∧
      t.session r.window = { s.session r.window with
        issued := (s.session r.window).issued.set r.tender
          (min ((s.session r.window).issued.get r.tender + r.value) 2147483647)
        issuedCount := (s.session r.window).issuedCount + 1
        saturated := (s.session r.window).saturated ||
          decide (2147483647 < (s.session r.window).issued.get r.tender + r.value)
        reserved := (s.session r.window).reserved - 1 - (j.reserved - 1) } ∧
      s.otherSessions t r.window ∧
      t.slot r.window r.slot = ⟨true, some { j with
        state := .done, lane := none, deadline := none, reserved := 0, latest := some o }⟩ ∧
      s.otherSlots t r.window r.slot ∧
      ⟨.slotOutcome, .slot r.slot, some o⟩ ∈ (t.port (.window r.window)).queue ∧
      ⟨.sessionChange, .ownSession, none⟩ ∈ (t.port (.window r.window)).queue ∧
      ⟨.stockChange, .stock, none⟩ ∈ (t.port .office).queue ∧
      (∀ a, ⟨.laneChange, .lane l, none⟩ ∈ (t.port a).queue) ∧
      s.otherLanesTold t l ∧ s.otherPacks t p.number ∧
      s.changesOnly t [.lanes, .queues, .packs, .census, .sessions, .journal, .slots, .forms,
        .faults] ∧
      (t.lane l).inflight = none ∧ (t.lane l).job = none ∧ (t.lane l).composer.released ∧
      ((s.lane l).holdAfter = true →
        (t.lane l).state = .holding ∧
          (t.lane l).causes = ⟨true, p.counters.unused - 1 == 0⟩ ∧
          (t.lane l).holdAfter = false ∧ (t.lane l).awaiting = none ∧
          (t.lane l).head = .notPositioned) ∧
      ((s.lane l).holdAfter = false → p.counters.unused = 1 →
        (t.lane l).state = .holding ∧ (t.lane l).causes = ⟨false, true⟩ ∧
          (t.lane l).awaiting = none ∧ (t.lane l).head = .notPositioned) ∧
      ((s.lane l).holdAfter = false → 1 < p.counters.unused →
        (∃ n, n ≠ r.serial ∧ (s.lane l).position ≤ n ∧ p.markOf n = some .unused) →
        s.powerFail = false → (s.lane l).stockPin = true →
        (t.lane l).state = .feeding ∧ (t.lane l).awaiting = some .feed ∧
          (t.lane l).head = .notPositioned) ∧
      ((s.lane l).holdAfter = false → 1 < p.counters.unused →
        (∃ n, n ≠ r.serial ∧ (s.lane l).position ≤ n ∧ p.markOf n = some .unused) →
        s.powerFail = true →
        (t.lane l).state = .feeding ∧ (t.lane l).awaiting = none ∧
          (t.lane l).deferred = some .feed ∧ (t.lane l).head = .notPositioned) ∧
      (∀ n, (s.lane l).holdAfter = false → 1 < p.counters.unused → n ≠ r.serial →
        (s.lane l).position ≤ n → p.markOf n = some .unused →
        (∀ m, (s.lane l).position ≤ m → m < n → m ≠ r.serial → p.markOf m ≠ some .unused) →
        s.powerFail = false → (s.lane l).stockPin = false →
        (t.lane l).state = .faulted ∧ (t.lane l).awaiting = none ∧
          (t.lane l).deferred = none ∧ (t.lane l).head = .notPositioned ∧
          t.faults = (s.raiseLane l .stockDiscrepancy
            { reason := some .stockAbsent, pack := some p.number, expected := some n }).faults) ∧
      (((s.lane l).holdAfter = true ∨ p.counters.unused ≤ 1 ∨ s.powerFail = true ∨
        (s.lane l).stockPin = true) → t.faults = s.faults)

/-- Cut completion with a lost line spoils the ticket in one taking: the blank SPOILED, a SPOIL entry
with value 0 and no tender, the spoiled count, the attempt count up by one, and the job in RETRY_WAIT
or, at the third, FAILED, with reason LOST_LINE (04 R83; 03 R59; 08 R153). That a claim request still
under way serves for another is the model's inference (log entry 13). -/
def Obligations.LostLineSpoilsTheTicket : Prop :=
  ∀ (s : State) (l : LaneId) (r : InFlight) (p : Pack) (j : Job) (o : SlotOutcome),
    s.phase = .running → (s.lane l).awaiting = some .cut → (s.lane l).inflight = some r →
    (s.lane l).composer.lostLine = true → s.mounted l = some p →
    s.packOf p.cls r.serial = some p → p.markOf r.serial = some .unused →
    s.job r.window r.slot = some j →
    o = ⟨if 3 ≤ j.attempts + 1 then .failed else .spoiled, .lostLine, j.attempts + 1, p.cls,
      r.serial, 0⟩ →
    ∃ t q, exec (.cutDone l) s = .next t ∧
      t.findPack p.number = some q ∧ q.markOf r.serial = some .spoiled ∧
      q.counters = { p.counters with
        unused := p.counters.unused - 1, spoiled := p.counters.spoiled + 1 } ∧
      q.references = p.references + 1 ∧
      t.journal = s.journal ++ [⟨r.window, (s.entriesOf r.window).length + 1,
        ⟨.spoil, p.cls, r.serial, p.number, 0, none, r.quantity, r.form, r.slot⟩,
        s.stamp, false⟩] ∧
      (t.session r.window).spoiledCount = (s.session r.window).spoiledCount + 1 ∧
      (t.session r.window).issued = (s.session r.window).issued ∧
      (j.attempts + 1 < 3 → t.slot r.window r.slot = ⟨true, some { j with
        state := .retryWait, lane := none, attempts := j.attempts + 1,
        reserved := j.reserved - 1, latest := some o }⟩) ∧
      (3 ≤ j.attempts + 1 → t.slot r.window r.slot = ⟨true, some { j with
        state := .failed, lane := none, deadline := none, attempts := j.attempts + 1,
        reserved := 0, latest := some o }⟩) ∧
      ⟨.slotOutcome, .slot r.slot, some o⟩ ∈ (t.port (.window r.window)).queue ∧
      s.otherLanesTold t l ∧ s.otherPacks t p.number ∧
      s.changesOnly t [.lanes, .queues, .packs, .census, .sessions, .journal, .slots, .forms,
        .faults] ∧
      s.otherSessions t r.window ∧ s.otherSlots t r.window r.slot ∧
      (t.lane l).inflight = none ∧ (t.lane l).job = none ∧ (t.lane l).composer.released ∧
      (t.lane l).head = .notPositioned

/-- A mark record that matches: the blank VERIFIED and the position its serial; then HOLDING with the
hold-after-ticket flag set, IDLE with a claim request sent, or FAULTED where a report other than
CABINET_OPEN stands; with a further blank to advance it is marked ADVANCED and the next fed, the feed
deferred under the power-fail warning, or STOCK_DISCREPANCY raised with no stock at the input (04
R72, R75, R77, R78, R88, R89; 03 R54). That the lock clears the flag and the advances is the model's
inference (log entry 14), as is that a request still under way serves for the new claim (log entry
13). -/
def Obligations.MatchingRecordVerifiesTheBlank : Prop :=
  ∀ (s : State) (l : LaneId) (record : Vector Byte 6) (p : Pack) (e : Nat),
    s.phase = .running → (s.lane l).awaiting = some .read → s.mounted l = some p →
    s.expected l = some e → goodRead record = some (p.cls, e) →
    (s.isLocked l = true →
      ∃ t, exec (.markRecord l record) s = .next t ∧
        t.lane l = { s.lane l with
          state := .faulted, head := .verified e, position := e, awaiting := none,
          causes := .empty, holdAfter := false, advances := 0 } ∧
        s.otherLanes t l ∧ s.changesOnly t [.lanes, .queues]) ∧
    (s.isLocked l = false → (s.lane l).holdAfter = true →
      ∃ t, exec (.markRecord l record) s = .next t ∧
        t.lane l = { s.lane l with
          state := .holding, head := .verified e, position := e, awaiting := none,
          causes := ⟨true, false⟩, holdAfter := false, advances := 0 } ∧
        s.otherLanes t l ∧ s.changesOnly t [.lanes, .queues]) ∧
    (s.isLocked l = false → (s.lane l).holdAfter = false →
      ((s.lane l).state = .advancing → (s.lane l).advances ≤ 1) →
      ∃ t, exec (.markRecord l record) s = .next t ∧
        t.lane l = { s.lane l with
          state := .idle, head := .verified e, position := e, awaiting := none, advances := 0,
          claimSent := (s.lane l).claimSent || !s.powerFail } ∧
        s.otherLanes t l ∧ s.changesOnly t [.lanes, .queues]) ∧
    (s.isLocked l = false → (s.lane l).holdAfter = false → (s.lane l).state = .advancing →
      1 < (s.lane l).advances → s.packOf p.cls e = some p → p.markOf e = some .unused →
      1 < p.counters.unused → (∃ n, e < n ∧ p.markOf n = some .unused) →
      ∃ t q, exec (.markRecord l record) s = .next t ∧ t.findPack p.number = some q ∧
        q.markOf e = some .advanced ∧
        (s.powerFail = false → (s.lane l).stockPin = true →
          t.lane l = { s.lane l with
            head := .notPositioned, position := e, awaiting := some .feed, deferred := none,
            advances := (s.lane l).advances - 1 } ∧
          s.otherLanes t l ∧ s.changesOnly t [.lanes, .queues, .packs, .census]) ∧
        (s.powerFail = true →
          t.lane l = { s.lane l with
            head := .notPositioned, position := e, awaiting := none, deferred := some .feed,
            advances := (s.lane l).advances - 1 } ∧
          s.otherLanes t l ∧ s.changesOnly t [.lanes, .queues, .packs, .census]) ∧
        ∀ n, s.powerFail = false → (s.lane l).stockPin = false → (s.lane l).inflight = none →
          e < n → p.markOf n = some .unused →
          (∀ m, e < m → m < n → p.markOf m ≠ some .unused) →
          t.lane l = { s.lane l with
            state := .faulted, causes := .empty, holdAfter := false, advances := 0,
            head := .notPositioned, position := e, awaiting := none, deferred := none } ∧
          t.faults = (s.raiseLane l .stockDiscrepancy
            { reason := some .stockAbsent, pack := some p.number, expected := some n }).faults ∧
          s.otherLanes t l ∧ s.changesOnly t [.lanes, .queues, .packs, .census, .faults])

/-- A mark record that does not match: read ahead, the run passed over that holds UNUSED is marked
MISSING, the blank VERIFIED, and STOCK_DISCREPANCY raised; any other good read raises WRONG_STOCK and
moves no mark; a failed read, or an expiry, asks again, and at the third raises MARK_UNREADABLE; the
head is left POSITIONED_UNVERIFIED by these (04 R67, R72, R76, R77; 10 Table 10.2). -/
def Obligations.OtherRecordsAreAskedAgainOrFaulted : Prop :=
  ∀ (s : State) (l : LaneId) (record : Vector Byte 6) (p : Pack) (e : Nat),
    s.phase = .running → (s.lane l).awaiting = some .read → (s.lane l).inflight = none →
    s.mounted l = some p → s.expected l = some e → s.stockHolds →
    (∀ r run, goodRead record = some (p.cls, r) → e < r → p.markOf r = some .unused →
      run = p.unusedIn e (r - 1) →
      ∃ t q, exec (.markRecord l record) s = .next t ∧ t.findPack p.number = some q ∧
        (∀ n ∈ run, q.markOf n = some .missing) ∧ (∀ n, n ∉ run → q.markOf n = p.markOf n) ∧
        (t.lane l).state = .faulted ∧ (t.lane l).head = .verified r ∧
        (t.lane l).position = r ∧ (t.lane l).awaiting = none ∧ s.otherLanes t l ∧
        (∃ x ∈ t.activeOf (.lane l),
          x.kind = .stockDiscrepancy ∨ x.lastOther = some .stockDiscrepancy) ∧
        (s.activeOf (.lane l) = [] → ∃ x ∈ t.faults, x.kind = .stockDiscrepancy ∧
          x.context =
            { reason := some .readAhead
              pack := some p.number
              expected := some e
              readSerial := some r
              markedMissing := some run.length }) ∧
        t.faults = (s.raiseLane l .stockDiscrepancy
          { reason := some .readAhead
            pack := some p.number
            expected := some e
            readSerial := some r
            markedMissing := some run.length }).faults ∧
        s.changesOnly t [.lanes, .queues, .packs, .census, .faults]) ∧
    (∀ c r, goodRead record = some (c, r) → (c = p.cls → r ≠ e) →
      (c = p.cls → e < r → p.markOf r ≠ some .unused) →
      ∃ t, exec (.markRecord l record) s = .next t ∧ (t.lane l).state = .faulted ∧
        (t.lane l).position = (s.lane l).position ∧ (t.lane l).head = .unverified ∧
        (t.lane l).awaiting = none ∧ s.otherLanes t l ∧
        (∃ x ∈ t.activeOf (.lane l), x.kind = .wrongStock ∨ x.lastOther = some .wrongStock) ∧
        (s.activeOf (.lane l) = [] → ∃ x ∈ t.faults, x.kind = .wrongStock ∧
          x.context =
            { pack := some p.number
              expected := some e
              readClass := some c
              readSerial := some r }) ∧
        t.faults = (s.raiseLane l .wrongStock
          { pack := some p.number
            expected := some e
            readClass := some c
            readSerial := some r }).faults ∧
        s.changesOnly t [.lanes, .queues, .faults]) ∧
    (∀ c, (c = .markReadTimeout l ∨ (c = .markRecord l record ∧ goodRead record = none)) →
      ((s.lane l).failedReads < 2 → ∃ t, exec c s = .next t ∧
        t.lane l = { s.lane l with
          failedReads := (s.lane l).failedReads + 1, head := .unverified } ∧
        s.otherLanes t l ∧ s.changesOnly t [.lanes]) ∧
      (2 ≤ (s.lane l).failedReads → ∃ t, exec c s = .next t ∧ (t.lane l).state = .faulted ∧
        (t.lane l).failedReads = 3 ∧ (t.lane l).awaiting = none ∧
        (t.lane l).head = .unverified ∧ s.otherLanes t l ∧
        (∃ x ∈ t.activeOf (.lane l),
          x.kind = .markUnreadable ∨ x.lastOther = some .markUnreadable) ∧
        t.faults = (s.raiseLane l .markUnreadable
          { pack := some p.number, expected := some e }).faults ∧
        s.changesOnly t [.lanes, .queues, .faults]))

/-- A lane's fault is placed against its ACTIVE reports as an occurrence, the primary, the secondary or
the secondary's last other kind, with the next free number, and a full list first loses its oldest
ACKNOWLEDGED report or else its oldest CLEARED one (10 R176 to R178). FEED_TIMEOUT raises FEED_JAM,
STROBE_TIMEOUT HEAD_STALL and CUT_TIMEOUT CUT_JAM: the lane is FAULTED with its timer stopped, and a
ticket whose printing has begun is spoiled with reason MECHANICAL (02 R38; 03 R60; 04 R72; 08 R153; 10
R180, Table 10.2). An expiry for no operation awaited changes nothing. That a claim request still under
way serves for another is the model's inference (log entry 13). -/
def Obligations.TimeoutsRaiseTheirFaults : Prop :=
  (∀ (s t : State) (l : LaneId) (k : FaultKind) (c : FaultContext) (a : List Report),
    s.faultsHold → a = s.activeOf (.lane l) → t = s.raiseLane l k c →
    (∀ r ∈ a, r.kind = k → (∀ x ∈ a, x.kind = k → x = r) →
      t.faults = s.faults.map (fun x => if x.number = r.number then
        { x with occurrences := min (x.occurrences + 1) 255 } else x) ∧
      t.faultCounter = s.faultCounter) ∧
    (∀ r ∈ a, a.length = 2 → (∀ x ∈ a, x.kind ≠ k) → r.primary ≠ none →
      (∀ x ∈ a, x.primary ≠ none → x = r) →
      t.faults = s.faults.map (fun x => if x.number = r.number then
        { x with occurrences := min (x.occurrences + 1) 255, lastOther := some k } else x) ∧
      t.faultCounter = s.faultCounter) ∧
    ∀ primary, (a = [] ∧ primary = none) ∨
        (∃ r, a = [r] ∧ r.kind ≠ k ∧ primary = some r.number) →
      ∃ rest n i, t.faults = rest ++
          [⟨n, .lane l, k, s.stamp, none, .active, 1, primary, none, c, 0, none⟩] ∧
        (s.faults.length < 64 → rest = s.faults) ∧
        (s.faults.length = 64 → ∃ pre x post, s.faults = pre ++ x :: post ∧ rest = pre ++ post ∧
          ((x.state = .acknowledged ∧ ∀ y ∈ pre, y.state ≠ .acknowledged) ∨
            (x.state = .cleared ∧ (∀ y ∈ s.faults, y.state ≠ .acknowledged) ∧
              ∀ y ∈ pre, y.state ≠ .cleared))) ∧
        i ≤ 64 ∧ n = (s.faultCounter - 1 + i) % 65535 + 1 ∧ (∀ x ∈ rest, x.number ≠ n) ∧
        (∀ j, j < i → ∃ x ∈ rest, x.number = (s.faultCounter - 1 + j) % 65535 + 1) ∧
        t.faultCounter = (if n = 65535 then 1 else n + 1)) ∧
  ∀ (s : State) (l : LaneId), s.phase = .running →
    ((s.lane l).awaiting ≠ some .feed → exec (.feedTimeout l) s = .next s) ∧
    ((s.lane l).awaiting ≠ some .strobe → exec (.strobeTimeout l) s = .next s) ∧
    ((s.lane l).awaiting ≠ some .cut → exec (.cutTimeout l) s = .next s) ∧
    ((s.lane l).awaiting ≠ some .read → exec (.markReadTimeout l) s = .next s) ∧
    ((s.lane l).awaiting = some .feed → (s.lane l).inflight = none →
      ∃ t, exec (.feedTimeout l) s = .next t ∧
        t.lane l = { s.lane l with
          state := .faulted, causes := .empty, awaiting := none, deferred := none,
          holdAfter := false, advances := 0 } ∧ s.otherLanes t l ∧
        (∃ x ∈ t.activeOf (.lane l), x.kind = .feedJam ∨ x.lastOther = some .feedJam) ∧
        (s.activeOf (.lane l) = [] → ∃ x ∈ t.faults, x.kind = .feedJam ∧
          x.context = { pack := (s.lane l).pack, expected := s.expected l }) ∧
        t.faults = (s.raiseLane l .feedJam
          { pack := (s.lane l).pack, expected := s.expected l }).faults ∧
        s.changesOnly t [.lanes, .queues, .faults]) ∧
    ∀ (c : Instr) (kind : FaultKind) (line : Option Nat) (r : InFlight) (p : Pack) (j : Job),
      ((c = .strobeTimeout l ∧ kind = .headStall ∧ (s.lane l).awaiting = some .strobe ∧
          line = some (s.lane l).line) ∨
        (c = .cutTimeout l ∧ kind = .cutJam ∧ (s.lane l).awaiting = some .cut ∧
          line = none)) →
      (s.lane l).inflight = some r → r.begun = true → s.mounted l = some p →
      s.packOf p.cls r.serial = some p → p.markOf r.serial = some .unused →
      s.job r.window r.slot = some j →
      ∃ t q, exec c s = .next t ∧ (t.lane l).state = .faulted ∧ (t.lane l).awaiting = none ∧
        (t.lane l).head = .notPositioned ∧ (t.lane l).inflight = none ∧
        (t.lane l).job = none ∧ (t.lane l).composer.released ∧
        (t.lane l).composer.lostLine = false ∧
        (t.lane l).holdAfter = false ∧ (t.lane l).advances = 0 ∧
        t.findPack p.number = some q ∧ q.markOf r.serial = some .spoiled ∧
        t.journal = s.journal ++ [⟨r.window, (s.entriesOf r.window).length + 1,
          ⟨.spoil, p.cls, r.serial, p.number, 0, none, r.quantity, r.form, r.slot⟩,
          s.stamp, false⟩] ∧
        (t.job r.window r.slot).map Job.attempts = some (j.attempts + 1) ∧
        (t.job r.window r.slot).map Job.state =
          some (if 3 ≤ j.attempts + 1 then .failed else .queued) ∧
        ⟨.slotOutcome, .slot r.slot,
          some ⟨if 3 ≤ j.attempts + 1 then .failed else .spoiled, .mechanical, j.attempts + 1,
            p.cls, r.serial, 0⟩⟩ ∈ (t.port (.window r.window)).queue ∧
        (∃ x ∈ t.activeOf (.lane l), x.kind = kind ∨ x.lastOther = some kind) ∧
        (s.activeOf (.lane l) = [] → ∃ x ∈ t.faults, x.kind = kind ∧
          x.context =
            { pack := (s.lane l).pack
              serial := some r.serial
              job := (s.lane l).job
              line := line }) ∧
        t.faults = (s.raiseLane l kind
          { pack := (s.lane l).pack
            serial := some r.serial
            job := (s.lane l).job
            line := line }).faults ∧
        s.otherLanesTold t l ∧ s.otherPacks t p.number ∧ s.otherSessions t r.window ∧
        s.otherSlots t r.window r.slot ∧
        s.changesOnly t [.lanes, .queues, .packs, .census, .sessions, .journal, .slots, .forms,
          .faults]

/-- The cabinet: an opening is observed once, and in every state but OFFLINE raises CABINET_OPEN; an IDLE
lane goes to HOLDING, or to FAULTED where a report locks it, a HOLDING lane adds the cause, a FAULTED one
stays FAULTED, and any other goes on with its operation and the hold-after-ticket flag set. A relock
clears the CABINET_OPEN report by SELF, or leaves it ACTIVE under the kind folded into it, and makes a
standing secondary the primary with its counts as they stand; it lets an operation end as if the cabinet
had not been opened, and sends a lane whose one cause it was to prime, which holds again with no UNUSED
blank left, asks for a mark read of the blank under the head, or with none positioned makes a feed
attempt: issued, deferred under the power-fail warning, or STOCK_DISCREPANCY raised with no stock at the
input (04 R72, R74, R75, R85 to R87, R89; 10 R177, R181). That a relock leaves an IDLE lane as it stands
(log entry 47), and that a lock clears the flag and the advances (log entry 14), are the model's
inferences. -/
def Obligations.CabinetEvents : Prop :=
  ∀ (s : State) (l : LaneId), s.phase = .running →
    ((s.lane l).cabinetSeen = .opened → ∃ t, exec (.cabinetOpening l) s = .next t ∧
      t.lane l = { s.lane l with cabinetPin := .opened } ∧ s.otherLanes t l ∧
      s.changesOnly t [.lanes]) ∧
    ((s.lane l).cabinetSeen = .locked →
      ∃ t, exec (.cabinetOpening l) s = .next t ∧ (t.lane l).cabinetPin = .opened ∧
        (t.lane l).cabinetSeen = .opened ∧ (t.lane l).head = (s.lane l).head ∧
        s.otherLanes t l ∧
        ((s.lane l).state = .offline → t.lane l = { s.lane l with
          cabinetPin := .opened, cabinetSeen := .opened } ∧ s.changesOnly t [.lanes]) ∧
        ((s.lane l).state ≠ .offline →
          t.faults = (s.raiseLane l .cabinetOpen {}).faults ∧
          (∃ r ∈ t.activeOf (.lane l),
            r.kind = .cabinetOpen ∨ r.lastOther = some .cabinetOpen) ∧
          (s.isLocked l = false → ∃ r ∈ t.activeOf (.lane l), r.kind = .cabinetOpen)) ∧
        ((s.lane l).state = .idle → s.isLocked l = false → t.lane l = { s.lane l with
          state := .holding, causes := ⟨true, false⟩, cabinetPin := .opened,
          cabinetSeen := .opened, holdAfter := false, advances := 0 }) ∧
        ((s.lane l).state = .idle → s.isLocked l = true → t.lane l = { s.lane l with
          state := .faulted, causes := .empty, cabinetPin := .opened,
          cabinetSeen := .opened, holdAfter := false, advances := 0 }) ∧
        ((s.lane l).state = .holding → t.lane l = { s.lane l with
          causes := ⟨true, (s.lane l).causes.stockOut⟩, cabinetPin := .opened,
          cabinetSeen := .opened }) ∧
        ((s.lane l).state = .faulted → t.lane l = { s.lane l with
          cabinetPin := .opened, cabinetSeen := .opened }) ∧
        ((s.lane l).state ∉ [LaneState.offline, .idle, .holding, .faulted] →
          t.lane l = { s.lane l with
            cabinetPin := .opened, cabinetSeen := .opened, holdAfter := true }) ∧
        s.changesOnly t [.lanes, .queues, .faults]) ∧
    ((s.lane l).cabinetSeen = .opened → ∀ left : List Report,
      left = s.faults.map (fun r =>
        if r.state = .active ∧ r.source = .lane l ∧
            ∃ x ∈ s.activeOf (.lane l), x.kind = .cabinetOpen then
          if r.kind = .cabinetOpen ∧ r.lastOther = none then
            { r with
              state := .cleared
              how := some .self
              cleared := some s.stamp
              primary := none }
          else { r with
            kind := if r.kind = .cabinetOpen then r.lastOther.getD r.kind else r.kind
            lastOther := if r.kind = .cabinetOpen then none else r.lastOther
            primary :=
              if ∃ x ∈ s.activeOf (.lane l), x.primary = none ∧
                (x.kind = .cabinetOpen → x.lastOther ≠ none) then r.primary else none }
        else r) →
      ∃ t, exec (.cabinetRelock l) s = .next t ∧ (t.lane l).cabinetPin = .locked ∧
        (t.lane l).cabinetSeen = .locked ∧
        ((∀ r ∈ s.activeOf (.lane l), r.lastOther = none) →
          ∀ r ∈ t.activeOf (.lane l), r.kind ≠ .cabinetOpen) ∧
        ((s.lane l).state ∈ [LaneState.priming, .feeding, .verifying, .advancing, .purging,
            .printing, .cutting] →
          t.lane l = { s.lane l with
            cabinetPin := .locked, cabinetSeen := .locked, holdAfter := false } ∧
          t.faults = left ∧ s.otherLanes t l ∧ s.changesOnly t [.lanes, .queues, .faults]) ∧
        ((s.lane l).state ∈ [LaneState.idle, .offline, .faulted] →
          t.lane l = { s.lane l with cabinetPin := .locked, cabinetSeen := .locked } ∧
          t.faults = left ∧ s.otherLanes t l ∧ s.changesOnly t [.lanes, .queues, .faults]) ∧
        ((s.lane l).state = .holding → (s.lane l).causes.stockOut = true →
          t.lane l = { s.lane l with
            causes := ⟨false, true⟩, cabinetPin := .locked, cabinetSeen := .locked } ∧
          t.faults = left ∧ s.otherLanes t l ∧ s.changesOnly t [.lanes, .queues, .faults]) ∧
        ((s.lane l).state = .holding → (s.lane l).causes.stockOut = false →
          s.remaining l = 0 ∨ s.expected l = none →
          t.lane l = { s.lane l with
            state := if t.isLocked l = true then .faulted else .holding
            causes := if t.isLocked l = true then .empty else ⟨false, true⟩
            cabinetPin := .locked
            cabinetSeen := .locked
            holdAfter := false
            advances := 0 } ∧
          t.faults = left ∧ s.otherLanes t l ∧ s.changesOnly t [.lanes, .queues, .faults]) ∧
        ((s.lane l).state = .holding → (s.lane l).causes.stockOut = false →
          0 < s.remaining l → (∃ e, s.expected l = some e) →
          (s.lane l).head ≠ .notPositioned →
          t.lane l = { s.lane l with
            state := .priming, causes := .empty, cabinetPin := .locked,
            cabinetSeen := .locked, awaiting := some .read, failedReads := 0 } ∧
          t.faults = left ∧ s.otherLanes t l ∧ s.changesOnly t [.lanes, .queues, .faults]) ∧
        ((s.lane l).state = .holding → (s.lane l).causes.stockOut = false →
          0 < s.remaining l → (∃ e, s.expected l = some e) →
          (s.lane l).head = .notPositioned → (s.lane l).inflight = none →
          s.otherLanes t l ∧ s.changesOnly t [.lanes, .queues, .faults] ∧
          (s.powerFail = false → (s.lane l).stockPin = true →
            t.faults = left ∧
            t.lane l = { s.lane l with
              state := .feeding, causes := .empty, cabinetPin := .locked,
              cabinetSeen := .locked, awaiting := some .feed, deferred := none }) ∧
          (s.powerFail = true →
            t.faults = left ∧
            t.lane l = { s.lane l with
              state := .feeding, causes := .empty, cabinetPin := .locked,
              cabinetSeen := .locked, deferred := some .feed }) ∧
          (s.powerFail = false → (s.lane l).stockPin = false →
            t.lane l = { s.lane l with
              state := .faulted, causes := .empty, cabinetPin := .locked,
              cabinetSeen := .locked, holdAfter := false, advances := 0, awaiting := none,
              deferred := none } ∧
            t.faults = (State.raiseLane { s with faults := left } l .stockDiscrepancy
              { reason := some .stockAbsent, pack := (s.lane l).pack,
                expected := s.expected l }).faults)))

/-- The power-fail warning: its coming changes the input alone; at its end each deferred strobe or feed
is issued, or STOCK_DISCREPANCY raised for a feed with no stock at the input, and every lane standing
IDLE with a VERIFIED blank sends its claim request (04 R75, R89). That a deferred strobe composes its
line when it is issued, and a deferred feed goes on at its stock sample, is the model's inference (log
entry 16), as is that a claim request still under way serves for the new one (log entry 13). -/
def Obligations.PowerFailWarning : Prop :=
  ∀ s : State,
    (∃ t, exec .powerFailWarningAssert s = .next t ∧ t.powerFail = true ∧
      s.changesOnly t [.powerFail]) ∧
    (s.phase = .running →
      (∀ l, (s.lane l).deferred = some .feed → (s.lane l).stockPin = true ∨ s.remaining l = 0) →
      ∃ t, exec .powerFailWarningDeassert s = .next t ∧ t.powerFail = false ∧
        s.changesOnly t [.powerFail, .lanes] ∧
        ∀ l, t.lane l = Lane.claiming (match (s.lane l).deferred with
          | none => s.lane l
          | some .feed => { s.lane l with
            head := .notPositioned, awaiting := some .feed, deferred := none }
          | some .strobe => (s.lane l).strobe (s.linesFor l)) false) ∧
    (s.phase = .running → s.lanesHold → s.faultsHold →
      ∃ t, exec .powerFailWarningDeassert s = .next t ∧ t.powerFail = false ∧
        s.changesOnly t [.powerFail, .lanes, .queues, .faults] ∧
        ∀ l, if (s.lane l).deferred = some .feed ∧ (s.lane l).stockPin = false ∧
            0 < s.remaining l then
          t.lane l = { s.lane l with
            state := .faulted, causes := .empty, awaiting := none, deferred := none,
            holdAfter := false, advances := 0 } ∧
          (∃ x ∈ t.activeOf (.lane l),
            x.kind = .stockDiscrepancy ∨ x.lastOther = some .stockDiscrepancy) ∧
          ∀ p, ⟨.laneChange, .lane l, none⟩ ∈ (t.port p).queue
        else t.lane l = Lane.claiming (match (s.lane l).deferred with
          | none => s.lane l
          | some .feed => { s.lane l with
            head := .notPositioned, awaiting := some .feed, deferred := none }
          | some .strobe => (s.lane l).strobe (s.linesFor l)) false)

/-- ADVANCE_BLANK: from IDLE the VERIFIED blank is marked ADVANCED and the next is fed, the feed
deferred under the power-fail warning, or STOCK_DISCREPANCY raised with no stock at the input, or, where
that blank was the last, the lane enters HOLDING with STOCK_OUT and advances left is 0; a
FAULTED lane refuses LANE_LOCKED and counts the refusal on its primary report, where it has one; any
other state is LANE_BUSY; a lane outside 1 to 4 or a count outside 1 to 10 is refused (04 R75, R78, R88,
R89; 10 R186). The order of the two notices in the office's queue is the model's choice (log entry
11). -/
def Obligations.AdvanceBlankFeedsOut : Prop :=
  ∀ (s : State) (p : Port) (tag : Byte) (lane count : Nat), s.admits p .advanceBlank tag →
    ((lane < 1 ∨ 4 < lane ∨ count < 1 ∨ 10 < count) →
      ∃ t, exec (.advanceBlank p tag (some ⟨lane, count⟩)) s = .next t ∧
        s.answered t p .advanceBlank tag (refusal .badArgument) ∧
        s.changesOnly t [.receivers]) ∧
    ∀ l : LaneId, lane = l.val + 1 → 1 ≤ count → count ≤ 10 →
      ((s.lane l).state ≠ .idle → (s.lane l).state ≠ .faulted →
        ∃ t, exec (.advanceBlank p tag (some ⟨lane, count⟩)) s = .next t ∧
          s.answered t p .advanceBlank tag (refusal .laneBusy) ∧
          s.changesOnly t [.receivers]) ∧
      (∀ r, (s.lane l).state = .faulted → r ∈ s.activeOf (.lane l) → r.primary = none →
        (∀ x ∈ s.activeOf (.lane l), x.primary = none → x = r) →
        ∃ t, exec (.advanceBlank p tag (some ⟨lane, count⟩)) s = .next t ∧
          s.answered t p .advanceBlank tag (refusal .laneLocked) ∧
          t.faults = s.faults.map (fun x => if x.number = r.number then
            { x with refused := min (x.refused + 1) 255 } else x) ∧
          (s.queuesAfter t fun x => x.postFaults.postLane l) ∧
          s.changesOnly t [.receivers, .faults, .queues]) ∧
      ((s.lane l).state = .faulted → (∀ x ∈ s.activeOf (.lane l), x.primary ≠ none) →
        ∃ t, exec (.advanceBlank p tag (some ⟨lane, count⟩)) s = .next t ∧
          s.answered t p .advanceBlank tag (refusal .laneLocked) ∧
          s.changesOnly t [.receivers]) ∧
      (∀ k e, (s.lane l).state = .idle → (s.lane l).head = .verified e → s.mounted l = some k →
        s.packOf k.cls e = some k → k.markOf e = some .unused → k.counters.unused = 1 →
        s.isLocked l = false →
        ∃ t q, exec (.advanceBlank p tag (some ⟨lane, count⟩)) s = .next t ∧
          s.answered t p .advanceBlank tag (accepted .bare) ∧
          t.findPack k.number = some q ∧ q.markOf e = some .advanced ∧
          (∀ r, r ≠ e → q.markOf r = k.markOf r) ∧
          q.counters = { k.counters with
            unused := 0, advanced := k.counters.advanced + 1 } ∧
          q.references = k.references ∧ s.otherPacks t k.number ∧
          t.lane l = { s.lane l with
            state := .holding, causes := ⟨(s.lane l).holdAfter, true⟩, holdAfter := false,
            advances := 0, head := .notPositioned } ∧
          s.otherLanes t l ∧ (∀ a, ⟨.laneChange, .lane l, none⟩ ∈ (t.port a).queue) ∧
          ⟨.stockChange, .stock, none⟩ ∈ (t.port .office).queue ∧
          s.changesOnly t [.receivers, .lanes, .queues, .packs, .census]) ∧
      ∀ k e, (s.lane l).state = .idle → (s.lane l).head = .verified e → s.mounted l = some k →
        s.packOf k.cls e = some k → k.markOf e = some .unused → 1 < k.counters.unused →
        (∃ n, n ≠ e ∧ (s.lane l).position ≤ n ∧ k.markOf n = some .unused) →
        ∃ t q, exec (.advanceBlank p tag (some ⟨lane, count⟩)) s = .next t ∧
          s.answered t p .advanceBlank tag (accepted .bare) ∧
          t.findPack k.number = some q ∧ q.markOf e = some .advanced ∧
          (∀ a, ⟨.laneChange, .lane l, none⟩ ∈ (t.port a).queue) ∧
          ⟨.stockChange, .stock, none⟩ ∈ (t.port .office).queue ∧
          (s.powerFail = false → (s.lane l).stockPin = true →
            q.counters = { k.counters with
              unused := k.counters.unused - 1, advanced := k.counters.advanced + 1 } ∧
            q.references = k.references ∧
            t.lane l = { s.lane l with
              state := .advancing, advances := count, head := .notPositioned,
              awaiting := some .feed, deferred := none } ∧
            s.otherLanes t l ∧
            s.changesOnly t [.receivers, .lanes, .queues, .packs, .census]) ∧
          (s.powerFail = true →
            t.lane l = { s.lane l with
              state := .advancing, advances := count, head := .notPositioned,
              deferred := some .feed } ∧
            s.otherLanes t l ∧
            s.changesOnly t [.receivers, .lanes, .queues, .packs, .census]) ∧
          ∀ n, s.powerFail = false → (s.lane l).stockPin = false →
            (s.lane l).inflight = none → n ≠ e → (s.lane l).position ≤ n →
            k.markOf n = some .unused →
            (∀ m, (s.lane l).position ≤ m → m < n → m ≠ e → k.markOf m ≠ some .unused) →
            t.lane l = { s.lane l with
              state := .faulted, causes := .empty, holdAfter := false, advances := 0,
              head := .notPositioned, awaiting := none, deferred := none } ∧
            t.faults = (s.raiseLane l .stockDiscrepancy
              { reason := some .stockAbsent, pack := some k.number,
                expected := some n }).faults ∧
            s.otherLanes t l ∧
            s.changesOnly t [.receivers, .lanes, .queues, .packs, .census, .faults]

/-- At every command but the loss and the return of supply, each change of a lane's state, holding
causes or mounted pack, and each head that becomes VERIFIED, leaves LANE_CHANGE for the lane in the
queue of every port (04 R70; 01 Table 1.4). -/
def Obligations.LaneChangesArePosted : Prop :=
  ∀ (c : Instr) (s t : State), isPower c = false → exec c s = .next t → ∀ l : LaneId,
    ((t.lane l).state ≠ (s.lane l).state ∨ (t.lane l).causes ≠ (s.lane l).causes ∨
      (t.lane l).pack ≠ (s.lane l).pack ∨
      ((t.lane l).head ≠ (s.lane l).head ∧ ∃ n, (t.lane l).head = .verified n)) →
    ∀ p, ⟨.laneChange, .lane l, none⟩ ∈ (t.port p).queue

/-- Every lane's record fits its state at every step: causes in HOLDING alone, an operation awaited or
deferred only where the state issues it and never two, a ticket exactly in PRINTING and CUTTING, no
pack exactly in OFFLINE, a VERIFIED blank in IDLE; and while the part does not run every receiver
stands in STARTING (04 Table 4.1, Table 4.2, R72, R79; 01 R18). -/
def Obligations.LaneRecordsFitTheirState : Prop :=
  ∀ s t : State, s.lanesHold → step s = .next t → t.lanesHold

/-! ## Packs, marks and the census (05, 06) -/

/-- At every command but the loss and the return of supply, each change the office or a window must
read leaves its notice: a session's state or a new entry, the pack table, the census state, the
fault list and a lane's ACTIVE reports, the limits and the store state, a window's grants, a form's
definitions, and a job's outcome; and a mounted pack's remaining count that falls to the stock-low
threshold, its lane's (01 Table 1.4; 02 R25, R29; 03 R40; 05 R94, R112; 06 R116; 08 R143; 10 R179; 11
R197). -/
def Obligations.OtherChangesArePosted : Prop :=
  ∀ (c : Instr) (s t : State), isPower c = false → exec c s = .next t →
    (∀ w, ((t.session w).state ≠ (s.session w).state ∨
        (s.entriesOf w).length < (t.entriesOf w).length) →
      ⟨.sessionChange, .ownSession, none⟩ ∈ (t.port (.window w)).queue ∧
        ⟨.sessionChange, .sessionOf w, none⟩ ∈ (t.port .office).queue) ∧
    (t.packs ≠ s.packs → ⟨.stockChange, .stock, none⟩ ∈ (t.port .office).queue) ∧
    (s.stockHolds → ∀ k ∈ s.packs, ∀ q ∈ t.packs, q.number = k.number → ∀ l,
      k.state = .mounted → k.lane = some l → q.state = .mounted →
      s.limits.stockLow < k.counters.unused → q.counters.unused ≤ s.limits.stockLow →
      ∀ p, ⟨.laneChange, .lane l, none⟩ ∈ (t.port p).queue) ∧
    (t.census.state ≠ s.census.state →
      ⟨.censusChange, .census, none⟩ ∈ (t.port .office).queue) ∧
    (t.faults ≠ s.faults → ⟨.faultsChange, .faultList, none⟩ ∈ (t.port .office).queue) ∧
    (s.faultsHold → ∀ l, t.activeOf (.lane l) ≠ s.activeOf (.lane l) →
      ∀ p, ⟨.laneChange, .lane l, none⟩ ∈ (t.port p).queue) ∧
    ((t.limits ≠ s.limits ∨ t.storeValid ≠ s.storeValid) →
      ⟨.storeChange, .store, none⟩ ∈ (t.port .office).queue) ∧
    (∀ w : Window, t.grants[w] ≠ s.grants[w] →
      ⟨.permissions, .ownPermissions, none⟩ ∈ (t.port (.window w)).queue) ∧
    (∀ f, ((t.form f).current ≠ (s.form f).current ∨ (t.form f).pending ≠ (s.form f).pending) →
      ⟨.formsChange, .forms, none⟩ ∈ (t.port .office).queue) ∧
    ∀ w k o, (t.job w k).bind Job.latest = some o → (s.job w k).bind Job.latest ≠ some o →
      ⟨.slotOutcome, .slot k, some o⟩ ∈ (t.port (.window w)).queue

/-- DECLARE_PACK: its refusals in order, with nothing changed; and one that passes its checks adds the
pack with the first free number from the next pack number upward, wrapping from 65,535 to 1; its
marks, counters and the rest as at declaration (05 R96, R98, R99). -/
def Obligations.DeclarePackAddsThePack : Prop :=
  (∀ (s : State) (p : Port) (tag : Byte) (b : PackBody), s.admits p .declarePack tag →
    ∀ code, (if 3 < b.cls ∨ b.count < 1 ∨ 1000 < b.count ∨ b.first < 1 ∨ 9999999 < b.first ∨
          9999999 < b.first + b.count - 1 ∨ 8 < b.excluded.length ∨
          (∃ r ∈ b.excluded, r < b.first ∨ b.first + b.count ≤ r) ∨ ¬b.excluded.Nodup then
        some ResultCode.badArgument
      else if s.census.state = .running ∨ s.census.state = .suspending then some .censusBusy
      else if ∃ q ∈ s.packs, q.cls = b.cls ∧ q.first < b.first + b.count ∧
          b.first < q.first + q.count then some .overlap
      else if 16 ≤ s.packs.length ∨ 8192 < (s.packs.map Pack.count).sum + b.count then
        some .noRoom
      else none) = some code →
    ∃ t, exec (.declarePack p tag (some b)) s = .next t ∧
      s.answered t p .declarePack tag (refusal code) ∧ s.changesOnly t [.receivers]) ∧
  ∀ (s : State) (p : Port) (tag : Byte) (b : PackBody), s.admits p .declarePack tag →
    b.cls ≤ 3 → 1 ≤ b.count → b.count ≤ 1000 → 1 ≤ b.first →
    b.first + b.count - 1 ≤ 9999999 → b.excluded.length ≤ 8 →
    (∀ r ∈ b.excluded, b.first ≤ r ∧ r < b.first + b.count) → b.excluded.Nodup →
    s.census.state ∉ [CensusState.running, .suspending] →
    (∀ q ∈ s.packs,
      ¬(q.cls = b.cls ∧ q.first < b.first + b.count ∧ b.first < q.first + q.count)) →
    s.packs.length < 16 → (s.packs.map Pack.count).sum + b.count ≤ 8192 →
    1 ≤ s.nextPack → s.nextPack ≤ 65535 →
    ∃ t n i q, exec (.declarePack p tag (some b)) s = .next t ∧
      n = (s.nextPack - 1 + i) % 65535 + 1 ∧ (∀ x ∈ s.packs, x.number ≠ n) ∧
      (∀ j, j < i → ∃ x ∈ s.packs, x.number = (s.nextPack - 1 + j) % 65535 + 1) ∧
      s.answered t p .declarePack tag (accepted (.packDeclared n
        (8192 - ((s.packs.map Pack.count).sum + b.count)))) ∧
      t.packs = s.packs ++ [q] ∧ t.nextPack = (if n = 65535 then 1 else n + 1) ∧
      q.number = n ∧ q.cls = b.cls ∧ q.first = b.first ∧ q.count = b.count ∧
      q.excluded = b.excluded ∧ q.state = .declared ∧ q.lane = none ∧
      (∀ r, b.first ≤ r → r < b.first + b.count →
        q.markOf r = some (if r ∈ b.excluded then .missing else .unused)) ∧
      q.counters = ⟨b.count - b.excluded.length, 0, 0, 0, 0, b.excluded.length, 0⟩ ∧
      q.sequence = 0 ∧ q.references = 0 ∧ q.verdict = .none ∧
      s.queuesAfter t State.postStock ∧
      s.changesOnly t [.receivers, .queues, .packs, .nextPack]

/-- MOUNT_PACK: its refusals in order; a taken one binds the pack to the OFFLINE lane, which primes:
it reads the blank under its head, or holds where the cabinet is open, newly or already observed, or the
pack has no UNUSED blank; a LANE_LOCKED refusal is
counted on the lane's primary report, where it has one (05 R100, R101; 04 R73, R74, R86; 10 R186). The
order of the two notices in the office's queue is the model's choice (log entry 11), and that a pack with
no UNUSED blank is answered with serial zero its inference (log entry 51). -/
def Obligations.MountPackBindsThePack : Prop :=
  ∀ (s : State) (p : Port) (tag : Byte) (b : MountBody), s.admits p .mountPack tag →
    (∀ code, (if b.lane < 1 ∨ 4 < b.lane then some ResultCode.badArgument
        else match s.findPack b.pack with
          | none => some .noPack
          | some k =>
            if k.state = .mounted then some .packMounted
            else if k.state = .withdrawn then some .packWithdrawn
            else if s.census.state = .running ∨ s.census.state = .suspending ∨
                (s.census.state = .suspended ∧ s.census.pack = b.pack) then some .censusBusy
            else match (s.lane (Fin.ofNat 4 (b.lane - 1))).state with
              | .offline => none
              | .faulted =>
                if (s.activeOf (.lane (Fin.ofNat 4 (b.lane - 1)))).all (·.primary.isSome) then
                  some .laneLocked
                else none
              | _ => some .laneBusy) = some code →
      ∃ t, exec (.mountPack p tag (some b)) s = .next t ∧
        s.answered t p .mountPack tag (refusal code) ∧ s.changesOnly t [.receivers]) ∧
    (∀ (l : LaneId) (k : Pack) (r : Report), b.lane = l.val + 1 → s.findPack b.pack = some k →
      (k.state = .declared ∨ k.state = .parked) →
      s.census.state ∉ [CensusState.running, .suspending] →
      (s.census.state = .suspended → s.census.pack ≠ b.pack) →
      (s.lane l).state = .faulted → r ∈ s.activeOf (.lane l) → r.primary = none →
      (∀ x ∈ s.activeOf (.lane l), x.primary = none → x = r) →
      ∃ t, exec (.mountPack p tag (some b)) s = .next t ∧
        s.answered t p .mountPack tag (refusal .laneLocked) ∧
        t.faults = s.faults.map (fun x => if x.number = r.number then
          { x with refused := min (x.refused + 1) 255 } else x) ∧
        (s.queuesAfter t fun x => x.postFaults.postLane l) ∧
        s.changesOnly t [.receivers, .faults, .queues]) ∧
    ∀ (l : LaneId) (k : Pack), b.lane = l.val + 1 → s.findPack b.pack = some k →
      (k.state = .declared ∨ k.state = .parked) →
      s.census.state ∉ [CensusState.running, .suspending] →
      (s.census.state = .suspended → s.census.pack ≠ b.pack) →
      (s.lane l).state = .offline →
      ∃ t, exec (.mountPack p tag (some b)) s = .next t ∧
        s.answered t p .mountPack tag
          (accepted (.packMounted k.first ((k.lowestUnused k.first).getD 0))) ∧
        t.findPack b.pack = some { k with state := .mounted, lane := some l } ∧
        s.otherPacks t b.pack ∧ s.otherLanes t l ∧
        (t.lane l).pack = some b.pack ∧ (t.lane l).position = k.first ∧
        (t.lane l).advances = 0 ∧ (t.lane l).holdAfter = false ∧
        ((s.lane l).cabinetPin = .locked → k.counters.unused ≠ 0 →
          (∃ e, k.lowestUnused k.first = some e) →
          t.lane l = { s.lane l with
            state := .priming
            causes := .empty
            pack := some b.pack
            position := k.first
            head := .unverified
            failedReads := 0
            advances := 0
            holdAfter := false
            awaiting := some .read } ∧
          (s.queuesAfter t fun x => x.postStock.postLane l) ∧
          s.changesOnly t [.receivers, .queues, .packs, .lanes]) ∧
        ((s.lane l).cabinetPin = .opened ∨ k.counters.unused = 0 ∨
            k.lowestUnused k.first = none → s.isLocked l = false →
          t.lane l = { s.lane l with
            state := .holding
            causes := ⟨(s.lane l).cabinetPin == .opened,
              k.counters.unused == 0 || (k.lowestUnused k.first).isNone⟩
            pack := some b.pack
            position := k.first
            head := .unverified
            failedReads := 0
            advances := 0
            holdAfter := false
            cabinetSeen :=
              if (s.lane l).cabinetPin = .opened then .opened else (s.lane l).cabinetSeen } ∧
          ((s.lane l).cabinetPin = .opened → (s.lane l).cabinetSeen = .locked →
            t.faults = (s.raiseLane l .cabinetOpen {}).faults ∧
            ∃ r ∈ t.activeOf (.lane l), r.kind = .cabinetOpen) ∧
          ((s.lane l).cabinetPin = .locked ∨ (s.lane l).cabinetSeen = .opened →
            (s.queuesAfter t fun x => x.postStock.postLane l) ∧
            s.changesOnly t [.receivers, .queues, .packs, .lanes])) ∧
        s.changesOnly t [.receivers, .queues, .packs, .lanes, .faults]

/-- WITHDRAW_PACK and COLLECT_PACK: their refusals in order; a taken withdrawal, by lane or by number,
marks what its mode marks and sets the pack's state, and by lane leaves the lane OFFLINE with no
pack and no ACTIVE report, its notices in the order of R103; a taken collection removes the pack and
answers with its final record (05 R102 to R105, R107, R108, R110; 04 R73; 10 R181). That the lane's
advances are 0 and its position, flag and failed reads stand is the model's inference (log entry
15). -/
def Obligations.WithdrawAndCollectPacks : Prop :=
  ∀ (s : State) (p : Port) (tag : Byte),
    (s.admits p .withdrawPack tag →
      (∀ (b : WithdrawBody) (code : ResultCode), (match b.mode, b.target with
          | none, _ => some .badArgument
          | some _, .lane n =>
            if n < 1 ∨ 4 < n then some .badArgument
            else match s.mounted (Fin.ofNat 4 (n - 1)) with
              | none => some .noPack
              | some k =>
                if s.census.state = .running ∨ s.census.state = .suspending ∨
                  (s.census.state = .suspended ∧ s.census.pack = k.number) then
                  some .censusBusy
                else if (s.lane (Fin.ofNat 4 (n - 1))).state = .printing ∨
                  (s.lane (Fin.ofNat 4 (n - 1))).state = .cutting ∨
                  (s.lane (Fin.ofNat 4 (n - 1))).awaiting = some .feed ∨
                  (s.lane (Fin.ofNat 4 (n - 1))).deferred = some .feed ∨
                  (s.lane (Fin.ofNat 4 (n - 1))).inflight ≠ none then some .laneBusy
                else none
          | some m, .pack n => match s.findPack n with
            | none => some .noPack
            | some k =>
              if k.state = .mounted then some .packMounted
              else if k.state = .withdrawn then some .packWithdrawn
              else if m = .park then some .badArgument
              else if s.census.state = .running ∨ s.census.state = .suspending ∨
                (s.census.state = .suspended ∧ s.census.pack = n) then some .censusBusy
              else none) = some code →
        ∃ t, exec (.withdrawPack p tag (some b)) s = .next t ∧
          s.answered t p .withdrawPack tag (refusal code) ∧ s.changesOnly t [.receivers]) ∧
      ∀ (m : WithdrawMode) (k : Pack) (run : List Nat), s.stockHolds →
        s.findPack k.number = some k →
        s.census.state ∉ [CensusState.running, .suspending] →
        (s.census.state = .suspended → s.census.pack ≠ k.number) →
        run = (if m = .park then [] else k.unusedIn k.first (k.first + k.count - 1)) →
        (∀ l : LaneId, (s.lane l).pack = some k.number →
          (s.lane l).state ≠ .printing → (s.lane l).state ≠ .cutting →
          (s.lane l).awaiting ≠ some .feed → (s.lane l).deferred ≠ some .feed →
          (s.lane l).inflight = none →
          ∃ t q, exec (.withdrawPack p tag (some ⟨.lane (l.val + 1), some m⟩)) s = .next t ∧
            s.answered t p .withdrawPack tag (accepted (.packWithdrawn k.number
              (if m = .park then .parked else .withdrawn) run.length q.counters)) ∧
            t.findPack k.number = some q ∧
            q.state = (if m = .park then .parked else .withdrawn) ∧ q.lane = none ∧
            (∀ n, q.markOf n = if n ∈ run then
              some (if m = .returnStock then .returned else .missing) else k.markOf n) ∧
            q.sequence = k.sequence + run.length ∧
            q.verdict = (if run = [] then k.verdict else .none) ∧
            (m ≠ .park → q.counters.unused = 0) ∧ (m = .park → q.counters = k.counters) ∧
            q.references = k.references ∧
            t.lane l = { s.lane l with
              state := .offline
              causes := .empty
              pack := none
              head := .notPositioned
              advances := 0
              awaiting := none
              deferred := none } ∧
            s.otherLanes t l ∧ s.otherPacks t k.number ∧ t.activeOf (.lane l) = [] ∧
            (∀ r ∈ s.activeOf (.lane l), { r with
              state := .cleared
              how := some .withdraw
              cleared := some s.stamp
              primary := none } ∈ t.faults) ∧
            (s.queuesAfter t fun x =>
              ((if s.activeOf (.lane l) = [] then x else x.postFaults).postStock).postLane l) ∧
            s.changesOnly t [.receivers, .queues, .packs, .lanes, .faults]) ∧
        ((k.state = .declared ∨ k.state = .parked) → m ≠ .park →
          ∃ t q, exec (.withdrawPack p tag (some ⟨.pack k.number, some m⟩)) s = .next t ∧
            s.answered t p .withdrawPack tag
              (accepted (.packWithdrawn k.number .withdrawn run.length q.counters)) ∧
            t.findPack k.number = some q ∧ q.state = .withdrawn ∧ q.lane = none ∧
            (∀ n, q.markOf n = if n ∈ run then
              some (if m = .returnStock then .returned else .missing) else k.markOf n) ∧
            q.sequence = k.sequence + run.length ∧ q.counters.unused = 0 ∧
            s.otherPacks t k.number ∧ s.queuesAfter t State.postStock ∧
            s.changesOnly t [.receivers, .queues, .packs])) ∧
    (s.admits p .collectPack tag → ∀ n,
      (∀ a, (match s.findPack n with
          | none => some (refusal .noPack)
          | some k =>
            if s.census.state = .running ∨ s.census.state = .suspending ∨
              (s.census.state = .suspended ∧ s.census.pack = n) then some (refusal .censusBusy)
            else if k.state ≠ .withdrawn then some (refusal .notWithdrawn)
            else if 0 < k.references then some ⟨.packReferenced, .references k.references⟩
            else if k.verdict ≠ .matched then some (refusal .censusNeeded)
            else none) = some a →
        ∃ t, exec (.collectPack p tag (some n)) s = .next t ∧
          s.answered t p .collectPack tag a ∧ s.changesOnly t [.receivers]) ∧
      ∀ k, s.findPack n = some k →
        s.census.state ∉ [CensusState.running, .suspending] →
        (s.census.state = .suspended → s.census.pack ≠ n) → k.state = .withdrawn →
        k.references = 0 → k.verdict = .matched →
        ∃ t, exec (.collectPack p tag (some n)) s = .next t ∧
          s.answered t p .collectPack tag (accepted (.packCollected
            ⟨k.number, k.cls, k.first, k.count, k.excluded, k.counters, k.sequence⟩)) ∧
          t.packs = s.packs.filter (fun x => x.number != n) ∧ t.findPack n = none ∧
          s.otherPacks t n ∧ s.queuesAfter t State.postStock ∧
          s.changesOnly t [.receivers, .queues, .packs])

/-- No command moves a mark but from UNUSED to ISSUED, SPOILED, ADVANCED, MISSING or RETURNED, or from
ISSUED to VOIDED; a pack that stays in the table keeps its declared fields, and a pack whose marks
move has its sequence number raised and its verdict NONE. A mark that moves in a block the suspended
census has committed sets its suspended-change flag, and nothing else of the census is changed by a
command that is not its own (05 R92 to R94; 06 R120). -/
def Obligations.MarksMoveAlongEdges : Prop :=
  ∀ (c : Instr) (s t : State), exec c s = .next t → s.stockHolds →
    (isCensusCommand c = false → ∀ told : Prop,
      (told ↔ s.census.state = .suspended ∧ ∃ p ∈ s.packs, ∃ q ∈ t.packs,
        p.number = s.census.pack ∧ q.number = s.census.pack ∧
        ∃ n, s.census.first ≤ n ∧ n ≤ s.census.last ∧
          n < s.census.first + 64 * s.census.block ∧ q.markOf n ≠ p.markOf n) →
      (told → t.census = { s.census with suspendedChange := true }) ∧
      (¬told → t.census = s.census)) ∧
    ∀ p ∈ s.packs, ∀ q ∈ t.packs, q.number = p.number →
      q.cls = p.cls ∧ q.first = p.first ∧ q.count = p.count ∧ q.excluded = p.excluded ∧
      (∀ n, q.markOf n = p.markOf n ∨
        (p.markOf n = some .unused ∧ q.markOf n ∈ [some Mark.issued, some .spoiled,
          some .advanced, some .missing, some .returned]) ∨
        (p.markOf n = some .issued ∧ q.markOf n = some .voided)) ∧
      p.sequence ≤ q.sequence ∧
      (q.marks ≠ p.marks → p.sequence < q.sequence ∧ q.verdict = .none)

/-- The stock and the journal keep their accounts at every step: each pack's counters count its marks
within the tables' limits, no two packs share a blank, a pack is under one lane at most, a pack's
references count the journal entries naming it, and each session's entries are numbered from 1 (05
R93, R95, R101, R109; 08 R145 to R147). -/
def Obligations.StockAndJournalStayConsistent : Prop :=
  ∀ s t : State, s.stockHolds → s.bindingsHold → s.journalHolds → s.referencesHold →
    s.lanesHold → step s = .next t →
    t.stockHolds ∧ t.bindingsHold ∧ t.journalHolds ∧ t.referencesHold

/-- START_CENSUS, SUSPEND_CENSUS, RESUME_CENSUS and STOP_CENSUS in each census state: the refusals in
order, and the unit's record after a taken one (06 R117, R118, R123, R126, R127). That the fields R127
does not name stand in a stopped unit is the model's inference (log entry 42). -/
def Obligations.CensusRequests : Prop :=
  ∀ (s : State) (p : Port) (tag : Byte),
    (s.admits p .startCensus tag → ∀ b : CensusBody,
      (∀ code, (if b.mode = none ∨ b.search = some none then some ResultCode.badArgument
          else if s.census.state ∈ [CensusState.running, .suspending, .suspended] then
            some .censusBusy
          else match s.findPack b.pack with
            | none => some .noPack
            | some k =>
              if b.first ≤ b.last ∧ k.first ≤ b.first ∧ b.last < k.first + k.count then none
              else some .badRange) = some code →
        ∃ t, exec (.startCensus p tag (some b)) s = .next t ∧
          s.answered t p .startCensus tag (refusal code) ∧ s.changesOnly t [.receivers]) ∧
      ∀ m k, b.mode = some m → b.search ≠ some none →
        s.census.state ∉ [CensusState.running, .suspending, .suspended] →
        s.findPack b.pack = some k → b.first ≤ b.last → k.first ≤ b.first →
        b.last < k.first + k.count →
        ∃ t, exec (.startCensus p tag (some b)) s = .next t ∧
          s.answered t p .startCensus tag
            (accepted (.censusStarted ((b.last - b.first) / 64 + 1) k.sequence)) ∧
          t.census = ⟨.running, b.pack, b.first, b.last, m, b.search.bind id, 0, b.first,
            ⟨0, 0, 0, 0, 0, 0, 0⟩, none, ⟨0, 0, 0, 0, 0, 0, 0⟩, none, k.sequence, false, 0, false,
            none, none⟩ ∧
          s.queuesAfter t State.postCensus ∧ s.changesOnly t [.receivers, .queues, .census]) ∧
    (s.admits p .suspendCensus tag →
      (s.census.state = .running → ∃ t, exec (.suspendCensus p tag (some ())) s = .next t ∧
        s.answered t p .suspendCensus tag
          (accepted (.censusSuspended s.census.block s.census.position)) ∧
        t.census = { s.census with state := .suspending } ∧ s.queuesAfter t State.postCensus ∧
        s.changesOnly t [.receivers, .queues, .census]) ∧
      (s.census.state ≠ .running → ∃ t, exec (.suspendCensus p tag (some ())) s = .next t ∧
        s.answered t p .suspendCensus tag (refusal .notRunning) ∧
        s.changesOnly t [.receivers])) ∧
    (s.admits p .resumeCensus tag →
      (∀ k, s.census.state = .suspended → s.findPack s.census.pack = some k →
        ∃ t, exec (.resumeCensus p tag (some ())) s = .next t ∧
          s.answered t p .resumeCensus tag
            (accepted (.censusResumed s.census.block s.census.position k.sequence)) ∧
          t.census = { s.census with state := .running, startSequence := k.sequence } ∧
          s.queuesAfter t State.postCensus ∧
          s.changesOnly t [.receivers, .queues, .census]) ∧
      (s.census.state ≠ .suspended → ∃ t, exec (.resumeCensus p tag (some ())) s = .next t ∧
        s.answered t p .resumeCensus tag (refusal .notSuspended) ∧
        s.changesOnly t [.receivers])) ∧
    (s.admits p .stopCensus tag →
      (s.census.state = .idle → ∃ t, exec (.stopCensus p tag (some ())) s = .next t ∧
        s.answered t p .stopCensus tag (refusal .noCensus) ∧ s.changesOnly t [.receivers]) ∧
      (s.census.state = .stopped → ∃ t, exec (.stopCensus p tag (some ())) s = .next t ∧
        s.answered t p .stopCensus tag (accepted .bare) ∧ s.changesOnly t [.receivers]) ∧
      (s.census.state ≠ .idle → s.census.state ≠ .stopped →
        ∃ t, exec (.stopCensus p tag (some ())) s = .next t ∧
          s.answered t p .stopCensus tag (accepted .bare) ∧
          t.census = { s.census with
            state := .stopped
            tally := ⟨0, 0, 0, 0, 0, 0, 0⟩
            tallyFound := none
            committed := ⟨0, 0, 0, 0, 0, 0, 0⟩
            found := none
            result := none
            stopCause := some .office } ∧
          s.queuesAfter t State.postCensus ∧
          s.changesOnly t [.receivers, .queues, .census]))

/-- The entry step, with the scan at serial `c.position` of a pack in the table: an entry tallied; a
block ended and its counts committed; a suspension that takes effect, at a block's end or, in PROMPT
mode, in place of the step with the block abandoned; and the census completed, with its result and
verdict. In the other census states no step is taken (06 R119 to R122, R124, R125; 05 R111; 10
R178). That the suspended-change flag stands in DONE is the model's inference (log entry 42). -/
def Obligations.CensusEntryStepByItsPlace : Prop :=
  ∀ (s : State) (c : Census) (k : Pack) (m : Mark) (yields : Prop) (found : Option Nat)
    (low high : Nat), s.phase = .running → c = s.census → s.findPack c.pack = some k →
    k.markOf c.position = some m → low = c.first + 64 * c.block → high = min (low + 63) c.last →
    (yields ↔ c.state = .suspending ∧ c.mode = .prompt ∧ c.abandoned = false) →
    found = c.tallyFound.or (if c.search = some m then some c.position else none) →
    (c.state ∉ [CensusState.running, .suspending] → exec .censusEntryStep s = .next s) ∧
    (c.state ∈ [CensusState.running, .suspending] → ¬yields → c.position ≠ high →
      ∃ t, exec .censusEntryStep s = .next t ∧
        t.census = { c with
          tally := c.tally.raise m, tallyFound := found, position := c.position + 1 } ∧
        s.changesOnly t [.census]) ∧
    (c.state = .running → c.position = high → c.position < c.last →
      ∃ t, exec .censusEntryStep s = .next t ∧
        t.census = { c with
          tally := .zero
          tallyFound := none
          committed := c.committed.add (c.tally.raise m)
          found := c.found.or found
          abandoned := false
          block := c.block + 1
          position := c.position + 1 } ∧
        s.changesOnly t [.census]) ∧
    (c.state = .suspending → ¬yields → c.position = high → c.position < c.last →
      ∃ t, exec .censusEntryStep s = .next t ∧
        t.census = { c with
          state := .suspended
          tally := .zero
          tallyFound := none
          committed := c.committed.add (c.tally.raise m)
          found := c.found.or found
          abandoned := false
          block := c.block + 1
          position := c.position + 1
          suspendedChange := c.suspendedChange || decide (k.sequence ≠ c.startSequence) } ∧
        s.queuesAfter t State.postCensus ∧ s.changesOnly t [.census, .queues]) ∧
    (yields → ∃ t d, exec .censusEntryStep s = .next t ∧
      d = (if c.position = low then c else { c with
        tally := .zero
        tallyFound := none
        abandoned := true
        abandonments := c.abandonments + 1
        position := low }) ∧
      t.census = { d with
        state := .suspended
        suspendedChange := c.suspendedChange || decide (k.sequence ≠ c.startSequence) } ∧
      s.queuesAfter t State.postCensus ∧ s.changesOnly t [.census, .queues]) ∧
    (c.state ∈ [CensusState.running, .suspending] → ¬yields → c.position = high →
      c.position = c.last →
      ∃ t r, exec .censusEntryStep s = .next t ∧ t.census.state = .done ∧
        t.census.result = some r ∧ r.pack = c.pack ∧ r.first = c.first ∧ r.last = c.last ∧
        r.mode = c.mode ∧ r.counts = c.committed.add (c.tally.raise m) ∧
        r.found = c.found.or found ∧ r.startSequence = c.startSequence ∧
        r.endSequence = k.sequence ∧ r.abandonments = c.abandonments ∧
        r.changed = (decide (k.sequence ≠ c.startSequence) || c.suspendedChange) ∧
        r.verdict = (if c.first = k.first ∧ c.last + 1 = k.first + k.count ∧ r.changed = false
          then if r.counts = k.counters then .matched else .mismatch
          else .none) ∧
        (r.verdict = .none → t.packs = s.packs) ∧
        (r.verdict ≠ .none → t.findPack c.pack = some { k with verdict := r.verdict } ∧
          ⟨.stockChange, .stock, none⟩ ∈ (t.port .office).queue) ∧
        (r.verdict ≠ .mismatch → t.faults = s.faults) ∧
        (r.verdict = .mismatch → ∃ x ∈ t.activeOf .controller, x.kind = .stockTableMismatch) ∧
        s.otherPacks t c.pack ∧ ⟨.censusChange, .census, none⟩ ∈ (t.port .office).queue ∧
        s.changesOnly t [.census, .queues, .packs, .faults])

/-! ## Fares, sessions and cash-up (07 to 09) -/

/-- A job's price, and SET_DISCOUNT: the four stages, with the ticket value between min(floor, base
fare) and base fare times the quantity; an entry stored with its rate clamped, entry 0 fixed, an
UNUSED entry with its fixed values, and the refusals (07 R130, R131, R133, R134). -/
def Obligations.PricesAndDiscounts : Prop :=
  (∀ (e : DiscountEntry) (base quantity u0 u1 : Nat), e.rate ≤ 10000 → 1 ≤ e.step →
    u0 = base * (10000 - e.rate) / 10000 → u1 = u0 - u0 % e.step →
    u0 ≤ base ∧ u1 ≤ u0 ∧ e.step ∣ u1 ∧ unitFare e base = max u1 (min e.floor base) ∧
    ticketValue e base quantity = max u1 (min e.floor base) * quantity ∧
    min e.floor base * quantity ≤ ticketValue e base quantity ∧
    ticketValue e base quantity ≤ base * quantity ∧
    (base ≤ 99999 → quantity ≤ 9 → ticketValue e base quantity ≤ 899991)) ∧
  ∀ (s : State) (p : Port) (tag : Byte), s.admits p .setDiscount tag →
    (∀ (b : DiscountBody) (code : ResultCode), b.fits = true →
      (if 15 < b.code then some .badArgument
        else if b.code = 0 then some .fixedEntry
        else match b.state, b.terms with
          | none, _ => some .badArgument
          | some .active, some x =>
            if x.step ∉ [1, 5, 10] ∨ 99999 < x.floor ∨ x.classes = [] ∨ (∃ c ∈ x.classes, 3 < c)
            then some .badArgument else none
          | _, _ => none) = some code →
      ∃ t, exec (.setDiscount p tag (some b)) s = .next t ∧
        s.answered t p .setDiscount tag (refusal code) ∧ s.changesOnly t [.receivers]) ∧
    ∀ code : Fin 16, code ≠ 0 →
      (∀ x : DiscountTerms, x.step ∈ [1, 5, 10] → x.floor ≤ 99999 → x.classes ≠ [] →
        (∀ c ∈ x.classes, c ≤ 3) →
        ∃ t e, exec (.setDiscount p tag (some ⟨code.val, some .active, some x⟩)) s = .next t ∧
          e.state = .active ∧ e.rate = min x.rate 10000 ∧ e.floor = x.floor ∧ e.step = x.step ∧
          (∀ c : Fin 4, e.classes[c] = decide (c.val ∈ x.classes)) ∧
          s.answered t p .setDiscount tag
            (accepted (.discount s.discounts[code] e (decide (10000 < x.rate)))) ∧
          t.discounts[code] = e ∧ (∀ i : Fin 16, i ≠ code → t.discounts[i] = s.discounts[i]) ∧
          s.changesOnly t [.receivers, .discounts]) ∧
      ∀ terms, ∃ t e, exec (.setDiscount p tag (some ⟨code.val, some .unused, terms⟩)) s =
          .next t ∧ e = ⟨.unused, 0, 0, 1, .replicate 4 false⟩ ∧
        s.answered t p .setDiscount tag (accepted (.discount s.discounts[code] e false)) ∧
        t.discounts[code] = e ∧ (∀ i : Fin 16, i ≠ code → t.discounts[i] = s.discounts[i]) ∧
        s.changesOnly t [.receivers, .discounts]

/-- OPEN_SESSION, COLLECT_CASHUP and REOPEN_SESSION: the refusals in order; a session opened with every
other field as in NONE; a DECLARED session collected, its entries freed, the packs' references
lowered and every field as in NONE; or reopened, its totals, counts and entries standing (08 R141,
R142; 09 R170, R172). The order of a collection's notices in the office's queue is the model's choice
(log entry 11). -/
def Obligations.SessionsOpenCollectAndReopen : Prop :=
  ∀ (s : State) (p : Port) (tag : Byte) (w : Window),
    (p = .window w → s.admits p .openSession tag → ∀ b : OpenBody,
      (∀ code, (if (s.session w).state ≠ .none then some ResultCode.sessionExists
          else if b.clerk = 0 ∨ 1000000 < b.float then some .badArgument else none) =
            some code →
        ∃ t, exec (.openSession p tag (some b)) s = .next t ∧
          s.answered t p .openSession tag (refusal code) ∧ s.refusedAt t p) ∧
      ((s.session w).state = .none → b.clerk ≠ 0 → b.float ≤ 1000000 →
        ∃ t, exec (.openSession p tag (some b)) s = .next t ∧
          s.answered t p .openSession tag
            (accepted (.opened ⟨s.clock.day, s.clock.second⟩)) ∧
          t.session w = ⟨.opened, b.clerk, b.float, ⟨s.clock.day, s.clock.second⟩,
            ⟨0, 0, 0, 0⟩, ⟨0, 0, 0, 0⟩, 0, 0, 0, false, 0, 0, none, none, none⟩ ∧
          s.otherSessions t w ∧ (s.queuesAfter t fun x => x.postSession w) ∧
          s.changesOnly t [.receivers, .queues, .sessions])) ∧
    (s.admits p .collectCashup tag →
      (∀ n code, (if n < 1 ∨ 6 < n then some ResultCode.badArgument
          else if (s.session (Fin.ofNat 6 (n - 1))).state ≠ .declared then some .notDeclared
          else none) = some code →
        ∃ t, exec (.collectCashup p tag (some n)) s = .next t ∧
          s.answered t p .collectCashup tag (refusal code) ∧ s.changesOnly t [.receivers]) ∧
      ((s.session w).state = .declared →
        ∃ t v, exec (.collectCashup p tag (some (w.val + 1))) s = .next t ∧
          s.answered t p .collectCashup tag (accepted (.collected v)) ∧
          v.session = s.session w ∧
          v.issues = ((s.entriesOf w).filter fun e => e.data.kind == .issue).length ∧
          v.voids = ((s.entriesOf w).filter fun e => e.data.kind == .void).length ∧
          v.spoils = ((s.entriesOf w).filter fun e => e.data.kind == .spoil).length ∧
          v.beforePowerOn = ((s.entriesOf w).filter fun e => e.beforePowerOn).length ∧
          (∀ n m, (n, m) ∈ v.perPack ↔ 0 < m ∧
            m = ((s.entriesOf w).filter fun e => e.data.pack == n).length) ∧
          t.session w = ⟨.none, 0, 0, ⟨0, 0⟩, ⟨0, 0, 0, 0⟩, ⟨0, 0, 0, 0⟩, 0, 0, 0, false, 0, 0,
            none, none, none⟩ ∧ s.otherSessions t w ∧
          t.journal = s.journal.filter (fun e => e.window != w) ∧
          t.journalInUse = s.journalInUse - (s.entriesOf w).length ∧
          t.journalReserved = s.journalReserved ∧
          (∀ n, t.findPack n = (s.findPack n).map fun k => { k with
            references := k.references -
              ((s.entriesOf w).filter fun e => e.data.pack == n).length }) ∧
          (s.queuesAfter t fun x => State.postSession
            (if ∃ k ∈ s.packs, ∃ e ∈ s.entriesOf w, e.data.pack = k.number then x.postStock
             else x) w) ∧
          s.changesOnly t [.receivers, .queues, .sessions, .journal, .packs])) ∧
    (s.admits p .reopenSession tag →
      (∀ n code, (if n < 1 ∨ 6 < n then some ResultCode.badArgument
          else if (s.session (Fin.ofNat 6 (n - 1))).state ≠ .declared then some .notDeclared
          else none) = some code →
        ∃ t, exec (.reopenSession p tag (some n)) s = .next t ∧
          s.answered t p .reopenSession tag (refusal code) ∧ s.changesOnly t [.receivers]) ∧
      ((s.session w).state = .declared →
        ∃ t n, exec (.reopenSession p tag (some (w.val + 1))) s = .next t ∧
          n = min ((s.session w).reopens + 1) 255 ∧
          s.answered t p .reopenSession tag (accepted (.reopened n)) ∧
          t.session w = { s.session w with
            state := .opened, reopens := n, declaration := none, result := none } ∧
          s.otherSessions t w ∧ (s.queuesAfter t fun x => x.postSession w) ∧
          s.changesOnly t [.receivers, .queues, .sessions]))

/-- VOID_TICKET: its checks in order, each with its refusal; and a taken void: the blank VOIDED with
the pack's counters, sequence, verdict and references, the VOID entry that repeats the ISSUE entry,
and the session's voided total and count, no reservation moved (07 R137; 08 R150, R154 to R156; 09
R166). The order of its notices in the office's queue (log entry 11), and NOT_YOURS in place of
ALREADY_VOIDED for a VOIDED blank whose ISSUE entry another window's session holds (log entry 43), are
the model's choices. -/
def Obligations.VoidTicketGivesTheFareBack : Prop :=
  ∀ (s : State) (w : Window) (tag : Byte) (b : VoidBody),
    s.admits (.window w) .voidTicket tag →
    (∀ code, (match (s.session w).state with
        | .none => some ResultCode.noSession
        | .declared => some .sessionDeclaring
        | .declaring => if (s.session w).inProgress = none then some .sessionDeclaring
          else some .declarationAbandoned
        | .opened =>
          if 3 < b.cls ∨ b.serial < 1 ∨ 9999999 < b.serial then some .badArgument
          else match s.packOf b.cls b.serial with
            | none => some .unknownBlank
            | some k => match k.markOf b.serial with
              | none => some .unknownBlank
              | some .voided =>
                if ∃ x ∈ s.journal, x.window ≠ w ∧ x.data.kind = .issue ∧ x.data.cls = b.cls ∧
                    x.data.serial = b.serial then some .notYours
                else some .alreadyVoided
              | some .issued => match (s.entriesOf w).find? fun e => e.data.kind == .issue &&
                  e.data.cls == b.cls && e.data.serial == b.serial with
                | none => some .notYours
                | some e =>
                  if e.beforePowerOn = true ∨
                    10 * s.limits.voidWindow < (s.runTime - e.stamp.run).toNat then
                    some .voidWindowPassed
                  else if s.journalInUse + s.journalReserved < 4096 then none
                  else some .journalFull
              | some _ => some .notIssued) = some code →
      ∃ t, exec (.voidTicket (.window w) tag (some b)) s = .next t ∧
        s.answered t (.window w) .voidTicket tag (refusal code) ∧
        s.refusedAt t (.window w) ∧
        (code = .declarationAbandoned → (t.session w).inProgress = none)) ∧
    ∀ (k : Pack) (e : JournalEntry) (tn : Tender), (s.session w).state = .opened →
      b.cls ≤ 3 → 1 ≤ b.serial → b.serial ≤ 9999999 → s.packOf b.cls b.serial = some k →
      s.findPack k.number = some k → k.markOf b.serial = some .issued →
      e ∈ s.entriesOf w → e.data.kind = .issue → e.data.cls = b.cls →
      e.data.serial = b.serial →
      (∀ x ∈ s.entriesOf w, x.data.kind = .issue → x.data.cls = b.cls →
        x.data.serial = b.serial → x = e) →
      e.data.pack = k.number → e.data.tender = some tn → e.beforePowerOn = false →
      (s.runTime - e.stamp.run).toNat ≤ 10 * s.limits.voidWindow →
      s.journalInUse + s.journalReserved < 4096 →
      ∃ t q n, exec (.voidTicket (.window w) tag (some b)) s = .next t ∧
        n = (s.entriesOf w).length + 1 ∧
        s.answered t (.window w) .voidTicket tag
          (accepted (.voided n e.data.value (some tn))) ∧
        t.findPack k.number = some q ∧ q.markOf b.serial = some .voided ∧
        (∀ r, r ≠ b.serial → q.markOf r = k.markOf r) ∧
        q.counters = { k.counters with
          issued := k.counters.issued - 1, voided := k.counters.voided + 1 } ∧
        q.sequence = k.sequence + 1 ∧ q.verdict = .none ∧
        q.references = k.references + 1 ∧ s.otherPacks t k.number ∧
        t.journal = s.journal ++
          [⟨w, n, ⟨.void, b.cls, b.serial, k.number, e.data.value, some tn, e.data.quantity,
            e.data.form, e.data.slot⟩, s.stamp, false⟩] ∧
        t.journalInUse = s.journalInUse + 1 ∧ t.journalReserved = s.journalReserved ∧
        t.session w = { s.session w with
          voided := (s.session w).voided.set tn
            (min ((s.session w).voided.get tn + e.data.value) 2147483647)
          voidedCount := (s.session w).voidedCount + 1
          saturated := (s.session w).saturated ||
            decide (2147483647 < (s.session w).voided.get tn + e.data.value) } ∧
        s.otherSessions t w ∧
        (s.queuesAfter t fun x => x.postStock.postSession w) ∧
        s.changesOnly t [.receivers, .queues, .packs, .census, .sessions, .journal]

/-- The declaration sequence of a window's session: DECLARE_BEGIN starts or restarts it, DECLARE_ITEM
appends an item, and DECLARE_CONFIRM builds the declaration and the cash-up result; what each is
refused, and which item or confirmation abandons the sequence. An OPEN_SESSION, a SUBMIT_JOB or a request on
a job that passes admission abandons it too, whatever it is answered, and where it is refused nothing
else of the session changes (07 R138 to R140; 09 R161 to R168, Tables 9.3 and 9.4). -/
def Obligations.DeclarationSequenceAndResult : Prop :=
  ∀ (s : State) (w : Window) (tag : Byte) (x : Session), x = s.session w →
    (∀ (c : Instr) (k : RequestKind), requestOf c = some (.window w, k, tag) →
      k ∈ [RequestKind.openSession, .submitJob, .supplyLines, .holdJob, .amendJob, .releaseJob,
        .withdrawJob] → s.admits (.window w) k tag → bodyFits c = true →
      ∃ t a, exec c s = .next t ∧ s.answered t (.window w) k tag a ∧
        (t.session w).inProgress = none ∧ s.otherSessions t w ∧
        (k ≠ .openSession → (t.session w).state = x.state) ∧
        (k = .openSession → x.state ≠ .none → a = refusal .sessionExists) ∧
        (k = .submitJob → x.state = .declaring → a = refusal .sessionDeclaring) ∧
        (a.code ∉ [ResultCode.ok, .withdrawn] →
          t.session w = { x with inProgress := none } ∧
          s.changesOnly t [.receivers, .sessions])) ∧
    (s.admits (.window w) .declareBegin tag → ∀ n,
      (∀ code, (if x.state = .none then some ResultCode.noSession
          else if x.state = .declared then some .alreadyDeclared
          else if n < 1 ∨ 4 < n then some .badArgument
          else if x.state = .opened ∧ (∃ k : Fin 8, ∃ j ∈ s.job w k,
            j.state ∈ [JobState.queued, .held, .printing, .retryWait]) then
            some .jobsOutstanding
          else none) = some code →
        ∃ t, exec (.declareBegin (.window w) tag (some n)) s = .next t ∧
          s.answered t (.window w) .declareBegin tag (refusal code) ∧
          s.changesOnly t [.receivers]) ∧
      (1 ≤ n → n ≤ 4 → (x.state = .declaring ∨ (x.state = .opened ∧
          ∀ k j, s.job w k = some j →
            j.state ∈ [JobState.done, .failed, .expired, .cancelled])) →
        ∃ t, exec (.declareBegin (.window w) tag (some n)) s = .next t ∧
          s.answered t (.window w) .declareBegin tag (accepted (.declaring n)) ∧
          t.session w = { x with state := .declaring, inProgress := some ⟨n, []⟩ } ∧
          s.otherSessions t w ∧
          (s.queuesAfter t fun y => if x.state = .opened then y.postSession w else y) ∧
          s.changesOnly t [.receivers, .queues, .sessions])) ∧
    (∀ (k : RequestKind) (c : Instr), ((∃ b, k = .declareItem ∧
          c = .declareItem (.window w) tag (some b)) ∨
        (∃ b, k = .declareConfirm ∧ c = .declareConfirm (.window w) tag (some b))) →
      s.admits (.window w) k tag → ∀ code, (match x.state, x.inProgress with
        | .none, _ => some ResultCode.noSession
        | .opened, _ => some .noDeclaration
        | .declaring, none => some .noDeclaration
        | .declaring, some _ => none
        | .declared, _ => some .alreadyDeclared) = some code →
      ∃ t, exec c s = .next t ∧ s.answered t (.window w) k tag (refusal code) ∧
        s.changesOnly t [.receivers]) ∧
    ∀ d, x.state = .declaring → x.inProgress = some d →
      (s.admits (.window w) .declareItem tag → ∀ b : ItemBody,
        ((b.tender = none ∨ 99999999 < b.amount) →
          ∃ t, exec (.declareItem (.window w) tag (some b)) s = .next t ∧
            s.answered t (.window w) .declareItem tag (refusal .badArgument) ∧
            s.changesOnly t [.receivers]) ∧
        ∀ tn, b.tender = some tn → b.amount ≤ 99999999 →
          ((d.expected ≤ d.items.length ∨ ∃ i ∈ d.items, i.1 = tn) →
            ∃ t, exec (.declareItem (.window w) tag (some b)) s = .next t ∧
              s.answered t (.window w) .declareItem tag (refusal .declarationAbandoned) ∧
              t.session w = { x with inProgress := none } ∧ s.otherSessions t w ∧
              s.changesOnly t [.receivers, .sessions]) ∧
          (d.items.length < d.expected → (∀ i ∈ d.items, i.1 ≠ tn) →
            ∃ t, exec (.declareItem (.window w) tag (some b)) s = .next t ∧
              s.answered t (.window w) .declareItem tag
                (accepted (.items (d.items.length + 1) d.expected)) ∧
              t.session w = { x with
                inProgress := some ⟨d.expected, d.items ++ [(tn, b.amount)]⟩ } ∧
              s.otherSessions t w ∧ s.changesOnly t [.receivers, .sessions])) ∧
      (s.admits (.window w) .declareConfirm tag → ∀ b : ConfirmBody,
        ((4096 < b.voids ∨ 4096 < b.spoils) →
          ∃ t, exec (.declareConfirm (.window w) tag (some b)) s = .next t ∧
            s.answered t (.window w) .declareConfirm tag (refusal .badArgument) ∧
            s.changesOnly t [.receivers]) ∧
        (b.voids ≤ 4096 → b.spoils ≤ 4096 → d.items.length < d.expected →
          ∃ t, exec (.declareConfirm (.window w) tag (some b)) s = .next t ∧
            s.answered t (.window w) .declareConfirm tag (refusal .declarationAbandoned) ∧
            t.session w = { x with inProgress := none } ∧ s.otherSessions t w ∧
            s.changesOnly t [.receivers, .sessions]) ∧
        ∀ (takings expected declared tol : Tender → Nat) (sat : Bool),
          b.voids ≤ 4096 → b.spoils ≤ 4096 → d.expected ≤ d.items.length →
          (d.items.map Prod.fst).Nodup →
          (∀ tn, takings tn = x.issued.get tn - x.voided.get tn) →
          (∀ tn, expected tn =
            if tn = .cash then min (takings .cash + x.float) 2147483647 else takings tn) →
          sat = (x.saturated || decide (2147483647 < takings .cash + x.float)) →
          (∀ tn a, (tn, a) ∈ d.items → declared tn = a) →
          (∀ tn, (∀ i ∈ d.items, i.1 ≠ tn) → declared tn = 0) →
          (∀ tn, tol tn = s.limits.tolerances.get tn) →
          ∃ t r y, exec (.declareConfirm (.window w) tag (some b)) s = .next t ∧
            s.answered t (.window w) .declareConfirm tag (accepted (.cashUp r)) ∧
            t.session w = { x with
              state := .declared
              saturated := sat
              inProgress := none
              declaration := some y
              result := some r } ∧ s.otherSessions t w ∧
            (∀ tn, (y.amounts.get tn).amount = declared tn ∧
              ((y.amounts.get tn).declared = true ↔ ∃ i ∈ d.items, i.1 = tn)) ∧
            y.voids = b.voids ∧ y.spoils = b.spoils ∧
            (∀ tn v, v = (declared tn : Int) - (expected tn : Int) →
              (r.tenders.get tn).expected = expected tn ∧
              (r.tenders.get tn).declared = declared tn ∧
              (r.tenders.get tn).tolerance = tol tn ∧
              (sat = true → (r.tenders.get tn).variance = none ∧
                (r.tenders.get tn).flag = false) ∧
              (sat = false → v.natAbs ≤ tol tn →
                (r.tenders.get tn).variance = some (v, .within) ∧
                (r.tenders.get tn).flag = false) ∧
              (sat = false → (tol tn : Int) < v →
                (r.tenders.get tn).variance = some (v, .over) ∧
                (r.tenders.get tn).flag = true) ∧
              (sat = false → v < -(tol tn : Int) →
                (r.tenders.get tn).variance = some (v, .short) ∧
                (r.tenders.get tn).flag = true)) ∧
            r.voidedCount = x.voidedCount ∧ r.returnedVoids = b.voids ∧
            r.spoiledCount = x.spoiledCount ∧ r.returnedSpoils = b.spoils ∧
            (r.voidsDiffer = true ↔ b.voids ≠ x.voidedCount) ∧
            (r.spoilsDiffer = true ↔ b.spoils ≠ x.spoiledCount) ∧
            (r.state = .unreconcilable ↔ sat = true) ∧
            (r.state = .balanced ↔ sat = false ∧ b.voids = x.voidedCount ∧
              b.spoils = x.spoiledCount ∧ ∀ tn, (r.tenders.get tn).flag = false) ∧
            r.saturated = sat ∧ r.confirmed = s.stamp ∧ r.reopens = x.reopens ∧
            (s.queuesAfter t fun z => z.postSession w) ∧
            s.changesOnly t [.receivers, .queues, .sessions])

/-! ## Recovery and the fault list (10) -/

/-- CLEAR_LANE, PURGE_LANE and ACK_FAULT: the refusals in order; the reports a recovery clears and the
CABINET_OPEN report it leaves; the lane that then primes, by a read of the blank under its head, by a
feed where none is positioned, or into HOLDING with the cabinet open or no UNUSED blank left; or that
purges, a VERIFIED blank marked ADVANCED, with its feed issued, deferred under the power-fail warning or
answered by STOCK_DISCREPANCY, or into HOLDING with no UNUSED blank left, a ticket under way settled;
and a report acknowledged (02 R38; 04 R74, R75, R78, R89; 10 R175, R180 to R184, R187). The order of the
two notices (log entry 11), which of two reports PURGE_NEEDED names (log entry 49), and the order of the
numbers cleared (log entry 50), are the model's choices, and that both notices are posted where no
report was cleared its inference (log entry 32). That a claim request still under way serves for another
is the model's inference (log entry 13). -/
def Obligations.RecoveryAndAcknowledgment : Prop :=
  ∀ (s : State) (p : Port) (tag : Byte),
    (s.admits p .clearLane tag →
      (∀ n a, (if n < 1 ∨ 4 < n then some (refusal .badArgument)
          else match (s.lane (Fin.ofNat 4 (n - 1))).state with
            | .purging => some (refusal .laneBusy)
            | .faulted => none
            | _ => some (refusal .notFaulted)) = some a →
        ∃ t, exec (.clearLane p tag (some n)) s = .next t ∧
          s.answered t p .clearLane tag a ∧ s.changesOnly t [.receivers]) ∧
      (∀ l : LaneId, (s.lane l).state = .faulted →
        (∃ r ∈ s.activeOf (.lane l), r.kind ∈ [FaultKind.feedJam, .cutJam, .headStall] ∨
          r.lastOther ∈ [some FaultKind.feedJam, some .cutJam, some .headStall]) →
        ∃ t pre r post, exec (.clearLane p tag (some (l.val + 1))) s = .next t ∧
          s.activeOf (.lane l) = pre ++ r :: post ∧
          (r.kind ∈ [FaultKind.feedJam, .cutJam, .headStall] ∨
            r.lastOther ∈ [some FaultKind.feedJam, some .cutJam, some .headStall]) ∧
          (∀ x ∈ pre, x.kind ∉ [FaultKind.feedJam, .cutJam, .headStall] ∧
            x.lastOther ∉ [some FaultKind.feedJam, some .cutJam, some .headStall]) ∧
          s.answered t p .clearLane tag ⟨.purgeNeeded, .reportNumber r.number⟩ ∧
          s.changesOnly t [.receivers]) ∧
      ∀ (l : LaneId) (left : List Report) (a : Reply), (s.lane l).state = .faulted →
        (∀ r ∈ s.activeOf (.lane l), r.kind ∉ [FaultKind.feedJam, .cutJam, .headStall] ∧
          r.lastOther ∉ [some FaultKind.feedJam, some .cutJam, some .headStall]) →
        left = s.faults.map (fun r =>
          if r.state = .active ∧ r.source = .lane l then
            if r.kind = .cabinetOpen then { r with primary := none, lastOther := none }
            else { r with
              state := .cleared
              how := some .clear
              cleared := some s.stamp
              primary := none }
          else r) →
        a = accepted (.reportsCleared
          (((s.activeOf (.lane l)).filter fun r => r.kind != .cabinetOpen).map Report.number)) →
        ((s.lane l).cabinetPin = .locked → (s.lane l).head ≠ .notPositioned →
          0 < s.remaining l → (∃ e, s.expected l = some e) →
          ∃ t, exec (.clearLane p tag (some (l.val + 1))) s = .next t ∧
            s.answered t p .clearLane tag a ∧ t.faults = left ∧
            t.lane l = { s.lane l with
              state := .priming, causes := .empty, awaiting := some .read, failedReads := 0 } ∧
            s.otherLanes t l ∧ (s.queuesAfter t fun x => x.postFaults.postLane l) ∧
            s.changesOnly t [.receivers, .queues, .lanes, .faults]) ∧
        ((s.lane l).cabinetPin = .locked → (s.lane l).head = .notPositioned →
          (s.lane l).inflight = none → 0 < s.remaining l → (∃ e, s.expected l = some e) →
          ∃ t, exec (.clearLane p tag (some (l.val + 1))) s = .next t ∧
            s.answered t p .clearLane tag a ∧ s.otherLanes t l ∧
            s.changesOnly t [.receivers, .queues, .lanes, .faults] ∧
            (s.powerFail = false → (s.lane l).stockPin = true →
              t.faults = left ∧ (s.queuesAfter t fun x => x.postFaults.postLane l) ∧
              t.lane l = { s.lane l with
                state := .feeding, causes := .empty, awaiting := some .feed,
                deferred := none }) ∧
            (s.powerFail = true →
              t.faults = left ∧ (s.queuesAfter t fun x => x.postFaults.postLane l) ∧
              t.lane l = { s.lane l with
                state := .feeding, causes := .empty, deferred := some .feed }) ∧
            (s.powerFail = false → (s.lane l).stockPin = false →
              t.faults = (State.raiseLane { s with faults := left } l .stockDiscrepancy
                { reason := some .stockAbsent, pack := (s.lane l).pack,
                  expected := s.expected l }).faults ∧
              t.lane l = { s.lane l with
                state := .faulted, causes := .empty, holdAfter := false, advances := 0,
                awaiting := none, deferred := none })) ∧
        ((s.lane l).cabinetPin = .opened ∨ s.remaining l = 0 ∨ s.expected l = none →
          ∃ t, exec (.clearLane p tag (some (l.val + 1))) s = .next t ∧
            s.answered t p .clearLane tag a ∧
            t.faults =
              (if (s.lane l).cabinetPin = .opened ∧ (s.lane l).cabinetSeen = .locked then
                (State.raiseLane { s with faults := left } l .cabinetOpen {}).faults
              else left) ∧
            t.lane l = { s.lane l with
              state := .holding
              causes := ⟨(s.lane l).cabinetPin == .opened,
                s.remaining l == 0 || (s.expected l).isNone⟩
              holdAfter := false
              advances := 0
              cabinetSeen :=
                if (s.lane l).cabinetPin = .opened then .opened else (s.lane l).cabinetSeen } ∧
            s.otherLanes t l ∧ ⟨.faultsChange, .faultList, none⟩ ∈ (t.port .office).queue ∧
            (∀ q, ⟨.laneChange, .lane l, none⟩ ∈ (t.port q).queue) ∧
            ((s.lane l).cabinetPin = .locked ∨ (s.lane l).cabinetSeen = .opened →
              s.queuesAfter t fun x => x.postFaults.postLane l) ∧
            s.changesOnly t [.receivers, .queues, .lanes, .faults])) ∧
    (s.admits p .purgeLane tag →
      (∀ n code, (if n < 1 ∨ 4 < n then some ResultCode.badArgument
          else if (s.lane (Fin.ofNat 4 (n - 1))).state = .offline then some .noPack
          else none) = some code →
        ∃ t, exec (.purgeLane p tag (some n)) s = .next t ∧
          s.answered t p .purgeLane tag (refusal code) ∧ s.changesOnly t [.receivers]) ∧
      ∀ (l : LaneId) (cleared : Nat) (left : List Report), (s.lane l).state ≠ .offline →
        cleared =
          ((s.activeOf (.lane l)).filter fun r => r.kind != .cabinetOpen).length →
        left = s.faults.map (fun r =>
          if r.state = .active ∧ r.source = .lane l then
            if r.kind = .cabinetOpen then { r with primary := none, lastOther := none }
            else { r with
              state := .cleared
              how := some .purge
              cleared := some s.stamp
              primary := none }
          else r) →
        ((s.lane l).inflight = none → (∀ e, (s.lane l).head ≠ .verified e) →
          0 < s.remaining l → (∃ e, s.expected l = some e) →
          ∃ t, exec (.purgeLane p tag (some (l.val + 1))) s = .next t ∧
            s.answered t p .purgeLane tag (accepted (.purged cleared none false)) ∧
            s.otherLanes t l ∧
            s.changesOnly t [.receivers, .queues, .lanes, .faults] ∧
            (s.powerFail = false → (s.lane l).stockPin = true →
              t.faults = left ∧ (s.queuesAfter t fun x => x.postFaults.postLane l) ∧
              t.lane l = { s.lane l with
                state := .purging
                causes := .empty
                holdAfter := (s.lane l).cabinetSeen == .opened
                failedReads := 0
                advances := 0
                head := .notPositioned
                awaiting := some .feed
                deferred := none }) ∧
            (s.powerFail = true →
              t.faults = left ∧ (s.queuesAfter t fun x => x.postFaults.postLane l) ∧
              t.lane l = { s.lane l with
                state := .purging
                causes := .empty
                holdAfter := (s.lane l).cabinetSeen == .opened
                failedReads := 0
                advances := 0
                awaiting := none
                deferred := some .feed }) ∧
            (s.powerFail = false → (s.lane l).stockPin = false →
              t.faults = (State.raiseLane { s with faults := left } l .stockDiscrepancy
                { reason := some .stockAbsent, pack := (s.lane l).pack,
                  expected := s.expected l }).faults ∧
              t.lane l = { s.lane l with
                state := .faulted
                causes := .empty
                holdAfter := false
                failedReads := 0
                advances := 0
                awaiting := none
                deferred := none })) ∧
        ((s.lane l).inflight = none → (∀ e, (s.lane l).head ≠ .verified e) →
          (s.remaining l = 0 ∨ s.expected l = none) →
          ∃ t, exec (.purgeLane p tag (some (l.val + 1))) s = .next t ∧
            s.answered t p .purgeLane tag (accepted (.purged cleared none false)) ∧
            t.faults = left ∧
            t.lane l = { s.lane l with
              state := .holding
              causes := ⟨(s.lane l).cabinetSeen == .opened, true⟩
              holdAfter := false
              failedReads := 0
              advances := 0
              head := .notPositioned
              awaiting := none
              deferred := none } ∧
            s.otherLanes t l ∧ (s.queuesAfter t fun x => x.postFaults.postLane l) ∧
            s.changesOnly t [.receivers, .queues, .lanes, .faults]) ∧
        (∀ k e, (s.lane l).inflight = none → (s.lane l).head = .verified e →
          s.mounted l = some k → s.packOf k.cls e = some k → k.markOf e = some .unused →
          ∃ t q, exec (.purgeLane p tag (some (l.val + 1))) s = .next t ∧
            s.answered t p .purgeLane tag (accepted (.purged cleared none false)) ∧
            t.findPack k.number = some q ∧ q.markOf e = some .advanced ∧
            (∀ r, r ≠ e → q.markOf r = k.markOf r) ∧
            q.counters = { k.counters with
              unused := k.counters.unused - 1, advanced := k.counters.advanced + 1 } ∧
            q.references = k.references ∧ s.otherPacks t k.number ∧ s.otherLanes t l ∧
            s.changesOnly t [.receivers, .queues, .lanes, .packs, .census, .faults] ∧
            (k.counters.unused = 1 →
              t.faults = left ∧
              t.lane l = { s.lane l with
                state := .holding
                causes := ⟨(s.lane l).cabinetSeen == .opened, true⟩
                holdAfter := false
                failedReads := 0
                advances := 0
                head := .notPositioned
                awaiting := none
                deferred := none }) ∧
            ∀ n, 1 < k.counters.unused → n ≠ e → (s.lane l).position ≤ n →
              k.markOf n = some .unused →
              (∀ m, (s.lane l).position ≤ m → m < n → m ≠ e →
                k.markOf m ≠ some .unused) →
              (s.powerFail = false → (s.lane l).stockPin = false →
                t.faults = (State.raiseLane { s with faults := left } l .stockDiscrepancy
                  { reason := some .stockAbsent, pack := some k.number,
                    expected := some n }).faults ∧
                t.lane l = { s.lane l with
                  state := .faulted
                  causes := .empty
                  holdAfter := false
                  failedReads := 0
                  advances := 0
                  head := .notPositioned
                  awaiting := none
                  deferred := none }) ∧
              ((s.powerFail = true ∨ (s.lane l).stockPin = true) →
                t.faults = left ∧
                t.lane l = { s.lane l with
                  state := .purging
                  causes := .empty
                  holdAfter := (s.lane l).cabinetSeen == .opened
                  failedReads := 0
                  advances := 0
                  head := .notPositioned
                  awaiting := if s.powerFail = true then none else some .feed
                  deferred := if s.powerFail = true then some .feed else none })) ∧
        ∀ r j, (s.lane l).inflight = some r → s.job r.window r.slot = some j →
          (r.begun = false → ∃ t, exec (.purgeLane p tag (some (l.val + 1))) s = .next t ∧
            s.answered t p .purgeLane tag (accepted (.purged cleared none true)) ∧
            t.job r.window r.slot = some { j with state := .queued, lane := none } ∧
            (t.lane l).inflight = none ∧ (t.lane l).job = none ∧
            s.otherSlots t r.window r.slot ∧ s.otherLanesTold t l ∧
            s.changesOnly t [.receivers, .queues, .lanes, .slots, .packs, .census, .faults]) ∧
          ∀ k, r.begun = true → s.mounted l = some k → s.packOf k.cls r.serial = some k →
            k.markOf r.serial = some .unused →
            ∃ t q, exec (.purgeLane p tag (some (l.val + 1))) s = .next t ∧
              s.answered t p .purgeLane tag
                (accepted (.purged cleared (some r.serial) false)) ∧
              t.findPack k.number = some q ∧ q.markOf r.serial = some .spoiled ∧
              q.references = k.references + 1 ∧
              (t.job r.window r.slot).map Job.attempts = some (j.attempts + 1) ∧
              (t.job r.window r.slot).map Job.state =
                some (if 3 ≤ j.attempts + 1 then .failed else .queued) ∧
              t.journal = s.journal ++ [⟨r.window, (s.entriesOf r.window).length + 1,
                ⟨.spoil, k.cls, r.serial, k.number, 0, none, r.quantity, r.form, r.slot⟩,
                s.stamp, false⟩] ∧
              (t.lane l).inflight = none ∧ (t.lane l).job = none ∧
              (t.lane l).composer.released ∧ (t.lane l).composer.lostLine = false ∧
              (t.lane l).advances = 0 ∧
              s.otherSlots t r.window r.slot ∧ s.otherPacks t k.number ∧
              s.otherSessions t r.window ∧ s.otherLanesTold t l ∧
              s.changesOnly t [.receivers, .queues, .lanes, .packs, .census, .sessions, .journal,
                .slots, .forms, .faults]) ∧
    (s.admits p .ackFault tag → ∀ n,
      ((∀ r ∈ s.faults, r.number ≠ n) →
        ∃ t, exec (.ackFault p tag (some n)) s = .next t ∧
          s.answered t p .ackFault tag (refusal .noReport) ∧ s.changesOnly t [.receivers]) ∧
      ∀ r, (s.faults.find? fun x => x.number == n) = some r →
        (r.state = .active → (r.source ≠ .controller ∨ r.kind = .storeLost) →
          ∃ t, exec (.ackFault p tag (some n)) s = .next t ∧
            s.answered t p .ackFault tag (refusal .stillActive) ∧
            s.changesOnly t [.receivers]) ∧
        (r.state = .acknowledged →
          ∃ t, exec (.ackFault p tag (some n)) s = .next t ∧
            s.answered t p .ackFault tag (accepted (.reportState .acknowledged)) ∧
            s.changesOnly t [.receivers]) ∧
        ((r.state = .cleared ∨
            (r.state = .active ∧ r.source = .controller ∧ r.kind ≠ .storeLost)) →
          ∃ t, exec (.ackFault p tag (some n)) s = .next t ∧
            s.answered t p .ackFault tag (accepted (.reportState .acknowledged)) ∧
            t.faults = s.faults.map (fun x => if x.number ≠ n then x else
              match x.state with
              | .active => { x with
                state := .acknowledged
                how := some .ack
                cleared := some s.stamp
                primary := none }
              | .cleared => { x with state := .acknowledged }
              | .acknowledged => x) ∧
            (s.queuesAfter t fun x => match r.source with
              | .lane l => x.postFaults.postLane l
              | .controller => x.postFaults) ∧
            s.changesOnly t [.receivers, .queues, .faults]))

/-- The fault list keeps its rules at every step: at most 64 reports with distinct numbers from 1 to
65,535, at most two ACTIVE reports for a lane, of distinct kinds, and at most one ACTIVE report of each
of the controller's two kinds; and a CABINET_OPEN report keeps a last other kind only beside a second
ACTIVE report, whose kind is another, so that no relock makes two of one kind (10 R176 to R178, R181). -/
def Obligations.FaultListStaysConsistent : Prop :=
  ∀ s t : State, s.faultsHold → step s = .next t → t.faultsHold

/-! ## Clocks, limits, restart and power (11) -/

/-- The clocks and the limits: a second and a tenth counted while the part runs; SET_CLOCK and
SET_LIMITS with their refusals and answers; run time is moved by its tick alone, and the office
clock by its tick and SET_CLOCK, at every command but the loss and the return of supply (11 R190 to
R192, R197, Table 11.2). That a SET_LIMITS list of more than 6 windows or 4 tenders is refused
BAD_ARGUMENT is the model's choice (log entry 44), and so is that neither clock ticks while the part does
not run, reset held included, and that RESET_ASSERTED leaves both as they stand (log entries 9 and 10). -/
def Obligations.ClocksAndLimits : Prop :=
  ∀ s : State,
    (s.phase = .running → ∃ t u, exec .officeClockTick s = .next t ∧
      exec .runTimeTick s = .next u ∧
      t.clock = (if s.clock.second < 86399 then
          ⟨s.clock.day, s.clock.second + 1, s.clock.isSet⟩
        else ⟨s.clock.day + 1, 0, s.clock.isSet⟩) ∧ s.changesOnly t [.clock] ∧
      u.runTime = s.runTime + 1 ∧ s.changesOnly u [.runTime]) ∧
    (s.phase ≠ .running → exec .officeClockTick s = .next s ∧ exec .runTimeTick s = .next s) ∧
    (∀ c t, isPower c = false → exec c s = .next t →
      (c ≠ .runTimeTick → t.runTime = s.runTime) ∧
      (c ≠ .officeClockTick → (∀ p g b, c ≠ .setClock p g b) → t.clock = s.clock)) ∧
    ∀ (p : Port) (tag : Byte),
      (s.admits p .setClock tag →
        (∃ t, exec (.setClock p tag (some none)) s = .next t ∧
          s.answered t p .setClock tag (accepted (.clock ⟨s.clock.day, s.clock.second⟩
            ⟨s.clock.day, s.clock.second⟩ s.clock.isSet s.runTime s.storeValid)) ∧
          s.changesOnly t [.receivers]) ∧
        ∀ day second,
          (86399 < second → ∃ t, exec (.setClock p tag (some (some ⟨day, second⟩))) s = .next t ∧
            s.answered t p .setClock tag (refusal .badArgument) ∧
            s.changesOnly t [.receivers]) ∧
          (second ≤ 86399 → ∃ t, exec (.setClock p tag (some (some ⟨day, second⟩))) s = .next t ∧
            s.answered t p .setClock tag (accepted (.clock ⟨s.clock.day, s.clock.second⟩
              ⟨day, second⟩ true s.runTime s.storeValid)) ∧
            t.clock = ⟨day, second, true⟩ ∧ s.changesOnly t [.receivers, .clock])) ∧
      (s.admits p .setLimits tag → ∀ (b : LimitsBody) (waits : List (Nat × Nat))
          (tolerances : List (Named Tender × Nat)), waits = b.waits.getD [] →
          tolerances = b.tolerances.getD [] →
        (((∃ x ∈ waits, x.1 < 1 ∨ 6 < x.1) ∨ ¬(waits.map Prod.fst).Nodup ∨
            (∃ x ∈ tolerances, x.1 = none) ∨ ¬(tolerances.map Prod.fst).Nodup ∨
            (∃ m, b.currencyMark = some m ∧ m.toNat < 0x20)) →
          ∃ t, exec (.setLimits p tag (some b)) s = .next t ∧
            s.answered t p .setLimits tag (refusal .badArgument) ∧
            s.changesOnly t [.receivers]) ∧
        ((∀ x ∈ waits, 1 ≤ x.1 ∧ x.1 ≤ 6) → (waits.map Prod.fst).Nodup →
          (∀ x ∈ tolerances, x.1 ≠ none) → (tolerances.map Prod.fst).Nodup →
          (∀ m, b.currencyMark = some m → 0x20 ≤ m.toNat) →
          ∃ t clamped, exec (.setLimits p tag (some b)) s = .next t ∧
            s.answered t p .setLimits tag (accepted (.limits t.limits clamped)) ∧
            (∀ w : Window, (∀ n, (w.val + 1, n) ∈ waits →
                t.limits.waits[w] = if n = 0 then 0 else if n < 5 then 5
                  else if 600 < n then 600 else n) ∧
              ((∀ x ∈ waits, x.1 ≠ w.val + 1) → t.limits.waits[w] = s.limits.waits[w])) ∧
            t.limits.voidWindow =
              ((b.voidWindow.map fun n => min n 900).getD s.limits.voidWindow) ∧
            t.limits.stockLow =
              ((b.stockLow.map fun n => min n 255).getD s.limits.stockLow) ∧
            (∀ tn, (∀ n, (some tn, n) ∈ tolerances →
                t.limits.tolerances.get tn = min n 10000) ∧
              ((∀ x ∈ tolerances, x.1 ≠ some tn) →
                t.limits.tolerances.get tn = s.limits.tolerances.get tn)) ∧
            t.limits.currencyMark = b.currencyMark.getD s.limits.currencyMark ∧
            (clamped = true ↔ (∃ x ∈ waits, x.2 ≠ 0 ∧ (x.2 < 5 ∨ 600 < x.2)) ∨
              (∃ n, b.voidWindow = some n ∧ 900 < n) ∨
              (∃ n, b.stockLow = some n ∧ 255 < n) ∨ ∃ x ∈ tolerances, 10000 < x.2) ∧
            (s.queuesAfter t fun x => if t.limits = s.limits then x else x.postStore) ∧
            s.changesOnly t [.receivers, .queues, .limits]))

/-- RESTART and STORE_REINITIALISE. RESTART empties every slot but a PRINTING one, with its reservation
released, stops the census, discards the declarations in progress and leaves CONTROLLER_START first in
every queue; the retained records stand. STORE_REINITIALISE, refused LANE_BUSY while a job is PRINTING,
empties the store and makes it VALID (01 R17; 02 R31; 03 R64, R65; 04 R91; 05 R115; 06 R129; 08 R159; 09
R174; 10 R189; 11 R196, R198). That a CANCELLED job holds no deadline (log entry 21), that a census
already STOPPED takes the new cause (log entry 28), and that the fields R129 does not name stand in a
stopped unit (log entry 42), are the model's inferences. That a claim request still under way serves for
another is the model's inference (log entry 13). -/
def Obligations.RestartAndReinitialise : Prop :=
  ∀ (s : State) (p : Port) (tag : Byte),
    (s.admits p .restart tag → ∃ t, exec (.restart p tag (some ())) s = .next t ∧
      s.answered t p .restart tag (accepted .bare) ∧
      (∀ w k, t.slot w k = ⟨false, (s.job w k).filter fun j => j.state == .printing⟩) ∧
      (∀ w, t.session w = { s.session w with
        inProgress := none
        reserved := (s.session w).reserved - ((List.finRange 8).map fun k =>
          match s.job w k with
          | some j => if j.state ∈ [JobState.queued, .held, .retryWait] then j.reserved else 0
          | none => 0).sum }) ∧
      t.census = (if s.census.state = .idle then s.census else { s.census with
        state := .stopped
        tally := ⟨0, 0, 0, 0, 0, 0, 0⟩
        tallyFound := none
        committed := ⟨0, 0, 0, 0, 0, 0, 0⟩
        found := none
        result := none
        stopCause := some .restart }) ∧
      (∀ w, (t.port (.window w)).queue = [⟨.controllerStart, .controller, none⟩]) ∧
      (t.port .office).queue.head? = some ⟨.controllerStart, .controller, none⟩ ∧
      t.journal = s.journal ∧ t.journalInUse = s.journalInUse ∧
      (∀ l, t.lane l = s.lane l ∨ t.lane l = (s.lane l).claiming s.powerFail) ∧
      s.changesOnly t [.receivers, .queues, .slots, .forms, .sessions, .journal, .census,
        .lanes]) ∧
    (s.admits p .storeReinitialise tag →
      ((∃ w k j, s.job w k = some j ∧ j.state = .printing) →
        ∃ t, exec (.storeReinitialise p tag (some ())) s = .next t ∧
          s.answered t p .storeReinitialise tag (refusal .laneBusy) ∧
          s.changesOnly t [.receivers]) ∧
      ((∀ w k j, s.job w k = some j → j.state ≠ .printing) →
        ∃ t, exec (.storeReinitialise p tag (some ())) s = .next t ∧
          s.answered t p .storeReinitialise tag (accepted .bare) ∧
          (∀ w k, s.job w k = none → t.slot w k = s.slot w k) ∧
          (∀ w k j o, s.job w k = some j → o = ⟨.cancelled, .none, j.attempts, 0, 0, 0⟩ →
            (j.state ∈ [JobState.queued, .held, .retryWait] →
              t.slot w k = ⟨true, some { j with
                state := .cancelled
                generation := none
                reserved := 0
                deadline := none
                latest := some o }⟩ ∧
              ⟨.slotOutcome, .slot k, some o⟩ ∈ (t.port (.window w)).queue) ∧
            (j.state ∈ [JobState.done, .failed, .expired, .cancelled] →
              t.slot w k = ⟨(s.slot w k).unread, some { j with generation := none }⟩)) ∧
          (∀ w, t.session w = ⟨.none, 0, 0, ⟨0, 0⟩, ⟨0, 0, 0, 0⟩, ⟨0, 0, 0, 0⟩, 0, 0, 0, false,
            0, 0, none, none, none⟩) ∧
          t.journal = [] ∧ t.journalInUse = 0 ∧ t.journalReserved = 0 ∧
          (∀ l, (t.lane l).state = .offline ∧ (t.lane l).pack = none ∧
            (t.lane l).inflight = none ∧ (t.lane l).awaiting = none ∧
            (t.lane l).deferred = none ∧ (t.lane l).head = .notPositioned ∧
            (t.lane l).causes = .empty ∧ (t.lane l).cabinetSeen = (s.lane l).cabinetSeen) ∧
          t.packs = [] ∧ t.nextPack = 1 ∧
          t.census.state = (if s.census.state = .idle then .idle else .stopped) ∧
          (s.census.state ≠ .idle → t.census.stopCause = some .storeReinitialise) ∧
          (∀ f, t.form f = ⟨none, none, 0, 0, 0⟩) ∧
          t.discounts[0] = ⟨.active, 0, 0, 1, .replicate 4 true⟩ ∧
          (∀ c : Fin 16, c ≠ 0 → t.discounts[c] = ⟨.unused, 0, 0, 1, .replicate 4 false⟩) ∧
          (∀ w : Window, t.grants[w] = ⟨true, true, true, true⟩) ∧
          t.limits = ⟨.replicate 6 120, 300, 20, ⟨0, 0, 0, 0⟩, 0xA3⟩ ∧
          t.faults = (s.faults.filter fun r => r.state == .active && r.kind == .storeLost).map
            (fun r => { r with
              state := .cleared
              how := some .reinitialise
              cleared := some s.stamp
              primary := none }) ∧
          t.faultCounter = s.faultCounter ∧ t.storeValid = true ∧ t.checkAgrees = true ∧
          (∀ l a, ⟨.laneChange, .lane l, none⟩ ∈ (t.port a).queue) ∧
          ⟨.storeChange, .store, none⟩ ∈ (t.port .office).queue ∧
          s.changesOnly t [.receivers, .queues, .slots, .sessions, .journal, .lanes, .packs,
            .nextPack, .census, .forms, .discounts, .grants, .limits, .faults, .store]))

/-- The reset input and the loss of supply: reset holds every port in STARTING and the part stops; a
loss of supply leaves the retained store of Table 11.1 and clears what is volatile, and the check
word still agrees only where it did, the battery keeps, and the warning stood or the supply was
already absent (01 R18; 11 R190, R192, R193, Table 11.1). How the loss and the inputs are given is
the model's choice (log entries 9 and 10). Attention and clear-to-send are down under reset (01 R14). -/
def Obligations.ResetAndSupplyLoss : Prop :=
  ∀ s : State,
    (s.phase = .unpowered → exec .resetAsserted s = .next s) ∧
    (s.phase ≠ .unpowered → ∃ t, exec .resetAsserted s = .next t ∧ t.phase = .resetHeld ∧
      (∀ p, t.port p = ⟨.starting, none, (s.port p).queue⟩ ∧ (t.port p).attention = false ∧
        (t.port p).clearToSend = false) ∧
      s.changesOnly t [.phase, .receivers]) ∧
    ∀ kept, ∃ t, exec (.supplyLoss kept) s = .next t ∧ t.phase = .unpowered ∧
      (∀ p, t.port p = ⟨.starting, none, []⟩) ∧ (∀ w k, t.slot w k = ⟨false, none⟩) ∧
      (∀ f, t.form f = { s.form f with useCount := 0, waitingCount := 0 }) ∧
      (∀ l, (t.lane l).pack = (s.lane l).pack ∧ (t.lane l).inflight = (s.lane l).inflight ∧
        (t.lane l).state = .offline ∧ (t.lane l).head = .notPositioned ∧
        (t.lane l).awaiting = none ∧ (t.lane l).job = none) ∧
      t.census.state = .idle ∧ t.clock = ⟨0, 0, false⟩ ∧ t.runTime = 0 ∧
      (t.checkAgrees = true ↔ s.checkAgrees = true ∧ kept = true ∧
        (s.powerFail = true ∨ s.phase = .unpowered)) ∧
      s.changesOnly t [.phase, .receivers, .queues, .forms, .slots, .scanner, .lanes, .census,
        .clock, .runTime, .store]

/-- Power-on with the check word in agreement: the store VALID and its contents as they stood, the
clocks at 0, every journal entry flagged, the reservations of the in-flight records alone, pending
definitions applied, the ports HUNTING with CONTROLLER_START; a lane with no pack OFFLINE, one
whose input shows the cabinet locked primes on its blank, also from a record that had not begun; a
begun ticket is spoiled with POWER_INTERRUPTED raised, and so are several, each on its own lane; and
every lane's CABINET_OPEN report is reconciled with its input (01 R18; 02 R31; 03 R66; 04 R90; 08 R158;
10 R189; 11 R194). That power may come on in any phase is the model's choice (log entry 10), and so is
the order of the lanes, which numbers the entries of several spoils (log entry 12). -/
def Obligations.PowerOnWithTheStoreValid : Prop :=
  ∀ s : State, s.checkAgrees = true → ∃ t, exec .powerOn s = .next t ∧ t.phase = .running ∧
    t.storeValid = true ∧ t.runTime = 0 ∧ t.clock = ⟨0, 0, false⟩ ∧ t.census.state = .idle ∧
    t.scanner = 0 ∧ (∀ w k, t.slot w k = ⟨false, none⟩) ∧
    (∀ p, (t.port p).rx = .hunting ∧ (t.port p).tx = none ∧
      ⟨.controllerStart, .controller, none⟩ ∈ (t.port p).queue) ∧
    (∀ f, (∀ d, (s.form f).pending = some d → t.form f = ⟨some d, none,
        if (s.form f).generation = 255 then 1 else (s.form f).generation + 1, 0, 0⟩) ∧
      ((s.form f).pending = none →
        t.form f = { s.form f with useCount := 0, waitingCount := 0 })) ∧
    (∀ l, (s.lane l).pack = none → (t.lane l).state = .offline ∧
      (t.lane l).cabinetSeen = (s.lane l).cabinetPin) ∧
    t.grants = s.grants ∧ t.discounts = s.discounts ∧ t.limits = s.limits ∧
    t.nextPack = s.nextPack ∧ t.powerFail = s.powerFail ∧ t.pending = s.pending ∧
    ((∀ l, (s.lane l).inflight = none) →
      t.packs = s.packs ∧
      t.journal = s.journal.map (fun e => { e with beforePowerOn := true }) ∧
      t.journalInUse = s.journalInUse ∧ t.journalReserved = 0 ∧
      (∀ w, t.session w = { s.session w with inProgress := none, reserved := 0 }) ∧
      ∀ l k e, s.mounted l = some k → (s.lane l).cabinetPin = .locked →
        k.counters.unused ≠ 0 → k.lowestUnused k.first = some e →
        (t.lane l).state = .priming ∧ (t.lane l).awaiting = some .read ∧
        (t.lane l).head = .unverified ∧ (t.lane l).position = k.first) ∧
    (∀ l r k, (s.lane l).inflight = some r → r.begun = true →
      (∀ m, m ≠ l → (s.lane m).inflight = none) → s.mounted l = some k →
      s.packOf k.cls r.serial = some k → k.markOf r.serial = some .unused →
      ∃ q, t.findPack k.number = some q ∧ q.markOf r.serial = some .spoiled ∧
        q.references = k.references + 1 ∧ s.otherPacks t k.number ∧
        t.journal = s.journal.map (fun e => { e with beforePowerOn := true }) ++
          [⟨r.window, (s.entriesOf r.window).length + 1,
            ⟨.spoil, k.cls, r.serial, k.number, 0, none, r.quantity, r.form, r.slot⟩,
            ⟨0, 0, 0⟩, false⟩] ∧
        t.session r.window = { s.session r.window with
          inProgress := none
          spoiledCount := (s.session r.window).spoiledCount + 1
          reserved := 0 } ∧
        t.journalReserved = 0 ∧ (t.lane l).inflight = none ∧
        (t.lane l).head = .notPositioned ∧
        (s.activeOf (.lane l) = [] →
          ∃ x ∈ t.activeOf (.lane l), x.kind = .powerInterrupted ∧ x.context =
            { pack := some k.number
              serial := some r.serial
              job := some (r.window, r.slot) })) ∧
    (s.stockHolds → s.bindingsHold → s.faultsHold → (∀ l, (s.lane l).keptWf = true) →
      (∀ l r, (s.lane l).inflight = some r → r.begun = true →
        ∃ k, s.mounted l = some k ∧ k.markOf r.serial = some .unused) →
      (∀ l, (t.lane l).inflight = none) ∧
      t.journal = s.journal.map (fun e => { e with beforePowerOn := true }) ++
        s.interrupted.zipIdx.map (fun x => ⟨x.1.2.1.window,
          (s.entriesOf x.1.2.1.window).length + lostOf (s.interrupted.take x.2) x.1.2.1.window + 1,
          ⟨.spoil, x.1.2.2.cls, x.1.2.1.serial, x.1.2.2.number, 0, none, x.1.2.1.quantity,
            x.1.2.1.form, x.1.2.1.slot⟩, ⟨0, 0, 0⟩, false⟩) ∧
      t.journalInUse = s.journalInUse + s.interrupted.length ∧ t.journalReserved = 0 ∧
      (∀ w, t.session w = { s.session w with
        inProgress := none
        spoiledCount := (s.session w).spoiledCount + lostOf s.interrupted w
        reserved := 0 }) ∧
      (∀ k ∈ s.packs, (∀ x ∈ s.interrupted, x.2.2.number ≠ k.number) →
        t.findPack k.number = some k) ∧
      (∀ x ∈ s.interrupted, ∃ q, t.findPack x.2.2.number = some q ∧
        q.references = x.2.2.references + 1 ∧
        (∀ r, q.markOf r =
          if r = x.2.1.serial then some .spoiled else x.2.2.markOf r) ∧
        (t.lane x.1).position = x.2.2.first ∧ (t.lane x.1).head = .notPositioned ∧
        (s.activeOf (.lane x.1) = [] →
          ∃ y ∈ t.activeOf (.lane x.1), y.kind = .powerInterrupted ∧ y.primary = none ∧
            y.context = { pack := some x.2.2.number, serial := some x.2.1.serial,
                          job := some (x.2.1.window, x.2.1.slot) }) ∧
        (if x.2.2.counters.unused = 1 then
          (t.lane x.1).state = .faulted ∧ (t.lane x.1).awaiting = none
        else if s.powerFail = true then
          (t.lane x.1).state = .feeding ∧ (t.lane x.1).deferred = some .feed
        else if (s.lane x.1).stockPin = true then
          (t.lane x.1).state = .feeding ∧ (t.lane x.1).awaiting = some .feed
        else (t.lane x.1).state = .faulted ∧ (t.lane x.1).awaiting = none)) ∧
      ∀ l k e, s.mounted l = some k → (∀ r, (s.lane l).inflight = some r → r.begun = false) →
        (s.lane l).cabinetPin = .locked → k.lowestUnused k.first = some e →
        (t.lane l).state = .priming ∧ (t.lane l).awaiting = some .read ∧
        (t.lane l).head = .unverified ∧ (t.lane l).position = k.first) ∧
    (s.faultsHold → ∀ l,
      ((s.lane l).cabinetPin = .locked →
        (∀ r ∈ s.activeOf (.lane l), r.lastOther ≠ some .cabinetOpen) →
        (∀ r ∈ t.activeOf (.lane l), r.kind ≠ .cabinetOpen) ∧
        ∀ r ∈ s.activeOf (.lane l), r.kind = .cabinetOpen → r.lastOther = none →
          s.faults.length ≤ 56 →
          (∀ i, (s.lane l).inflight = some i → i.begun = false) →
          { r with state := .cleared, how := some .self, cleared := some ⟨0, 0, 0⟩,
                   primary := none } ∈ t.faults) ∧
      ((s.lane l).cabinetPin = .opened → (s.lane l).pack.isSome = true →
        ∃ r ∈ t.activeOf (.lane l), r.kind = .cabinetOpen ∨ r.lastOther = some .cabinetOpen) ∧
      ((s.lane l).cabinetPin = .opened → (s.lane l).pack = none →
        t.activeOf (.lane l) = s.activeOf (.lane l)))

/-- Power-on with the check word in disagreement: the store INVALID and every part of it taken as
empty or at its default, no grants, every lane OFFLINE, STORE_LOST alone in the fault list as report
1, and FAULTS_CHANGE, STORE_CHANGE and CONTROLLER_START at the office (01 R7, R18; 04 R90; 05 R114;
07 R130; 08 R159; 10 R189; 11 R194). That power may come on in any phase is the model's choice (log
entry 10), and that the disregarded contents are overwritten at once its inference (log entry 18). -/
def Obligations.PowerOnWithTheStoreInvalid : Prop :=
  ∀ s : State, s.checkAgrees = false → ∃ t, exec .powerOn s = .next t ∧ t.phase = .running ∧
    t.storeValid = false ∧ t.checkAgrees = false ∧ t.runTime = 0 ∧ t.clock = ⟨0, 0, false⟩ ∧
    t.packs = [] ∧ t.journal = [] ∧ t.journalInUse = 0 ∧ t.journalReserved = 0 ∧
    (∀ w, t.session w = ⟨.none, 0, 0, ⟨0, 0⟩, ⟨0, 0, 0, 0⟩, ⟨0, 0, 0, 0⟩, 0, 0, 0, false, 0, 0,
      none, none, none⟩) ∧
    (∀ f, t.form f = ⟨none, none, 0, 0, 0⟩) ∧
    t.discounts[0] = ⟨.active, 0, 0, 1, .replicate 4 true⟩ ∧
    (∀ c : Fin 16, c ≠ 0 → t.discounts[c].state = .unused) ∧
    (∀ w : Window, t.grants[w] = ⟨false, false, false, false⟩) ∧
    t.limits = ⟨.replicate 6 120, 300, 20, ⟨0, 0, 0, 0⟩, 0xA3⟩ ∧
    (∀ l, (t.lane l).state = .offline ∧ (t.lane l).pack = none ∧
      (t.lane l).inflight = none ∧ (t.lane l).cabinetSeen = (s.lane l).cabinetPin) ∧
    t.faults = [⟨1, .controller, .storeLost, ⟨0, 0, 0⟩, none, .active, 1, none, none, {}, 0,
      none⟩] ∧ t.faultCounter = 2 ∧ t.census.state = .idle ∧
    (∀ w k, t.slot w k = ⟨false, none⟩) ∧
    (∀ w, t.port (.window w) = ⟨.hunting, none, [⟨.controllerStart, .controller, none⟩]⟩) ∧
    t.port .office = ⟨.hunting, none, [⟨.faultsChange, .faultList, none⟩,
      ⟨.storeChange, .store, none⟩, ⟨.controllerStart, .controller, none⟩]⟩
end

