-- ==== Sys2Proof/Laws/State.lean ====
section
/-! SUPPORT. One lemma for each field of State and each operation that writes one record of it, so that
no later proof unfolds a record update; and what a record reads as after a writing. -/

namespace Sys2Proof.Machine

variable (s : State) (p q : Port) (l m : LaneId) (w v : Window) (k j : SlotId) (f g : Fin 8)

/-! ## setPort -/

@[simp] theorem State.setPort_phase (x : PortState) : (s.setPort p x).phase = s.phase := by cases p <;> rfl
@[simp] theorem State.setPort_powerFail (x : PortState) : (s.setPort p x).powerFail = s.powerFail := by cases p <;> rfl
@[simp] theorem State.setPort_grants (x : PortState) : (s.setPort p x).grants = s.grants := by cases p <;> rfl
@[simp] theorem State.setPort_forms (x : PortState) : (s.setPort p x).forms = s.forms := by cases p <;> rfl
@[simp] theorem State.setPort_slots (x : PortState) : (s.setPort p x).slots = s.slots := by cases p <;> rfl
@[simp] theorem State.setPort_scanner (x : PortState) : (s.setPort p x).scanner = s.scanner := by cases p <;> rfl
@[simp] theorem State.setPort_lanes (x : PortState) : (s.setPort p x).lanes = s.lanes := by cases p <;> rfl
@[simp] theorem State.setPort_packs (x : PortState) : (s.setPort p x).packs = s.packs := by cases p <;> rfl
@[simp] theorem State.setPort_nextPack (x : PortState) : (s.setPort p x).nextPack = s.nextPack := by cases p <;> rfl
@[simp] theorem State.setPort_census (x : PortState) : (s.setPort p x).census = s.census := by cases p <;> rfl
@[simp] theorem State.setPort_discounts (x : PortState) : (s.setPort p x).discounts = s.discounts := by cases p <;> rfl
@[simp] theorem State.setPort_limits (x : PortState) : (s.setPort p x).limits = s.limits := by cases p <;> rfl
@[simp] theorem State.setPort_sessions (x : PortState) : (s.setPort p x).sessions = s.sessions := by cases p <;> rfl
@[simp] theorem State.setPort_journal (x : PortState) : (s.setPort p x).journal = s.journal := by cases p <;> rfl
@[simp] theorem State.setPort_journalInUse (x : PortState) : (s.setPort p x).journalInUse = s.journalInUse := by cases p <;> rfl
@[simp] theorem State.setPort_journalReserved (x : PortState) : (s.setPort p x).journalReserved = s.journalReserved := by cases p <;> rfl
@[simp] theorem State.setPort_faults (x : PortState) : (s.setPort p x).faults = s.faults := by cases p <;> rfl
@[simp] theorem State.setPort_faultCounter (x : PortState) : (s.setPort p x).faultCounter = s.faultCounter := by cases p <;> rfl
@[simp] theorem State.setPort_clock (x : PortState) : (s.setPort p x).clock = s.clock := by cases p <;> rfl
@[simp] theorem State.setPort_runTime (x : PortState) : (s.setPort p x).runTime = s.runTime := by cases p <;> rfl
@[simp] theorem State.setPort_storeValid (x : PortState) : (s.setPort p x).storeValid = s.storeValid := by cases p <;> rfl
@[simp] theorem State.setPort_checkAgrees (x : PortState) : (s.setPort p x).checkAgrees = s.checkAgrees := by cases p <;> rfl
@[simp] theorem State.setPort_pending (x : PortState) : (s.setPort p x).pending = s.pending := by cases p <;> rfl

/-! ## setLane -/

@[simp] theorem State.setLane_phase (x : Lane) : (s.setLane l x).phase = s.phase := rfl
@[simp] theorem State.setLane_powerFail (x : Lane) : (s.setLane l x).powerFail = s.powerFail := rfl
@[simp] theorem State.setLane_windows (x : Lane) : (s.setLane l x).windows = s.windows := rfl
@[simp] theorem State.setLane_office (x : Lane) : (s.setLane l x).office = s.office := rfl
@[simp] theorem State.setLane_grants (x : Lane) : (s.setLane l x).grants = s.grants := rfl
@[simp] theorem State.setLane_forms (x : Lane) : (s.setLane l x).forms = s.forms := rfl
@[simp] theorem State.setLane_slots (x : Lane) : (s.setLane l x).slots = s.slots := rfl
@[simp] theorem State.setLane_scanner (x : Lane) : (s.setLane l x).scanner = s.scanner := rfl
@[simp] theorem State.setLane_packs (x : Lane) : (s.setLane l x).packs = s.packs := rfl
@[simp] theorem State.setLane_nextPack (x : Lane) : (s.setLane l x).nextPack = s.nextPack := rfl
@[simp] theorem State.setLane_census (x : Lane) : (s.setLane l x).census = s.census := rfl
@[simp] theorem State.setLane_discounts (x : Lane) : (s.setLane l x).discounts = s.discounts := rfl
@[simp] theorem State.setLane_limits (x : Lane) : (s.setLane l x).limits = s.limits := rfl
@[simp] theorem State.setLane_sessions (x : Lane) : (s.setLane l x).sessions = s.sessions := rfl
@[simp] theorem State.setLane_journal (x : Lane) : (s.setLane l x).journal = s.journal := rfl
@[simp] theorem State.setLane_journalInUse (x : Lane) : (s.setLane l x).journalInUse = s.journalInUse := rfl
@[simp] theorem State.setLane_journalReserved (x : Lane) : (s.setLane l x).journalReserved = s.journalReserved := rfl
@[simp] theorem State.setLane_faults (x : Lane) : (s.setLane l x).faults = s.faults := rfl
@[simp] theorem State.setLane_faultCounter (x : Lane) : (s.setLane l x).faultCounter = s.faultCounter := rfl
@[simp] theorem State.setLane_clock (x : Lane) : (s.setLane l x).clock = s.clock := rfl
@[simp] theorem State.setLane_runTime (x : Lane) : (s.setLane l x).runTime = s.runTime := rfl
@[simp] theorem State.setLane_storeValid (x : Lane) : (s.setLane l x).storeValid = s.storeValid := rfl
@[simp] theorem State.setLane_checkAgrees (x : Lane) : (s.setLane l x).checkAgrees = s.checkAgrees := rfl
@[simp] theorem State.setLane_pending (x : Lane) : (s.setLane l x).pending = s.pending := rfl

/-! ## setSlot -/

@[simp] theorem State.setSlot_phase (x : Slot) : (s.setSlot w k x).phase = s.phase := rfl
@[simp] theorem State.setSlot_powerFail (x : Slot) : (s.setSlot w k x).powerFail = s.powerFail := rfl
@[simp] theorem State.setSlot_windows (x : Slot) : (s.setSlot w k x).windows = s.windows := rfl
@[simp] theorem State.setSlot_office (x : Slot) : (s.setSlot w k x).office = s.office := rfl
@[simp] theorem State.setSlot_grants (x : Slot) : (s.setSlot w k x).grants = s.grants := rfl
@[simp] theorem State.setSlot_forms (x : Slot) : (s.setSlot w k x).forms = s.forms := rfl
@[simp] theorem State.setSlot_scanner (x : Slot) : (s.setSlot w k x).scanner = s.scanner := rfl
@[simp] theorem State.setSlot_lanes (x : Slot) : (s.setSlot w k x).lanes = s.lanes := rfl
@[simp] theorem State.setSlot_packs (x : Slot) : (s.setSlot w k x).packs = s.packs := rfl
@[simp] theorem State.setSlot_nextPack (x : Slot) : (s.setSlot w k x).nextPack = s.nextPack := rfl
@[simp] theorem State.setSlot_census (x : Slot) : (s.setSlot w k x).census = s.census := rfl
@[simp] theorem State.setSlot_discounts (x : Slot) : (s.setSlot w k x).discounts = s.discounts := rfl
@[simp] theorem State.setSlot_limits (x : Slot) : (s.setSlot w k x).limits = s.limits := rfl
@[simp] theorem State.setSlot_sessions (x : Slot) : (s.setSlot w k x).sessions = s.sessions := rfl
@[simp] theorem State.setSlot_journal (x : Slot) : (s.setSlot w k x).journal = s.journal := rfl
@[simp] theorem State.setSlot_journalInUse (x : Slot) : (s.setSlot w k x).journalInUse = s.journalInUse := rfl
@[simp] theorem State.setSlot_journalReserved (x : Slot) : (s.setSlot w k x).journalReserved = s.journalReserved := rfl
@[simp] theorem State.setSlot_faults (x : Slot) : (s.setSlot w k x).faults = s.faults := rfl
@[simp] theorem State.setSlot_faultCounter (x : Slot) : (s.setSlot w k x).faultCounter = s.faultCounter := rfl
@[simp] theorem State.setSlot_clock (x : Slot) : (s.setSlot w k x).clock = s.clock := rfl
@[simp] theorem State.setSlot_runTime (x : Slot) : (s.setSlot w k x).runTime = s.runTime := rfl
@[simp] theorem State.setSlot_storeValid (x : Slot) : (s.setSlot w k x).storeValid = s.storeValid := rfl
@[simp] theorem State.setSlot_checkAgrees (x : Slot) : (s.setSlot w k x).checkAgrees = s.checkAgrees := rfl
@[simp] theorem State.setSlot_pending (x : Slot) : (s.setSlot w k x).pending = s.pending := rfl

/-! ## setSession -/

@[simp] theorem State.setSession_phase (x : Session) : (s.setSession w x).phase = s.phase := rfl
@[simp] theorem State.setSession_powerFail (x : Session) : (s.setSession w x).powerFail = s.powerFail := rfl
@[simp] theorem State.setSession_windows (x : Session) : (s.setSession w x).windows = s.windows := rfl
@[simp] theorem State.setSession_office (x : Session) : (s.setSession w x).office = s.office := rfl
@[simp] theorem State.setSession_grants (x : Session) : (s.setSession w x).grants = s.grants := rfl
@[simp] theorem State.setSession_forms (x : Session) : (s.setSession w x).forms = s.forms := rfl
@[simp] theorem State.setSession_slots (x : Session) : (s.setSession w x).slots = s.slots := rfl
@[simp] theorem State.setSession_scanner (x : Session) : (s.setSession w x).scanner = s.scanner := rfl
@[simp] theorem State.setSession_lanes (x : Session) : (s.setSession w x).lanes = s.lanes := rfl
@[simp] theorem State.setSession_packs (x : Session) : (s.setSession w x).packs = s.packs := rfl
@[simp] theorem State.setSession_nextPack (x : Session) : (s.setSession w x).nextPack = s.nextPack := rfl
@[simp] theorem State.setSession_census (x : Session) : (s.setSession w x).census = s.census := rfl
@[simp] theorem State.setSession_discounts (x : Session) : (s.setSession w x).discounts = s.discounts := rfl
@[simp] theorem State.setSession_limits (x : Session) : (s.setSession w x).limits = s.limits := rfl
@[simp] theorem State.setSession_journal (x : Session) : (s.setSession w x).journal = s.journal := rfl
@[simp] theorem State.setSession_journalInUse (x : Session) : (s.setSession w x).journalInUse = s.journalInUse := rfl
@[simp] theorem State.setSession_journalReserved (x : Session) : (s.setSession w x).journalReserved = s.journalReserved := rfl
@[simp] theorem State.setSession_faults (x : Session) : (s.setSession w x).faults = s.faults := rfl
@[simp] theorem State.setSession_faultCounter (x : Session) : (s.setSession w x).faultCounter = s.faultCounter := rfl
@[simp] theorem State.setSession_clock (x : Session) : (s.setSession w x).clock = s.clock := rfl
@[simp] theorem State.setSession_runTime (x : Session) : (s.setSession w x).runTime = s.runTime := rfl
@[simp] theorem State.setSession_storeValid (x : Session) : (s.setSession w x).storeValid = s.storeValid := rfl
@[simp] theorem State.setSession_checkAgrees (x : Session) : (s.setSession w x).checkAgrees = s.checkAgrees := rfl
@[simp] theorem State.setSession_pending (x : Session) : (s.setSession w x).pending = s.pending := rfl

/-! ## setForm -/

@[simp] theorem State.setForm_phase (x : FormRecord) : (s.setForm f x).phase = s.phase := rfl
@[simp] theorem State.setForm_powerFail (x : FormRecord) : (s.setForm f x).powerFail = s.powerFail := rfl
@[simp] theorem State.setForm_windows (x : FormRecord) : (s.setForm f x).windows = s.windows := rfl
@[simp] theorem State.setForm_office (x : FormRecord) : (s.setForm f x).office = s.office := rfl
@[simp] theorem State.setForm_grants (x : FormRecord) : (s.setForm f x).grants = s.grants := rfl
@[simp] theorem State.setForm_slots (x : FormRecord) : (s.setForm f x).slots = s.slots := rfl
@[simp] theorem State.setForm_scanner (x : FormRecord) : (s.setForm f x).scanner = s.scanner := rfl
@[simp] theorem State.setForm_lanes (x : FormRecord) : (s.setForm f x).lanes = s.lanes := rfl
@[simp] theorem State.setForm_packs (x : FormRecord) : (s.setForm f x).packs = s.packs := rfl
@[simp] theorem State.setForm_nextPack (x : FormRecord) : (s.setForm f x).nextPack = s.nextPack := rfl
@[simp] theorem State.setForm_census (x : FormRecord) : (s.setForm f x).census = s.census := rfl
@[simp] theorem State.setForm_discounts (x : FormRecord) : (s.setForm f x).discounts = s.discounts := rfl
@[simp] theorem State.setForm_limits (x : FormRecord) : (s.setForm f x).limits = s.limits := rfl
@[simp] theorem State.setForm_sessions (x : FormRecord) : (s.setForm f x).sessions = s.sessions := rfl
@[simp] theorem State.setForm_journal (x : FormRecord) : (s.setForm f x).journal = s.journal := rfl
@[simp] theorem State.setForm_journalInUse (x : FormRecord) : (s.setForm f x).journalInUse = s.journalInUse := rfl
@[simp] theorem State.setForm_journalReserved (x : FormRecord) : (s.setForm f x).journalReserved = s.journalReserved := rfl
@[simp] theorem State.setForm_faults (x : FormRecord) : (s.setForm f x).faults = s.faults := rfl
@[simp] theorem State.setForm_faultCounter (x : FormRecord) : (s.setForm f x).faultCounter = s.faultCounter := rfl
@[simp] theorem State.setForm_clock (x : FormRecord) : (s.setForm f x).clock = s.clock := rfl
@[simp] theorem State.setForm_runTime (x : FormRecord) : (s.setForm f x).runTime = s.runTime := rfl
@[simp] theorem State.setForm_storeValid (x : FormRecord) : (s.setForm f x).storeValid = s.storeValid := rfl
@[simp] theorem State.setForm_checkAgrees (x : FormRecord) : (s.setForm f x).checkAgrees = s.checkAgrees := rfl
@[simp] theorem State.setForm_pending (x : FormRecord) : (s.setForm f x).pending = s.pending := rfl

/-! ## post -/

@[simp] theorem State.post_phase (n : Notice) : (s.post p n).phase = s.phase := by cases p <;> rfl
@[simp] theorem State.post_powerFail (n : Notice) : (s.post p n).powerFail = s.powerFail := by cases p <;> rfl
@[simp] theorem State.post_grants (n : Notice) : (s.post p n).grants = s.grants := by cases p <;> rfl
@[simp] theorem State.post_forms (n : Notice) : (s.post p n).forms = s.forms := by cases p <;> rfl
@[simp] theorem State.post_slots (n : Notice) : (s.post p n).slots = s.slots := by cases p <;> rfl
@[simp] theorem State.post_scanner (n : Notice) : (s.post p n).scanner = s.scanner := by cases p <;> rfl
@[simp] theorem State.post_lanes (n : Notice) : (s.post p n).lanes = s.lanes := by cases p <;> rfl
@[simp] theorem State.post_packs (n : Notice) : (s.post p n).packs = s.packs := by cases p <;> rfl
@[simp] theorem State.post_nextPack (n : Notice) : (s.post p n).nextPack = s.nextPack := by cases p <;> rfl
@[simp] theorem State.post_census (n : Notice) : (s.post p n).census = s.census := by cases p <;> rfl
@[simp] theorem State.post_discounts (n : Notice) : (s.post p n).discounts = s.discounts := by cases p <;> rfl
@[simp] theorem State.post_limits (n : Notice) : (s.post p n).limits = s.limits := by cases p <;> rfl
@[simp] theorem State.post_sessions (n : Notice) : (s.post p n).sessions = s.sessions := by cases p <;> rfl
@[simp] theorem State.post_journal (n : Notice) : (s.post p n).journal = s.journal := by cases p <;> rfl
@[simp] theorem State.post_journalInUse (n : Notice) : (s.post p n).journalInUse = s.journalInUse := by cases p <;> rfl
@[simp] theorem State.post_journalReserved (n : Notice) : (s.post p n).journalReserved = s.journalReserved := by cases p <;> rfl
@[simp] theorem State.post_faults (n : Notice) : (s.post p n).faults = s.faults := by cases p <;> rfl
@[simp] theorem State.post_faultCounter (n : Notice) : (s.post p n).faultCounter = s.faultCounter := by cases p <;> rfl
@[simp] theorem State.post_clock (n : Notice) : (s.post p n).clock = s.clock := by cases p <;> rfl
@[simp] theorem State.post_runTime (n : Notice) : (s.post p n).runTime = s.runTime := by cases p <;> rfl
@[simp] theorem State.post_storeValid (n : Notice) : (s.post p n).storeValid = s.storeValid := by cases p <;> rfl
@[simp] theorem State.post_checkAgrees (n : Notice) : (s.post p n).checkAgrees = s.checkAgrees := by cases p <;> rfl
@[simp] theorem State.post_pending (n : Notice) : (s.post p n).pending = s.pending := by cases p <;> rfl

/-! ## postEvery -/

@[simp] theorem State.postEvery_phase (n : Notice) : (s.postEvery n).phase = s.phase := rfl
@[simp] theorem State.postEvery_powerFail (n : Notice) : (s.postEvery n).powerFail = s.powerFail := rfl
@[simp] theorem State.postEvery_grants (n : Notice) : (s.postEvery n).grants = s.grants := rfl
@[simp] theorem State.postEvery_forms (n : Notice) : (s.postEvery n).forms = s.forms := rfl
@[simp] theorem State.postEvery_slots (n : Notice) : (s.postEvery n).slots = s.slots := rfl
@[simp] theorem State.postEvery_scanner (n : Notice) : (s.postEvery n).scanner = s.scanner := rfl
@[simp] theorem State.postEvery_lanes (n : Notice) : (s.postEvery n).lanes = s.lanes := rfl
@[simp] theorem State.postEvery_packs (n : Notice) : (s.postEvery n).packs = s.packs := rfl
@[simp] theorem State.postEvery_nextPack (n : Notice) : (s.postEvery n).nextPack = s.nextPack := rfl
@[simp] theorem State.postEvery_census (n : Notice) : (s.postEvery n).census = s.census := rfl
@[simp] theorem State.postEvery_discounts (n : Notice) : (s.postEvery n).discounts = s.discounts := rfl
@[simp] theorem State.postEvery_limits (n : Notice) : (s.postEvery n).limits = s.limits := rfl
@[simp] theorem State.postEvery_sessions (n : Notice) : (s.postEvery n).sessions = s.sessions := rfl
@[simp] theorem State.postEvery_journal (n : Notice) : (s.postEvery n).journal = s.journal := rfl
@[simp] theorem State.postEvery_journalInUse (n : Notice) : (s.postEvery n).journalInUse = s.journalInUse := rfl
@[simp] theorem State.postEvery_journalReserved (n : Notice) : (s.postEvery n).journalReserved = s.journalReserved := rfl
@[simp] theorem State.postEvery_faults (n : Notice) : (s.postEvery n).faults = s.faults := rfl
@[simp] theorem State.postEvery_faultCounter (n : Notice) : (s.postEvery n).faultCounter = s.faultCounter := rfl
@[simp] theorem State.postEvery_clock (n : Notice) : (s.postEvery n).clock = s.clock := rfl
@[simp] theorem State.postEvery_runTime (n : Notice) : (s.postEvery n).runTime = s.runTime := rfl
@[simp] theorem State.postEvery_storeValid (n : Notice) : (s.postEvery n).storeValid = s.storeValid := rfl
@[simp] theorem State.postEvery_checkAgrees (n : Notice) : (s.postEvery n).checkAgrees = s.checkAgrees := rfl
@[simp] theorem State.postEvery_pending (n : Notice) : (s.postEvery n).pending = s.pending := rfl

/-! ## What the records read as -/

theorem State.port_ext {s t : State} (hw : t.windows = s.windows) (ho : t.office = s.office) :
    t.port p = s.port p := by
  cases p <;> simp [State.port, hw, ho]

@[simp] theorem State.setPort_port_self (x : PortState) : (s.setPort p x).port p = x := by
  cases p <;> simp [State.setPort, State.port]

theorem State.setPort_port_ne {p q : Port} (h : q ≠ p) (x : PortState) :
    (s.setPort p x).port q = s.port q := by
  cases p with
  | office => cases q <;> simp_all [State.setPort, State.port]
  | window w =>
    cases q with
    | office => rfl
    | window v =>
      simp only [State.setPort, State.port]
      exact Vector.getElem_set_ne _ _ (fun e => h (congrArg Port.window (Fin.ext e.symm)))

@[simp] theorem State.setLane_lane_self (x : Lane) : (s.setLane l x).lane l = x := by
  simp [State.setLane, State.lane]

theorem State.setLane_lane_ne {l m : LaneId} (h : m ≠ l) (x : Lane) :
    (s.setLane l x).lane m = s.lane m := by
  simp only [State.setLane, State.lane]
  exact Vector.getElem_set_ne _ _ (fun e => h (Fin.ext e.symm))

@[simp] theorem State.setSession_session_self (x : Session) :
    (s.setSession w x).session w = x := by
  simp [State.setSession, State.session]

theorem State.setSession_session_ne {w v : Window} (h : v ≠ w) (x : Session) :
    (s.setSession w x).session v = s.session v := by
  simp only [State.setSession, State.session]
  exact Vector.getElem_set_ne _ _ (fun e => h (Fin.ext e.symm))

@[simp] theorem State.setForm_form_self (x : FormRecord) : (s.setForm f x).form f = x := by
  simp [State.setForm, State.form]

theorem State.setForm_form_ne {f g : Fin 8} (h : g ≠ f) (x : FormRecord) :
    (s.setForm f x).form g = s.form g := by
  simp only [State.setForm, State.form]
  exact Vector.getElem_set_ne _ _ (fun e => h (Fin.ext e.symm))

@[simp] theorem State.setSlot_slot_self (x : Slot) : (s.setSlot w k x).slot w k = x := by
  simp [State.setSlot, State.slot]

theorem State.setSlot_slot_ne {w v : Window} {k j : SlotId} (h : (v, j) ≠ (w, k)) (x : Slot) :
    (s.setSlot w k x).slot v j = s.slot v j := by
  simp only [State.setSlot, State.slot]
  by_cases e : v = w
  · subst e
    have hj : j ≠ k := fun e => h (by rw [e])
    simp only [Fin.getElem_fin, Vector.getElem_set_self]
    exact Vector.getElem_set_ne _ _ (fun e => hj (Fin.ext e.symm))
  · exact congrArg (fun r : Vector Slot 8 => r[j])
      (Vector.getElem_set_ne _ _ (fun x => e (Fin.ext x.symm)))

/-! ## A record read after another kind of record is written -/

@[simp] theorem State.setPort_lane (x : PortState) (a : LaneId) : (s.setPort p x).lane a = s.lane a := by cases p <;> rfl
@[simp] theorem State.setPort_slot (x : PortState) (a : Window) (b : SlotId) : (s.setPort p x).slot a b = s.slot a b := by cases p <;> rfl
@[simp] theorem State.setPort_job (x : PortState) (a : Window) (b : SlotId) : (s.setPort p x).job a b = s.job a b := by cases p <;> rfl
@[simp] theorem State.setPort_session (x : PortState) (a : Window) : (s.setPort p x).session a = s.session a := by cases p <;> rfl
@[simp] theorem State.setPort_form (x : PortState) (a : Fin 8) : (s.setPort p x).form a = s.form a := by cases p <;> rfl

@[simp] theorem State.setLane_port (x : Lane) (a : Port) : (s.setLane l x).port a = s.port a := State.port_ext a rfl rfl
@[simp] theorem State.setLane_slot (x : Lane) (a : Window) (b : SlotId) : (s.setLane l x).slot a b = s.slot a b := rfl
@[simp] theorem State.setLane_job (x : Lane) (a : Window) (b : SlotId) : (s.setLane l x).job a b = s.job a b := rfl
@[simp] theorem State.setLane_session (x : Lane) (a : Window) : (s.setLane l x).session a = s.session a := rfl
@[simp] theorem State.setLane_form (x : Lane) (a : Fin 8) : (s.setLane l x).form a = s.form a := rfl

@[simp] theorem State.setSlot_port (x : Slot) (a : Port) : (s.setSlot w k x).port a = s.port a := State.port_ext a rfl rfl
@[simp] theorem State.setSlot_lane (x : Slot) (a : LaneId) : (s.setSlot w k x).lane a = s.lane a := rfl
@[simp] theorem State.setSlot_session (x : Slot) (a : Window) : (s.setSlot w k x).session a = s.session a := rfl
@[simp] theorem State.setSlot_form (x : Slot) (a : Fin 8) : (s.setSlot w k x).form a = s.form a := rfl

@[simp] theorem State.setSession_port (x : Session) (a : Port) : (s.setSession w x).port a = s.port a := State.port_ext a rfl rfl
@[simp] theorem State.setSession_lane (x : Session) (a : LaneId) : (s.setSession w x).lane a = s.lane a := rfl
@[simp] theorem State.setSession_slot (x : Session) (a : Window) (b : SlotId) : (s.setSession w x).slot a b = s.slot a b := rfl
@[simp] theorem State.setSession_job (x : Session) (a : Window) (b : SlotId) : (s.setSession w x).job a b = s.job a b := rfl
@[simp] theorem State.setSession_form (x : Session) (a : Fin 8) : (s.setSession w x).form a = s.form a := rfl

@[simp] theorem State.setForm_port (x : FormRecord) (a : Port) : (s.setForm f x).port a = s.port a := State.port_ext a rfl rfl
@[simp] theorem State.setForm_lane (x : FormRecord) (a : LaneId) : (s.setForm f x).lane a = s.lane a := rfl
@[simp] theorem State.setForm_slot (x : FormRecord) (a : Window) (b : SlotId) : (s.setForm f x).slot a b = s.slot a b := rfl
@[simp] theorem State.setForm_job (x : FormRecord) (a : Window) (b : SlotId) : (s.setForm f x).job a b = s.job a b := rfl
@[simp] theorem State.setForm_session (x : FormRecord) (a : Window) : (s.setForm f x).session a = s.session a := rfl

@[simp] theorem State.post_lane (n : Notice) (a : LaneId) : (s.post p n).lane a = s.lane a := by cases p <;> rfl
@[simp] theorem State.post_slot (n : Notice) (a : Window) (b : SlotId) : (s.post p n).slot a b = s.slot a b := by cases p <;> rfl
@[simp] theorem State.post_job (n : Notice) (a : Window) (b : SlotId) : (s.post p n).job a b = s.job a b := by cases p <;> rfl
@[simp] theorem State.post_session (n : Notice) (a : Window) : (s.post p n).session a = s.session a := by cases p <;> rfl
@[simp] theorem State.post_form (n : Notice) (a : Fin 8) : (s.post p n).form a = s.form a := by cases p <;> rfl

@[simp] theorem State.postEvery_lane (n : Notice) (a : LaneId) : (s.postEvery n).lane a = s.lane a := rfl
@[simp] theorem State.postEvery_slot (n : Notice) (a : Window) (b : SlotId) : (s.postEvery n).slot a b = s.slot a b := rfl
@[simp] theorem State.postEvery_job (n : Notice) (a : Window) (b : SlotId) : (s.postEvery n).job a b = s.job a b := rfl
@[simp] theorem State.postEvery_session (n : Notice) (a : Window) : (s.postEvery n).session a = s.session a := rfl
@[simp] theorem State.postEvery_form (n : Notice) (a : Fin 8) : (s.postEvery n).form a = s.form a := rfl

/-! ## A part of a taking without its notices -/

variable (u : State → State)

@[simp] theorem State.unposted_port (a : Port) : (s.unposted u).port a = s.port a := by
  cases a <;> rfl
@[simp] theorem State.unposted_lane (a : LaneId) : (s.unposted u).lane a = (u s).lane a := rfl
@[simp] theorem State.unposted_slot (a : Window) (b : SlotId) :
    (s.unposted u).slot a b = (u s).slot a b := rfl
@[simp] theorem State.unposted_session (a : Window) :
    (s.unposted u).session a = (u s).session a := rfl
@[simp] theorem State.unposted_form (a : Fin 8) : (s.unposted u).form a = (u s).form a := rfl
@[simp] theorem State.unposted_packs : (s.unposted u).packs = (u s).packs := rfl
@[simp] theorem State.unposted_census : (s.unposted u).census = (u s).census := rfl
@[simp] theorem State.unposted_journal : (s.unposted u).journal = (u s).journal := rfl
@[simp] theorem State.unposted_faults : (s.unposted u).faults = (u s).faults := rfl

/-! ## Ports after a posting -/

@[simp] theorem State.post_rx (n : Notice) (a : Port) : ((s.post p n).port a).rx = (s.port a).rx := by
  by_cases h : a = p
  · subst h
    simp [State.post, PortState.posted]
  · simp [State.post, State.setPort_port_ne s h]

@[simp] theorem State.post_tx (n : Notice) (a : Port) : ((s.post p n).port a).tx = (s.port a).tx := by
  by_cases h : a = p
  · subst h
    simp [State.post, PortState.posted]
  · simp [State.post, State.setPort_port_ne s h]

@[simp] theorem State.post_queue_self (n : Notice) :
    ((s.post p n).port p).queue = coalesce (s.port p).queue n := by
  simp [State.post, PortState.posted]

theorem State.post_port_ne {p q : Port} (h : q ≠ p) (n : Notice) :
    (s.post p n).port q = s.port q := by
  simp [State.post, State.setPort_port_ne s h]

theorem State.postEvery_port (n : Notice) (a : Port) :
    (s.postEvery n).port a = (s.port a).posted n := by
  cases a <;> simp [State.postEvery, State.port]

@[simp] theorem State.postEvery_rx (n : Notice) (a : Port) :
    ((s.postEvery n).port a).rx = (s.port a).rx := by
  simp [State.postEvery_port, PortState.posted]

@[simp] theorem State.postEvery_tx (n : Notice) (a : Port) :
    ((s.postEvery n).port a).tx = (s.port a).tx := by
  simp [State.postEvery_port, PortState.posted]

@[simp] theorem State.postEvery_queue (n : Notice) (a : Port) :
    ((s.postEvery n).port a).queue = coalesce (s.port a).queue n := by
  simp [State.postEvery_port, PortState.posted]

end Sys2Proof.Machine
end

