-- ==== Sys2Proof/Laws/Frames.lean ====
section
/-! SUPPORT. What each shared operation may change, as the parts of State that `State.changesOnly` names:
one lemma for each operation, composed from those of the operations it calls. -/

namespace Sys2Proof.Machine

/-! ## The frame relation -/

theorem State.same_refl (s : State) (x : Part) : s.same s x := by
  cases x <;> simp [State.same]

theorem State.same_trans {s t u : State} {x : Part} (h : s.same t x) (h' : t.same u x) :
    s.same u x := by
  cases x <;> simp_all [State.same]

theorem State.changesOnly_refl (s : State) (a : List Part) : s.changesOnly s a :=
  fun x _ => s.same_refl x

theorem State.changesOnly_mono {s t : State} {a b : List Part} (h : s.changesOnly t a)
    (sub : a ⊆ b := by decide) : s.changesOnly t b :=
  fun x hx => h x fun hm => hx (sub hm)

/-- Two operations in a row change what either changes. -/
theorem State.changesOnly_then {s t u : State} {a b c : List Part} (h : s.changesOnly t a)
    (h' : t.changesOnly u b) (sub : a ++ b ⊆ c := by decide) : s.changesOnly u c :=
  fun x hx =>
    State.same_trans (h x fun hm => hx (sub (List.mem_append_left b hm)))
      (h' x fun hm => hx (sub (List.mem_append_right a hm)))

theorem State.changesOnly_ite {s t u : State} {a : List Part} {c : Prop} [Decidable c]
    (h : s.changesOnly t a) (h' : s.changesOnly u a) : s.changesOnly (if c then t else u) a := by
  split
  · exact h
  · exact h'

/-- A part that is not among those an operation changes. -/
theorem State.changesOnly_same {s t : State} {a : List Part} (h : s.changesOnly t a) (x : Part)
    (hx : x ∉ a := by decide) : s.same t x := h x hx

/-- A list of operations, each of which changes only the parts `a`. -/
theorem State.changesOnly_foldl {α : Type} {a : List Part} (f : State → α → State)
    (h : ∀ (s : State) (x : α), s.changesOnly (f s x) a) : ∀ (xs : List α) (s : State),
    s.changesOnly (xs.foldl f s) a
  | [], s => s.changesOnly_refl a
  | x :: xs, s =>
    State.changesOnly_then (h s x) (State.changesOnly_foldl f h xs (f s x))
      (List.append_subset.2 ⟨List.Subset.refl a, List.Subset.refl a⟩)

variable (s : State) (p : Port) (l : LaneId) (w : Window) (k : SlotId)

/-! ## Records and notices -/

theorem State.post_frame (n : Notice) : s.changesOnly (s.post p n) [.queues] := by
  intro x hx
  cases x <;> simp_all [State.same]

theorem State.postEvery_frame (n : Notice) : s.changesOnly (s.postEvery n) [.queues] := by
  intro x hx
  cases x <;> simp_all [State.same]

theorem State.postLane_frame : s.changesOnly (s.postLane l) [.queues] := s.postEvery_frame _

theorem State.postOffice_frame (a : NoticeKind) (o : NoticeObject) :
    s.changesOnly (s.postOffice a o) [.queues] := s.post_frame _ _

theorem State.postSession_frame : s.changesOnly (s.postSession w) [.queues] :=
  State.changesOnly_then (s.post_frame _ _) (State.post_frame _ _ _)

theorem State.postReport_frame (src : FaultSource) : s.changesOnly (s.postReport src) [.queues] := by
  cases src with
  | lane l => exact State.changesOnly_then (s.postOffice_frame _ _) (State.postLane_frame _ l)
  | controller => exact s.postOffice_frame _ _

theorem State.setLane_frame (x : Lane) : s.changesOnly (s.setLane l x) [.lanes] := by
  intro y hy
  cases y <;> simp_all [State.same]

theorem State.setSlot_frame (x : Slot) : s.changesOnly (s.setSlot w k x) [.slots] := by
  intro y hy
  cases y <;> simp_all [State.same]

theorem State.setSession_frame (x : Session) : s.changesOnly (s.setSession w x) [.sessions] := by
  intro y hy
  cases y <;> simp_all [State.same]

theorem State.setForm_frame (f : Fin 8) (x : FormRecord) : s.changesOnly (s.setForm f x) [.forms] := by
  intro y hy
  cases y <;> simp_all [State.same]

theorem State.setPort_frame (x : PortState) :
    s.changesOnly (s.setPort p x) [.receivers, .queues] := by
  intro y hy
  cases y <;> simp_all [State.same]

/-- A port's receiver and answer written, its queue kept. -/
theorem State.setReceiver_frame (rx : Receiver) (tx : Option Answer) :
    s.changesOnly (s.setPort p { s.port p with rx := rx, tx := tx }) [.receivers] := by
  intro y hy
  cases y <;> simp_all [State.same]
  intro q
  by_cases h : q = p
  · subst h
    simp
  · simp [State.setPort_port_ne s h]

theorem State.mapJob_frame (f : Job → Job) : s.changesOnly (s.mapJob w k f) [.slots] :=
  s.setSlot_frame _ _ _

theorem State.moveLane_frame (f : Lane → Lane) :
    s.changesOnly (s.moveLane l f) [.lanes, .queues] :=
  State.changesOnly_ite
    (State.changesOnly_then (s.setLane_frame l _) (State.postLane_frame _ l))
    (State.changesOnly_mono (s.setLane_frame l _))

/-! ## Packs and marks -/

theorem State.updatePack_frame (n : Nat) (f : Pack → Pack) :
    s.changesOnly (s.updatePack n f) [.packs, .queues] := by
  refine State.changesOnly_then (t := { s with packs := _ }) (b := [.queues]) (a := [.packs]) ?_
    (State.postOffice_frame _ _ _)
  intro y hy
  cases y <;> simp_all [State.same] <;> intros <;> first | exact ⟨rfl, rfl⟩ | rfl

theorem State.stockLow_frame (a b : Pack) : s.changesOnly (s.stockLow a b) [.queues] := by
  unfold State.stockLow
  cases a.lane with
  | none => exact s.changesOnly_refl _
  | some l => exact State.changesOnly_ite (s.postLane_frame l) (s.changesOnly_refl _)

theorem State.setCensus_frame (c : Census) : s.changesOnly { s with census := c } [.census] := by
  intro y hy
  cases y <;> simp_all [State.same] <;> intros <;> first | exact ⟨rfl, rfl⟩ | rfl

theorem State.remark_frame (a : Pack) (n : Nat) (old new : Mark) :
    s.changesOnly (s.remark a n old new) [.packs, .queues, .census] :=
  State.changesOnly_then
    (State.changesOnly_then (s.updatePack_frame _ _) (State.stockLow_frame _ _ _)
      (c := [.packs, .queues]))
    (State.setCensus_frame _ _)

theorem State.changeMark_frame (cls serial : Nat) (new : Mark) :
    s.changesOnly (s.changeMark cls serial new) [.packs, .queues, .census] := by
  unfold State.changeMark
  split
  · exact s.changesOnly_refl _
  · split
    · exact s.changesOnly_refl _
    · exact State.changesOnly_ite (s.remark_frame _ _ _ _) (s.changesOnly_refl _)

theorem State.markUnused_frame (cls : Nat) (new : Mark) (serials : List Nat) :
    s.changesOnly (s.markUnused cls new serials) [.packs, .queues, .census] :=
  State.changesOnly_foldl _
    (fun t r => State.changesOnly_ite (t.changeMark_frame cls r new) (t.changesOnly_refl _)) serials s

/-! ## The journal -/

theorem State.reserve_frame (n : Nat) : s.changesOnly (s.reserve w n) [.sessions, .journal] := by
  intro y hy
  cases y <;> simp_all [State.same, State.reserve] <;> intros <;> first | exact ⟨rfl, rfl⟩ | rfl

theorem State.unreserve_frame (n : Nat) :
    s.changesOnly (s.unreserve w n) [.sessions, .journal] := by
  intro y hy
  cases y <;> simp_all [State.same, State.unreserve] <;> intros <;> first | exact ⟨rfl, rfl⟩ | rfl

theorem State.addEntry_frame (x : Session) (es : List JournalEntry) (n : Nat) :
    s.changesOnly { s.setSession w x with journal := es, journalInUse := n }
      [.sessions, .journal] := by
  intro y hy
  cases y <;> simp_all [State.same] <;> intros <;> first | exact ⟨rfl, rfl⟩ | rfl

theorem State.writeEntry_frame (d : EntryData) :
    s.changesOnly (s.writeEntry w d) [.sessions, .journal, .packs, .queues] :=
  State.changesOnly_then
    (State.changesOnly_then (s.addEntry_frame w _ _ _) (State.updatePack_frame _ _ _)
      (c := [.sessions, .journal, .packs, .queues]))
    (State.postSession_frame _ w)

theorem State.releaseJob_frame :
    s.changesOnly (s.releaseJob w k) [.sessions, .journal, .slots] := by
  unfold State.releaseJob
  split
  · exact State.changesOnly_then (s.unreserve_frame w _) (State.mapJob_frame _ w k _)
  · exact s.changesOnly_refl _

theorem State.writeJobEntry_frame (d : EntryData) :
    s.changesOnly (s.writeJobEntry w k d) [.sessions, .journal, .slots, .packs, .queues] :=
  State.changesOnly_then
    (State.changesOnly_then (s.unreserve_frame w _) (State.mapJob_frame _ w k _)
      (c := [.sessions, .journal, .slots]))
    (State.writeEntry_frame _ w d)

/-! ## Claims, forms and outcomes -/

theorem State.reportEligible_frame : s.changesOnly s.reportEligible [.lanes] := by
  intro y hy
  cases y <;> simp_all [State.same, State.reportEligible] <;> intros <;> first | exact ⟨rfl, rfl⟩ | rfl

theorem State.reportJob_frame : s.changesOnly (s.reportJob w k) [.lanes] := by
  unfold State.reportJob
  split
  · exact State.changesOnly_ite s.reportEligible_frame (s.changesOnly_refl _)
  · exact s.changesOnly_refl _

theorem State.applyPending_frame (f : Fin 8) :
    s.changesOnly (s.applyPending f) [.forms, .queues, .lanes] := by
  have h : s.changesOnly (s.setForm f (s.form f).applied).postForms [.forms, .queues, .lanes] :=
    State.changesOnly_then (s.setForm_frame f _) (State.postOffice_frame _ _ _)
  exact State.changesOnly_ite
    (State.changesOnly_ite (State.changesOnly_then h (State.reportEligible_frame _)) h)
    (s.changesOnly_refl _)

theorem State.unbind_frame (f : Fin 8) (g : Option Nat) :
    s.changesOnly (s.unbind f g) [.forms, .queues, .lanes] := by
  cases g with
  | none => exact s.changesOnly_refl _
  | some g =>
    exact State.changesOnly_ite
      (State.changesOnly_then (s.setForm_frame f _) (State.applyPending_frame _ f))
      (State.changesOnly_mono (s.setForm_frame f _))

theorem State.postOutcome_frame (o : SlotOutcome) :
    s.changesOnly (s.postOutcome w k o) [.slots, .queues] :=
  State.changesOnly_then (s.setSlot_frame w k _) (State.post_frame _ _ _)

theorem State.endJob_frame (st : JobState) (o : SlotOutcome) :
    s.changesOnly (s.endJob w k st o)
      [.slots, .sessions, .journal, .forms, .queues, .lanes] := by
  unfold State.endJob
  split
  · refine State.changesOnly_then (c := [.slots, .sessions, .journal, .forms, .queues, .lanes])
      (State.changesOnly_then (c := [.slots, .sessions, .journal, .forms, .queues, .lanes])
        (State.changesOnly_then (c := [.slots, .sessions, .journal])
          (s.mapJob_frame w k _) (State.releaseJob_frame _ w k))
        (State.unbind_frame _ _ _))
      (State.postOutcome_frame _ w k o)
  · exact s.changesOnly_refl _

theorem State.handBack_frame : s.changesOnly (s.handBack w k) [.slots, .lanes] :=
  State.changesOnly_then (s.mapJob_frame w k _) (State.reportJob_frame _ w k)

theorem State.spoilJob_frame (r : OutcomeReason) (cls serial : Nat) :
    s.changesOnly (s.spoilJob w k r cls serial)
      [.slots, .sessions, .journal, .forms, .queues, .lanes] := by
  unfold State.spoilJob
  split
  · exact s.changesOnly_refl _
  · refine State.changesOnly_ite
      (State.changesOnly_then (s.mapJob_frame w k _) (State.endJob_frame _ w k _ _)) ?_
    exact State.changesOnly_then (c := [.slots, .sessions, .journal, .forms, .queues, .lanes])
      (State.changesOnly_then (c := [.slots, .queues])
        (State.changesOnly_then (c := [.slots]) (s.mapJob_frame w k _) (State.mapJob_frame _ w k _))
        (State.postOutcome_frame _ w k _))
      (State.reportJob_frame _ w k)

/-! ## Fault reports -/

theorem State.setFaults_frame (rs : List Report) (n : Nat) :
    s.changesOnly { s with faults := rs, faultCounter := n } [.faults] := by
  intro y hy
  cases y <;> simp_all [State.same] <;> intros <;> first | exact ⟨rfl, rfl⟩ | rfl

theorem State.mapReports_frame (f : Report → Report) : s.changesOnly (s.mapReports f) [.faults] :=
  s.setFaults_frame _ _

theorem State.ageFaults_frame : s.changesOnly s.ageFaults [.faults, .queues] := by
  unfold State.ageFaults
  refine State.changesOnly_ite (s.changesOnly_refl _) ?_
  split
  · exact State.changesOnly_then (s.setFaults_frame _ _) (State.postReport_frame _ _)
  · exact s.changesOnly_refl _

theorem State.addReport_frame (src : FaultSource) (a : FaultKind) (n : Option Nat)
    (c : FaultContext) : s.changesOnly (s.addReport src a n c) [.faults, .queues] :=
  State.changesOnly_then
    (State.changesOnly_then (c := [.faults, .queues]) s.ageFaults_frame (State.setFaults_frame _ _ _))
    (State.postReport_frame _ src)

theorem State.addOccurrence_frame (src : FaultSource) (n : Nat) (o : Option FaultKind) :
    s.changesOnly (s.addOccurrence src n o) [.faults, .queues] :=
  State.changesOnly_then (s.mapReports_frame _) (State.postReport_frame _ src)

theorem State.raiseLane_frame (a : FaultKind) (c : FaultContext) :
    s.changesOnly (s.raiseLane l a c) [.faults, .queues] := by
  unfold State.raiseLane
  dsimp only
  split
  · exact s.addOccurrence_frame _ _ _
  · split
    · exact s.addReport_frame _ _ _ _
    · exact s.addReport_frame _ _ _ _
    · exact s.addOccurrence_frame _ _ _

theorem State.raiseController_frame (a : FaultKind) (c : FaultContext) :
    s.changesOnly (s.raiseController a c) [.faults, .queues] := by
  unfold State.raiseController
  split
  · exact s.addOccurrence_frame _ _ _
  · exact s.addReport_frame _ _ _ _

theorem State.promote_frame : s.changesOnly (s.promote l) [.faults] :=
  State.changesOnly_ite (s.changesOnly_refl _) (s.mapReports_frame _)

theorem State.clearByWithdrawal_frame :
    s.changesOnly (s.clearByWithdrawal l) [.faults, .queues] :=
  State.changesOnly_ite (s.changesOnly_refl _)
    (State.changesOnly_then (s.mapReports_frame _) (State.postOffice_frame _ _ _))

/-- A part of a taking that posts nothing keeps every port. -/
theorem State.unposted_frame {f : State → State} {a : List Part}
    (h : s.changesOnly (f s) (.queues :: .receivers :: a)) : s.changesOnly (s.unposted f) a := by
  intro x hx
  have port : ∀ q, (s.unposted f).port q = s.port q := fun q => by cases q <;> rfl
  have h := h x
  simp only [List.mem_cons, hx, or_false] at h
  cases x <;> simp_all [State.same, State.unposted]

theorem State.applyMode_frame (a : Pack) (m : WithdrawMode) :
    s.changesOnly (s.applyMode a m) [.packs, .queues, .census] := by
  unfold State.applyMode
  dsimp only
  split
  · exact State.changesOnly_then (s.updatePack_frame _ _) (State.markUnused_frame _ _ _ _)
  · exact State.changesOnly_mono (s.updatePack_frame _ _)

theorem State.releaseLane_frame (a : Pack) (m : WithdrawMode) :
    s.changesOnly (s.releaseLane l a m) [.lanes, .packs, .census] :=
  s.unposted_frame
    (State.changesOnly_then
      (State.changesOnly_then (c := [.lanes, .packs, .queues, .census]) (s.moveLane_frame l _)
        (State.applyMode_frame _ a m))
      (State.moveLane_frame _ l _))

theorem State.selfClear_frame : s.changesOnly (s.selfClear l) [.faults, .queues] :=
  State.changesOnly_ite
    (State.changesOnly_then
      (State.changesOnly_then (c := [.faults]) (s.mapReports_frame _) (State.promote_frame _ l))
      (State.postReport_frame _ _))
    (s.changesOnly_refl _)

theorem State.countRefusal_frame : s.changesOnly (s.countRefusal l) [.faults, .queues] := by
  unfold State.countRefusal
  split
  · exact State.changesOnly_then (s.mapReports_frame _) (State.postReport_frame _ _)
  · exact s.changesOnly_refl _

/-! ## Requests -/

theorem State.answerWith_frame (a g : Byte) (r : Reply) :
    s.changesOnly (s.answerWith p a g r) [.receivers] := s.setReceiver_frame p _ _

theorem State.reachBlock_frame (a : RequestKind) :
    s.changesOnly (s.reachBlock p a) [.sessions] := by
  cases p with
  | office => exact s.changesOnly_refl _
  | window w => exact State.changesOnly_ite (s.setSession_frame w _) (s.changesOnly_refl _)

/-- A request changes what its block changes, and the port's receiver. -/
theorem State.request_frame {β : Type} (g : Byte) (a : RequestKind) (body : Body β)
    (own fits : β → Bool) (take : β → State → State × Reply) (parts : List Part)
    (h : ∀ b t, State.changesOnly t (take b t).1 parts) :
    s.changesOnly (s.request p g a body own fits take) (.receivers :: .sessions :: parts) := by
  unfold State.request
  refine State.changesOnly_ite ?_ (s.changesOnly_refl _)
  split
  · exact State.changesOnly_mono (s.answerWith_frame p _ _ _) (by simp)
  · split
    · exact State.changesOnly_mono (s.answerWith_frame p _ _ _) (by simp)
    · exact State.changesOnly_then (c := .receivers :: .sessions :: parts)
        (State.changesOnly_then (c := .sessions :: parts) (s.reachBlock_frame p a) (h _ _) (by simp))
        (State.answerWith_frame _ p _ _ _) (by simp)

/-- The journal holds the blank's ISSUE entry under another window (08 R157). -/
theorem State.issuedElsewhere_iff (w : Window) (cls serial : Nat) :
    s.issuedElsewhere w cls serial = true ↔
      ∃ x ∈ s.journal, x.window ≠ w ∧ x.data.kind = .issue ∧ x.data.cls = cls ∧
        x.data.serial = serial := by
  simp [State.issuedElsewhere, and_assoc]

/-- What a relock makes of a report (10 R181): one that was not the lane's ACTIVE CABINET_OPEN stands as
it was; that one leaves ACTIVE, or takes its last other kind. -/
theorem Report.relock_cases (r : Report) (l : LaneId) (x : Stamp) :
    (r.relock l x = r ∧ ¬(r.isActive = true ∧ r.source = .lane l ∧ r.kind = .cabinetOpen)) ∨
    (r.isActive = true ∧ r.source = .lane l ∧ r.kind = .cabinetOpen ∧
      ((r.lastOther = none ∧ r.relock l x = r.leave .cleared .self x) ∨
        ∃ k, r.lastOther = some k ∧ r.relock l x = { r with kind := k, lastOther := none })) := by
  unfold Report.relock
  split
  · rename_i h
    simp only [Bool.and_eq_true, beq_iff_eq, and_assoc] at h
    refine .inr ⟨h.1, h.2.1, h.2.2, ?_⟩
    split
    · exact .inl ⟨‹_›, rfl⟩
    · exact .inr ⟨_, ‹_›, rfl⟩
  · rename_i h
    simp only [Bool.and_eq_true, beq_iff_eq, and_assoc] at h
    exact .inl ⟨rfl, h⟩

end Sys2Proof.Machine
end

