-- ==== Sys2Proof/WellFormed.lean ====
section
/-! DEFINITION. Which commands a frame can carry: every number fits four bytes (no value the manual
names is as large as 2^32), and the lists fit the 600 bytes of a body (01 R2, R4). The ranges of the
fields are the owning blocks' checks and no part of this (01 R6 step 3). `exec` is total and does not
ask for it. DEDUCED from R2 and the greatest ranges of the chapters (log entry 3). -/

namespace Sys2Proof

/-- A number that four bytes hold. -/
def fitsWord (n : Nat) : Bool := n < 2 ^ 32

/-- Content lines that fit a body, each sent as a count and its characters (03 R41). -/
def fitsLines (lines : List Text) : Bool :=
  (lines.map fun t => t.length + 1).sum ≤ Config.maxBody

/-- A list of `size`-byte items that fits a body. -/
def fitsList {α : Type} (size : Nat) (items : List α) : Bool :=
  items.length * size ≤ Config.maxBody

/-- A body that is absent, or that meets the check. -/
def Body.wf {α : Type} (check : α → Bool) : Body α → Bool
  | none => true
  | some b => check b

def fitsOption (n : Option Nat) : Bool := Body.wf fitsWord n

def FareFields.wf (f : FareFields) : Bool :=
  fitsWord f.baseFare && fitsWord f.discount && fitsWord f.quantity

def Content.wf (c : Content) : Bool := fitsWord c.declared && fitsLines c.lines

def SubmitBody.wf (b : SubmitBody) : Bool := fitsWord b.form && b.fare.wf && b.content.wf

def SupplyBody.wf (b : SupplyBody) : Bool :=
  fitsWord b.slot && fitsWord b.start && fitsLines b.lines

def AmendBody.wf (b : AmendBody) : Bool :=
  fitsWord b.slot && Body.wf FareFields.wf b.fare && Body.wf Content.wf b.content

def FormDef.wf (d : FormDef) : Bool :=
  fitsWord d.cls && fitsWord d.lineCount && fitsWord d.gapStart && fitsWord d.gapLength &&
  fitsOption d.counterfoil && fitsWord d.repeatCount && fitsWord d.ready &&
  fitsOption d.serialBody && fitsOption d.serialCounterfoil && fitsOption d.timeBody &&
  fitsOption d.timeCounterfoil && fitsOption d.priceBody && fitsOption d.priceCounterfoil

def PackBody.wf (b : PackBody) : Bool :=
  fitsWord b.cls && fitsWord b.first && fitsWord b.count && fitsList 3 b.excluded &&
  b.excluded.all fitsWord

def WithdrawTarget.wf : WithdrawTarget → Bool
  | .lane n => fitsWord n
  | .pack n => fitsWord n

def DiscountTerms.wf (t : DiscountTerms) : Bool :=
  fitsWord t.rate && fitsWord t.floor && fitsWord t.step && fitsList 1 t.classes &&
  t.classes.all fitsWord

def LimitsBody.wf (b : LimitsBody) : Bool :=
  Body.wf (fun l => fitsList 2 l && l.all fun p => fitsWord p.1 && fitsWord p.2) b.waits &&
  fitsOption b.voidWindow && fitsOption b.stockLow &&
  Body.wf (fun l => fitsList 2 l && l.all fun p => fitsWord p.2) b.tolerances

/-- The commands a frame, or an event of the part's own, can carry. -/
def Instr.wf : Instr → Bool
  | .openSession _ _ b => Body.wf (fun b => fitsWord b.float) b
  | .submitJob _ _ b => Body.wf SubmitBody.wf b
  | .supplyLines _ _ b => Body.wf SupplyBody.wf b
  | .amendJob _ _ b => Body.wf AmendBody.wf b
  | .holdJob _ _ n | .releaseJob _ _ n | .withdrawJob _ _ n | .declareBegin _ _ n
  | .readLane _ _ n | .collectPack _ _ n | .clearLane _ _ n | .purgeLane _ _ n
  | .ackFault _ _ n | .readFaults _ _ n | .readForm _ _ n | .collectCashup _ _ n
  | .reopenSession _ _ n => Body.wf fitsWord n
  | .voidTicket _ _ b => Body.wf (fun b => fitsWord b.cls && fitsWord b.serial) b
  | .declareItem _ _ b => Body.wf (fun b => fitsWord b.amount) b
  | .declareConfirm _ _ b => Body.wf (fun b => fitsWord b.voids && fitsWord b.spoils) b
  | .readJob _ _ b => Body.wf (fun b => fitsWord b.window && Body.wf fitsWord b.slot) b
  | .readSession _ _ b => Body.wf (fun b => fitsWord b.window && Body.wf fitsOption b.firstEntry) b
  | .declarePack _ _ b => Body.wf PackBody.wf b
  | .mountPack _ _ b => Body.wf (fun b => fitsWord b.pack && fitsWord b.lane) b
  | .withdrawPack _ _ b => Body.wf (fun b => b.target.wf) b
  | .readPack _ _ b => Body.wf (fun b => fitsWord b.pack && fitsOption b.serial) b
  | .startCensus _ _ b =>
      Body.wf (fun b => fitsWord b.pack && fitsWord b.first && fitsWord b.last) b
  | .advanceBlank _ _ b => Body.wf (fun b => fitsWord b.lane && fitsWord b.count) b
  | .defineForm _ _ b => Body.wf (fun b => fitsWord b.form && b.layout.wf) b
  | .setDiscount _ _ b =>
      Body.wf (fun b => fitsWord b.code && Body.wf DiscountTerms.wf b.terms) b
  | .setLimits _ _ b => Body.wf LimitsBody.wf b
  | .setPermissions _ _ b => Body.wf (fun b => fitsWord b.window) b
  | .setClock _ _ b => Body.wf (Body.wf fun c => fitsWord c.second) b
  | .fetchNotice _ _ _ | .suspendCensus _ _ _ | .resumeCensus _ _ _ | .stopCensus _ _ _
  | .readCensus _ _ _ | .restart _ _ _ | .storeReinitialise _ _ _ => true
  | .portByteReceived _ _ _ | .gapTimerExpiry _ | .quietTimerExpiry _ | .answerSent _ => true
  | .censusEntryStep | .scannerVisit | .officeClockTick | .runTimeTick => true
  | .claimRequest _ | .claimAnswer _ | .positioned _ | .headReady _ | .cutDone _ => true
  | .markRecord _ _ | .markReadTimeout _ | .feedTimeout _ | .strobeTimeout _ | .cutTimeout _ => true
  | .cabinetOpening _ | .cabinetRelock _ => true
  | .powerFailWarningAssert | .powerFailWarningDeassert | .resetAsserted | .powerOn => true
  | .supplyLoss _ => true

end Sys2Proof
end

