-- ==== Sys2Proof/Tests/Slice0.lean ====
section
/-! SUPPORT. Tests. The values of the manual's tables and worked examples, one command each; the
well-formedness smoke; and, for every statement with hypotheses, a state and operands that meet them
(the theorems named test_meets_…), clause by clause. Every expected value is the manual's own. -/

namespace Sys2Proof.Tests

open Sys2Proof Sys2Proof.Machine

-- one theorem at a time: each is a small evaluation by the kernel
set_option Elab.async false

/-! ## Well-formedness smoke -/

def tooBig : Nat := 2 ^ 32

def goodFare : FareFields := ⟨500, 0, 2, some .cash⟩

def goodBody : SubmitBody := ⟨0, .replicate 4 true, some .normal, goodFare, ⟨1, [[0x41]]⟩⟩

/-- The two-part card ticket of Table 2.2 (02). -/
def cardForm : FormDef :=
  ⟨0, 20, 12, 2, some 14, 2, 4, some 0, some 14, some 1, none, some 11, some 19⟩

theorem test_wf_accepts : ([.submitJob (.window 0) 7 (some goodBody), .submitJob .office 7 none,
    .defineForm .office 0 (some ⟨2, cardForm⟩), .scannerVisit,
    .supplyLines (.window 5) 255 (some ⟨8, 31, [.replicate 599 0x41]⟩),
    .declareItem (.window 0) 0 (some ⟨none, tooBig - 1⟩)] : List Instr).all Instr.wf = true := by
  decide +kernel

/-- One ill-formed term for each check of a number. -/
theorem test_wf_refuses_numbers : ([.openSession (.window 0) 0 (some ⟨1, tooBig⟩),
    .submitJob (.window 0) 0 (some { goodBody with form := tooBig }),
    .submitJob (.window 0) 0 (some { goodBody with fare := { goodFare with baseFare := tooBig } }),
    .submitJob (.window 0) 0 (some { goodBody with fare := { goodFare with discount := tooBig } }),
    .submitJob (.window 0) 0 (some { goodBody with fare := { goodFare with quantity := tooBig } }),
    .submitJob (.window 0) 0 (some { goodBody with content := ⟨tooBig, []⟩ }),
    .supplyLines (.window 0) 0 (some ⟨tooBig, 0, []⟩),
    .supplyLines (.window 0) 0 (some ⟨1, tooBig, []⟩),
    .amendJob (.window 0) 0 (some ⟨tooBig, none, none, none, none⟩),
    .holdJob (.window 0) 0 (some tooBig), .releaseJob (.window 0) 0 (some tooBig),
    .withdrawJob (.window 0) 0 (some tooBig), .declareBegin (.window 0) 0 (some tooBig),
    .readLane .office 0 (some tooBig), .collectPack .office 0 (some tooBig),
    .clearLane .office 0 (some tooBig), .purgeLane .office 0 (some tooBig),
    .ackFault .office 0 (some tooBig), .readFaults .office 0 (some tooBig),
    .readForm .office 0 (some tooBig), .collectCashup .office 0 (some tooBig),
    .reopenSession .office 0 (some tooBig), .voidTicket (.window 0) 0 (some ⟨tooBig, 1⟩),
    .voidTicket (.window 0) 0 (some ⟨0, tooBig⟩),
    .declareItem (.window 0) 0 (some ⟨some .cash, tooBig⟩),
    .declareConfirm (.window 0) 0 (some ⟨tooBig, 0⟩),
    .declareConfirm (.window 0) 0 (some ⟨0, tooBig⟩), .readJob .office 0 (some ⟨tooBig, some 1⟩),
    .readJob .office 0 (some ⟨1, some tooBig⟩), .readSession .office 0 (some ⟨tooBig, none⟩),
    .readSession .office 0 (some ⟨1, some (some tooBig)⟩), .mountPack .office 0 (some ⟨tooBig, 1⟩),
    .mountPack .office 0 (some ⟨1, tooBig⟩), .withdrawPack .office 0 (some ⟨.lane tooBig, none⟩),
    .withdrawPack .office 0 (some ⟨.pack tooBig, none⟩), .readPack .office 0 (some ⟨tooBig, none⟩),
    .readPack .office 0 (some ⟨1, some tooBig⟩),
    .startCensus .office 0 (some ⟨tooBig, 1, 1, none, none⟩),
    .startCensus .office 0 (some ⟨1, tooBig, 1, none, none⟩),
    .startCensus .office 0 (some ⟨1, 1, tooBig, none, none⟩),
    .advanceBlank .office 0 (some ⟨tooBig, 1⟩), .advanceBlank .office 0 (some ⟨1, tooBig⟩),
    .setDiscount .office 0 (some ⟨tooBig, none, none⟩),
    .setPermissions .office 0 (some ⟨tooBig, .empty, .empty⟩),
    .setClock .office 0 (some (some ⟨0, tooBig⟩))] : List Instr).all (fun c => !c.wf) = true := by
  decide +kernel

/-- One ill-formed term for each check of a list, of a pack, of a definition and of the limits. -/
theorem test_wf_refuses_tables : ([
    .submitJob (.window 0) 0 (some { goodBody with content := ⟨1, [.replicate 600 0x41]⟩ }),
    .supplyLines (.window 0) 0 (some ⟨1, 0, .replicate 601 []⟩),
    .amendJob (.window 0) 0
      (some ⟨1, some { goodFare with baseFare := tooBig }, none, none, none⟩),
    .amendJob (.window 0) 0 (some ⟨1, none, none, none, some ⟨1, .replicate 601 []⟩⟩),
    .declarePack .office 0 (some ⟨tooBig, 1, 1, []⟩),
    .declarePack .office 0 (some ⟨0, tooBig, 1, []⟩),
    .declarePack .office 0 (some ⟨0, 1, tooBig, []⟩),
    .declarePack .office 0 (some ⟨0, 1, 1, [tooBig]⟩),
    .declarePack .office 0 (some ⟨0, 1, 1, .replicate 201 1⟩),
    .defineForm .office 0 (some ⟨tooBig, cardForm⟩),
    .defineForm .office 0 (some ⟨0, { cardForm with cls := tooBig }⟩),
    .defineForm .office 0 (some ⟨0, { cardForm with lineCount := tooBig }⟩),
    .defineForm .office 0 (some ⟨0, { cardForm with gapStart := tooBig }⟩),
    .defineForm .office 0 (some ⟨0, { cardForm with gapLength := tooBig }⟩),
    .defineForm .office 0 (some ⟨0, { cardForm with counterfoil := some tooBig }⟩),
    .defineForm .office 0 (some ⟨0, { cardForm with repeatCount := tooBig }⟩),
    .defineForm .office 0 (some ⟨0, { cardForm with ready := tooBig }⟩),
    .defineForm .office 0 (some ⟨0, { cardForm with serialBody := some tooBig }⟩),
    .defineForm .office 0 (some ⟨0, { cardForm with serialCounterfoil := some tooBig }⟩),
    .defineForm .office 0 (some ⟨0, { cardForm with timeBody := some tooBig }⟩),
    .defineForm .office 0 (some ⟨0, { cardForm with timeCounterfoil := some tooBig }⟩),
    .defineForm .office 0 (some ⟨0, { cardForm with priceBody := some tooBig }⟩),
    .defineForm .office 0 (some ⟨0, { cardForm with priceCounterfoil := some tooBig }⟩),
    .setDiscount .office 0 (some ⟨1, none, some ⟨tooBig, 0, 1, []⟩⟩),
    .setDiscount .office 0 (some ⟨1, none, some ⟨0, tooBig, 1, []⟩⟩),
    .setDiscount .office 0 (some ⟨1, none, some ⟨0, 0, tooBig, []⟩⟩),
    .setDiscount .office 0 (some ⟨1, none, some ⟨0, 0, 1, [tooBig]⟩⟩),
    .setDiscount .office 0 (some ⟨1, none, some ⟨0, 0, 1, .replicate 601 0⟩⟩),
    .setLimits .office 0 (some ⟨some [(tooBig, 1)], none, none, none, none⟩),
    .setLimits .office 0 (some ⟨some [(1, tooBig)], none, none, none, none⟩),
    .setLimits .office 0 (some ⟨some (.replicate 301 (1, 1)), none, none, none, none⟩),
    .setLimits .office 0 (some ⟨none, some tooBig, none, none, none⟩),
    .setLimits .office 0 (some ⟨none, none, some tooBig, none, none⟩),
    .setLimits .office 0 (some ⟨none, none, none, some [(none, tooBig)], none⟩),
    .setLimits .office 0 (some ⟨none, none, none, some (.replicate 301 (none, 1)), none⟩)] :
      List Instr).all (fun c => !c.wf) = true := by
  decide +kernel

/-! ## Bytes and texts -/

/-- The text of a string, by character codes. -/
def text (s : String) : Text := s.toList.map fun c => BitVec.ofNat 8 c.toNat

/-- The published check values of the two computations over the nine characters 123456789. -/
theorem test_frame_check : frameCheck (text "123456789") = 0xFEE8 := by decide +kernel

theorem test_mark_check : markCheck (text "123456789") = 0x29B1 := by decide +kernel

/-- Table 7.2 and Table 7.3 (07): B, rate, step, floor, q, U and T of each case. -/
theorem test_prices : ([(4370, 3333, 5, 1200, 2, 2910, 5820), (900, 5000, 10, 500, 1, 500, 500),
    (300, 5000, 10, 500, 1, 300, 300), (0, 0, 1, 0, 1, 0, 0), (99999, 0, 1, 0, 9, 99999, 899991),
    (99999, 1, 1, 0, 1, 99989, 99989), (1999, 2500, 10, 0, 3, 1490, 4470), (9, 0, 10, 0, 1, 0, 0),
    (1, 5000, 10, 500, 1, 1, 1), (99999, 10000, 10, 99999, 2, 99999, 199998)] :
      List (Nat × Nat × Nat × Nat × Nat × Nat × Nat)).all (fun (b, rate, step, floor, q, u, v) =>
    unitFare ⟨.active, rate, floor, step, .replicate 4 true⟩ b == u &&
      ticketValue ⟨.active, rate, floor, step, .replicate 4 true⟩ b q == v) = true := by
  decide +kernel

/-- Table 7.4 (07). -/
theorem test_price_texts : [0, 5, 500, 5820, 4470, 899991].map (priceText 0xA3) =
    ["        0.00", "        0.05", "        5.00", "       58.20", "       44.70",
      "     8999.91"].map (fun x => 0xA3 :: text x) := by decide +kernel

/-- Table 7.6 (07): E, D, the tolerance and the class. -/
theorem test_classification : ([(6235, 6230, 10, .within), (6235, 6230, 0, .short),
    (2910, 2910, 0, .within), (6235, 6246, 10, .over), (6235, 6245, 10, .within),
    (0, 0, 0, .within), (0, 99999999, 10000, .over), (2147483647, 0, 10000, .short)] :
      List (Nat × Nat × Nat × VarianceClass)).all (fun (e, d, tol, c) =>
    classify ((d : Int) - (e : Int)) tol == c) = true := by decide +kernel

/-- Table 2.2 (02): the definition's counts, and the two that R23 refuses. -/
theorem test_card_form : cardForm.valid = true ∧ cardForm.bodyCapacity = 9 ∧
    cardForm.counterfoilContent = 4 ∧ { cardForm with gapStart := 13 }.valid = false ∧
    { cardForm with timeCounterfoil := some 12 }.valid = false := by decide +kernel

/-- Lines 0 to 11 of Table 2.5 (02), with the seven lines the job ends with supplied throughout: the
stamps and the content in order, short content, and no lost line. -/
theorem test_ticket_lines :
    let lines := ["0", "1", "2", "3", "4", "5", "6"].map text
    let r := (Composer.begin cardForm (serialStamp 0 1234580) (timeStamp ⟨412, 51420⟩)
      (priceText 0xA3 5820) 7).ticket lines 20
    r.1.lostLine = false ∧ r.1.state = .complete ∧ r.2.map (fun t => t.take 13) =
      ["0/1234580    ", "D412 14:17   ", "0            ", "1            ", "2            ",
        "3            ", "4            ", "5            ", "6            ", "             ",
        "             "].map text ++ [0xA3 :: text "       58.20"] ++
      ["             ", "             ", "0/1234580    ", "0            ", "1            ",
        "             ", "             "].map text ++ [0xA3 :: text "       58.20"] := by
  decide +kernel

/-- Line 8 of Table 2.5 (02): a declared line not yet supplied prints blank and is lost. -/
theorem test_lost_line :
    let c : Composer := { Composer.begin cardForm [] [] [] 7 with index := 6 }
    ((c.compose (.replicate 6 [0x41]) 8).1.lostLine, (c.compose (.replicate 6 [0x41]) 8).1.index,
      (c.compose (.replicate 6 [0x41]) 8).2) = (true, 7, List.replicate 40 0x20) := by
  decide +kernel

/-- Table 1.5 (01), events 1 to 5 at the queue of W2. -/
theorem test_queue_coalesces :
    let spoiled : Notice := ⟨.slotOutcome, .slot 3, some ⟨.spoiled, .mechanical, 1, 0, 1234567, 0⟩⟩
    let done : Notice := ⟨.slotOutcome, .slot 3, some ⟨.done, .none, 1, 0, 1234580, 5820⟩⟩
    let lane (l : LaneId) : Notice := ⟨.laneChange, .lane l, none⟩
    [spoiled, lane 2, lane 0, done, lane 2].foldl coalesce [] = [done, lane 2, lane 0] := by
  decide +kernel

/-- The record of the DONE notice of Table 1.5 by the layout of Table 1.7 (01): serial 1,234,580 is
12D694h, value 5,820 is 16BCh, low byte first. -/
theorem test_notice_record :
    (⟨.slotOutcome, .slot 3, some ⟨.done, .none, 1, 0, 1234580, 5820⟩⟩ : Notice).bytes =
      [0x01, 0x04, 0x01, 0x00, 0x01, 0x00, 0x94, 0xD6, 0x12, 0xBC, 0x16, 0x00] := by
  decide +kernel

/-- The session at the limit of Table 7.5 (07): the 2,387th issue is held. -/
theorem test_totals_hold :
    (heldAdd 2146478535 899991, heldOverflows 2146478535 899991) = (2147378526, false) ∧
      (heldAdd 2147378526 899991, heldOverflows 2147378526 899991) = (2147483647, true) := by
  decide +kernel


/-! ## The states of the tests -/

/-- Pack 1: class 0, serials 100 to 103, under L1. -/
def pack : Pack :=
  { number := 1, cls := 0, first := 100, count := 4, excluded := [], state := .mounted
    lane := some 0, counters := ⟨4, 0, 0, 0, 0, 0, 0⟩, sequence := 5, references := 0
    verdict := .matched, marks := .replicate 4 .unused }

/-- L1 IDLE with blank 100 VERIFIED. -/
def idleLane : Lane :=
  { Lane.offline with state := .idle, pack := some 1, position := 100, head := .verified 100 }

/-- Window 1's job in slot 1: one line declared and supplied. -/
def job : Job :=
  { state := .queued, form := 2, generation := some 1, lanes := .replicate 4 true
    priority := .normal, baseFare := 500, discount := 0, quantity := 2, tender := .cash
    unitFare := 500, value := 1000, declared := 1, lines := [[0x41]], submitted := 0
    deadline := some 1200, attempts := 0, reserved := 3, lane := none, latest := none }

/-- Form 2 defined, window 1's session OPEN with one job QUEUED in slot 1, pack 1 under L1, IDLE. -/
def base : State :=
  { State.reset with
    packs := [pack]
    nextPack := 2
    lanes := State.reset.lanes.set 0 idleLane
    forms := State.reset.forms.set 2 ⟨some cardForm, none, 1, 1, 0⟩
    slots := State.reset.slots.set 0 (State.reset.slots[0].set 0 ⟨false, some job⟩)
    sessions := State.reset.sessions.set 0
      { Session.none with state := .opened, clerk := 407, float := 5000, reserved := 3 }
    journalReserved := 3 }

def withLane (f : Lane → Lane) : State := base.setLane 0 (f idleLane)

def withJob (f : Job → Job) : State := base.setSlot 0 0 ⟨false, some (f job)⟩

def withSession (f : Session → Session) : State := base.setSession 0 (f (base.session 0))

def withPack (f : Pack → Pack) : State := { base with packs := [f pack] }

/-- The ticket of window 1's job on blank 100. -/
def flight : InFlight := ⟨0, 0, 2, 2, 100, 1000, .cash, 3, true⟩

def handed : Handed := ⟨0, 0, 2, some 1, 1, 1000, .cash, 2, 3⟩

/-- The lane with that ticket under way. -/
def ticketLane (st : LaneState) (op : LaneOp) (line : Nat) (lost : Bool) : Lane :=
  { idleLane with
    state := st
    job := some (0, 0)
    inflight := some flight
    awaiting := some op
    line := line
    composer := { Composer.begin cardForm [] [] [] 1 with lostLine := lost } }

/-- The part with that ticket under way. -/
def printing (st : LaneState) (op : LaneOp) (line : Nat) (lost : Bool) : State :=
  (withJob fun j => { j with state := .printing, lane := some 0, deadline := none }).setLane 0
    (ticketLane st op line lost)

/-- L1 awaiting a mark read. -/
def reading (f : Lane → Lane) : State :=
  withLane fun x => f { x with state := .verifying, head := .unverified, awaiting := some .read }

/-- An ACTIVE report of L1. -/
def report (n : Nat) (k : FaultKind) : Report :=
  ⟨n, .lane 0, k, ⟨0, 0, 0⟩, none, .active, 1, none, none, {}, 0, none⟩

/-- L1 FAULTED with one report. -/
def faulted (k : FaultKind) : State :=
  { withLane (fun x => { x with state := .faulted }) with
    faults := [report 1 k], faultCounter := 2 }

/-- A census over pack 1. -/
def census (st : CensusState) (first last position : Nat) : Census :=
  { Census.cleared with
    state := st, pack := 1, first := first, last := last, position := position
    startSequence := 5 }

def withCensus (c : Census) : State := { base with census := c }

/-- The ISSUE entry of blank 100. -/
def entry : JournalEntry :=
  ⟨0, 1, ⟨.issue, 0, 100, 1, 1000, some .cash, 2, 2, 0⟩, ⟨0, 0, 0⟩, false⟩

/-- Blank 100 issued in window 1's session, the job DONE. -/
def issued : State :=
  { withSession (fun x => { x with issued := ⟨1000, 0, 0, 0⟩, issuedCount := 1, reserved := 0 })
    with
    packs := [{ pack with
      counters := ⟨3, 1, 0, 0, 0, 0, 0⟩, references := 1, verdict := .none
      marks := [.issued, .unused, .unused, .unused] }]
    journal := [entry]
    journalInUse := 1
    journalReserved := 0
    slots := State.reset.slots }

/-- The state a command leads to. -/
def after (c : Instr) (s : State) : State :=
  match exec c s with
  | .next t => t
  | _ => s

/-- The result code of the answer a request is given at window 1's port. -/
def codeAtWindow (c : Instr) (s : State) : Option ResultCode :=
  ((after c s).port (.window 0)).tx.map fun a => a.reply.code

def codeAtOffice (c : Instr) (s : State) : Option ResultCode :=
  ((after c s).port .office).tx.map fun a => a.reply.code

abbrev W1 : Port := .window 0

/-- Every job of a state meets what each slot's job meets. -/
theorem jobs_meet {s : State} {P : Job → Prop} [DecidablePred P]
    (h : ∀ (w : Window) (k : SlotId), (s.job w k).all (fun j => decide (P j)) = true) :
    ∀ w k j, s.job w k = some j → P j := by
  intro w k j hj
  simpa [hj] using h w k

/-- Every lane's pack is bound to it, where each lane's is. -/
theorem bindings_meet {s : State}
    (h : ∀ l : LaneId, (s.lane l).pack.all (fun n => (s.findPack n).any fun p =>
      p.state == .mounted && p.lane == some l) = true)
    (hp : ∀ p ∈ s.packs, p.lane.isSome = (p.state == .mounted)) : s.bindingsHold := by
  refine ⟨fun l n hn => ?_, hp⟩
  have := h l
  rw [hn] at this
  simp only [Option.all_some, Option.any_eq_true, Bool.and_eq_true, beq_iff_eq] at this
  obtain ⟨p, hp, hs, hl⟩ := this
  exact ⟨p, hp, hs, hl⟩

/-! ## The machine and the ports -/

theorem test_meets_StepTakesTheFront :
    { base with pending := [.scannerVisit] }.pending = .scannerVisit :: [] ∧ base.pending = [] := by
  decide +kernel

/-- A FETCH_NOTICE frame by Table 1.6 (01), its check worked out by hand from R19, is held; with the
last byte changed it is FRAME_REJECTED. -/
theorem test_frame_received :
    (match receiveAll W1 [0x5A, 0, 0, 0x20, 7, 0x12, 0xC0] base with
      | .next t => some (t.port W1).rx
      | _ => none) = some (.busy (some ⟨.fetchNotice, 7, []⟩)) ∧
    (match receiveAll W1 [0x5A, 0, 0, 0x20, 7, 0x12, 0xC1] base with
      | .next t => (t.port W1).tx
      | _ => none) = some ⟨0xA0, 7, refusal .frameRejected⟩ := by decide +kernel

/-- The mark record of blank 0/1,234,580, its check worked out by hand from R20 (01, Table 1.10). -/
theorem test_mark_record :
    goodRead #v[0, 0x94, 0xD6, 0x12, 0xCB, 0xAD] = some (0, 1234580) := by decide +kernel

/-- The answer sent: the receiver hunts again; a quiet line ends DRAINING once the answer is sent. -/
theorem test_receiver_ends :
    ((after (.answerSent W1) (base.setPort W1 ⟨.busy none, some ⟨0xA0, 7, refusal .none⟩, []⟩)).port
      W1).rx = .hunting ∧
    ((after (.quietTimerExpiry W1) (base.setPort W1 ⟨.draining true false, none, []⟩)).port W1).rx =
      .hunting ∧
    ((after (.gapTimerExpiry W1) (base.setPort W1 ⟨.receiving [0x5A] false, none, []⟩)).port W1).rx =
      .hunting := by decide +kernel

theorem test_meets_GoodFrameIsHeldWhole :
    ((base.port .office).rx = .hunting ∧ (List.replicate 600 (0 : Byte)).length ≤ 600 ∧
      RequestKind.defineForm.admittedFrom .office = true ∧
      RequestKind.defineForm.emptyBody = false) ∧
    (base.port W1).rx = .hunting ∧ RequestKind.fetchNotice.admittedFrom W1 = true ∧
      RequestKind.fetchNotice.emptyBody = true := by decide +kernel

theorem test_meets_FramesAreRefusedInOrder :
    (RequestKind.ofByte 0xFF = none ∧
      (RequestKind.ofByte 0x48 = some .defineForm ∧
        RequestKind.defineForm.admittedFrom W1 = false) ∧
      (RequestKind.ofByte 0x20 = some .fetchNotice ∧
        RequestKind.fetchNotice.admittedFrom W1 = true ∧
        RequestKind.fetchNotice.emptyBody = true ∧ ([0] : List Byte) ≠ [])) ∧
    ([0, 0] : List Byte) ≠ bytesLow 2 (frameCheck (frameCore 0x20 7 [])).toNat ∧
    (600 < 601 ∧ 65535 < 65536) ∧
    let s := base.setPort W1 ⟨.receiving [0x5A, 0, 0, 0x20, 7, 0] true, none, []⟩
    (s.port W1).rx = .receiving [0x5A, 0, 0, 0x20, 7, 0] true ∧
      frameLength [0x5A, 0, 0, 0x20, 7, 0] = 0 := by decide +kernel

theorem test_meets_ReceiverEvents :
    (base.port W1).rx = .hunting ∧
    (let s := base.setPort W1 ⟨.receiving [0x5A, 0x58, 2, 0x20] false, none, []⟩;
      (s.port W1).rx = .receiving [0x5A, 0x58, 2, 0x20] false ∧
        frameLength ([0x5A, 0x58, 2, 0x20] ++ [7]) = 600) ∧
    (let s := base.setPort W1 ⟨.busy none, some ⟨0xA0, 7, refusal .none⟩, []⟩;
      (s.port W1).rx = .busy none ∧ (s.port W1).tx = some ⟨0xA0, 7, refusal .none⟩) ∧
    ((base.setPort W1 ⟨.starting, none, []⟩).port W1).rx = .starting ∧
    ((base.setPort W1 ⟨.draining false true, none, []⟩).port W1).rx = .draining false true ∧
    (base.port W1).tx = none := by decide +kernel

/-- Attention and clear-to-send by the receiver and the queue (01 R14, Table 1.1). -/
theorem test_lines :
    (PortState.mk .hunting none [.controllerStart]).attention = true ∧
    (PortState.mk (.busy none) none []).attention = false ∧
    (PortState.mk .starting none [.controllerStart]).attention = false ∧
    (PortState.mk (.receiving [0x5A] false) none []).clearToSend = true ∧
    (PortState.mk (.draining false true) none []).clearToSend = false := by decide +kernel

/-- Codes of Table 1.2 and R5 (01): the names from ALREADY_DECLARED on by their characters; OUT_OF_ORDER
stands behind OUTCOME_UNREAD, an underscore being 5Fh. -/
theorem test_code_names :
    [ResultCode.alreadyDeclared, .alreadyVoided, .badArgument].map ResultCode.value =
      [0x20, 0x21, 0x22] ∧
    ResultCode.outOfOrder.value = ResultCode.outcomeUnread.value + 1 ∧
    ResultCode.windowInSession.value + 1 = ResultCode.withdrawn.value ∧
    ResultCode.withdrawn ∉ [ResultCode.ok, .frameRejected, .unknownKind, .wrongPort, .malformed,
      .storeInvalid, .notPermitted, .none] := by decide +kernel

theorem test_meets_CodesOnTheLink : (0x80 : Byte).msb = true := by decide +kernel

theorem test_meets_NoticeRecordLayout :
    let n : Notice := ⟨.slotOutcome, .slot 7, some ⟨.done, .none, 3, 3, 2 ^ 24 - 1, 2 ^ 24 - 1⟩⟩
    n.detail = some ⟨.done, .none, 3, 3, 2 ^ 24 - 1, 2 ^ 24 - 1⟩ ∧ 2 ^ 24 - 1 < 2 ^ 24 ∧
      Notice.controllerStart.detail = none := by decide +kernel

/-- The greatest class and serial read as themselves; serial 0 and a damaged check do not. -/
theorem test_meets_GoodMarkRecordsAreTheRecords :
    goodRead (markRecordOf 3 9999999) = some (3, 9999999) ∧ goodRead (markRecordOf 0 0) = none ∧
      goodRead #v[0, 1, 0, 0, 0, 0] = none := by decide +kernel

theorem test_meets_AdmissionInOrder :
    (let s := base.setPort W1 ⟨.busy none, none, []⟩;
      (s.port W1).rx.takes .holdJob 7 = false) ∧
    (base.port W1).rx.takes .defineForm 7 = true ∧
    RequestKind.defineForm.admittedFrom W1 = false ∧
    namesOtherWindow (.readJob W1 7 (some ⟨2, some 1⟩)) = true ∧
    (bodyFits (.holdJob W1 7 none) = false ∧ RequestKind.holdJob.admittedFrom W1 = true) ∧
    (RequestKind.submitJob.needsStore = true ∧
      { base with storeValid := false }.storeValid = false) ∧
    lacksGrant { base with grants := .replicate 6 .empty } W1 .submitJob = true := by
  decide +kernel

theorem test_admission_in_order :
    codeAtWindow (.defineForm W1 7 none) base = some .wrongPort ∧
    codeAtWindow (.readJob W1 7 (some ⟨2, some 1⟩)) base = some .wrongPort ∧
    codeAtWindow (.readJob W1 7 (some ⟨2, none⟩)) base = some .wrongPort ∧
    codeAtWindow (.readSession W1 7 (some ⟨2, none⟩)) base = some .wrongPort ∧
    codeAtWindow (.readSession W1 7 (some ⟨1, none⟩)) base = some .malformed ∧
    codeAtWindow (.readJob W1 7 none) base = some .malformed ∧
    codeAtWindow (.submitJob W1 7 none) { base with storeValid := false } = some .malformed ∧
    codeAtWindow (.submitJob W1 7 (some goodBody))
      { base with storeValid := false, grants := .replicate 6 .empty } = some .storeInvalid ∧
    codeAtWindow (.submitJob W1 7 (some goodBody)) { base with grants := .replicate 6 .empty } =
      some .notPermitted := by decide +kernel

theorem test_meets_RefusalsChangeNothing :
    requestOf (.holdJob W1 7 (some 9)) = some (W1, .holdJob, 7) ∧
    (base.port W1).rx.takes .holdJob 7 = true ∧
    codeAtWindow (.holdJob W1 7 (some 9)) base = some .badArgument := by decide +kernel

theorem test_meets_WindowsAreApart :
    requestOf (.holdJob W1 7 (some 1)) = some (.window 0, .holdJob, 7) ∧
    exec (.holdJob W1 7 (some 1)) base = .next (after (.holdJob W1 7 (some 1)) base) ∧
    ((after (.holdJob W1 7 (some 1)) base).job 0 0).map Job.state = some .held :=
  ⟨rfl, rfl, by decide +kernel⟩

theorem test_meets_NoticeTakesItsPlace :
    let n : Notice := ⟨.laneChange, .lane 1, none⟩
    let q : List Notice := [⟨.laneChange, .lane 0, none⟩, n]
    (q.map Notice.object).Nodup ∧ q[1].object = n.object ∧
      (∀ m ∈ q, m.object ≠ NoticeObject.lane 2) ∧ base.queuesHold := by decide +kernel

theorem test_meets_QueuesStayWellFormed :
    let s := { base with pending := [.holdJob W1 7 (some 1)] }
    s.queuesHold ∧ step s = .next (after (.holdJob W1 7 (some 1)) { s with pending := [] }) :=
  ⟨by decide +kernel, rfl⟩

/-- Every rule that a step keeps holds in a state with a job, a pack, a mounted lane and a session. -/
theorem test_meets_kept_rules :
    let s := { base with pending := [.claimRequest 0] }
    (s.formsHold ∧ s.discountsHold ∧ s.limitsHold ∧ s.sessionsHold ∧ s.stockHolds ∧
      s.journalHolds ∧ s.faultsHold) ∧ s.bindingsHold ∧ s.referencesHold ∧ s.lanesHold ∧
      step s = .next (after (.claimRequest 0) { s with pending := [] }) := by
  refine ⟨by decide +kernel, ⟨fun l n h => ?_, by decide +kernel⟩, ?_,
    ⟨fun _ => by decide +kernel, by decide +kernel, fun h => absurd rfl h⟩, rfl⟩
  · obtain rfl | h' : l = 0 ∨ base.lane l = Lane.offline := by
      clear h; revert l; decide +kernel
    · cases h
      exact ⟨pack, by decide +kernel⟩
    · rw [show ({ base with pending := [.claimRequest 0] } : State).lane l = base.lane l from rfl,
        h'] at h
      cases h
  · unfold State.referencesHold
    decide +kernel

/-- The form counts and the reservations, with a ticket under way. -/
theorem test_meets_counted_rules :
    let s := { printing .cutting .cut 19 false with pending := [.cutDone 0] }
    s.formCountsHold ∧ s.reservationsHold ∧ s.lanesHold ∧
      step s = .next (after (.cutDone 0) { s with pending := [] }) := by
  refine ⟨fun _ f => ⟨?_, ?_, ?_, ?_, fun w k j hj => ?_⟩,
    ⟨by decide +kernel, by decide +kernel, fun l r hr => ?_, by decide +kernel, fun _ =>
      ⟨by decide +kernel, fun w k j hj => ?_, fun l => ⟨?_, ?_, fun x hx => ?_⟩⟩⟩,
    ⟨fun _ => by decide +kernel, by decide +kernel, fun h => absurd rfl h⟩, rfl⟩
  · revert f; decide +kernel
  · revert f; decide +kernel
  · revert f; decide +kernel
  · revert f; decide +kernel
  · exact jobs_meet (s := printing .cutting .cut 19 false)
      (P := fun j => ∀ f, j.isActive = true → j.form = f →
        j.generation = some ((printing .cutting .cut 19 false).form f).generation ∨
          j.generation =
            some (nextGeneration ((printing .cutting .cut 19 false).form f).generation))
      (by decide +kernel) w k j hj f
  · obtain rfl | h : l = 0 ∨ ((printing .cutting .cut 19 false).lane l).inflight = none := by
      clear hr; revert l; decide +kernel
    · cases hr; decide +kernel
    · exact absurd (h.symm.trans hr) (by simp)
  · obtain ⟨rfl, rfl⟩ | h : (w = 0 ∧ k = 0) ∨
        (printing .cutting .cut 19 false).job w k = none := by
      clear hj; revert w k; decide +kernel
    · cases hj; decide +kernel
    · exact absurd (h.symm.trans hj) (by simp)
  · revert l; decide +kernel
  · revert l; decide +kernel
  · obtain rfl | h : l = 0 ∨ ((printing .cutting .cut 19 false).lane l).holdings = [] := by
      clear hx; revert l; decide +kernel
    · obtain rfl : x = (0, 0, 3) := by
        have : ((printing .cutting .cut 19 false).lane 0).holdings = [(0, 0, 3)] := by
          decide +kernel
        rw [show ({ printing .cutting .cut 19 false with pending := [.cutDone 0] } : State).lane 0 =
          (printing .cutting .cut 19 false).lane 0 from rfl, this] at hx
        simpa using hx
      exact ⟨_, rfl, by decide +kernel⟩
    · exact absurd (h ▸ hx : x ∈ []) (by simp)

theorem test_meets_FetchTakesTheOldestNotice :
    let n : Notice := ⟨.slotOutcome, .slot 0, some ⟨.done, .none, 0, 0, 100, 1000⟩⟩
    let s := base.setPort W1 ⟨.hunting, none, [n]⟩
    s.admits W1 .fetchNotice 7 ∧ (s.port W1).queue = n :: [] ∧
      ((base.setPort W1 ⟨.hunting, none, []⟩).port W1).queue = [] ∧
      base.admits .office .fetchNotice 7 ∧
      (base.port .office).queue = .controllerStart :: [] := by decide +kernel

/-- A fetched SLOT_OUTCOME empties the slot of a job that has ended (03 R40). -/
theorem test_fetch_and_permissions :
    (let n : Notice := ⟨.slotOutcome, .slot 0, some ⟨.done, .none, 0, 0, 100, 1000⟩⟩;
      let t := after (.fetchNotice W1 7 (some ()))
        ((withJob fun j => { j with state := .done }).setPort W1 ⟨.hunting, none, [n]⟩);
      (t.job 0 0, (t.port W1).queue) = (none, [])) ∧
    codeAtOffice (.setPermissions .office 7 (some ⟨1, .empty, .all⟩)) base =
      some .windowInSession ∧
    (after (.setPermissions .office 7 (some ⟨6, .all, .empty⟩)) base).grants[5] = .empty := by
  decide +kernel

theorem test_meets_SetPermissionsAppliesGrants :
    base.admits .office .setPermissions 7 ∧
    ((⟨0, .empty, .empty⟩ : PermissionsBody).window < 1 ∧
      6 < (⟨7, .empty, .empty⟩ : PermissionsBody).window ∧ GrantSet.all.meets .all = true) ∧
    (⟨1, .all, .empty⟩ : PermissionsBody).window = (0 : Window).val + 1 ∧
    GrantSet.all.meets .empty = false ∧ (base.session 0).state ≠ .none ∧
    (⟨6, .empty, .all⟩ : PermissionsBody).window = (5 : Window).val + 1 ∧
    (base.session 5).state = .none ∧ GrantSet.all ≠ .empty := by decide +kernel

/-! ## Forms and the composer -/

theorem test_meets_DefineFormPlacesTheDefinition :
    base.admits .office .defineForm 7 ∧ 7 < 8 ∧ cardForm.valid = true ∧
    { cardForm with gapStart := 13 }.valid = false ∧
    (base.form 7).useCount = 0 ∧ (7 : Fin 8).val = 7 ∧
    (0 < (base.form 2).useCount ∧ (base.form 2).waitingCount = 0) ∧
    let s := { base with forms := base.forms.set 2 ⟨some cardForm, some cardForm, 255, 1, 1⟩ };
    0 < (s.form 2).useCount ∧ 0 < (s.form 2).waitingCount ∧
      (s.form 2).pending = some cardForm ∧ { cardForm with cls := 3 }.valid = true ∧
      { cardForm with cls := 3 }.cls ≠ cardForm.cls ∧
      s.largestWaiting 2 ≤ cardForm.stored.bodyCapacity ∧ s.job 0 0 = some job ∧
      job.generation = some 1 ∧ s.largestWaiting 2 = job.declared ∧
      base.largestWaiting 2 = 0 := by decide +kernel

theorem test_define_form :
    ((after (.defineForm .office 7 (some ⟨7, cardForm⟩)) base).form 7).generation = 1 ∧
    ((after (.defineForm .office 7 (some ⟨2, cardForm⟩)) base).form 2).pending = some cardForm ∧
    codeAtOffice (.defineForm .office 7 (some ⟨2, { cardForm with gapStart := 13 }⟩)) base =
      some .badForm ∧
    codeAtOffice (.defineForm .office 7 (some ⟨8, { cardForm with gapStart := 13 }⟩)) base =
      some .badArgument := by decide +kernel

theorem test_meets_TicketPrintsTheContentInOrder :
    cardForm.valid = true ∧ 9 ≤ cardForm.bodyCapacity ∧
      (List.replicate 9 ([0x41] : Text)).length = 9 ∧ ([] : List Text).length < 9 := by
  decide +kernel

theorem test_meets_LinesAndStampTexts :
    let c := Composer.begin cardForm [] [] [] 7
    c.copy = some cardForm ∧ cardForm.counterfoil = some 14 ∧
    0 ∈ cardForm.serialBody.toList ++ cardForm.serialCounterfoil.toList ∧
    (1 ∉ cardForm.serialBody.toList ++ cardForm.serialCounterfoil.toList ∧
      1 ∈ cardForm.timeBody.toList ++ cardForm.timeCounterfoil.toList) ∧
    (19 ∉ cardForm.timeBody.toList ++ cardForm.timeCounterfoil.toList ∧
      19 ∈ cardForm.priceBody.toList ++ cardForm.priceCounterfoil.toList) ∧
    (12 ∉ cardForm.stamps ∧ cardForm.isGap 12 = true) ∧
    (17 ∉ cardForm.stamps ∧ cardForm.isGap 17 = false ∧ cardForm.bodyEnd ≤ 17 ∧
      cardForm.repeatCount ≤ 2) ∧
    (2 ∉ cardForm.stamps ∧ cardForm.isGap 2 = false ∧ 2 < cardForm.bodyEnd) ∧
    (15 ∉ cardForm.stamps ∧ 1 < cardForm.repeatCount) ∧
    ([[0x41]] : List Text)[0]? = some [0x41] ∧ (serialStamp 3 9999999).length = 9 ∧
    (timeStamp ⟨65535, 86399⟩).length = 12 ∧ (timeStamp ⟨0, 0⟩).length = 8 ∧
    (priceText 0xA3 899991).length = 13 ∧ (List.replicate 40 (0 : Byte)).length ≤ 40 := by
  decide +kernel

/-! ## Reads -/

theorem test_meets_ReadsAnswerAndChangeNothing :
    base.admits W1 .readJob 7 ∧ base.admits W1 .readSession 7 ∧ base.admits W1 .readLane 7 ∧
    base.admits .office .readJob 7 ∧ base.admits .office .readSession 7 ∧
    base.admits .office .readForm 7 ∧ base.admits .office .readFaults 7 ∧ 63 < 64 ∧
    base.admits .office .readCensus 7 ∧ base.admits .office .readPack 7 ∧
    base.findPack 1 = some pack ∧ pack.first ≤ 103 ∧ 103 < pack.first + pack.count := by
  decide +kernel

/-- The census states, and what is not there, at the ends of each range. -/
theorem test_meets_ReadsAnswerAndChangeNothing_more :
    base.stockHolds ∧ base.mounted 0 = some pack ∧ base.expected 0 = some 100 ∧
    base.findPack 2 = none ∧ pack.lowestUnused pack.first = some 100 ∧
    (base.census.state = .idle ∧
      (withCensus (census .suspended 100 103 100)).census.state ∈
        [CensusState.running, .suspending, .suspended] ∧
      (withCensus (census .stopped 100 103 100)).census.state = .stopped) ∧
    (let r : CensusResult := ⟨1, 100, 103, .block, ⟨4, 0, 0, 0, 0, 0, 0⟩, none, 5, 5, false, 0,
        .matched⟩;
      (withCensus { census .done 100 103 103 with result := some r }).census.result = some r) ∧
    ((0 < 1 ∧ 8 < 9) ∧ (0 < 1 ∧ 6 < 7) ∧ 4 < 5 ∧ 7 < 8 ∧ 63 < 64) ∧
    base.admits W1 .readJob 7 := by decide +kernel

/-- READ_SESSION's count of entries from before power-on (08 R144), and READ_CENSUS in progress (06
R128). -/
theorem test_read_fields :
    (let a := ((after (.readSession W1 7 (some ⟨1, some none⟩))
        { issued with journal := [{ entry with beforePowerOn := true }] }).port W1).tx;
      a.map (fun x => match x.reply.fields with
        | .session v => (v.entryCount, v.beforePowerOn)
        | _ => (0, 0)) = some (1, 1)) ∧
    (let a := ((after (.readCensus .office 7 (some ()))
        (withCensus { census .running 100 103 102 with tally := ⟨2, 0, 0, 0, 0, 0, 0⟩ })).port
          .office).tx;
      a.map (fun x => match x.reply.fields with
        | .censusProgress v => (v.blocks, v.position, v.tallied, v.packSequence)
        | _ => (0, 0, 0, none)) = some (1, 102, 2, some 5)) ∧
    (let a := ((after (.readPack .office 7 (some ⟨1, some 103⟩)) base).port .office).tx;
      a.map (fun x => match x.reply.fields with
        | .packRecord v u m => (v.number, u, m)
        | _ => (0, 0, none)) = some (1, 100, some .unused)) := by decide +kernel

/-- READ_LANE of L1 and of a lane with no pack, its absent fields zero (04 R71); a read of what is not
there. -/
theorem test_reads :
    (let a := ((after (.readLane W1 7 (some 1)) base).port W1).tx;
      a.map (fun x => match x.reply.fields with
        | .lane v => (v.state, v.packNumber, v.remaining, v.expected, v.headSerial, v.jobWindow)
        | _ => (.offline, 0, 0, 0, 0, 0)) = some (.idle, 1, 4, 100, 100, 0)) ∧
    (let a := ((after (.readLane W1 7 (some 2)) base).port W1).tx;
      a.map (fun x => match x.reply.fields with
        | .lane v => [v.packNumber, v.expected, v.headSerial, v.inflightSerial]
        | _ => []) = some [0, 0, 0, 0]) ∧
    [codeAtWindow (.readJob W1 7 (some ⟨1, some 9⟩)) base, codeAtWindow (.readLane W1 7 (some 5)) base,
      codeAtOffice (.readSession .office 7 (some ⟨7, some none⟩)) base,
      codeAtOffice (.readForm .office 7 (some 8)) base,
      codeAtOffice (.readFaults .office 7 (some 64)) base] = .replicate 5 (some .badArgument) ∧
    [codeAtOffice (.readPack .office 7 (some ⟨2, none⟩)) base,
      codeAtOffice (.readCensus .office 7 (some ())) base] = [some .noPack, some .ok] := by
  decide +kernel


/-! ## Jobs -/

theorem test_meets_SubmitPlacesTheJob :
    let b : SubmitBody := ⟨2, .replicate 4 true, some .urgent, ⟨99999, 0, 9, some .voucher⟩, ⟨9, []⟩⟩
    base.admits W1 .submitJob 7 ∧ b.fits = true ∧ (base.session 0).state = .opened ∧
    base.job 0 1 = none ∧ (∀ i : SlotId, i < 1 → base.job 0 i ≠ none) ∧
    isEmptySet b.lanes = false ∧ b.priority = some .urgent ∧ b.fare.tender = some .voucher ∧
    b.content.declared ≤ 32 ∧ b.content.lines.length ≤ b.content.declared ∧
    b.form = (2 : Fin 8).val ∧ (base.form 2).current ≠ none ∧
    ((base.form 2).pending = none ∧ (base.form 2).current = some cardForm) ∧
    b.fare.baseFare ≤ 99999 ∧ 1 ≤ b.fare.quantity ∧ b.fare.quantity ≤ 9 ∧
    b.fare.discount = (0 : Fin 16).val ∧ base.discounts[(0 : Fin 16)].state = .active ∧
    base.discounts[(0 : Fin 16)].classes.holds cardForm.cls = true ∧
    b.content.declared ≤ cardForm.bodyCapacity ∧
    { base with journalReserved := 4093 }.journalInUse +
      { base with journalReserved := 4093 }.journalReserved + 3 ≤ 4096 := by decide +kernel

/-- The job of the worked example of 02 section 2.7: its value, its slot, and the lane that stands
IDLE asks for it. -/
theorem test_submit :
    let t := after (.submitJob W1 7
      (some ⟨2, .replicate 4 true, some .urgent, ⟨2910, 0, 2, some .cash⟩, ⟨7, .replicate 4 []⟩⟩)) base
    ((t.job 0 1).map Job.value, (t.job 0 1).map Job.deadline, (t.lane 0).claimSent,
      t.journalReserved) = (some 5820, some (some 1200), true, 6) := by decide +kernel

theorem test_submit_refusals :
    codeAtWindow (.submitJob (.window 0) 7 (some { goodBody with form := 8 })) base =
      some .formUnknown ∧
    codeAtWindow (.submitJob W1 7 (some goodBody)) base = some .formUnknown ∧
    codeAtWindow (.submitJob W1 7 (some { goodBody with
      form := 2, fare := { goodFare with baseFare := 100000 } })) base = some .badFare ∧
    codeAtWindow (.submitJob W1 7 (some { goodBody with
      form := 2, fare := { goodFare with discount := 1 } })) base = some .badDiscount ∧
    codeAtWindow (.submitJob W1 7 (some { goodBody with form := 2, content := ⟨10, []⟩ })) base =
      some .tooManyLines ∧
    codeAtWindow (.submitJob W1 7 (some { goodBody with form := 2 }))
      { base with journalReserved := 4094 } = some .journalFull := by decide +kernel

/-- The refusals of R42 (03) that come before the form is looked at, each where every later check would
refuse too. -/
theorem test_meets_SubmitPlacesTheJob_refusals :
    let bad : SubmitBody := ⟨8, .replicate 4 false, none, ⟨100000, 16, 10, none⟩, ⟨33, []⟩⟩
    let full := { base with slots := .replicate 6 (.replicate 8 ⟨false, some job⟩) }
    bad.fits = true ∧ base.admits W1 .submitJob 7 ∧ (∀ k, full.job 0 k ≠ none) ∧
    [codeAtWindow (.submitJob W1 7 (some bad)) (withSession fun x => { x with state := .none }),
      codeAtWindow (.submitJob W1 7 (some bad)) (withSession fun x => { x with state := .declared }),
      codeAtWindow (.submitJob W1 7 (some bad)) full,
      codeAtWindow (.submitJob W1 7 (some bad)) base,
      codeAtWindow (.submitJob W1 7 (some { goodBody with form := 8, content := ⟨33, []⟩ })) base] =
      [some .noSession, some .sessionDeclaring, some .noSlot, some .badArgument,
        some .tooManyLines] := by decide +kernel

theorem test_meets_SupplyAndAmendChangeTheJob :
    (let s := withJob fun j => { j with declared := 2 };
      s.admits W1 .supplyLines 7 ∧ linesFit [[0x42]] = true ∧
        s.job 0 0 = some { job with declared := 2 } ∧
        { job with declared := 2 }.isActive = true ∧ 1 = job.lines.length ∧
        1 + ([[0x42]] : List Text).length ≤ 2) ∧
    (let s := withJob fun j => { j with state := .held };
      s.admits W1 .amendJob 7 ∧ s.job 0 0 = some { job with state := .held } ∧
        (s.form job.form).bound job.generation = some cardForm ∧
        s.discounts[(0 : Fin 16)].classes.holds cardForm.cls = true ∧
        s.discounts[(0 : Fin 16)].state = .active ∧ isEmptySet job.lanes = false ∧
        9 ≤ cardForm.bodyCapacity ∧ linesFit (.replicate 12 [0x41]) = true) := by decide +kernel

theorem test_meets_SupplyAndAmendChangeTheJob_refusals :
    let held := withJob fun j => { j with state := .held }
    let ended := withJob fun j => { j with state := .done }
    base.admits W1 .supplyLines 7 ∧ base.admits W1 .amendJob 7 ∧
    (⟨9, 0, []⟩ : SupplyBody).fits = true ∧
    (⟨1, some ⟨0, 16, 0, none⟩, none, some none, some ⟨33, []⟩⟩ : AmendBody).fits = true ∧
    held.job 0 0 = some { job with state := .held } ∧
    [codeAtWindow (.supplyLines W1 7 (some ⟨0, 0, []⟩)) base,
      codeAtWindow (.supplyLines W1 7 (some ⟨8, 0, []⟩)) base,
      codeAtWindow (.supplyLines W1 7 (some ⟨1, 0, []⟩)) ended,
      codeAtWindow (.supplyLines W1 7 (some ⟨1, 0, [[], []]⟩)) base,
      codeAtWindow (.supplyLines W1 7 (some ⟨1, 1, [[]]⟩)) base] =
      [some .badArgument, some .noJob, some .jobEnded, some .outOfOrder, some .tooManyLines] ∧
    [codeAtWindow (.amendJob W1 7 (some ⟨9, none, none, none, none⟩)) base,
      codeAtWindow (.amendJob W1 7 (some ⟨8, none, none, none, none⟩)) base,
      codeAtWindow (.amendJob W1 7 (some ⟨1, none, none, none, none⟩)) base,
      codeAtWindow (.amendJob W1 7 (some ⟨1, none, none, none, none⟩)) ended,
      codeAtWindow (.amendJob W1 7
        (some ⟨1, some ⟨0, 16, 0, none⟩, none, none, some ⟨33, []⟩⟩)) held,
      codeAtWindow (.amendJob W1 7
        (some ⟨1, some ⟨0, 16, 0, some .cash⟩, none, none, some ⟨33, []⟩⟩)) held,
      codeAtWindow (.amendJob W1 7
        (some ⟨1, some ⟨0, 16, 0, some .cash⟩, none, none, some ⟨10, []⟩⟩)) held,
      codeAtWindow (.amendJob W1 7
        (some ⟨1, some ⟨0, 16, 9, some .cash⟩, none, none, some ⟨10, []⟩⟩)) held,
      codeAtWindow (.amendJob W1 7 (some ⟨1, none, none, none, some ⟨10, []⟩⟩)) held] =
      [some .badArgument, some .noJob, some .notHeld, some .jobEnded, some .badArgument,
        some .tooManyLines, some .badFare, some .badDiscount, some .tooManyLines] := by
  decide +kernel

theorem test_supply_and_amend :
    ((after (.supplyLines W1 7 (some ⟨1, 1, [[0x42]]⟩)) (withJob fun j =>
      { j with declared := 2 })).job 0 0).map Job.lines = some [[0x41], [0x42]] ∧
    ((after (.amendJob W1 7 (some ⟨1, some ⟨100, 0, 3, some .card⟩, none, none, none⟩))
      (withJob fun j => { j with state := .held })).job 0 0).map Job.value = some 300 := by
  decide +kernel

theorem test_meets_HoldJobByTheSlotsState :
    base.admits W1 .holdJob 7 ∧ (0 < 1 ∧ 8 < 9) ∧ base.job 0 (Fin.ofNat 8 (8 - 1)) = none ∧
    base.job 0 0 = some job ∧ job.state = .queued ∧
    (withJob fun j => { j with state := .held }).job 0 0 = some { job with state := .held } := by
  decide +kernel

theorem test_hold_codes :
    [JobState.held, .printing, .retryWait, .done].map (fun x =>
      codeAtWindow (.holdJob W1 7 (some 1)) (withJob fun j => { j with state := x })) =
      [some .ok, some .tooLate, some .notQueued, some .jobEnded] := by decide +kernel

theorem test_meets_ReleaseAndWithdrawByTheSlotsState :
    base.admits W1 .releaseJob 7 ∧ base.admits W1 .withdrawJob 7 ∧ base.job 0 0 = some job ∧
    (let s := withJob fun j => { j with state := .retryWait };
      s.job 0 0 = some { job with state := .retryWait } ∧ (s.slot 0 0).unread = false) ∧
    (let s := base.setSlot 0 0 ⟨true, some { job with state := .retryWait }⟩;
      (s.slot 0 0).unread = true ∧ s.job 0 0 = some { job with state := .retryWait }) ∧
    (job.generation = some 1 ∧ 1 = (base.form job.form).generation ∧
      (base.form job.form).pending = none) ∧
    (let s := { base with forms := base.forms.set 2 ⟨some cardForm, some cardForm, 1, 1, 0⟩ };
      (s.form job.form).useCount = 1 ∧ (s.form job.form).pending = some cardForm) ∧
    (let s := withJob fun j => { j with generation := some 2 };
      some 2 = some (nextGeneration (s.form job.form).generation)) := by decide +kernel

theorem test_meets_ReleaseAndWithdrawByTheSlotsState_no_job :
    base.admits W1 .releaseJob 7 ∧ base.admits W1 .withdrawJob 7 ∧ (0 < 1 ∧ 8 < 9) ∧
    base.job 0 (Fin.ofNat 8 (8 - 1)) = none ∧
    [codeAtWindow (.releaseJob W1 7 (some 9)) base, codeAtWindow (.releaseJob W1 7 (some 8)) base,
      codeAtWindow (.withdrawJob W1 7 (some 0)) base,
      codeAtWindow (.withdrawJob W1 7 (some 8)) base] =
      [some .badArgument, some .noJob, some .badArgument, some .noJob] := by decide +kernel

theorem test_release_and_withdraw :
    ((after (.releaseJob W1 7 (some 1)) (withJob fun j => { j with state := .held })).job 0 0).map
      Job.state = some .queued ∧
    codeAtWindow (.withdrawJob W1 7 (some 1)) base = some .withdrawn ∧
    (after (.withdrawJob W1 7 (some 1)) base).journalReserved = 0 := by decide +kernel

theorem test_meets_ClaimTakesTheFirstEligibleJob :
    let s := withLane fun x => { x with claimSent := true }
    s.phase = .running ∧ (s.lane 0).claimSent = true ∧ (s.lane 0).handed = none ∧
    (s.job 0 0 = some job ∧ s.eligible job 0 = true) ∧
    ∀ w k, ((s.setSlot 0 0 .empty).job w k) = none := by decide +kernel

theorem test_claim :
    let t := after (.claimRequest 0) (withLane fun x => { x with claimSent := true })
    ((t.lane 0).handed, (t.lane 0).claimSent, (t.job 0 0).map Job.deadline) =
      (some handed, false, some none) := by decide +kernel

/-- A deadline reached this tenth is passed; one a tenth ahead is not (03 R62). -/
theorem test_meets_ScannerExpiresLateJobs :
    base.phase = .running ∧ base.scanner = 8 * (0 : Window).val + (0 : SlotId).val ∧
    base.job 0 0 = some job ∧ job.state = .queued ∧ job.deadline = some 1200 ∧
    2 ^ 31 ≤ (base.runTime - 1200).toNat ∧
    (let s := { base with runTime := 1199 }; 2 ^ 31 ≤ (s.runTime - 1200).toNat) ∧
    let s := { base with runTime := 1200 };
    (s.runTime - 1200).toNat < 2 ^ 31 := by decide +kernel

/-- The form's count at an expiry: the last use with a definition pending, whose waiting job an IDLE lane
is then told of; a waiting job; and a job bound to neither generation (02 R28, R29; 03 R54). -/
theorem test_meets_ScannerExpiresLateJobs_forms :
    let waiting := { job with generation := some 2 }
    let s := ({ base with
      runTime := 1200
      forms := base.forms.set 2 ⟨some cardForm, some cardForm, 1, 1, 1⟩ }).setSlot 0 1
        ⟨false, some waiting⟩
    let u := s.setSlot 0 0 ⟨false, some waiting⟩
    let v := s.setSlot 0 0 ⟨false, some { job with generation := some 7 }⟩
    let t := after .scannerVisit
    (s.job 0 0 = some job ∧ (s.form 2).useCount = 1 ∧ (s.form 2).pending ≠ none) ∧
    ((t s).form 2 = ⟨some cardForm, none, 2, 1, 0⟩ ∧ (t s).eligibleSomewhere waiting = true ∧
      ((t s).lane 0).claimSent = true) ∧
    ((t u).form 2 = ⟨some cardForm, some cardForm, 1, 1, 0⟩ ∧ (t v).form 2 = v.form 2) :=
  ⟨by decide +kernel, by decide +kernel, by decide +kernel⟩

theorem test_scanner :
    let t := after .scannerVisit { base with runTime := 1200 }
    ((t.job 0 0).map Job.state, t.journalReserved, (t.form 2).useCount, t.scanner) =
      (some .expired, 0, 0, 1) := by decide +kernel

/-! ## Lanes -/

theorem test_meets_ClaimAnswerStartsTheTicket :
    let s := withLane fun x => { x with handed := some handed }
    s.phase = .running ∧ (s.lane 0).handed = some handed ∧ (s.lane 0).state = .idle ∧
    (s.lane 0).head = .verified 100 ∧ (s.lane 0).cabinetPin = .locked ∧ s.powerFail = false ∧
    (s.form handed.form).bound handed.generation = some cardForm ∧
    (s.mounted 0).map Pack.cls = some cardForm.cls ∧
    (let u := withLane fun x => { x with handed := some handed, cabinetPin := .opened };
      (u.lane 0).cabinetPin = .opened ∧ (u.lane 0).cabinetSeen = .locked ∧
        u.isLocked 0 = false ∧ u.job handed.window handed.slot = some job) ∧
    let u := { s with powerFail := true };
    u.powerFail = true ∧ u.job handed.window handed.slot = some job := by decide +kernel

theorem test_claim_answer :
    let t := after (.claimAnswer 0) (withLane fun x => { x with handed := some handed })
    ((t.lane 0).state, (t.lane 0).awaiting, (t.lane 0).inflight,
      (t.lane 0).printData.map (·.take 9)) =
      (.printing, some .strobe, some flight, some (text "0/0000100")) := by decide +kernel

/-- A lane IDLE with a VERIFIED blank sends its request at each event of R54 (03), a job handed to it not
yet taken; the request outlives a job handed back, and a ticket's start withdraws it. -/
theorem test_claim_sent_while_handed :
    let s := reading fun x => { x with handed := some handed }
    let t := after (.markRecord 0 (markRecordOf 0 100)) s
    ((t.lane 0).state, (t.lane 0).claimSent, (t.lane 0).handed.isSome) = (.idle, true, true) ∧
    (let u := after (.claimAnswer 0) (t.setLane 0 { t.lane 0 with
      handed := some { handed with form := 3 } });
      ((u.lane 0).state, (u.lane 0).claimSent, (u.lane 0).handed) = (.idle, true, none)) ∧
    let u := after (.claimAnswer 0) t
    ((u.lane 0).state, (u.lane 0).claimSent, (u.lane 0).handed) = (.printing, false, none) := by
  decide +kernel

theorem test_meets_FeedAndStrobeEvents :
    (let s := withLane fun x => { x with state := .feeding, awaiting := some .feed };
      s.phase = .running ∧ (s.lane 0).awaiting = some .feed ∧
        (s.lane 0).awaiting ≠ some .strobe) ∧
    (let s := printing .printing .strobe 18 false;
      (s.lane 0).awaiting = some .strobe ∧ (s.lane 0).awaiting ≠ some .feed ∧
        (s.lane 0).state = .printing ∧ (s.lane 0).composer.copy = some cardForm ∧
        (s.lane 0).line + 1 < cardForm.lineCount ∧ s.powerFail = false ∧
        { s with powerFail := true }.powerFail = true) ∧
    let s := printing .printing .strobe 19 false;
    cardForm.lineCount ≤ (s.lane 0).line + 1 := by decide +kernel

theorem test_feed_and_strobe :
    ((after (.positioned 0) (withLane fun x =>
      { x with state := .feeding, awaiting := some .feed })).lane 0).state = .verifying ∧
    ((after (.headReady 0) (printing .printing .strobe 18 false)).lane 0).line = 19 ∧
    ((after (.headReady 0) (printing .printing .strobe 19 false)).lane 0).state = .cutting := by
  decide +kernel

theorem test_meets_CutDoneIssuesTheTicket :
    let s := printing .cutting .cut 19 false
    let j := { job with state := .printing, lane := some 0, deadline := none }
    s.phase = .running ∧ (s.lane 0).state = .cutting ∧ (s.lane 0).awaiting = some .cut ∧
    (s.lane 0).inflight = some flight ∧ (s.lane 0).composer.lostLine = false ∧ s.mounted 0 = some pack ∧
    s.packOf pack.cls flight.serial = some pack ∧ pack.markOf flight.serial = some .unused ∧
    s.job flight.window flight.slot = some j ∧ s.isLocked 0 = false ∧
    (s.lane 0).holdAfter = false ∧ 1 < pack.counters.unused ∧
    (101 ≠ flight.serial ∧ (s.lane 0).position ≤ 101 ∧ pack.markOf 101 = some .unused) ∧
    s.powerFail = false ∧ (s.lane 0).stockPin = true ∧
    ((s.setLane 0 { s.lane 0 with holdAfter := true }).lane 0).holdAfter = true ∧
    { pack with counters := ⟨1, 0, 0, 0, 0, 3, 0⟩ }.counters.unused = 1 := by decide +kernel

/-- The deferred feed and the absent stock of a ticket's end: 101 is the next UNUSED blank. -/
theorem test_meets_CutDoneIssuesTheTicket_feeds :
    let s := printing .cutting .cut 19 false
    { s with powerFail := true }.powerFail = true ∧
    ((s.setLane 0 { s.lane 0 with stockPin := false }).lane 0).stockPin = false ∧
    101 ≠ flight.serial ∧ (s.lane 0).position ≤ 101 ∧ pack.markOf 101 = some .unused ∧
    (∀ m < 101, (s.lane 0).position ≤ m → m ≠ flight.serial → pack.markOf m ≠ some .unused) ∧
    ((after (.cutDone 0) { s with powerFail := true }).lane 0).deferred = some .feed ∧
    (after (.cutDone 0) (s.setLane 0 { s.lane 0 with stockPin := false })).faults.map
      (fun r => (r.kind, r.context.reason, r.context.expected)) =
      [(.stockDiscrepancy, some .stockAbsent, some 101)] := by decide +kernel

theorem test_cut_done :
    let t := after (.cutDone 0) (printing .cutting .cut 19 false)
    ((t.findPack 1).bind (·.markOf 100), (t.job 0 0).map Job.state, (t.session 0).issued.cash,
      (t.lane 0).state, t.journal.map (·.number), t.journalReserved) =
      (some .issued, some .done, 1000, .feeding, [1], 0) := by decide +kernel

theorem test_meets_LostLineSpoilsTheTicket :
    let s := printing .cutting .cut 19 true
    let j := { job with state := .printing, lane := some 0, deadline := none }
    s.phase = .running ∧ (s.lane 0).awaiting = some .cut ∧ (s.lane 0).inflight = some flight ∧
    (s.lane 0).composer.lostLine = true ∧ s.mounted 0 = some pack ∧
    s.packOf pack.cls flight.serial = some pack ∧ pack.markOf flight.serial = some .unused ∧
    s.job flight.window flight.slot = some j ∧ j.attempts + 1 < 3 ∧
    (let u := s.setSlot 0 0 ⟨false, some { j with attempts := 2 }⟩;
      u.job flight.window flight.slot = some { j with attempts := 2 } ∧ 3 ≤ 2 + 1) := by
  decide +kernel

theorem test_lost_line_spoils :
    let t := after (.cutDone 0) (printing .cutting .cut 19 true)
    ((t.findPack 1).bind (·.markOf 100), (t.job 0 0).map Job.state, (t.session 0).spoiledCount,
      t.journalReserved) = (some .spoiled, some .retryWait, 1, 2) := by decide +kernel

theorem test_meets_MatchingRecordVerifiesTheBlank :
    let s := reading id
    s.phase = .running ∧ (s.lane 0).awaiting = some .read ∧ s.mounted 0 = some pack ∧
    s.expected 0 = some 100 ∧ goodRead (markRecordOf 0 100) = some (pack.cls, 100) ∧
    s.isLocked 0 = false ∧ (s.lane 0).holdAfter = false ∧ (s.lane 0).state ≠ .advancing ∧
    (let u := { s with faults := [report 1 .wrongStock] };
      u.isLocked 0 = true) ∧
    ((reading fun x => { x with holdAfter := true }).lane 0).holdAfter = true ∧
    (((reading fun x => { x with state := .advancing, advances := 1 }).lane 0).advances ≤ 1) ∧
    let u := reading fun x => { x with state := .advancing, advances := 2 };
    (u.lane 0).state = .advancing ∧ 1 < (u.lane 0).advances ∧ u.packOf pack.cls 100 = some pack ∧
      pack.markOf 100 = some .unused ∧ 1 < pack.counters.unused ∧
      (100 < 101 ∧ pack.markOf 101 = some .unused) ∧ u.powerFail = false ∧
      (u.lane 0).stockPin = true := by decide +kernel

theorem test_meets_MatchingRecordVerifiesTheBlank_feeds :
    let s := reading fun x => { x with state := .advancing, advances := 2 }
    let u := s.setLane 0 { s.lane 0 with stockPin := false }
    { s with powerFail := true }.powerFail = true ∧ (u.lane 0).stockPin = false ∧
    (u.lane 0).inflight = none ∧ u.powerFail = false ∧ pack.markOf 101 = some .unused ∧
    (∀ m < 101, 100 < m → pack.markOf m ≠ some .unused) ∧
    ((after (.markRecord 0 (markRecordOf 0 100)) { s with powerFail := true }).lane 0).deferred =
      some .feed ∧
    ((after (.markRecord 0 (markRecordOf 0 100)) u).lane 0).state = .faulted := by decide +kernel

theorem test_matching_record :
    ((after (.markRecord 0 (markRecordOf 0 100)) (reading id)).lane 0).head = .verified 100 ∧
    ((after (.markRecord 0 (markRecordOf 0 100)) (reading id)).lane 0).claimSent = true := by
  decide +kernel

theorem test_meets_OtherRecordsAreAskedAgainOrFaulted :
    let s := reading id
    s.phase = .running ∧ (s.lane 0).awaiting = some .read ∧ (s.lane 0).inflight = none ∧
    s.mounted 0 = some pack ∧ s.expected 0 = some 100 ∧ s.stockHolds ∧
    (goodRead (markRecordOf 0 103) = some (pack.cls, 103) ∧ 100 < 103 ∧
      pack.markOf 103 = some .unused) ∧
    (goodRead (markRecordOf 0 99) = some (0, 99) ∧ 99 ≠ 100) ∧
    (goodRead (markRecordOf 1 100) = some (1, 100) ∧ 1 ≠ pack.cls) ∧
    goodRead #v[0, 0, 0, 0, 0, 0] = none ∧ s.activeOf (.lane 0) = [] ∧
    ((reading fun x => { x with failedReads := 1 }).lane 0).failedReads < 2 ∧
    2 ≤ ((reading fun x => { x with failedReads := 2 }).lane 0).failedReads := by decide +kernel

/-- A read ahead as in Table 4.4 (04): the blanks passed over are MISSING. -/
theorem test_read_ahead :
    let t := after (.markRecord 0 (markRecordOf 0 103)) (reading id)
    ((t.findPack 1).map (·.counters.missing), (t.lane 0).state, (t.lane 0).head,
      t.faults.map (·.kind)) =
      (some 3, .faulted, .verified 103, [.stockDiscrepancy]) := by decide +kernel

theorem test_read_behind_and_unreadable :
    ((after (.markRecord 0 (markRecordOf 0 99)) (reading id)).faults.map (·.kind)) =
      [.wrongStock] ∧
    (after (.markReadTimeout 0) (reading fun x => { x with failedReads := 2 })).faults.map
      (·.kind) = [.markUnreadable] := by decide +kernel

theorem test_meets_TimeoutsRaiseTheirFaults :
    base.phase = .running ∧ ((base.lane 0).awaiting ≠ some .feed ∧
      (base.lane 0).awaiting ≠ some .strobe ∧ (base.lane 0).awaiting ≠ some .cut ∧
      (base.lane 0).awaiting ≠ some .read) ∧
    (let s := withLane fun x => { x with state := .feeding, awaiting := some .feed };
      (s.lane 0).awaiting = some .feed ∧ (s.lane 0).inflight = none ∧
        s.activeOf (.lane 0) = []) ∧
    (let s := printing .cutting .cut 19 false;
      (s.lane 0).awaiting = some .cut) ∧
    let s := printing .printing .strobe 3 false;
    (s.lane 0).awaiting = some .strobe ∧ (s.lane 0).line = 3 ∧
      (s.lane 0).inflight = some flight ∧ flight.begun = true ∧ s.mounted 0 = some pack ∧
      s.packOf pack.cls flight.serial = some pack ∧ pack.markOf flight.serial = some .unused ∧
      s.job flight.window flight.slot =
        some { job with state := .printing, lane := some 0, deadline := none } := by
  decide +kernel

/-- A fault's placement with no ACTIVE report, with one, with two, and in a full list (10 R177, R178). -/
theorem test_meets_TimeoutsRaiseTheirFaults_placement :
    let second : Report := { report 65535 .wrongStock with primary := some 1 }
    let two := { faulted .feedJam with
      faults := [report 1 .feedJam, second], faultCounter := 65535 }
    let full := { base with
      faults := { report 7 .cutJam with state := .cleared } ::
        (List.range 63).map (fun i => { report (i + 8) .cutJam with state := .acknowledged }) }
    base.faultsHold ∧ base.activeOf (.lane 0) = [] ∧
    ((faulted .feedJam).faultsHold ∧
      (faulted .feedJam).activeOf (.lane 0) = [report 1 .feedJam] ∧
      FaultKind.feedJam ≠ .cutJam) ∧
    (two.faultsHold ∧ two.activeOf (.lane 0) = [report 1 .feedJam, second] ∧
      (∀ x ∈ two.activeOf (.lane 0), x.kind ≠ .cutJam) ∧ second.primary ≠ none ∧
      (report 1 .feedJam).primary = none) ∧
    (full.faultsHold ∧ full.faults.length = 64 ∧ full.activeOf (.lane 0) = []) ∧
    ((two.raiseLane 0 .cutJam {}).faults.map fun x => (x.occurrences, x.lastOther)) =
      [(1, none), (2, some .cutJam)] ∧
    ((full.raiseLane 0 .cutJam {}).faults.map (·.number)).take 2 = [7, 9] ∧
    ((full.raiseLane 0 .cutJam {}).faults.getLast?.map fun x => (x.number, x.state)) =
      some (1, .active) :=
  ⟨by decide +kernel, by decide +kernel, by decide +kernel,
    ⟨by decide +kernel, by decide +kernel, by decide +kernel, by decide +kernel,
      by decide +kernel⟩, by decide +kernel⟩

theorem test_timeouts :
    ((after (.feedTimeout 0) (withLane fun x =>
      { x with state := .feeding, awaiting := some .feed })).faults.map (·.kind)) = [.feedJam] ∧
    (let t := after (.strobeTimeout 0) (printing .printing .strobe 3 false);
      (t.faults.map (·.kind), t.faults.map (·.context.line), (t.job 0 0).map Job.state) =
        ([.headStall], [some 3], some .queued)) ∧
    (after (.cutTimeout 0) (printing .cutting .cut 19 false)).faults.map (·.kind) = [.cutJam] := by
  decide +kernel

theorem test_meets_CabinetEvents :
    base.phase = .running ∧ ((base.lane 0).cabinetSeen = .locked ∧ base.isLocked 0 = false) ∧
    ((base.lane 0).state = .idle ∧ (base.lane 1).state = .offline ∧
      (base.lane 0).state ≠ .offline) ∧
    ((reading id).lane 0).state ∉ [LaneState.offline, .idle, .holding, .faulted] ∧
    (let s := { withLane (fun x => { x with
        state := .holding, causes := ⟨true, false⟩, cabinetSeen := .opened }) with
        faults := [report 1 .cabinetOpen] };
      (s.lane 0).cabinetSeen = .opened ∧ (∀ r ∈ s.activeOf (.lane 0), r.lastOther = none) ∧
        (s.lane 0).state = .holding ∧ (s.lane 0).causes.stockOut = false ∧ 0 < s.remaining 0 ∧
        s.expected 0 = some 100 ∧ (s.lane 0).head ≠ .notPositioned) ∧
    ((withLane fun x => { x with causes := ⟨true, true⟩, state := .holding }).lane 0).causes.stockOut =
      true := by decide +kernel

/-- A relock of a lane HOLDING with no blank positioned: a feed, deferred, or no stock (04 R75, R87). -/
theorem test_meets_CabinetEvents_feeds :
    let s := { withLane (fun x => { x with
        state := .holding, causes := ⟨true, false⟩, cabinetPin := .opened, cabinetSeen := .opened
        head := .notPositioned }) with faults := [report 1 .cabinetOpen] }
    let u := s.setLane 0 { s.lane 0 with stockPin := false }
    s.phase = .running ∧ (s.lane 0).cabinetSeen = .opened ∧
    (∀ r ∈ s.activeOf (.lane 0), r.lastOther = none) ∧ (s.lane 0).state = .holding ∧
    (s.lane 0).causes.stockOut = false ∧ 0 < s.remaining 0 ∧ s.expected 0 = some 100 ∧
    (s.lane 0).head = .notPositioned ∧ s.powerFail = false ∧ (s.lane 0).stockPin = true ∧
    { s with powerFail := true }.powerFail = true ∧
    (u.lane 0).stockPin = false ∧ (u.lane 0).inflight = none ∧
    ((after (.cabinetRelock 0) s).lane 0).awaiting = some .feed ∧
    ((after (.cabinetRelock 0) { s with powerFail := true }).lane 0).deferred = some .feed ∧
    (after (.cabinetRelock 0) u).faults.map (fun r => (r.kind, r.state)) =
      [(.cabinetOpen, .cleared), (.stockDiscrepancy, .active)] := by decide +kernel

/-- An opening in IDLE, HOLDING and FAULTED, each with a report that locks the lane (04 R72, R86). -/
theorem test_meets_CabinetEvents_locked :
    let on := fun st => { withLane (fun x => { x with state := st }) with
      faults := [report 1 .wrongStock], faultCounter := 2 }
    let t := fun st => after (.cabinetOpening 0) (on st)
    (∀ st ∈ [LaneState.idle, .holding, .faulted],
      (on st).isLocked 0 = true ∧ ((on st).lane 0).cabinetSeen = .locked ∧
      (t st).faults.map (fun r => (r.kind, r.primary)) =
        [(.wrongStock, none), (.cabinetOpen, some 1)]) ∧
    [LaneState.idle, .holding, .faulted].map (fun st => ((t st).lane 0).state) =
      [.faulted, .holding, .faulted] := by decide +kernel

/-- A relock of a lane with a CABINET_OPEN primary and a secondary, without and with a kind folded into
the primary; and of one HOLDING with no UNUSED blank left (04 R87; 10 R181). -/
theorem test_meets_CabinetEvents_reports :
    let second : Report :=
      { report 2 .wrongStock with primary := some 1, occurrences := 3, refused := 4 }
    let on := fun other => { withLane (fun x => { x with
        state := .faulted, cabinetSeen := .opened }) with
      faults := [{ report 1 .cabinetOpen with lastOther := other }, second] }
    let spent := { withLane (fun x => { x with
        state := .holding, causes := ⟨true, false⟩, cabinetSeen := .opened }) with
      packs := [{ pack with counters := ⟨0, 4, 0, 0, 0, 0, 0⟩, marks := .replicate 4 .issued }] }
    let t := fun other => (after (.cabinetRelock 0) (on other)).faults
    ((on none).lane 0).cabinetSeen = .opened ∧ ((on none).lane 0).state = .faulted ∧
    t none = [{ report 1 .cabinetOpen with
        state := .cleared, how := some .self, cleared := some (on none).stamp },
      { second with primary := none }] ∧
    t (some .feedJam) = [report 1 .feedJam, second] ∧
    ((spent.lane 0).causes.stockOut = false ∧ spent.remaining 0 = 0 ∧
      (spent.lane 0).cabinetSeen = .opened ∧
      ((after (.cabinetRelock 0) spent).lane 0).causes = ⟨false, true⟩) := by decide +kernel

theorem test_cabinet :
    (let t := after (.cabinetOpening 0) base;
      ((t.lane 0).state, (t.lane 0).causes, t.faults.map (·.kind)) =
        (.holding, ⟨true, false⟩, [.cabinetOpen])) ∧
    let t := after (.cabinetRelock 0) { withLane (fun x => { x with
      state := .holding, causes := ⟨true, false⟩, cabinetSeen := .opened }) with
      faults := [report 1 .cabinetOpen] }
    ((t.lane 0).state, (t.lane 0).awaiting, t.faults.map (·.state)) =
      (.priming, some .read, [.cleared]) := by decide +kernel

theorem test_meets_PowerFailWarning :
    let s := { withLane (fun x => { x with state := .feeding, deferred := some .feed }) with
      powerFail := true }
    s.phase = .running ∧ ((s.lane 0).deferred = some .feed ∧ (s.lane 0).stockPin = true) ∧
    (∀ l, (s.lane l).deferred = some .feed → (s.lane l).stockPin = true) ∧
    ((s.setLane 0 { s.lane 0 with deferred := some .strobe }).lane 0).deferred = some .strobe := by
  decide +kernel

theorem test_meets_PowerFailWarning_stock_absent :
    let s := { withLane (fun x => { x with
      state := .feeding, head := .notPositioned, deferred := some .feed, stockPin := false }) with
      powerFail := true }
    s.phase = .running ∧ s.lanesHold ∧ s.faultsHold ∧ (s.lane 0).deferred = some .feed ∧
    (s.lane 0).stockPin = false ∧ 0 < s.remaining 0 ∧
    (let u := { s with packs := [] }; (u.lane 0).deferred = some .feed ∧ u.remaining 0 = 0) ∧
    ((after .powerFailWarningDeassert s).lane 0).state = .faulted := by
  refine ⟨rfl, ⟨fun _ => by decide +kernel, by decide +kernel, fun h => absurd rfl h⟩, ?_⟩
  decide +kernel

theorem test_power_fail :
    (after .powerFailWarningAssert base).powerFail = true ∧
    ((after .powerFailWarningDeassert { withLane (fun x =>
      { x with state := .feeding, deferred := some .feed }) with powerFail := true }).lane
        0).awaiting = some .feed := by decide +kernel

theorem test_meets_AdvanceBlankFeedsOut :
    base.admits .office .advanceBlank 7 ∧ (0 < 1 ∧ 4 < 5 ∧ 10 < 11) ∧
    (base.lane 1).state ≠ .idle ∧ (base.lane 1).state ≠ .faulted ∧
    (let s := faulted .feedJam;
      (s.lane 0).state = .faulted ∧ s.activeOf (.lane 0) = [report 1 .feedJam] ∧
        (report 1 .feedJam).primary = none) ∧
    (base.lane 0).state = .idle ∧ (base.lane 0).head = .verified 100 ∧
    base.mounted 0 = some pack ∧ base.packOf pack.cls 100 = some pack ∧
    pack.markOf 100 = some .unused ∧ 1 < pack.counters.unused ∧
    (101 ≠ 100 ∧ (base.lane 0).position ≤ 101 ∧ pack.markOf 101 = some .unused) ∧
    base.powerFail = false ∧ (base.lane 0).stockPin = true := by decide +kernel

theorem test_meets_AdvanceBlankFeedsOut_feeds :
    let u := base.setLane 0 { base.lane 0 with stockPin := false }
    let s := withLane fun x => { x with state := .faulted }
    ((s.lane 0).state = .faulted ∧ ∀ x ∈ s.activeOf (.lane 0), x.primary ≠ none) ∧
    { base with powerFail := true }.powerFail = true ∧ u.powerFail = false ∧
    (u.lane 0).stockPin = false ∧ (u.lane 0).inflight = none ∧
    (∀ m < 101, (u.lane 0).position ≤ m → m ≠ 100 → pack.markOf m ≠ some .unused) ∧
    codeAtOffice (.advanceBlank .office 7 (some ⟨1, 1⟩)) s = some .laneLocked ∧
    ((after (.advanceBlank .office 7 (some ⟨1, 1⟩)) { base with powerFail := true }).lane
      0).deferred = some .feed ∧
    (after (.advanceBlank .office 7 (some ⟨1, 1⟩)) u).faults.map (·.kind) =
      [.stockDiscrepancy] := by decide +kernel

/-- The last UNUSED blank advanced: HOLDING with STOCK_OUT (04 R78, R88). -/
theorem test_meets_AdvanceBlankFeedsOut_last :
    let last := { pack with
      counters := ⟨1, 3, 0, 0, 0, 0, 0⟩, marks := [.unused, .issued, .issued, .issued] }
    let s := { base with packs := [last] }
    s.admits .office .advanceBlank 7 ∧ (s.lane 0).state = .idle ∧
    (s.lane 0).head = .verified 100 ∧ s.mounted 0 = some last ∧ s.packOf last.cls 100 = some last ∧
    last.markOf 100 = some .unused ∧ last.counters.unused = 1 ∧ s.isLocked 0 = false ∧
    (let t := after (.advanceBlank .office 7 (some ⟨1, 3⟩)) s;
      ((t.lane 0).state, (t.lane 0).causes, (t.lane 0).advances, (t.lane 0).head) =
        (.holding, ⟨false, true⟩, 0, .notPositioned)) := by decide +kernel

theorem test_advance :
    let t := after (.advanceBlank .office 7 (some ⟨1, 10⟩)) base
    ((t.findPack 1).bind (·.markOf 100), (t.lane 0).state, (t.lane 0).advances) =
      (some .advanced, .advancing, 10) := by decide +kernel

/-- A lane's change and its notice: L1 opened, and LANE_CHANGE in the queue of every port. -/
theorem test_meets_LaneChangesArePosted :
    let c : Instr := .cabinetOpening 0
    isPower c = false ∧ exec c base = .next (after c base) ∧
      ((after c base).lane 0).state ≠ (base.lane 0).state :=
  ⟨rfl, rfl, by decide +kernel⟩


/-- A change of each kind and its notice, at a cut completion. -/
theorem test_meets_OtherChangesArePosted :
    let s := printing .cutting .cut 19 false
    let t := after (.cutDone 0) s
    isPower (.cutDone 0) = false ∧ exec (.cutDone 0) s = .next t ∧
      (s.entriesOf 0).length < (t.entriesOf 0).length ∧ t.packs ≠ s.packs ∧
      (t.job 0 0).bind Job.latest ≠ (s.job 0 0).bind Job.latest ∧ s.faultsHold :=
  ⟨rfl, rfl, by decide +kernel⟩

/-- The remaining count that falls to the stock-low threshold (05 R112). -/
theorem test_meets_OtherChangesArePosted_stock_low :
    let s := { base with limits := { base.limits with stockLow := 3 } }
    let c : Instr := .advanceBlank .office 7 (some ⟨1, 1⟩)
    let t := after c s
    isPower c = false ∧ exec c s = .next t ∧ s.stockHolds ∧ pack ∈ s.packs ∧
      pack.state = .mounted ∧ pack.lane = some 0 ∧ s.limits.stockLow < pack.counters.unused ∧
      ∃ q ∈ t.packs, q.number = pack.number ∧ q.state = .mounted ∧
        q.counters.unused ≤ s.limits.stockLow :=
  ⟨rfl, rfl, by decide +kernel⟩

/-! ## Packs and the census -/

theorem test_meets_DeclarePackAddsThePack :
    let b : PackBody := ⟨3, 9999000, 1000, [9999000, 9999999]⟩
    base.admits .office .declarePack 7 ∧ b.cls ≤ 3 ∧ 1 ≤ b.count ∧ b.count ≤ 1000 ∧ 1 ≤ b.first ∧
    b.first + b.count - 1 ≤ 9999999 ∧ b.excluded.length ≤ 8 ∧
    (∀ r ∈ b.excluded, b.first ≤ r ∧ r < b.first + b.count) ∧ b.excluded.Nodup ∧
    base.census.state ∉ [CensusState.running, .suspending] ∧
    (∀ q ∈ base.packs,
      ¬(q.cls = b.cls ∧ q.first < b.first + b.count ∧ b.first < q.first + q.count)) ∧
    base.packs.length < 16 ∧ (base.packs.map Pack.count).sum + b.count ≤ 8192 ∧
    1 ≤ base.nextPack ∧ base.nextPack ≤ 65535 := by decide +kernel

/-- The refusals of R98 (05) in order, each where every later check would refuse too. -/
theorem test_meets_DeclarePackAddsThePack_refusals :
    let busy := { withCensus (census .suspending 100 103 100) with packs := .replicate 16 pack }
    let full := { base with packs := .replicate 16 pack }
    base.admits .office .declarePack 7 ∧ busy.admits .office .declarePack 7 ∧
    [codeAtOffice (.declarePack .office 7 (some ⟨4, 100, 1, []⟩)) busy,
      codeAtOffice (.declarePack .office 7 (some ⟨0, 100, 1001, []⟩)) busy,
      codeAtOffice (.declarePack .office 7 (some ⟨0, 9999999, 2, []⟩)) busy,
      codeAtOffice (.declarePack .office 7 (some ⟨0, 100, 1, [101]⟩)) busy,
      codeAtOffice (.declarePack .office 7 (some ⟨0, 103, 1, []⟩)) busy,
      codeAtOffice (.declarePack .office 7 (some ⟨0, 103, 1, []⟩)) full,
      codeAtOffice (.declarePack .office 7 (some ⟨0, 104, 1, []⟩)) full] =
      [some .badArgument, some .badArgument, some .badArgument, some .badArgument,
        some .censusBusy, some .overlap, some .noRoom] := by decide +kernel

/-- Numbering across the wrap (05): 65,535, then 3, with packs 1, 2 and 65,534 in the table. -/
theorem test_pack_numbers_wrap :
    let s := { base with
      packs := [pack, { pack with number := 2, first := 200, state := .parked, lane := none },
        { pack with number := 65534, first := 300, state := .parked, lane := none }]
      nextPack := 65535 }
    let t := after (.declarePack .office 7 (some ⟨1, 1, 1, []⟩)) s
    let u := after (.declarePack .office 7 (some ⟨1, 2, 1, []⟩)) (t.setPort .office .started)
    (t.packs.map (·.number), t.nextPack) = ([1, 2, 65534, 65535], 1) ∧
    (u.packs.map (·.number), u.nextPack) = ([1, 2, 65534, 65535, 3], 4) := by decide +kernel

theorem test_meets_MountPackBindsThePack :
    let s := withPack fun p => { p with state := .parked, lane := none }
    base.admits .office .mountPack 7 ∧ (0 < 1 ∧ 4 < 5) ∧ base.findPack 2 = none ∧
    base.findPack 1 = some pack ∧ pack.state = .mounted ∧
    s.findPack 1 = some { pack with state := .parked, lane := none } ∧
    s.census.state ∉ [CensusState.running, .suspending] ∧ s.census.state ≠ .suspended ∧
    (s.lane 3).state = .offline ∧ 4 = (3 : LaneId).val + 1 ∧ (s.lane 3).cabinetPin = .locked ∧
    pack.counters.unused ≠ 0 ∧ pack.lowestUnused pack.first = some 100 ∧
    (let u := s.setLane 3 { Lane.offline with cabinetPin := .opened };
      (u.lane 3).cabinetPin = .opened ∧ (u.lane 3).cabinetSeen = .locked ∧
        u.isLocked 3 = false ∧ (u.lane 3).state = .offline) ∧
    (s.setLane 3 { Lane.offline with state := .faulted }).activeOf (.lane 3) = [] := by
  decide +kernel

/-- A mount that ends in HOLDING: the cabinet observed open before, found open now, and a pack with no
UNUSED blank under a locked cabinet (04 R74, R86). -/
theorem test_meets_MountPackBindsThePack_holds :
    let p := { pack with state := .parked, lane := none }
    let spent := { p with
      counters := ⟨0, 4, 0, 0, 0, 0, 0⟩, marks := .replicate 4 .issued }
    let s := { base with packs := [p] }
    let u := { base with packs := [spent] }
    let seen := s.setLane 3 { Lane.offline with cabinetPin := .opened, cabinetSeen := .opened }
    let found := s.setLane 3 { Lane.offline with cabinetPin := .opened }
    s.admits .office .mountPack 7 ∧ 4 = (3 : LaneId).val + 1 ∧ s.findPack 1 = some p ∧
    u.findPack 1 = some spent ∧ (seen.lane 3).state = .offline ∧ (u.lane 3).state = .offline ∧
    seen.isLocked 3 = false ∧ u.isLocked 3 = false ∧
    ((seen.lane 3).cabinetPin = .opened ∧ (seen.lane 3).cabinetSeen = .opened) ∧
    ((found.lane 3).cabinetPin = .opened ∧ (found.lane 3).cabinetSeen = .locked) ∧
    ((u.lane 3).cabinetPin = .locked ∧ spent.counters.unused = 0 ∧
      spent.lowestUnused spent.first = none) ∧
    [seen, found, u].map (fun v =>
      let t := after (.mountPack .office 7 (some ⟨1, 4⟩)) v
      ((t.lane 3).state, (t.lane 3).causes, t.faults.map (·.kind))) =
      [(.holding, ⟨true, false⟩, []), (.holding, ⟨true, false⟩, [.cabinetOpen]),
        (.holding, ⟨false, true⟩, [])] := by decide +kernel

/-- A LANE_LOCKED refusal counted on the lane's primary report (10 R186). -/
theorem test_meets_MountPackBindsThePack_locked :
    let s := { faulted .feedJam with packs := [{ pack with state := .parked, lane := none }] }
    s.admits .office .mountPack 7 ∧ 1 = (0 : LaneId).val + 1 ∧
    s.findPack 1 = some { pack with state := .parked, lane := none } ∧
    s.census.state ∉ [CensusState.running, .suspending] ∧ s.census.state ≠ .suspended ∧
    (s.lane 0).state = .faulted ∧ s.activeOf (.lane 0) = [report 1 .feedJam] ∧
    (report 1 .feedJam).primary = none ∧
    codeAtOffice (.mountPack .office 7 (some ⟨1, 1⟩)) s = some .laneLocked ∧
    (after (.mountPack .office 7 (some ⟨1, 1⟩)) s).faults.map (·.refused) = [1] := by decide +kernel

theorem test_mount :
    let t := after (.mountPack .office 7 (some ⟨1, 4⟩))
      (withPack fun p => { p with state := .parked, lane := none })
    ((t.lane 3).state, (t.lane 3).awaiting, (t.findPack 1).map (·.lane)) =
      (.priming, some .read, some (some 3)) := by decide +kernel

theorem test_meets_WithdrawAndCollectPacks :
    base.admits .office .withdrawPack 7 ∧ base.admits .office .collectPack 7 ∧ base.stockHolds ∧
    base.findPack pack.number = some pack ∧
    base.census.state ∉ [CensusState.running, .suspending] ∧ base.census.state ≠ .suspended ∧
    pack.unusedIn pack.first (pack.first + pack.count - 1) = [100, 101, 102, 103] ∧
    ((base.lane 0).pack = some pack.number ∧ (base.lane 0).state ≠ .printing ∧
      (base.lane 0).state ≠ .cutting ∧ (base.lane 0).awaiting ≠ some .feed ∧
      (base.lane 0).deferred ≠ some .feed ∧ (base.lane 0).inflight = none) ∧
    (let s := withPack fun p => { p with state := .parked, lane := none };
      s.stockHolds ∧ s.findPack 1 = some { pack with state := .parked, lane := none }) ∧
    let q : Pack := { pack with
      state := .withdrawn, lane := none, counters := ⟨0, 0, 0, 0, 0, 0, 4⟩
      marks := .replicate 4 .returned }
    let s := withPack fun _ => q
    s.findPack 1 = some q ∧ q.state = .withdrawn ∧ q.references = 0 ∧ q.verdict = .matched := by
  decide +kernel

theorem test_withdraw_and_collect :
    (let t := after (.withdrawPack .office 7 (some ⟨.lane 1, some .returnStock⟩)) base;
      ((t.findPack 1).map fun p => (p.state, p.counters.returned, p.sequence),
        (t.lane 0).state) = (some (.withdrawn, 4, 9), .offline)) ∧
    codeAtOffice (.collectPack .office 7 (some 1)) base = some .notWithdrawn ∧
    (after (.collectPack .office 7 (some 1)) (withPack fun p =>
      { p with state := .withdrawn, lane := none })).packs = [] := by decide +kernel

theorem test_meets_MarksMoveAlongEdges :
    let c : Instr := .advanceBlank .office 7 (some ⟨1, 1⟩)
    exec c base = .next (after c base) ∧ base.stockHolds ∧ pack ∈ base.packs ∧
      (∃ q ∈ (after c base).packs, q.number = pack.number ∧ q.marks ≠ pack.marks) :=
  ⟨rfl, by decide +kernel⟩

/-- A mark that moves in a block the suspended census has committed, and one that moves elsewhere. -/
theorem test_meets_MarksMoveAlongEdges_told :
    let c : Instr := .advanceBlank .office 7 (some ⟨1, 1⟩)
    let s := withCensus { census .suspended 100 103 103 with block := 1 }
    let u := withCensus (census .suspended 100 103 100)
    isCensusCommand c = false ∧ s.stockHolds ∧ s.census.state = .suspended ∧
    100 < s.census.first + 64 * s.census.block ∧ ¬100 < u.census.first + 64 * u.census.block ∧
    (after c s).census.suspendedChange = true ∧ (after c u).census.suspendedChange = false := by
  decide +kernel

theorem test_meets_CensusRequests :
    base.admits .office .startCensus 7 ∧ base.admits .office .suspendCensus 7 ∧
    base.admits .office .resumeCensus 7 ∧ base.admits .office .stopCensus 7 ∧
    (let b : CensusBody := ⟨1, 100, 103, some .block, some (some .unused)⟩;
      b.mode = some .block ∧ b.search ≠ some none ∧
        base.census.state ∉ [CensusState.running, .suspending, .suspended] ∧
        base.findPack b.pack = some pack ∧ b.first ≤ b.last ∧ pack.first ≤ b.first ∧
        b.last < pack.first + pack.count) ∧
    (withCensus (census .running 100 103 100)).census.state = .running ∧
    ((withCensus (census .suspended 100 103 100)).census.state = .suspended ∧
      (withCensus (census .suspended 100 103 100)).findPack 1 = some pack) ∧
    base.census.state = .idle ∧
    (withCensus (census .stopped 100 103 100)).census.state = .stopped := by decide +kernel

theorem test_census_requests :
    ((after (.startCensus .office 7 (some ⟨1, 100, 103, some .block, none⟩)) base).census.state,
      (after (.suspendCensus .office 7 (some ()))
        (withCensus (census .running 100 103 100))).census.state,
      (after (.resumeCensus .office 7 (some ()))
        (withCensus (census .suspended 100 103 100))).census.state,
      (after (.stopCensus .office 7 (some ()))
        (withCensus (census .suspended 100 103 100))).census.stopCause) =
      (.running, .suspending, .running, some .office) ∧
    codeAtOffice (.startCensus .office 7 (some ⟨1, 100, 104, some .block, none⟩)) base =
      some .badRange := by decide +kernel

/-- A pack of 100 blanks, for a census of more than one block. -/
def longPack : Pack :=
  { pack with count := 100, counters := ⟨100, 0, 0, 0, 0, 0, 0⟩, marks := .replicate 100 .unused }

theorem test_meets_CensusEntryStepByItsPlace :
    let at63 (st : CensusState) : State :=
      { withCensus (census st 100 199 163) with packs := [longPack] }
    let low := 100 + 64 * 0
    (base.phase = .running ∧ low = 100 ∧ min (low + 63) 199 = 163 ∧
      longPack.markOf 163 = some .unused ∧ (at63 .running).findPack 1 = some longPack) ∧
    (census .idle 100 103 100).state ∉ [CensusState.running, .suspending] ∧
    ((census .running 100 103 102).position ≠ 103 ∧
      (withCensus (census .running 100 103 102)).findPack 1 = some pack) ∧
    ((at63 .running).census.state = .running ∧ (at63 .running).census.position = 163 ∧
      163 < (at63 .running).census.last) ∧
    (let c := { census .suspending 100 199 163 with mode := .block };
      c.state = .suspending ∧ c.mode ≠ .prompt ∧ c.position = 163) ∧
    (let c := { census .suspending 100 199 101 with abandoned := false };
      c.state = .suspending ∧ c.mode = .prompt ∧ c.abandoned = false) ∧
    (let s := withCensus (census .running 100 103 103);
      s.census.position = min (low + 63) 103 ∧ s.census.position = s.census.last) := by
  decide +kernel

/-- The last entry step of a census over the whole pack: DONE, MATCHED. -/
theorem test_census_done :
    let t := after .censusEntryStep (withCensus { census .running 100 103 103 with
      tally := ⟨3, 0, 0, 0, 0, 0, 0⟩ })
    (t.census.state, t.census.result.map fun r => (r.counts.unused, r.verdict)) =
      (.done, some (4, .matched)) := by decide +kernel

theorem test_census_prompt_suspension :
    let t := after .censusEntryStep (withCensus { census .suspending 100 103 102 with
      tally := ⟨2, 0, 0, 0, 0, 0, 0⟩ })
    (t.census.state, t.census.position, t.census.abandonments, t.census.tally.unused) =
      (.suspended, 100, 1, 0) := by decide +kernel

/-! ## Fares, sessions and cash-up -/

theorem test_meets_PricesAndDiscounts :
    (10000 ≤ 10000 ∧ 1 ≤ 10 ∧ 99999 * (10000 - 10000) / 10000 = 0) ∧
    base.admits .office .setDiscount 7 ∧ 15 < 16 ∧ (15 : Fin 16) ≠ 0 ∧
    (let x : DiscountTerms := ⟨12000, 99999, 10, [0, 3]⟩;
      x.step ∈ [1, 5, 10] ∧ x.floor ≤ 99999 ∧ x.classes ≠ [] ∧ (∀ c ∈ x.classes, c ≤ 3) ∧
        (⟨15, some .active, some x⟩ : DiscountBody).fits = true) ∧
    ((⟨1, some .active, some ⟨0, 100000, 1, [0]⟩⟩ : DiscountBody).fits = true ∧ 99999 < 100000 ∧
      3 < 4 ∧ 7 ∉ [1, 5, 10]) := by decide +kernel

theorem test_set_discount :
    ((after (.setDiscount .office 7 (some ⟨15, some .active, some ⟨12000, 99999, 10, [0, 3]⟩⟩))
      base).discounts[15]) = ⟨.active, 10000, 99999, 10, #v[true, false, false, true]⟩ ∧
    codeAtOffice (.setDiscount .office 7 (some ⟨0, some .unused, none⟩)) base = some .fixedEntry ∧
    codeAtOffice (.setDiscount .office 7 (some ⟨1, some .active, none⟩)) base =
      some .malformed := by decide +kernel

/-- Window 1's session DECLARED. -/
def declared : State :=
  { (issued.setSession 0 { issued.session 0 with
      state := .declared
      declaration := some ⟨.same ⟨0, false⟩, 0, 0⟩
      result := none }) with phase := .running }

theorem test_meets_SessionsOpenCollectAndReopen :
    base.admits W1 .openSession 7 ∧ base.admits (.window 5) .openSession 7 ∧
    (base.session 0).state ≠ .none ∧ (base.session 5).state = .none ∧
    (0xFFFF : Word16) ≠ 0 ∧ 1000000 ≤ 1000000 ∧ 1000000 < 1000001 ∧
    declared.admits .office .collectCashup 7 ∧ declared.admits .office .reopenSession 7 ∧
    (declared.session 0).state = .declared ∧ (declared.session 5).state ≠ .declared ∧ 6 < 7 := by
  decide +kernel

theorem test_sessions :
    ((after (.openSession (.window 5) 7 (some ⟨1, 1000000⟩)) base).session 5).state = .opened ∧
    (let t := after (.collectCashup .office 7 (some 1)) declared;
      ((t.session 0).state, t.journal, t.journalInUse, (t.findPack 1).map (·.references)) =
        (.none, [], 0, some 0)) ∧
    (let t := after (.reopenSession .office 7 (some 1)) declared;
      ((t.session 0).state, (t.session 0).reopens, (t.session 0).issuedCount) =
        (.opened, 1, 1)) := by decide +kernel

theorem test_meets_VoidTicketGivesTheFareBack :
    let b : VoidBody := ⟨0, 100⟩
    let k : Pack := { pack with
      counters := ⟨3, 1, 0, 0, 0, 0, 0⟩, references := 1, verdict := .none
      marks := [.issued, .unused, .unused, .unused] }
    let s := { issued with runTime := 3000 }
    s.admits W1 .voidTicket 7 ∧ (s.session 0).state = .opened ∧ b.cls ≤ 3 ∧ 1 ≤ b.serial ∧
    b.serial ≤ 9999999 ∧ s.packOf b.cls b.serial = some k ∧ s.findPack k.number = some k ∧
    k.markOf b.serial = some .issued ∧ entry ∈ s.entriesOf 0 ∧ entry.data.kind = .issue ∧
    entry.data.cls = b.cls ∧ entry.data.serial = b.serial ∧
    (∀ x ∈ s.entriesOf 0, x.data.kind = .issue → x.data.cls = b.cls →
      x.data.serial = b.serial → x = entry) ∧
    entry.data.pack = k.number ∧ entry.data.tender = some .cash ∧ entry.beforePowerOn = false ∧
    (s.runTime - entry.stamp.run).toNat ≤ 10 * s.limits.voidWindow ∧
    s.journalInUse + s.journalReserved < 4096 := by decide +kernel

/-- A void at the last tenth of the window of 300 s, and one a tenth later (08). -/
theorem test_void :
    (let t := after (.voidTicket W1 7 (some ⟨0, 100⟩)) { issued with runTime := 3000 };
      ((t.findPack 1).bind (·.markOf 100), (t.session 0).voided.cash,
        t.journal.map (·.data.value)) = (some .voided, 1000, [1000, 1000])) ∧
    codeAtWindow (.voidTicket W1 7 (some ⟨0, 100⟩)) { issued with runTime := 3001 } =
      some .voidWindowPassed ∧
    codeAtWindow (.voidTicket W1 7 (some ⟨0, 101⟩)) issued = some .notIssued ∧
    codeAtWindow (.voidTicket W1 7 (some ⟨0, 104⟩)) issued = some .unknownBlank ∧
    codeAtWindow (.voidTicket W1 7 (some ⟨4, 100⟩)) issued = some .badArgument := by
  decide +kernel

/-- A second window's void before and after the issuing window's, that window's own repeat, and a repeat
with the ISSUE entry collected (08 R157, Table 8.6; log entry 43). -/
theorem test_void_by_a_second_window :
    let s := issued.setSession 1 { Session.none with state := .opened }
    let v (w : Window) := Instr.voidTicket (.window w) 7 (some ⟨0, 100⟩)
    let code (w : Window) (t : State) := ((after (v w) t).port (.window w)).tx.map (·.reply.code)
    let t := { after (v 0) s with windows := s.windows, office := s.office }
    code 1 s = some .notYours ∧ code 0 s = some .ok ∧ code 1 t = some .notYours ∧
    code 0 t = some .alreadyVoided ∧
    code 1 { t with journal := [] } = some .alreadyVoided := by decide +kernel

/-- Window 1's totals of Table 9.5 (09), DECLARING with the items of step 10. -/
def declaring (items : List (Tender × Nat)) : State :=
  { base.setSession 0 { Session.none with
      state := .declaring, clerk := 407, float := 5000, issued := ⟨7055, 2910, 0, 0⟩
      voided := ⟨5820, 0, 0, 0⟩, issuedCount := 3, voidedCount := 1, spoiledCount := 1
      inProgress := some ⟨2, items⟩ } with
    slots := State.reset.slots, journalReserved := 0 }

theorem test_meets_DeclarationSequenceAndResult :
    let s := declaring [(.cash, 6230), (.card, 2910)]
    let x := s.session 0
    (base.admits W1 .declareBegin 7 ∧ base.job 0 0 = some job ∧
      (base.session 0).state = .opened ∧ job.state ∈ [JobState.queued, .held, .printing, .retryWait]) ∧
    (s.admits W1 .declareBegin 7 ∧ 1 ≤ 4 ∧ x.state = .declaring) ∧
    (issued.admits W1 .declareBegin 7 ∧ (issued.session 0).state = .opened ∧
      ∀ k, issued.job 0 k = none) ∧
    (base.admits W1 .declareItem 7 ∧ base.admits W1 .declareConfirm 7) ∧
    x.inProgress = some ⟨2, [(.cash, 6230), (.card, 2910)]⟩ ∧
    (s.admits W1 .declareItem 7 ∧ 99999999 < 100000000 ∧ 2 ≤ 2) ∧
    (s.admits W1 .declareConfirm 7 ∧ 4096 < 4097 ∧
      ([Tender.cash, .card] : List Tender).Nodup) ∧
    ([] : List (Tender × Nat)).length < 2 := by decide +kernel

/-- The requests of R166 (09) at a window with a declaration in progress: the answers of its table, and
the declaration dropped, or standing where admission refuses an AMEND_JOB of 13 lines. -/
theorem test_meets_DeclarationSequenceAndResult_abandons :
    let s := declaring [(.cash, 6230)]
    let long : Instr := .amendJob W1 7 (some ⟨1, none, none, none, some ⟨13, .replicate 13 []⟩⟩)
    let cs : List Instr := [.openSession W1 7 (some ⟨407, 0⟩), .submitJob W1 7 (some goodBody),
      .holdJob W1 7 (some 8), .withdrawJob W1 7 (some 9)]
    (s.session 0).inProgress.isSome = true ∧ (s.session 0).state = .declaring ∧
    (∀ c ∈ cs, bodyFits c = true ∧ (requestOf c).all (fun q =>
      decide (q.1 = W1) && (s.admission W1 q.2.1 true true).isNone) = true) ∧
    cs.map (fun c => codeAtWindow c s) =
      [some .sessionExists, some .sessionDeclaring, some .noJob, some .badArgument] ∧
    cs.map (fun c => ((after c s).session 0).inProgress) = .replicate 4 none ∧
    (codeAtWindow long s = some .malformed ∧
      ((after long s).session 0).inProgress = (s.session 0).inProgress) :=
  ⟨by decide +kernel, by decide +kernel, by decide +kernel, by decide +kernel, by decide +kernel,
    by decide +kernel⟩

/-- Steps 4 and 9 of the worked cash-up (09, Table 9.6). -/
theorem test_declare_item :
    let c : Instr := .declareItem W1 7 (some ⟨some .cash, 6230⟩)
    ((after c (declaring [])).session 0).inProgress = some ⟨2, [(.cash, 6230)]⟩ ∧
    codeAtWindow c (declaring [(.cash, 6230)]) = some .declarationAbandoned ∧
    ((after c (declaring [(.cash, 6230)])).session 0).inProgress = none := by decide +kernel

/-- Step 11 of the worked cash-up (09, Table 9.6). -/
theorem test_declare_confirm :
    let t := after (.declareConfirm W1 7 (some ⟨1, 1⟩)) (declaring [(.cash, 6230), (.card, 2910)])
    ((t.session 0).result.map fun r => (r.state, r.tenders.cash.expected)) =
      some (.variance, 6235) ∧
    ((t.session 0).result.map fun r => (r.tenders.cash.variance, r.tenders.card.variance)) =
      some (some (-5, .short), some (0, .within)) := by decide +kernel

/-- Step 1 of the worked cash-up (09): a job in RETRY_WAIT keeps DECLARE_BEGIN away. -/
theorem test_declare_begin :
    codeAtWindow (.declareBegin W1 7 (some 2)) (withJob fun j => { j with state := .retryWait }) =
      some .jobsOutstanding ∧
    ((after (.declareBegin W1 7 (some 2)) issued).session 0).inProgress = some ⟨2, []⟩ := by
  decide +kernel

/-! ## Recovery -/

theorem test_meets_RecoveryAndAcknowledgment :
    let s := faulted .wrongStock
    base.admits .office .clearLane 7 ∧ base.admits .office .purgeLane 7 ∧
    base.admits .office .ackFault 7 ∧ (0 < 1 ∧ 4 < 5) ∧ (base.lane 0).state ≠ .faulted ∧
    (base.lane 1).state = .offline ∧
    ((faulted .feedJam).activeOf (.lane 0) = [report 1 .feedJam] ∧
      ((faulted .feedJam).lane 0).state = .faulted) ∧
    ((s.lane 0).state = .faulted ∧
      (∀ r ∈ s.activeOf (.lane 0), r.kind ∉ [FaultKind.feedJam, .cutJam, .headStall] ∧
        r.lastOther ∉ [some FaultKind.feedJam, some .cutJam, some .headStall]) ∧
      (s.lane 0).cabinetPin = .locked ∧ (s.lane 0).head ≠ .notPositioned ∧ 0 < s.remaining 0 ∧
      s.expected 0 = some 100) ∧
    (let u := (reading id); (u.lane 0).state ≠ .offline ∧ (u.lane 0).inflight = none ∧
      (u.lane 0).head = .unverified ∧ u.powerFail = false ∧ (u.lane 0).stockPin = true) ∧
    (let u := printing .printing .strobe 3 false;
      (u.lane 0).inflight = some flight ∧ flight.begun = true ∧ u.mounted 0 = some pack ∧
        u.packOf pack.cls flight.serial = some pack ∧
        u.job flight.window flight.slot =
          some { job with state := .printing, lane := some 0, deadline := none }) ∧
    (let u := (printing .printing .strobe 3 false).setLane 0 { ticketLane .printing .strobe 3 false
      with inflight := some { flight with begun := false } };
      (u.lane 0).inflight = some { flight with begun := false }) ∧
    (∀ r ∈ base.faults, r.number ≠ 1) ∧
    (s.faults.find? fun x => x.number == 1) = some (report 1 .wrongStock) ∧
    (report 1 .wrongStock).source ≠ .controller ∧
    (let r := { report 65535 .wrongStock with state := .cleared };
      ([r].find? fun x => x.number == 65535) = some r) ∧
    (let r := { report 1 .stockTableMismatch with source := .controller };
      r.state = .active ∧ r.source = .controller ∧ r.kind ≠ .storeLost) ∧
    ({ report 1 .wrongStock with state := .acknowledged }).state = .acknowledged := by
  decide +kernel

theorem test_meets_RecoveryAndAcknowledgment_feeds :
    let s := reading id
    let u := s.setLane 0 { s.lane 0 with stockPin := false }
    ((u.lane 0).state ≠ .offline ∧ (u.lane 0).inflight = none ∧ (u.lane 0).head = .unverified ∧
      0 < u.remaining 0 ∧ u.expected 0 = some 100) ∧
    { s with powerFail := true }.powerFail = true ∧ u.powerFail = false ∧
    (u.lane 0).stockPin = false ∧
    ((after (.purgeLane .office 7 (some 1)) { s with powerFail := true }).lane 0).deferred =
      some .feed ∧
    (after (.purgeLane .office 7 (some 1)) u).faults.map (·.kind) = [.stockDiscrepancy] := by
  decide +kernel

/-- CLEAR_LANE of a lane with none positioned, with the cabinet open, and with no UNUSED blank left; and
the older of two purge-only reports (04 R74; 10 R180, R182). -/
theorem test_meets_RecoveryAndAcknowledgment_clears :
    let on := fun f => { withLane (fun x => f { x with state := .faulted }) with
      faults := [report 1 .wrongStock], faultCounter := 2 }
    let s := on fun x => { x with head := .notPositioned }
    let u := s.setLane 0 { s.lane 0 with stockPin := false }
    let open_ := on fun x => { x with cabinetPin := .opened }
    let spent := { on id with packs := [{ pack with
      counters := ⟨0, 4, 0, 0, 0, 0, 0⟩, marks := .replicate 4 .issued }] }
    let two := { faulted .feedJam with
      faults := [report 1 .wrongStock, report 2 .feedJam, report 3 .cutJam] }
    let clear := after (.clearLane .office 7 (some 1))
    s.admits .office .clearLane 7 ∧ (s.lane 0).state = .faulted ∧
    (∀ r ∈ s.activeOf (.lane 0), r.kind ∉ [FaultKind.feedJam, .cutJam, .headStall] ∧
      r.lastOther ∉ [some FaultKind.feedJam, some .cutJam, some .headStall]) ∧
    ((s.lane 0).cabinetPin = .locked ∧ (s.lane 0).head = .notPositioned ∧
      (s.lane 0).inflight = none ∧ 0 < s.remaining 0 ∧ s.expected 0 = some 100 ∧
      s.powerFail = false ∧ (s.lane 0).stockPin = true) ∧
    { s with powerFail := true }.powerFail = true ∧ (u.lane 0).stockPin = false ∧
    ((open_.lane 0).cabinetPin = .opened ∧ (open_.lane 0).cabinetSeen = .locked) ∧
    ((spent.lane 0).cabinetPin = .locked ∧ spent.remaining 0 = 0) ∧
    two.activeOf (.lane 0) = [report 1 .wrongStock] ++ report 2 .feedJam :: [report 3 .cutJam] ∧
    [s, { s with powerFail := true }, u, open_, spent].map (fun v =>
      (((clear v).lane 0).state, ((clear v).lane 0).causes, (clear v).faults.map (·.kind))) =
      [(.feeding, .empty, [.wrongStock]), (.feeding, .empty, [.wrongStock]),
        (.faulted, .empty, [.wrongStock, .stockDiscrepancy]),
        (.holding, ⟨true, false⟩, [.wrongStock, .cabinetOpen]),
        (.holding, ⟨false, true⟩, [.wrongStock])] ∧
    ((clear two).port .office).tx.map (·.reply) = some ⟨.purgeNeeded, .reportNumber 2⟩ := by
  decide +kernel

/-- PURGE_LANE of a lane with a VERIFIED blank, of the last UNUSED one, and with none left (04 R75, R78;
10 R180, R183). -/
theorem test_meets_RecoveryAndAcknowledgment_purges :
    let last := { pack with
      counters := ⟨1, 3, 0, 0, 0, 0, 0⟩, marks := [.unused, .issued, .issued, .issued] }
    let spent := { pack with counters := ⟨0, 4, 0, 0, 0, 0, 0⟩, marks := .replicate 4 .issued }
    let u := base.setLane 0 { base.lane 0 with stockPin := false }
    let v := { withLane (fun x => { x with head := .notPositioned }) with packs := [spent] }
    let purge := after (.purgeLane .office 7 (some 1))
    base.admits .office .purgeLane 7 ∧ (base.lane 0).state ≠ .offline ∧
    ((base.lane 0).inflight = none ∧ (base.lane 0).head = .verified 100 ∧
      base.mounted 0 = some pack ∧ base.packOf pack.cls 100 = some pack ∧
      pack.markOf 100 = some .unused) ∧
    (1 < pack.counters.unused ∧ 101 ≠ 100 ∧ (base.lane 0).position ≤ 101 ∧
      pack.markOf 101 = some .unused ∧
      (∀ m < 101, (base.lane 0).position ≤ m → m ≠ 100 → pack.markOf m ≠ some .unused)) ∧
    (base.powerFail = false ∧ (u.lane 0).stockPin = false ∧ (base.lane 0).stockPin = true) ∧
    (last.counters.unused = 1 ∧ { base with packs := [last] }.packOf 0 100 = some last) ∧
    ((v.lane 0).inflight = none ∧ (v.lane 0).head = .notPositioned ∧ v.remaining 0 = 0) ∧
    [base, { base with powerFail := true }, u, { base with packs := [last] }, v].map (fun x =>
      (((purge x).lane 0).state, ((purge x).findPack 1).bind (·.markOf 100))) =
      [(.purging, some .advanced), (.purging, some .advanced), (.faulted, some .advanced),
        (.holding, some .advanced), (.holding, some .issued)] := by
  refine ⟨by decide +kernel, by decide +kernel, by decide +kernel, by decide +kernel,
    by decide +kernel, by decide +kernel, by decide +kernel, by decide +kernel⟩

theorem test_clear_and_purge :
    (let t := after (.clearLane .office 7 (some 1)) (faulted .wrongStock);
      (t.faults.map (·.state), (t.lane 0).state) = ([.cleared], .priming)) ∧
    codeAtOffice (.clearLane .office 7 (some 1)) (faulted .headStall) = some .purgeNeeded ∧
    (let t := after (.purgeLane .office 7 (some 1)) (printing .printing .strobe 3 false);
      ((t.lane 0).state, (t.findPack 1).bind (·.markOf 100), (t.job 0 0).map Job.state) =
        (.purging, some .spoiled, some .queued)) := by decide +kernel

theorem test_ack :
    codeAtOffice (.ackFault .office 7 (some 1)) (faulted .wrongStock) = some .stillActive ∧
    codeAtOffice (.ackFault .office 7 (some 2)) (faulted .wrongStock) = some .noReport ∧
    (after (.ackFault .office 7 (some 1)) { base with
      faults := [{ report 1 .wrongStock with state := .cleared }] }).faults.map (·.state) =
      [.acknowledged] := by decide +kernel

/-! ## Clocks, limits, restart and power -/

theorem test_meets_ClocksAndLimits :
    base.phase = .running ∧ { base with phase := .unpowered }.phase ≠ .running ∧
    isPower .runTimeTick = false ∧ base.admits .office .setClock 7 ∧
    base.admits .office .setLimits 7 ∧ 86399 < 86400 ∧ 86399 ≤ 86399 ∧
    (let waits : List (Nat × Nat) := [(1, 0), (6, 4), (2, 601)];
      (∀ x ∈ waits, 1 ≤ x.1 ∧ x.1 ≤ 6) ∧ (waits.map Prod.fst).Nodup ∧
        ∃ x ∈ waits, x.2 ≠ 0 ∧ (x.2 < 5 ∨ 600 < x.2)) ∧
    ¬([(1, 0), (1, 5)].map Prod.fst).Nodup ∧ (0x1F : Byte).toNat < 0x20 ∧
    0x20 ≤ (0x20 : Byte).toNat := by decide +kernel

theorem test_clocks :
    (after .officeClockTick { base with clock := ⟨0xFFFF, 86399, true⟩ }).clock =
      ⟨0, 0, true⟩ ∧
    (after .runTimeTick { base with runTime := 0xFFFFFFFF }).runTime = 0 ∧
    (after (.setClock .office 7 (some (some ⟨412, 51420⟩))) base).clock = ⟨412, 51420, true⟩ ∧
    codeAtOffice (.setClock .office 7 (some (some ⟨0, 86400⟩))) base = some .badArgument := by
  decide +kernel

theorem test_limits :
    (after (.setLimits .office 7 (some ⟨some [(1, 0), (6, 4), (2, 601)], some 901, some 256,
      some [(some .cash, 10001)], some 0x24⟩)) base).limits =
      ⟨#v[0, 600, 120, 120, 120, 5], 900, 255, ⟨10000, 0, 0, 0⟩, 0x24⟩ ∧
    codeAtOffice (.setLimits .office 7 (some ⟨some ((List.range 7).map fun n => (n + 1, 60)), none,
      none, none, none⟩)) base = some .badArgument := by decide +kernel

theorem test_meets_RestartAndReinitialise :
    base.admits .office .restart 7 ∧ base.admits .office .storeReinitialise 7 ∧
    (∀ w k j, base.job w k = some j → j.state ≠ .printing) ∧
    base.job 0 0 = some job ∧ job.state ∈ [JobState.queued, .held, .retryWait] ∧
    base.job 0 1 = none ∧
    (printing .printing .strobe 3 false).job 0 0 =
      some { job with state := .printing, lane := some 0, deadline := none } :=
  ⟨by decide +kernel, by decide +kernel, jobs_meet (by decide +kernel), by decide +kernel,
    by decide +kernel, by decide +kernel, by decide +kernel⟩

theorem test_restart :
    (let t := after (.restart .office 7 (some ())) base;
      (t.job 0 0, t.journalReserved, (t.port W1).queue, (t.form 2).useCount) =
        (none, 0, [.controllerStart], 0)) ∧
    (let t := after (.storeReinitialise .office 7 (some ())) base;
      ((t.job 0 0).map Job.state, t.packs, (t.lane 0).state, (t.session 0).state, t.nextPack) =
        (some .cancelled, [], .offline, .none, 1)) ∧
    codeAtOffice (.storeReinitialise .office 7 (some ())) (printing .printing .strobe 3 false) =
      some .laneBusy := by decide +kernel

theorem test_meets_ResetAndSupplyLoss :
    { base with phase := .unpowered }.phase = .unpowered ∧ base.phase ≠ .unpowered := by
  decide +kernel

theorem test_supply_loss :
    (after (.supplyLoss true) { base with powerFail := true }).checkAgrees = true ∧
    (after (.supplyLoss true) base).checkAgrees = false ∧
    (after (.supplyLoss false) { base with powerFail := true }).checkAgrees = false ∧
    (after .resetAsserted base).phase = .resetHeld := by decide +kernel

theorem test_meets_PowerOnWithTheStoreValid :
    base.checkAgrees = true ∧ (base.form 2).pending = none ∧
    ((base.lane 1).pack = none) ∧ (∀ l, (base.lane l).inflight = none) ∧
    (base.mounted 0 = some pack ∧ (base.lane 0).cabinetPin = .locked ∧
      pack.counters.unused ≠ 0 ∧ pack.lowestUnused pack.first = some 100) ∧
    (let s := { base with forms := base.forms.set 2 ⟨some cardForm, some cardForm, 255, 1, 0⟩ };
      (s.form 2).pending = some cardForm ∧ (s.form 2).generation = 255) ∧
    let s := printing .printing .strobe 3 false;
    (s.lane 0).inflight = some flight ∧ flight.begun = true ∧
      (∀ m, m ≠ 0 → (s.lane m).inflight = none) ∧ s.mounted 0 = some pack ∧
      s.packOf pack.cls flight.serial = some pack ∧ pack.markOf flight.serial = some .unused ∧
      s.activeOf (.lane 0) = [] := by decide +kernel

/-- Two tickets interrupted, of one window, and one that had not begun; L2's cabinet open, L1's and L3's
locked with a CABINET_OPEN report of L1 retained. -/
def interrupted : State :=
  let p2 : Pack := { pack with number := 2, first := 200, lane := some 1 }
  let p3 : Pack := { pack with number := 3, first := 300, lane := some 2 }
  let r2 : InFlight := { flight with slot := 1, serial := 200 }
  let r3 : InFlight := { flight with slot := 2, serial := 300, begun := false }
  let s := printing .printing .strobe 3 false
  let s := s.setLane 1 { ticketLane .printing .strobe 3 false with
    pack := some 2, inflight := some r2, cabinetPin := .opened }
  let s := s.setLane 2 { ticketLane .printing .strobe 0 false with
    pack := some 3, inflight := some r3 }
  { s with packs := [pack, p2, p3], faults := [report 1 .cabinetOpen], faultCounter := 2 }

theorem test_meets_PowerOnWithTheStoreValid_more :
    let s := interrupted
    s.checkAgrees = true ∧ s.stockHolds ∧ s.bindingsHold ∧ (∀ l, (s.lane l).keptWf = true) ∧
    (∀ l r, (s.lane l).inflight = some r → r.begun = true →
      ∃ k, s.mounted l = some k ∧ k.markOf r.serial = some .unused) ∧
    s.interrupted.length = 2 ∧ s.faultsHold ∧
    ((s.lane 2).inflight.map InFlight.begun = some false ∧ (s.lane 2).cabinetPin = .locked ∧
      ((s.mounted 2).bind fun k => k.lowestUnused k.first) = some 300) ∧
    ((s.lane 0).cabinetPin = .locked ∧ s.activeOf (.lane 0) = [report 1 .cabinetOpen] ∧
      (report 1 .cabinetOpen).lastOther = none ∧ s.faults.length ≤ 56) ∧
    ((s.lane 1).cabinetPin = .opened ∧ (s.lane 1).pack.isSome = true) ∧
    (s.lane 3).pack = none := by
  refine ⟨rfl, by decide +kernel, bindings_meet (by decide +kernel) (by decide +kernel),
    by decide +kernel, fun l r hr hb => ?_, by decide +kernel⟩
  have h : ∀ l : LaneId, (interrupted.lane l).inflight.all (fun r => !r.begun ||
      (interrupted.mounted l).any fun k => k.markOf r.serial == some .unused) = true := by
    decide +kernel
  have := h l
  rw [hr] at this
  simpa [hb, Option.any_eq_true] using this

/-- Two spoils of one session numbered in the lanes' order, the record that had not begun let go, and the
cabinets' reports reconciled (04 R90; 08 R158; 10 R189). -/
theorem test_power_on_several :
    let t := after .powerOn interrupted
    t.journal.map (fun e => (e.number, e.data.serial)) = [(1, 100), (2, 200)] ∧
    (t.session 0).spoiledCount = 2 ∧ t.journalReserved = 0 ∧ (t.lane 2).state = .priming ∧
    t.faults.map (fun r => (r.source, r.kind, r.state)) =
      [(.lane 0, .cabinetOpen, .cleared), (.lane 0, .powerInterrupted, .active),
        (.lane 1, .powerInterrupted, .active), (.lane 1, .cabinetOpen, .active)] := by
  decide +kernel

/-- A ticket interrupted: its blank SPOILED, the fault raised, CONTROLLER_START before the lane notices (11 R194). -/
theorem test_power_on :
    (let t := after .powerOn (printing .printing .strobe 3 false);
      ((t.findPack 1).bind (·.markOf 100), t.faults.map (·.kind), (t.lane 0).inflight,
        (t.port W1).queue.head?) =
        (some .spoiled, [.powerInterrupted], none, some .controllerStart)) ∧
    (after .powerOn { base with checkAgrees := false }).faults.map (·.kind) = [.storeLost] := by
  decide +kernel

theorem test_meets_PowerOnWithTheStoreInvalid :
    { base with checkAgrees := false }.checkAgrees = false := by decide +kernel

end Sys2Proof.Tests
end

section
/-! SUPPORT. Ports, notices and the taking of a request (01): where a posting goes, what a request's
answer leaves, what FETCH_NOTICE removes; and the statements settled from them. -/

namespace Sys2Proof.Machine

/-! ## Posting to a queue (01 R11) -/

/-- A replaced notice has the same object, so a posting adds at most the new one to a queue's objects. -/
theorem map_object_coalesce (q : List Notice) (n : Notice) :
    (coalesce q n).map Notice.object =
      if n.object ∈ q.map Notice.object then q.map Notice.object
      else q.map Notice.object ++ [n.object] := by
  have same : Notice.object ∘ (fun m => if m.object = n.object then n else m) = Notice.object := by
    funext m
    simp only [Function.comp_apply]
    split
    · exact Eq.symm ‹_›
    · rfl
  have mem : q.any (fun m => m.object == n.object) = true ↔ n.object ∈ q.map Notice.object := by
    simp
  simp only [coalesce, mem]
  split
  · rw [List.map_map, same]
  · simp

theorem coalesce_eq_append {q : List Notice} {n : Notice} (h : ∀ m ∈ q, m.object ≠ n.object) :
    coalesce q n = q ++ [n] := by
  have absent : q.any (fun m => m.object == n.object) = false := by simpa using h
  simp [coalesce, absent]

/-- The place of the unread notice is the only one for its object, so it alone is written. -/
theorem coalesce_eq_set {q : List Notice} {n : Notice} (nodup : (q.map Notice.object).Nodup)
    {i : Nat} (hi : i < q.length) (h : q[i].object = n.object) : coalesce q n = q.set i n := by
  have present : q.any (fun m => m.object == n.object) = true :=
    List.any_eq_true.2 ⟨q[i], List.getElem_mem hi, by simp [h]⟩
  have only : ∀ (j : Nat) (hj : j < q.length), q[j].object = n.object ↔ i = j := by
    intro j hj
    have inj := nodup.getElem_inj_iff (i := i) (hi := by simpa) (j := j) (hj := by simpa)
    rw [List.getElem_map, List.getElem_map] at inj
    rw [← h, eq_comm, inj]
  rw [coalesce, if_pos present]
  refine List.ext_getElem (by simp) fun j hj _ => ?_
  simp only [List.getElem_map, List.getElem_set, only j (by simpa using hj)]

theorem nodup_object_coalesce {q : List Notice} (nodup : (q.map Notice.object).Nodup) (n : Notice) :
    ((coalesce q n).map Notice.object).Nodup := by
  rw [map_object_coalesce]
  split
  · exact nodup
  · rename_i absent
    exact List.nodup_append.2 ⟨nodup, List.nodup_singleton _, by
      rintro a ha b hb rfl
      exact absent (List.mem_singleton.1 hb ▸ ha)⟩

/-! ## The objects of a port (01 Table 1.9) -/

/-- The 15 objects of a window's queue. -/
def windowObjects : List NoticeObject :=
  (List.finRange 8).map .slot ++ (List.finRange 4).map .lane ++
    [.ownSession, .ownPermissions, .controller]

/-- The 16 objects of the office's queue. -/
def officeObjects : List NoticeObject :=
  (List.finRange 4).map .lane ++ (List.finRange 6).map .sessionOf ++
    [.faultList, .stock, .census, .forms, .store, .controller]

theorem mem_windowObjects (o : NoticeObject) : o ∈ windowObjects ↔ o.atWindow = true := by
  cases o <;> simp [windowObjects, NoticeObject.atWindow]

theorem mem_officeObjects (o : NoticeObject) : o ∈ officeObjects ↔ o.atOffice = true := by
  cases o <;> simp [officeObjects, NoticeObject.atOffice]

/-- A queue with one notice for each object is no longer than the list of the port's objects. -/
theorem queueWf.length_le {own : NoticeObject → Bool} {objects : List NoticeObject}
    (mem : ∀ o, o ∈ objects ↔ own o = true) {q : List Notice} (h : queueWf own q) :
    q.length ≤ objects.length := by
  obtain ⟨nodup, each⟩ := h
  have sub : q.map Notice.object ⊆ objects := by
    intro o ho
    obtain ⟨n, hn, rfl⟩ := List.mem_map.1 ho
    exact (mem _).2 (each n hn).2
  simpa using (List.subperm_of_subset nodup sub).length_le

/-- Settles O13: the two places by `coalesce_eq_set` and `coalesce_eq_append`, and the bounds by
counting the objects of each port. -/
theorem noticeTakesItsPlace : Obligations.NoticeTakesItsPlace := by
  unfold Obligations.NoticeTakesItsPlace
  refine ⟨fun q n nodup => ⟨fun i hi h => coalesce_eq_set nodup hi h, coalesce_eq_append,
    nodup_object_coalesce nodup n⟩, fun s ⟨windows, office⟩ => ⟨fun w => ?_, ?_⟩⟩
  · exact (windows w).length_le mem_windowObjects
  · exact office.length_le mem_officeObjects

/-! ## Where a posting goes (01 Table 1.4, R12) -/

section
variable (s : State) (p q : Port) (w : Window)

theorem State.post_queue (n : Notice) :
    ((s.post p n).port q).queue =
      if q = p then coalesce (s.port q).queue n else (s.port q).queue := by
  by_cases h : q = p
  · subst h
    simp
  · simp [State.post_port_ne s h, h]

theorem State.postLane_queue (l : LaneId) :
    ((s.postLane l).port q).queue = coalesce (s.port q).queue ⟨.laneChange, .lane l, none⟩ :=
  s.postEvery_queue _ q

theorem State.postOffice_queue (k : NoticeKind) (o : NoticeObject) :
    ((s.postOffice k o).port .office).queue = coalesce (s.port .office).queue ⟨k, o, none⟩ :=
  s.post_queue_self .office _

theorem State.postOffice_queue_window (k : NoticeKind) (o : NoticeObject) :
    ((s.postOffice k o).port (.window w)).queue = (s.port (.window w)).queue := by
  rw [State.postOffice, State.post_port_ne s (by simp)]

theorem State.postSession_queue :
    ((s.postSession w).port q).queue =
      if q = .window w then coalesce (s.port q).queue ⟨.sessionChange, .ownSession, none⟩
      else if q = .office then coalesce (s.port q).queue ⟨.sessionChange, .sessionOf w, none⟩
      else (s.port q).queue := by
  rw [State.postSession, State.post_queue, State.post_queue]
  by_cases h : q = .window w
  · simp [h]
  · simp [h]

/-- The grants are no part of a port. -/
theorem State.withGrants_port (g : Vector GrantSet 6) :
    ({ s with grants := g } : State).port q = s.port q :=
  State.port_ext (s := s) q rfl rfl

theorem State.regrant_queue (g : GrantSet) :
    ((s.regrant w g).port q).queue =
      if q = .window w ∧ g ≠ s.grants[w] then
        coalesce (s.port q).queue ⟨.permissions, .ownPermissions, none⟩
      else (s.port q).queue := by
  unfold State.regrant
  dsimp only
  split
  · rw [State.withGrants_port, if_neg fun h => h.2 ‹_›]
  · rename_i differs
    rw [State.post_queue, State.withGrants_port]
    simp only [ne_eq, differs, not_false_eq_true, and_true]

theorem State.postOutcome_queue (k : SlotId) (o : SlotOutcome) :
    ((s.postOutcome w k o).port q).queue =
      if q = .window w then coalesce (s.port q).queue ⟨.slotOutcome, .slot k, some o⟩
      else (s.port q).queue := by
  rw [State.postOutcome, State.post_queue, State.setSlot_port]

theorem State.startPorts_port : s.startPorts.port q = (s.port q).start := by
  cases q <;> simp [State.startPorts, State.port]

theorem State.restartQueues_port : s.restartQueues.port q = (s.port q).restarted := by
  cases q <;> simp [State.restartQueues, State.port]

end

/-- Settles O14, kind by kind from the rule of each posting. -/
theorem noticesAreRouted : Obligations.NoticesAreRouted := by
  unfold Obligations.NoticesAreRouted
  intro s
  refine ⟨fun l p => s.postLane_queue p l, fun w p => s.postSession_queue p w,
    fun w g p => s.regrant_queue p w g, fun w k o p => s.postOutcome_queue p w k o,
    fun w => ?_, s.postOffice_queue _ _, s.postOffice_queue _ _, s.postOffice_queue _ _,
    s.postOffice_queue _ _, s.postOffice_queue _ _, fun p => ?_, fun p => ?_⟩
  · have kept := s.postOffice_queue_window w
    exact ⟨kept _ _, kept _ _, kept _ _, kept _ _, kept _ _⟩
  · rw [State.startPorts_port]
    rfl
  · rw [State.restartQueues_port]
    rfl

/-! ## The taking of a request (01 R3 to R6) -/

section
variable (s : State) (p q : Port) (k : RequestKind) (tag : Byte)

theorem State.reachBlock_of_not_abandons {k : RequestKind} (h : k.abandons = false) :
    s.reachBlock p k = s := by
  cases p <;> simp [State.reachBlock, h]

/-- An admitted request whose body fits, of a kind that abandons no declaration, is answered with what
its block decides. -/
theorem State.plainRequest_of_admits {s : State} {p : Port} {k : RequestKind} {tag : Byte}
    (h : s.admits p k tag) (hk : k.abandons = false) {β : Type} (b : β) (fits : β → Bool)
    (hb : fits b = true) (take : β → State → State × Reply) :
    s.plainRequest p tag k (some b) fits take =
      (take b s).1.answerWith p k.byte tag (take b s).2 := by
  obtain ⟨takes, admitted⟩ := h
  simp [State.plainRequest, State.request, takes, hb, admitted,
    State.reachBlock_of_not_abandons s p hk]

@[simp] theorem State.answerWith_queue (a : Byte) (r : Reply) :
    ((s.answerWith p a tag r).port q).queue = (s.port q).queue := by
  by_cases h : q = p
  · subst h
    simp [State.answerWith]
  · simp [State.answerWith, State.setPort_port_ne s h]

@[simp] theorem State.answerWith_slots (a : Byte) (r : Reply) :
    (s.answerWith p a tag r).slots = s.slots := by
  simp [State.answerWith]

@[simp] theorem State.answerWith_slot (a : Byte) (r : Reply) (w : Window) (j : SlotId) :
    (s.answerWith p a tag r).slot w j = s.slot w j := by
  simp [State.answerWith]

/-- A block that leaves the receivers alone leaves the port answered with its reply. -/
theorem State.answered_answerWith {s t : State} (h : s.same t .receivers) (r : Reply) :
    s.answered (t.answerWith p k.byte tag r) p k tag r := by
  refine ⟨by simp [State.answerWith], by simp [State.answerWith], fun q hq => ?_⟩
  simpa [State.answerWith, State.setPort_port_ne t hq] using h q

/-- An answered port is not in STARTING, so its attention line follows its queue (01 R14). -/
theorem State.answered.attention_iff {s t : State} {p : Port} {k : RequestKind} {tag : Byte}
    {r : Reply} (h : s.answered t p k tag r) :
    (t.port p).attention = true ↔ (t.port p).queue ≠ [] := by
  obtain ⟨rx, -, -⟩ := h
  simp [PortState.attention, rx]

/-! ## FETCH_NOTICE (01 R15, R16; 03 R40) -/

/-- A port's queue written, its receiver and answer kept. -/
theorem State.setQueue_frame (x : List Notice) :
    s.changesOnly (s.setPort p { s.port p with queue := x }) [.queues] := by
  intro y hy
  cases y <;> simp_all [State.same]
  intro q
  by_cases h : q = p
  · subst h
    simp
  · simp [State.setPort_port_ne s h]

theorem JobState.isTerminal_eq_not_isActive (j : Job) : j.state.isTerminal = !j.isActive := by
  unfold Job.isActive JobState.isTerminal
  cases j.state <;> rfl

theorem Slot.fetched_none {x : Slot} (h : x.job = none) : x.fetched = ⟨false, none⟩ := by
  simp [Slot.fetched, h]

/-- A fetched outcome empties the slot of a job that has ended, and clears the flag of any other. -/
theorem Slot.fetched_some {x : Slot} {j : Job} (h : x.job = some j) :
    x.fetched = if j.isActive then ⟨false, some j⟩ else ⟨false, none⟩ := by
  cases ha : j.isActive <;>
    simp [Slot.fetched, h, JobState.isTerminal_eq_not_isActive, ha, Slot.empty]

theorem State.reportFetched_slot (n : Notice) (w : Window) (j : SlotId)
    (hk : n.kind = .slotOutcome) (ho : n.object = .slot j) :
    s.reportFetched (.window w) n = s.setSlot w j (s.slot w j).fetched := by
  simp [State.reportFetched, hk, ho]

theorem State.reportFetched_other (n : Notice) (h : n.kind ≠ .slotOutcome ∨ p = .office) :
    s.reportFetched p n = s := by
  unfold State.reportFetched
  split
  · simp_all
  · rfl

theorem State.reportFetched_frame (n : Notice) :
    s.changesOnly (s.reportFetched p n) [.slots] := by
  unfold State.reportFetched
  split
  · exact s.setSlot_frame _ _ _
  · exact s.changesOnly_refl _

@[simp] theorem State.reportFetched_queue (n : Notice) :
    ((s.reportFetched p n).port q).queue = (s.port q).queue :=
  State.changesOnly_same (s.reportFetched_frame p n) .queues (by decide) q

/-- The state after the oldest notice of a queue is removed and reported, before the answer. -/
def State.dequeued (n : Notice) (rest : List Notice) : State :=
  (s.setPort p { s.port p with queue := rest }).reportFetched p n

theorem State.dequeued_queue (n : Notice) (rest : List Notice) :
    ((s.dequeued p n rest).port q).queue = if q = p then rest else (s.port q).queue := by
  by_cases h : q = p
  · subst h
    simp [State.dequeued]
  · simp [State.dequeued, State.setPort_port_ne s h, h]

theorem State.dequeued_frame (n : Notice) (rest : List Notice) :
    s.changesOnly (s.dequeued p n rest) [.queues, .slots] :=
  State.changesOnly_then (s.setQueue_frame p rest) (State.reportFetched_frame _ p n)

theorem State.dequeued_slots_of_other (n : Notice) (rest : List Notice)
    (h : n.kind ≠ .slotOutcome ∨ p = .office) : (s.dequeued p n rest).slots = s.slots := by
  rw [State.dequeued, State.reportFetched_other _ p n h, State.setPort_slots]

/-- A fetched SLOT_OUTCOME writes its own slot, and no other. -/
theorem State.dequeued_slot (n : Notice) (rest : List Notice) {w : Window} {j : SlotId}
    (hk : n.kind = .slotOutcome) (ho : n.object = .slot j) :
    s.otherSlots (s.dequeued (.window w) n rest) w j ∧
      (s.dequeued (.window w) n rest).slot w j = (s.slot w j).fetched := by
  rw [State.dequeued, State.reportFetched_slot _ n w j hk ho]
  refine ⟨fun v i hne => ?_, by simp⟩
  rw [State.setSlot_slot_ne _ hne, State.setPort_slot]

theorem State.exec_fetchNotice_of_admits {s : State} {p : Port} {tag : Byte}
    (h : s.admits p .fetchNotice tag) :
    exec (.fetchNotice p tag (some ())) s =
      .next ((s.fetchNotice p).1.answerWith p RequestKind.fetchNotice.byte tag (s.fetchNotice p).2) :=
  congrArg Host.Outcome.next
    (State.plainRequest_of_admits h rfl () _ rfl fun _ t => t.fetchNotice p)

theorem State.fetchNotice_nil {s : State} {p : Port} (h : (s.port p).queue = []) :
    s.fetchNotice p = (s, refusal .none) := by
  simp [State.fetchNotice, h]

theorem State.fetchNotice_cons {s : State} {p : Port} {n : Notice} {rest : List Notice}
    (h : (s.port p).queue = n :: rest) :
    s.fetchNotice p = (s.dequeued p n rest, accepted (.notice n)) := by
  simp [State.fetchNotice, h, State.dequeued]

end

/-- Settles O16: the empty queue is answered with nothing moved, and a fetched notice leaves the state
`State.dequeued` with the answer. -/
theorem fetchTakesTheOldestNotice : Obligations.FetchTakesTheOldestNotice := by
  unfold Obligations.FetchTakesTheOldestNotice
  intro s p tag admits
  constructor
  · intro empty
    have answered := State.answered_answerWith p .fetchNotice tag (s.same_refl .receivers)
      (refusal .none)
    refine ⟨_, State.exec_fetchNotice_of_admits admits, ?_⟩
    rw [State.fetchNotice_nil empty]
    refine ⟨answered, ?_, s.answerWith_frame p _ _ _⟩
    simpa [empty] using answered.attention_iff
  · intro n rest queue
    have frame := s.dequeued_frame p n rest
    have answered := State.answered_answerWith p .fetchNotice tag
      (State.changesOnly_same frame .receivers) (accepted (.notice n))
    refine ⟨_, State.exec_fetchNotice_of_admits admits, ?_⟩
    rw [State.fetchNotice_cons queue]
    refine ⟨answered, ?_, ?_, fun q hq => ?_,
      State.changesOnly_then frame (State.answerWith_frame _ p _ _ _), fun other => ?_,
      fun w k hp hk ho => ?_⟩
    · simp [State.dequeued_queue]
    · simpa [State.dequeued_queue] using answered.attention_iff
    · simp [State.dequeued_queue, hq]
    · rw [State.answerWith_slots, s.dequeued_slots_of_other p n rest other]
    · subst hp
      obtain ⟨others, own⟩ := s.dequeued_slot n rest hk ho
      refine ⟨fun v j ne => ?_, ?_⟩
      · rw [State.answerWith_slot, others v j ne]
      · rw [State.answerWith_slot, own]
        cases held : s.job w k with
        | none => exact Slot.fetched_none held
        | some j => exact Slot.fetched_some held

end Sys2Proof.Machine
end

section
/-! SUPPORT. Requests of a window on one of its slots (03 Table 3.3): what the taking leaves of a
request that abandons a declaration in progress, the refusals every request on a slot begins with, what
a rewritten job leaves; and HOLD_JOB settled from them. -/

namespace Sys2Proof.Machine

/-! ## The slot a request names -/

section
variable {n : Nat} {k : SlotId}

theorem slotOf_eq_none (h : n < 1 ∨ 8 < n) : slotOf n = none :=
  dif_neg (by omega)

theorem slotOf_eq_some (h : ¬(n < 1 ∨ 8 < n)) : slotOf n = some (Fin.ofNat 8 (n - 1)) := by
  have range : 1 ≤ n ∧ n ≤ 8 := by omega
  rw [slotOf, dif_pos range]
  exact congrArg some (Fin.ext (Nat.mod_eq_of_lt (by omega)).symm)

theorem slotOf_val_add_one (k : SlotId) : slotOf (k.val + 1) = some k :=
  dif_pos ⟨by omega, by omega⟩

end

/-! ## The checks common to the requests on a slot -/

section
variable {s : State} {w : Window} {n : Nat} {k : SlotId} {j : Job}
  {take : SlotId → Job → State → State × Reply}

theorem State.onJob_of_slotOf_none (h : slotOf n = none) :
    s.onJob w n take = (s, refusal .badArgument) := by
  rw [State.onJob, h]

theorem State.onJob_of_job_none (hk : slotOf n = some k) (hj : s.job w k = none) :
    s.onJob w n take = (s, refusal .noJob) := by
  simp only [State.onJob, hk, hj]

theorem State.onJob_of_active (hk : slotOf n = some k) (hj : s.job w k = some j)
    (active : j.isActive = true) : s.onJob w n take = take k j s := by
  simp only [State.onJob, hk, hj, active, if_true]

theorem State.onJob_of_ended (hk : slotOf n = some k) (hj : s.job w k = some j)
    (ended : j.isActive = false) : s.onJob w n take = (s, refusal .jobEnded) := by
  simp [State.onJob, hk, hj, ended]

end

/-! ## A job rewritten in its slot -/

section
variable (s : State) (w : Window) (k : SlotId) (f : Job → Job)

theorem State.mapJob_slot_self {j : Job} (h : s.job w k = some j) :
    (s.mapJob w k f).slot w k = ⟨(s.slot w k).unread, some (f j)⟩ := by
  simp [State.mapJob, h]

theorem State.mapJob_otherSlots : s.otherSlots (s.mapJob w k f) w k :=
  fun _ _ other => s.setSlot_slot_ne other _

end

/-! ## The taking of a request that abandons a declaration (01 R3 to R6; 09 R166) -/

section
variable {s : State} {w : Window} {q : RequestKind} {tag : Byte}

@[simp] theorem State.answerWith_sessions (s : State) (p : Port) (a g : Byte) (r : Reply) :
    (s.answerWith p a g r).sessions = s.sessions := by
  simp [State.answerWith]

theorem State.dropDeclaration_frame (s : State) (w : Window) :
    s.changesOnly (s.dropDeclaration w) [.sessions] :=
  s.setSession_frame w _

theorem State.dropDeclaration_session (s : State) (w v : Window) :
    (s.dropDeclaration w).session v = s.session v ∨
      (v = w ∧ (s.dropDeclaration w).session v = { s.session v with inProgress := none }) := by
  by_cases h : v = w
  · subst h
    exact .inr ⟨rfl, s.setSession_session_self v _⟩
  · exact .inl (s.setSession_session_ne h _)

/-- An admitted window request whose body fits drops the declaration in progress, and is then answered
with what its block decides. -/
theorem State.windowRequest_of_admits (h : s.admits (.window w) q tag) (hq : q.abandons = true)
    {β : Type} (b : β) (fits : β → Bool) (hb : fits b = true)
    (take : Window → β → State → State × Reply) :
    s.windowRequest (.window w) tag q (some b) fits take =
      (take w b (s.dropDeclaration w)).1.answerWith (.window w) q.byte tag
        (take w b (s.dropDeclaration w)).2 := by
  obtain ⟨takes, admitted⟩ := h
  simp [State.windowRequest, State.request, takes, hb, admitted, State.reachBlock, hq]

/-- A request refused by its block leaves only its answer and the dropped declaration. -/
theorem State.refusedAt_dropDeclaration (s : State) (w : Window) (a g : Byte) (r : Reply) :
    s.refusedAt ((s.dropDeclaration w).answerWith (.window w) a g r) (.window w) := by
  refine ⟨State.changesOnly_then (s.dropDeclaration_frame w) (State.answerWith_frame _ _ _ _ _),
    fun v => ?_⟩
  have session : ((s.dropDeclaration w).answerWith (.window w) a g r).session v =
      (s.dropDeclaration w).session v := State.setPort_session _ _ _ v
  rw [session]
  refine (s.dropDeclaration_session w v).imp_right ?_
  rintro ⟨rfl, dropped⟩
  exact ⟨rfl, dropped⟩

end

/-! ## HOLD_JOB (03 R45) -/

section
variable {s : State} {w : Window} {n : Nat} {k : SlotId} {j : Job} {tag : Byte}

/-- The code that answers a HOLD_JOB which moves no job, absent where it takes a QUEUED job to HELD. -/
def State.holdCode (s : State) (w : Window) (n : Nat) : Option ResultCode :=
  if n < 1 ∨ 8 < n then some .badArgument
  else match s.job w (Fin.ofNat 8 (n - 1)) with
    | none => some .noJob
    | some j => match j.state with
      | .queued => none
      | .held => some .ok
      | .printing => some .tooLate
      | .retryWait => some .notQueued
      | .done | .failed | .expired | .cancelled => some .jobEnded

/-- A bare acceptance is the answer of the code OK. -/
theorem accepted_bare : accepted .bare = refusal .ok := rfl

theorem State.holdJob_of_holdCode {code : ResultCode} (h : s.holdCode w n = some code) :
    s.holdJob w n = (s, refusal code) := by
  unfold State.holdCode at h
  split at h
  case isTrue outside =>
    cases h
    exact State.onJob_of_slotOf_none (slotOf_eq_none outside)
  case isFalse inside =>
    have named := slotOf_eq_some inside
    split at h
    case h_1 empty =>
      cases h
      exact State.onJob_of_job_none named empty
    case h_2 j held =>
      cases state : j.state with
      | queued => simp [state] at h
      | held | printing | retryWait =>
        have active : j.isActive = true := by simp [Job.isActive, state]
        simp only [state, Option.some.injEq] at h
        subst h
        rw [State.holdJob, State.onJob_of_active named held active]
        simp only [state, accepted_bare]
      | done | failed | expired | cancelled =>
        have ended : j.isActive = false := by simp [Job.isActive, state]
        simp only [state, Option.some.injEq] at h
        subst h
        exact State.onJob_of_ended named held ended

theorem State.holdJob_of_queued (hj : s.job w k = some j) (queued : j.state = .queued) :
    s.holdJob w (k.val + 1) =
      (s.mapJob w k fun j => { j with state := .held }, accepted .bare) := by
  have active : j.isActive = true := by simp [Job.isActive, queued]
  rw [State.holdJob, State.onJob_of_active (slotOf_val_add_one k) hj active]
  simp only [queued]

theorem State.exec_holdJob_of_admits (h : s.admits (.window w) .holdJob tag) :
    exec (.holdJob (.window w) tag (some n)) s =
      .next (((s.dropDeclaration w).holdJob w n).1.answerWith (.window w)
        RequestKind.holdJob.byte tag ((s.dropDeclaration w).holdJob w n).2) :=
  congrArg Host.Outcome.next (State.windowRequest_of_admits h rfl n _ rfl State.holdJob)

theorem State.not_eligible_of_not_queued (h : j.state ≠ .queued) (l : LaneId) :
    s.eligible j l = false := by
  simp [State.eligible, h]

theorem State.visitSlot_of_not_queued (hj : s.job w k = some j) (h : j.state ≠ .queued) :
    s.visitSlot w k = s := by
  simp [State.visitSlot, hj, h]

end

/-- Settles O26: a code leaves the state of the dropped declaration by `State.holdJob_of_holdCode`, a
QUEUED job is rewritten in its slot alone, and a HELD job is none that is QUEUED. -/
theorem holdJobByTheSlotsState : Obligations.HoldJobByTheSlotsState := by
  unfold Obligations.HoldJobByTheSlotsState
  intro s w tag n admits
  have run := State.exec_holdJob_of_admits (n := n) admits
  have dropped := s.dropDeclaration_frame w
  refine ⟨fun code hcode => ?_, fun k j hn hj queued => ?_, fun k j hj held => ?_⟩
  · have unmoved : (s.dropDeclaration w).holdJob w n = (s.dropDeclaration w, refusal code) :=
      State.holdJob_of_holdCode hcode
    rw [unmoved] at run
    exact ⟨_, run, State.answered_answerWith _ _ _ (State.changesOnly_same dropped .receivers) _,
      s.refusedAt_dropDeclaration w _ _ _⟩
  · subst hn
    have moved := State.holdJob_of_queued (s := s.dropDeclaration w) hj queued
    rw [moved] at run
    have frame := State.changesOnly_then (c := [.slots, .sessions]) dropped
      (State.mapJob_frame _ w k fun j => { j with state := .held })
    refine ⟨_, run, State.answered_answerWith _ _ _ (State.changesOnly_same frame .receivers) _,
      ?_, fun v i other => ?_, ?_,
      State.changesOnly_then frame (State.answerWith_frame _ (.window w) _ _ _)⟩
    · rw [State.answerWith_slot]
      exact State.mapJob_slot_self _ w k _ hj
    · rw [State.answerWith_slot]
      exact State.mapJob_otherSlots _ w k _ v i other
    · rw [State.answerWith_sessions]
      rfl
  · have notQueued : j.state ≠ .queued := by simp [held]
    exact ⟨State.not_eligible_of_not_queued notQueued, State.visitSlot_of_not_queued hj notQueued⟩

end Sys2Proof.Machine
end

section
/-! SUPPORT. The pack table (05): the numbers a search for a free one goes through, the record of a
declared pack; and DECLARE_PACK settled from them. -/

namespace Sys2Proof.Machine

/-! ## Free numbers (05 R96; 10 R176) -/

/-- The number `i` places after `n`, in the circle of 1 to 65,535. -/
def numberAfter (n i : Nat) : Nat := (n - 1 + i) % 65535 + 1

section
variable {n i j : Nat} {taken : List Nat}

theorem numberAfter_zero (low : 1 ≤ n) (high : n ≤ 65535) : numberAfter n 0 = n := by
  unfold numberAfter
  omega

theorem nextNumber_numberAfter (n i : Nat) :
    nextNumber (numberAfter n i) = numberAfter n (i + 1) := by
  unfold nextNumber numberAfter
  split <;> omega

theorem numberAfter_le (n i : Nat) : numberAfter n i ≤ 65535 := by
  unfold numberAfter
  omega

theorem numberAfter_inj (hi : i < 65535) (hj : j < 65535)
    (h : numberAfter n i = numberAfter n j) : i = j := by
  unfold numberAfter at h
  omega

theorem nextNumber_of_le (high : n ≤ 65535) :
    nextNumber n = if n = 65535 then 1 else n + 1 := by
  have reached : 65535 ≤ n ↔ n = 65535 := by omega
  simp only [nextNumber, reached]

/-- The search stops at a number that is not taken, or when its steps are used up; every number it
passed is taken. -/
theorem freeNumber_numberAfter (taken : List Nat) (n : Nat) : ∀ fuel k, ∃ i, k ≤ i ∧ i ≤ k + fuel ∧
    freeNumber taken fuel (numberAfter n k) = numberAfter n i ∧
    (∀ j, k ≤ j → j < i → numberAfter n j ∈ taken) ∧
    (i < k + fuel → numberAfter n i ∉ taken)
  | 0, k => ⟨k, le_rfl, le_rfl, rfl, fun _ _ _ => by omega, fun _ => by omega⟩
  | fuel + 1, k => by
    by_cases held : numberAfter n k ∈ taken
    · obtain ⟨i, above, within, found, passed, free⟩ :=
        freeNumber_numberAfter taken n fuel (k + 1)
      refine ⟨i, by omega, by omega, ?_, fun j hk hi => ?_, fun h => free (by omega)⟩
      · simpa [freeNumber, held, nextNumber_numberAfter] using found
      · rcases Nat.eq_or_lt_of_le hk with rfl | later
        · exact held
        · exact passed j later hi
    · exact ⟨k, le_rfl, by omega, by simp [freeNumber, held], fun _ _ _ => by omega, fun _ => held⟩

/-- Numbers of the circle that are all taken are no more than the taken numbers. -/
theorem le_length_of_numberAfter_mem (hi : i ≤ 65535)
    (h : ∀ j, j < i → numberAfter n j ∈ taken) : i ≤ taken.length := by
  have nodup : ((List.range i).map (numberAfter n)).Nodup :=
    List.nodup_range.map_on fun a ha b hb =>
      numberAfter_inj ((List.mem_range.1 ha).trans_le hi) ((List.mem_range.1 hb).trans_le hi)
  have sub : (List.range i).map (numberAfter n) ⊆ taken := by
    intro m hm
    obtain ⟨j, hj, rfl⟩ := List.mem_map.1 hm
    exact h j (List.mem_range.1 hj)
  simpa using (List.subperm_of_subset nodup sub).length_le

/-- With more steps than taken numbers the search gives the first free number from `n` upward. -/
theorem freeNumber_first {fuel : Nat} (low : 1 ≤ n) (high : n ≤ 65535)
    (enough : taken.length < fuel) (short : fuel ≤ 65535) :
    ∃ i, freeNumber taken fuel n = numberAfter n i ∧ numberAfter n i ∉ taken ∧
      ∀ j, j < i → numberAfter n j ∈ taken := by
  obtain ⟨i, -, within, found, passed, free⟩ := freeNumber_numberAfter taken n fuel 0
  rw [numberAfter_zero low high] at found
  have counted : i ≤ taken.length :=
    le_length_of_numberAfter_mem (by omega) fun j => passed j (Nat.zero_le j)
  exact ⟨i, found, free (by omega), fun j => passed j (Nat.zero_le j)⟩

end

/-! ## The checks of a declaration (05 R98) -/

section
variable {s : State} {p : Port} {tag : Byte} {b : PackBody}

theorem PackBody.inRange_eq_false_iff (b : PackBody) : b.inRange = false ↔
    3 < b.cls ∨ b.count < 1 ∨ 1000 < b.count ∨ b.first < 1 ∨ 9999999 < b.first ∨
      9999999 < b.first + b.count - 1 ∨ 8 < b.excluded.length ∨
      (∃ r ∈ b.excluded, r < b.first ∨ b.first + b.count ≤ r) ∨ ¬b.excluded.Nodup := by
  by_cases counted : 1 ≤ b.count
  · have last (r : Nat) : b.last < r ↔ b.first + b.count ≤ r := by
      unfold PackBody.last
      omega
    simp only [PackBody.inRange, Bool.and_eq_false_iff, decide_eq_false_iff_not,
      List.all_eq_false, Bool.and_eq_true, decide_eq_true_eq, not_and_or, not_le, last, or_assoc]
    rfl
  · have empty : b.count < 1 := by omega
    simp [PackBody.inRange, empty]

theorem Census.blocksAll_iff (c : Census) :
    c.blocksAll = true ↔ c.state = .running ∨ c.state = .suspending := by
  simp [Census.blocksAll]

theorem Pack.overlaps_iff (q : Pack) (counted : 1 ≤ b.count) :
    q.overlaps b.cls b.first b.last = true ↔
      q.cls = b.cls ∧ q.first < b.first + b.count ∧ b.first < q.first + q.count := by
  have last : q.first ≤ b.last ↔ q.first < b.first + b.count := by
    unfold PackBody.last
    omega
  simp [Pack.overlaps, last, and_assoc]

/-- The code that refuses a declaration, absent where it passes the checks, in R98's order (05). -/
def State.declarePackCode (s : State) (b : PackBody) : Option ResultCode :=
  if 3 < b.cls ∨ b.count < 1 ∨ 1000 < b.count ∨ b.first < 1 ∨ 9999999 < b.first ∨
      9999999 < b.first + b.count - 1 ∨ 8 < b.excluded.length ∨
      (∃ r ∈ b.excluded, r < b.first ∨ b.first + b.count ≤ r) ∨ ¬b.excluded.Nodup then
    some .badArgument
  else if s.census.state = .running ∨ s.census.state = .suspending then some .censusBusy
  else if ∃ q ∈ s.packs, q.cls = b.cls ∧ q.first < b.first + b.count ∧
      b.first < q.first + q.count then some .overlap
  else if 16 ≤ s.packs.length ∨ 8192 < (s.packs.map Pack.count).sum + b.count then some .noRoom
  else none

theorem State.declarePack_eq (s : State) (b : PackBody) :
    s.declarePack b = match s.declarePackCode b with
      | some code => (s, refusal code)
      | none => (s.addPack b, accepted (.packDeclared s.packNumber (s.addPack b).entriesFree)) := by
  unfold State.declarePack State.declarePackCode
  simp only [← PackBody.inRange_eq_false_iff, ← Census.blocksAll_iff]
  cases range : b.inRange with
  | false => simp
  | true =>
    have counted : 1 ≤ b.count := by
      by_contra uncounted
      have out := (PackBody.inRange_eq_false_iff b).2 (.inr (.inl (by omega)))
      simp [range] at out
    have shared : (s.packs.any fun q => q.overlaps b.cls b.first b.last) = true ↔
        ∃ q ∈ s.packs, q.cls = b.cls ∧ q.first < b.first + b.count ∧
          b.first < q.first + q.count := by
      simp only [List.any_eq_true, Pack.overlaps_iff _ counted]
    simp only [← shared]
    cases s.census.blocksAll with
    | true => simp
    | false =>
      cases s.packs.any fun q => q.overlaps b.cls b.first b.last with
      | true => simp
      | false =>
        by_cases full : 16 ≤ s.packs.length ∨ 8192 < (s.packs.map Pack.count).sum + b.count <;>
          simp [full, Config.packPlaces, Config.blankEntries, State.entriesUsed]

/-! ## The pack of a taken declaration (05 R96, R99) -/

/-- A blank of a declared pack is MISSING where it was excluded, and UNUSED elsewhere. -/
theorem PackBody.record_markOf (b : PackBody) (number : Nat) {r : Nat} (low : b.first ≤ r)
    (high : r < b.first + b.count) :
    (PackBody.record b number).markOf r = some (if r ∈ b.excluded then .missing else .unused) := by
  have inside : (PackBody.record b number).inRange r = true := by
    simp [Pack.inRange, PackBody.record, low, high]
  have place : r - b.first < b.count := by omega
  have serial : b.first + (r - b.first) = r := by omega
  rw [Pack.markOf, if_pos inside]
  simp [PackBody.record, place, serial]

@[simp] theorem State.addPack_packs (s : State) (b : PackBody) :
    (s.addPack b).packs = s.packs ++ [PackBody.record b s.packNumber] :=
  State.post_packs _ _ _

@[simp] theorem State.addPack_nextPack (s : State) (b : PackBody) :
    (s.addPack b).nextPack = nextNumber s.packNumber :=
  State.post_nextPack _ _ _

theorem State.addPack_entriesFree (s : State) (b : PackBody) :
    (s.addPack b).entriesFree = 8192 - ((s.packs.map Pack.count).sum + b.count) := by
  simp [State.entriesFree, State.entriesUsed, Config.blankEntries, PackBody.record]

/-- The pack table and the next number are no part of a port. -/
theorem State.withPacks_port (s : State) (packs : List Pack) (next : Nat) (q : Port) :
    ({ s with packs := packs, nextPack := next } : State).port q = s.port q :=
  State.port_ext (s := s) q rfl rfl

theorem State.addPack_queues (s : State) (b : PackBody) :
    s.queuesAfter (s.addPack b) State.postStock := by
  intro q
  simp only [State.addPack, State.postStock, State.postOffice, State.post_queue,
    State.withPacks_port]

theorem State.withPacks_frame (s : State) (packs : List Pack) (next : Nat) :
    s.changesOnly { s with packs := packs, nextPack := next } [.packs, .nextPack] := by
  intro x hx
  cases x
  case packs | nextPack => simp at hx
  case receivers | queues => exact fun q => by simp [State.withPacks_port]
  all_goals simp [State.same]

theorem State.addPack_frame (s : State) (b : PackBody) :
    s.changesOnly (s.addPack b) [.queues, .packs, .nextPack] :=
  State.changesOnly_then (s.withPacks_frame _ _) (State.postOffice_frame _ _ _)

/-- A table of fewer than 16 packs leaves a free number among the next 17. -/
theorem State.packNumber_first (room : s.packs.length < 16) (low : 1 ≤ s.nextPack)
    (high : s.nextPack ≤ 65535) :
    ∃ i, s.packNumber = numberAfter s.nextPack i ∧ (∀ x ∈ s.packs, x.number ≠ s.packNumber) ∧
      ∀ j, j < i → ∃ x ∈ s.packs, x.number = numberAfter s.nextPack j := by
  obtain ⟨i, found, free, passed⟩ := freeNumber_first (taken := s.packs.map Pack.number)
    (fuel := 17) low high (by simpa using room.trans (by decide)) (by decide)
  refine ⟨i, found, fun x hx same => free ?_, fun j hj => List.mem_map.1 (passed j hj)⟩
  rw [← found]
  exact List.mem_map.2 ⟨x, hx, same⟩

theorem State.exec_declarePack_of_admits (h : s.admits p .declarePack tag) :
    exec (.declarePack p tag (some b)) s =
      .next ((s.declarePack b).1.answerWith p RequestKind.declarePack.byte tag
        (s.declarePack b).2) :=
  congrArg Host.Outcome.next
    (State.plainRequest_of_admits h rfl b _ rfl fun b t => t.declarePack b)

end

/-- Settles O43: a code leaves the state as it is, and a declaration without one leaves
`State.addPack`, whose number is the first free one by `State.packNumber_first`. -/
theorem declarePackAddsThePack : Obligations.DeclarePackAddsThePack := by
  unfold Obligations.DeclarePackAddsThePack
  refine ⟨fun s p tag b admits code refused => ?_, fun s p tag b admits cls counted most first last
    excluded inside nodup census apart places entries low high => ?_⟩
  · have run := State.exec_declarePack_of_admits (b := b) admits
    have held : s.declarePackCode b = some code := refused
    rw [State.declarePack_eq, held] at run
    exact ⟨_, run, State.answered_answerWith _ _ _ (s.same_refl .receivers) _,
      s.answerWith_frame p _ _ _⟩
  · have run := State.exec_declarePack_of_admits (b := b) admits
    have passes : s.declarePackCode b = none := by
      refine (if_neg ?_).trans ((if_neg ?_).trans ((if_neg ?_).trans (if_neg ?_)))
      · simp only [not_or, not_exists, not_and, not_lt, not_le, not_not]
        exact ⟨cls, counted, most, first, by omega, last, excluded, inside, nodup⟩
      · simpa using census
      · rintro ⟨q, hq, shared⟩
        exact apart q hq shared
      · omega
    rw [State.declarePack_eq, passes, State.addPack_entriesFree] at run
    have frame := s.addPack_frame b
    obtain ⟨i, number, free, passed⟩ := State.packNumber_first places low high
    have bound : s.packNumber ≤ 65535 := number ▸ numberAfter_le _ _
    refine ⟨_, s.packNumber, i, PackBody.record b s.packNumber, run, number, free, passed,
      State.answered_answerWith _ _ _ (State.changesOnly_same frame .receivers) _, ?_, ?_,
      rfl, rfl, rfl, rfl, rfl, rfl, rfl, fun r => PackBody.record_markOf b _, rfl, rfl, rfl, rfl,
      fun q => ?_, State.changesOnly_then frame (State.answerWith_frame _ p _ _ _)⟩
    · simp [State.answerWith]
    · simp [State.answerWith, nextNumber_of_le bound]
    · rw [State.answerWith_queue]
      exact s.addPack_queues b q

end Sys2Proof.Machine
end

section
/-! SUPPORT. What each command may change, as the parts of State that `State.changesOnly` names: a frame
for each operation of a lane, of the census unit and of the clock and store unit, composed from the
shared operations' frames, and one table of parts for all the commands. -/

-- One proof at a time: the check's memory limit holds few threads.
set_option Elab.async false

namespace Sys2Proof.Machine

/-! ## A lane moved -/

section
variable (s : State) (l : LaneId) (f : Lane → Lane)

@[simp] theorem State.moveLane_lane_self : (s.moveLane l f).lane l = f (s.lane l) := by
  rw [State.moveLane]
  split <;> simp [State.postLane]

theorem State.moveLane_lane_ne {m : LaneId} (h : m ≠ l) : (s.moveLane l f).lane m = s.lane m := by
  rw [State.moveLane]
  split <;> simp [State.postLane, State.setLane_lane_ne s h]

theorem State.moveLane_otherLanes : s.otherLanes (s.moveLane l f) l :=
  fun _ h => s.moveLane_lane_ne l f h

@[simp] theorem State.moveLane_phase : (s.moveLane l f).phase = s.phase := by
  rw [State.moveLane]; split <;> rfl
@[simp] theorem State.moveLane_powerFail : (s.moveLane l f).powerFail = s.powerFail := by
  rw [State.moveLane]; split <;> rfl
@[simp] theorem State.moveLane_grants : (s.moveLane l f).grants = s.grants := by
  rw [State.moveLane]; split <;> rfl
@[simp] theorem State.moveLane_forms : (s.moveLane l f).forms = s.forms := by
  rw [State.moveLane]; split <;> rfl
@[simp] theorem State.moveLane_slots : (s.moveLane l f).slots = s.slots := by
  rw [State.moveLane]; split <;> rfl
@[simp] theorem State.moveLane_scanner : (s.moveLane l f).scanner = s.scanner := by
  rw [State.moveLane]; split <;> rfl
@[simp] theorem State.moveLane_packs : (s.moveLane l f).packs = s.packs := by
  rw [State.moveLane]; split <;> rfl
@[simp] theorem State.moveLane_nextPack : (s.moveLane l f).nextPack = s.nextPack := by
  rw [State.moveLane]; split <;> rfl
@[simp] theorem State.moveLane_census : (s.moveLane l f).census = s.census := by
  rw [State.moveLane]; split <;> rfl
@[simp] theorem State.moveLane_discounts : (s.moveLane l f).discounts = s.discounts := by
  rw [State.moveLane]; split <;> rfl
@[simp] theorem State.moveLane_limits : (s.moveLane l f).limits = s.limits := by
  rw [State.moveLane]; split <;> rfl
@[simp] theorem State.moveLane_sessions : (s.moveLane l f).sessions = s.sessions := by
  rw [State.moveLane]; split <;> rfl
@[simp] theorem State.moveLane_journal : (s.moveLane l f).journal = s.journal := by
  rw [State.moveLane]; split <;> rfl
@[simp] theorem State.moveLane_journalInUse : (s.moveLane l f).journalInUse = s.journalInUse := by
  rw [State.moveLane]; split <;> rfl
@[simp] theorem State.moveLane_journalReserved : (s.moveLane l f).journalReserved = s.journalReserved := by
  rw [State.moveLane]; split <;> rfl
@[simp] theorem State.moveLane_faults : (s.moveLane l f).faults = s.faults := by
  rw [State.moveLane]; split <;> rfl
@[simp] theorem State.moveLane_faultCounter : (s.moveLane l f).faultCounter = s.faultCounter := by
  rw [State.moveLane]; split <;> rfl
@[simp] theorem State.moveLane_clock : (s.moveLane l f).clock = s.clock := by
  rw [State.moveLane]; split <;> rfl
@[simp] theorem State.moveLane_runTime : (s.moveLane l f).runTime = s.runTime := by
  rw [State.moveLane]; split <;> rfl
@[simp] theorem State.moveLane_storeValid : (s.moveLane l f).storeValid = s.storeValid := by
  rw [State.moveLane]; split <;> rfl
@[simp] theorem State.moveLane_checkAgrees : (s.moveLane l f).checkAgrees = s.checkAgrees := by
  rw [State.moveLane]; split <;> rfl
@[simp] theorem State.moveLane_pending : (s.moveLane l f).pending = s.pending := by
  rw [State.moveLane]; split <;> rfl
@[simp] theorem State.moveLane_slot (w : Window) (k : SlotId) :
    (s.moveLane l f).slot w k = s.slot w k := by
  simp [State.slot]
@[simp] theorem State.moveLane_job (w : Window) (k : SlotId) :
    (s.moveLane l f).job w k = s.job w k := by
  simp [State.job]
@[simp] theorem State.moveLane_session (w : Window) :
    (s.moveLane l f).session w = s.session w := by
  simp [State.session]
@[simp] theorem State.moveLane_form (g : Fin 8) : (s.moveLane l f).form g = s.form g := by
  simp [State.form]
@[simp] theorem State.moveLane_rx (p : Port) : ((s.moveLane l f).port p).rx = (s.port p).rx :=
  (State.changesOnly_same (s.moveLane_frame l f) .receivers (by decide) p).1
@[simp] theorem State.moveLane_tx (p : Port) : ((s.moveLane l f).port p).tx = (s.port p).tx :=
  (State.changesOnly_same (s.moveLane_frame l f) .receivers (by decide) p).2

end

/-! ## Lane operations -/

/-- What a lane's operation may change: its own record, the stock and the census told of a mark, the
fault list, and the job, session, journal and form of a ticket that ends. -/
def laneParts : List Part :=
  [.lanes, .queues, .packs, .census, .faults, .slots, .sessions, .journal, .forms]

section
variable (s : State) (l : LaneId)

theorem State.enterHolding_frame (c : HoldCauses) :
    s.changesOnly (s.enterHolding l c) [.lanes, .queues] := s.moveLane_frame l _

theorem State.enterIdle_frame : s.changesOnly (s.enterIdle l) [.lanes, .queues] :=
  s.moveLane_frame l _

theorem State.spoilTicket_frame (r : InFlight) (x : OutcomeReason) :
    s.changesOnly (s.spoilTicket l r x)
      [.lanes, .queues, .packs, .census, .slots, .sessions, .journal, .forms] := by
  unfold State.spoilTicket
  have written := State.changesOnly_then (c := [.queues, .packs, .census, .slots, .sessions, .journal])
    (s.changeMark_frame (s.mountedClass l) r.serial .spoiled)
    (State.writeJobEntry_frame _ r.window r.slot
      (r.spoilEntry (s.mountedClass l) ((s.lane l).pack.getD 0)))
  have ended := State.changesOnly_then
    (c := [.lanes, .queues, .packs, .census, .slots, .sessions, .journal, .forms]) written
    (State.spoilJob_frame _ r.window r.slot x (s.mountedClass l) r.serial)
  exact State.changesOnly_then ended (State.moveLane_frame _ l _)

theorem State.issueTicket_frame (r : InFlight) :
    s.changesOnly (s.issueTicket l r)
      [.lanes, .queues, .packs, .census, .slots, .sessions, .journal, .forms] := by
  unfold State.issueTicket
  have written := State.changesOnly_then (c := [.queues, .packs, .census, .slots, .sessions, .journal])
    (s.changeMark_frame (s.mountedClass l) r.serial .issued)
    (State.writeJobEntry_frame _ r.window r.slot
      (r.issueEntry (s.mountedClass l) ((s.lane l).pack.getD 0)))
  have ended := State.changesOnly_then
    (c := [.lanes, .queues, .packs, .census, .slots, .sessions, .journal, .forms]) written
    (State.endJob_frame _ r.window r.slot .done
      ⟨.done, .none, s.attemptsOf r.window r.slot, s.mountedClass l, r.serial, r.value⟩)
  exact State.changesOnly_then ended (State.moveLane_frame _ l _)

theorem State.settle_frame : s.changesOnly (s.settle l)
    [.lanes, .queues, .packs, .census, .slots, .sessions, .journal, .forms] := by
  unfold State.settle
  split
  · exact s.changesOnly_refl _
  · exact State.changesOnly_ite (s.spoilTicket_frame l _ _)
      (State.changesOnly_then (s.handBack_frame _ _) (State.moveLane_frame _ l _))

theorem State.laneFault_frame (k : FaultKind) (c : FaultContext) :
    s.changesOnly (s.laneFault l k c) laneParts :=
  State.changesOnly_then
    (State.changesOnly_then (c := laneParts)
      (State.changesOnly_then (c := laneParts) (s.moveLane_frame l _) (State.settle_frame _ l))
      (State.raiseLane_frame _ l _ _))
    (State.moveLane_frame _ l _)

theorem State.advanceHead_frame :
    s.changesOnly (s.advanceHead l) [.lanes, .queues, .packs, .census] := by
  unfold State.advanceHead
  split
  · exact State.changesOnly_ite
      (State.changesOnly_then (s.changeMark_frame _ _ _) (State.moveLane_frame _ l _))
      (s.changesOnly_refl _)
  · exact s.changesOnly_refl _

theorem State.issueFeed_frame : s.changesOnly (s.issueFeed l) laneParts :=
  State.changesOnly_ite (s.laneFault_frame l _ _) (State.changesOnly_mono (s.moveLane_frame l _))

theorem State.stockOutEnd_frame : s.changesOnly (s.stockOutEnd l) [.lanes, .queues] :=
  s.moveLane_frame l _

theorem State.feedAttempt_frame : s.changesOnly (s.feedAttempt l) laneParts :=
  State.changesOnly_ite
    (State.changesOnly_then (s.advanceHead_frame l) (State.stockOutEnd_frame _ l))
    (State.changesOnly_ite
      (State.changesOnly_then (s.advanceHead_frame l) (State.moveLane_frame _ l _))
      (State.changesOnly_then (s.advanceHead_frame l) (State.issueFeed_frame _ l)))

theorem State.endMatch_frame : s.changesOnly (s.endMatch l) laneParts :=
  State.changesOnly_ite (State.changesOnly_mono (s.moveLane_frame l _))
    (State.changesOnly_ite (State.changesOnly_mono (s.enterHolding_frame l _))
      (State.changesOnly_ite
        (State.changesOnly_then (s.moveLane_frame l _) (State.feedAttempt_frame _ l))
        (State.changesOnly_then (s.moveLane_frame l _) (State.enterIdle_frame _ l))))

theorem State.readAhead_frame (cls serial e : Nat) :
    s.changesOnly (s.readAhead l cls serial e) laneParts :=
  State.changesOnly_then
    (State.changesOnly_then (c := laneParts) (s.markUnused_frame _ _ _) (State.moveLane_frame _ l _))
    (State.laneFault_frame _ l _ _)

theorem State.wrongStock_frame (cls serial : Nat) :
    s.changesOnly (s.wrongStock l cls serial) laneParts :=
  State.changesOnly_then (s.moveLane_frame l _) (State.laneFault_frame _ l _ _)

theorem State.compareRead_frame (cls serial : Nat) :
    s.changesOnly (s.compareRead l cls serial) laneParts := by
  unfold State.compareRead
  split
  · exact State.changesOnly_ite
      (State.changesOnly_then (s.moveLane_frame l _) (State.endMatch_frame _ l))
      (State.changesOnly_ite (s.readAhead_frame l _ _ _) (s.wrongStock_frame l _ _))
  · exact s.wrongStock_frame l _ _

theorem State.failedRead_frame : s.changesOnly (s.failedRead l) laneParts :=
  State.changesOnly_ite (State.changesOnly_mono (s.moveLane_frame l _))
    (State.changesOnly_then (s.moveLane_frame l _) (State.laneFault_frame _ l _ _))

theorem State.strobeLine_frame : s.changesOnly (s.strobeLine l) [.lanes, .queues] :=
  State.changesOnly_ite (s.moveLane_frame l _) (s.moveLane_frame l _)

theorem State.afterStrobe_frame : s.changesOnly (s.afterStrobe l) [.lanes, .queues] :=
  State.changesOnly_ite
    (State.changesOnly_then (s.moveLane_frame l _) (State.strobeLine_frame _ l))
    (s.moveLane_frame l _)

theorem State.afterTicket_frame : s.changesOnly (s.afterTicket l) laneParts :=
  State.changesOnly_ite (State.changesOnly_mono (s.enterHolding_frame l _))
    (State.changesOnly_ite (State.changesOnly_mono (s.stockOutEnd_frame l))
      (State.changesOnly_then (s.moveLane_frame l _) (State.feedAttempt_frame _ l)))

theorem State.cutCompletion_frame : s.changesOnly (s.cutCompletion l) laneParts := by
  unfold State.cutCompletion
  dsimp only
  split
  · exact State.changesOnly_mono (s.moveLane_frame l _)
  · refine State.changesOnly_then (c := laneParts)
      (State.changesOnly_then (b := laneParts) (c := laneParts)
        (s.moveLane_frame l fun x => { x with awaiting := none }) ?_)
      (State.afterTicket_frame _ l)
    exact State.changesOnly_ite (State.changesOnly_mono (State.spoilTicket_frame _ l _ _))
      (State.changesOnly_mono (State.issueTicket_frame _ l _))

theorem State.raiseCabinet_frame : s.changesOnly (s.raiseCabinet l) [.faults, .queues] :=
  s.raiseLane_frame l _ _

theorem State.observeOpening_frame :
    s.changesOnly (s.observeOpening l) [.lanes, .queues, .faults] := by
  have seen := s.moveLane_frame l fun x => { x with cabinetSeen := .opened }
  have raised := State.changesOnly_then (c := [.lanes, .queues, .faults]) seen
    (State.raiseCabinet_frame _ l)
  unfold State.observeOpening
  dsimp only
  split
  · exact State.changesOnly_mono seen
  · exact State.changesOnly_then raised (State.enterHolding_frame _ l _)
  · exact State.changesOnly_then raised (State.moveLane_frame _ l _)
  · exact raised
  all_goals exact State.changesOnly_then raised (State.moveLane_frame _ l _)

theorem State.sampleAtPriming_frame :
    s.changesOnly (s.sampleAtPriming l) [.lanes, .queues, .faults] :=
  State.changesOnly_ite
    (State.changesOnly_then (s.moveLane_frame l _) (State.raiseCabinet_frame _ l))
    (s.changesOnly_refl _)

theorem State.startPriming_frame : s.changesOnly (s.startPriming l) laneParts :=
  State.changesOnly_ite
    (State.changesOnly_then (s.sampleAtPriming_frame l) (State.enterHolding_frame _ l _))
    (State.changesOnly_ite
      (State.changesOnly_then
        (State.changesOnly_then (c := laneParts) (s.sampleAtPriming_frame l)
          (State.moveLane_frame _ l _))
        (State.feedAttempt_frame _ l))
      (State.changesOnly_then (s.sampleAtPriming_frame l) (State.moveLane_frame _ l _)))

theorem State.relock_frame : s.changesOnly (s.relock l) laneParts := by
  have closed := State.changesOnly_then (c := [.lanes, .queues, .faults])
    (s.moveLane_frame l fun x => { x with cabinetSeen := .locked }) (State.selfClear_frame _ l)
  unfold State.relock
  split
  · have moved := State.changesOnly_then (c := [.lanes, .queues, .faults]) closed
      (State.moveLane_frame _ l fun x => { x with causes := { x.causes with cabinetOpen := false } })
    exact State.changesOnly_ite (State.changesOnly_then moved (State.startPriming_frame _ l))
      (State.changesOnly_mono moved)
  case h_9 | h_10 | h_11 => exact State.changesOnly_mono closed
  all_goals exact State.changesOnly_then closed (State.moveLane_frame _ l _)

theorem State.startTicket_frame (h : Handed) (d : FormDef) (serial : Nat) :
    s.changesOnly (s.startTicket l h d serial) [.lanes, .queues] :=
  State.changesOnly_then (s.moveLane_frame l _) (State.strobeLine_frame _ l)

theorem State.openAtStart_frame :
    s.changesOnly (s.openAtStart l) [.lanes, .queues, .faults] := by
  unfold State.openAtStart
  split
  · exact s.observeOpening_frame l
  · exact State.changesOnly_mono (s.enterHolding_frame l _)

theorem State.answerClaim_frame (h : Handed) :
    s.changesOnly (s.answerClaim l h) [.lanes, .queues, .faults, .slots] := by
  have back := State.changesOnly_mono (b := [.lanes, .queues, .faults, .slots])
    (s.handBack_frame h.window h.slot)
  unfold State.answerClaim
  split
  · refine State.changesOnly_ite
      (State.changesOnly_then (s.openAtStart_frame l) (State.handBack_frame _ _ _))
      (State.changesOnly_ite back ?_)
    split
    · exact State.changesOnly_mono (s.startTicket_frame l _ _ _)
    · exact back
  · exact back

theorem State.takeAnswer_frame :
    s.changesOnly (s.takeAnswer l) [.lanes, .queues, .faults, .slots] := by
  unfold State.takeAnswer
  split
  · exact State.changesOnly_then (s.moveLane_frame l _) (State.answerClaim_frame _ l _)
  · exact s.changesOnly_refl _

theorem State.takeClaim_frame : s.changesOnly (s.takeClaim l) [.lanes, .queues, .slots] := by
  refine State.changesOnly_ite ?_ (s.changesOnly_refl _)
  dsimp only
  split
  · exact State.changesOnly_then (s.moveLane_frame l _)
      (State.changesOnly_then (c := [.lanes, .queues, .slots]) (State.mapJob_frame _ _ _ _)
        (State.moveLane_frame _ l _))
  · exact State.changesOnly_mono (s.moveLane_frame l _)

theorem State.takeRecord_frame (r : Vector Byte 6) :
    s.changesOnly (s.takeRecord l r) laneParts := by
  unfold State.takeRecord
  dsimp only
  split
  · exact State.changesOnly_then (s.moveLane_frame l _) (State.compareRead_frame _ l _ _)
  · exact State.changesOnly_then (s.moveLane_frame l _) (State.failedRead_frame _ l)

theorem State.whenRunning_frame {a : List Part} {f : State → State}
    (h : s.changesOnly (f s) a) : s.changesOnly (s.whenRunning f) a :=
  State.changesOnly_ite h (s.changesOnly_refl _)

theorem State.whenAwaiting_frame {a : List Part} {op : LaneOp} {f : State → State}
    (h : s.changesOnly (f s) a) : s.changesOnly (s.whenAwaiting l op f) a :=
  s.whenRunning_frame (State.changesOnly_ite h (s.changesOnly_refl _))

theorem State.resume_frame : s.changesOnly (s.resume l) laneParts := by
  unfold State.resume
  split
  · exact s.issueFeed_frame l
  · exact State.changesOnly_mono (s.strobeLine_frame l)
  · exact s.changesOnly_refl _

theorem State.purge_frame : s.changesOnly (s.purge l) laneParts :=
  State.changesOnly_then
    (State.changesOnly_then (c := laneParts)
      (State.changesOnly_then (c := laneParts)
        (State.changesOnly_then (c := laneParts)
          (State.changesOnly_then (c := laneParts) (s.moveLane_frame l _) (State.settle_frame _ l))
          (State.mapReports_frame _ _))
        (State.postReport_frame _ _))
      (State.moveLane_frame _ l _))
    (State.feedAttempt_frame _ l)

theorem State.clearTaken_frame : s.changesOnly (s.clearTaken l) laneParts :=
  State.changesOnly_then
    (State.changesOnly_then (c := laneParts) (s.mapReports_frame _) (State.postReport_frame _ _))
    (State.startPriming_frame _ l)

end

/-! ## Jobs, packs and the census -/

section
variable (s : State) (w : Window) (k : SlotId)

theorem State.visitSlot_frame : s.changesOnly (s.visitSlot w k)
    [.slots, .sessions, .journal, .forms, .queues, .lanes] := by
  unfold State.visitSlot
  split
  · exact State.changesOnly_ite (s.endJob_frame w k _ _) (s.changesOnly_refl _)
  · exact s.changesOnly_refl _

theorem State.setScanner_frame (n : Nat) :
    s.changesOnly { s with scanner := n } [.scanner] := by
  intro y hy
  cases y
  case scanner => simp at hy
  case receivers | queues => exact fun q => by cases q <;> simp [State.port]
  all_goals simp [State.same]

theorem State.scan_frame : s.changesOnly s.scan
    [.slots, .sessions, .journal, .forms, .queues, .lanes, .scanner] :=
  State.changesOnly_then (s.visitSlot_frame _ _) (State.setScanner_frame _ _)

theorem State.placeJob_frame (b : SubmitBody) (g : Binding) :
    s.changesOnly (s.placeJob w k b g).1 [.forms, .sessions, .journal, .slots, .lanes] :=
  State.changesOnly_then
    (State.changesOnly_then (c := [.forms, .sessions, .journal, .slots])
      (State.changesOnly_then (c := [.forms, .sessions, .journal]) (s.setForm_frame _ _)
        (State.reserve_frame _ w _))
      (State.setSlot_frame _ w k _))
    (State.reportJob_frame _ w k)

theorem State.requeue_frame : s.changesOnly (s.requeue w k) [.slots, .lanes] :=
  State.changesOnly_then (s.mapJob_frame w k _) (State.reportJob_frame _ w k)

theorem State.setSession_postSession_frame (x : Session) :
    s.changesOnly ((s.setSession w x).postSession w) [.sessions, .queues] :=
  State.changesOnly_then (s.setSession_frame w x) (State.postSession_frame _ w)

theorem State.moveCensus_frame (c : Census) :
    s.changesOnly (s.moveCensus c) [.census, .queues] :=
  State.changesOnly_then (s.setCensus_frame c) (State.postOffice_frame _ _ _)

theorem State.haltCensus_frame (c : StopCause) :
    s.changesOnly (s.haltCensus c) [.census, .queues] :=
  State.changesOnly_ite (s.changesOnly_refl _) (s.moveCensus_frame _)

theorem State.storeVerdict_frame (p : Pack) (v : Verdict) :
    s.changesOnly (s.storeVerdict p v) [.packs, .queues, .faults] := by
  cases v with
  | none => exact s.changesOnly_refl _
  | matched => exact State.changesOnly_mono (s.updatePack_frame _ _)
  | mismatch => exact State.changesOnly_then (s.updatePack_frame _ _) (State.raiseController_frame _ _ _)

theorem State.completeCensus_frame (p : Pack) (c : Census) :
    s.changesOnly (s.completeCensus p c) [.packs, .queues, .faults, .census] :=
  State.changesOnly_then (s.storeVerdict_frame _ _) (State.moveCensus_frame _ _)

theorem State.entryStep_frame :
    s.changesOnly s.entryStep [.packs, .queues, .faults, .census] := by
  refine State.changesOnly_ite ?_ (s.changesOnly_refl _)
  split
  · exact s.changesOnly_refl _
  · refine State.changesOnly_ite (State.changesOnly_mono (s.moveCensus_frame _)) ?_
    split
    · exact s.changesOnly_refl _
    · exact State.changesOnly_ite (State.changesOnly_mono (s.setCensus_frame _))
        (State.changesOnly_ite (s.completeCensus_frame _ _)
          (State.changesOnly_ite (State.changesOnly_mono (s.moveCensus_frame _))
            (State.changesOnly_mono (s.setCensus_frame _))))

theorem State.setJournalPacks_frame (j : List JournalEntry) (n : Nat) (p : List Pack) :
    s.changesOnly { s with journal := j, journalInUse := n, packs := p } [.journal, .packs] := by
  intro y hy
  cases y
  case journal | packs => simp at hy
  case receivers | queues => exact fun q => by cases q <;> simp [State.port]
  all_goals simp [State.same]

theorem State.freeEntries_frame :
    s.changesOnly (s.freeEntries w) [.journal, .packs, .queues] :=
  State.changesOnly_ite
    (State.changesOnly_then (s.setJournalPacks_frame _ _ _) (State.postOffice_frame _ _ _))
    (State.changesOnly_mono (s.setJournalPacks_frame _ _ _))

theorem State.bindPack_frame (p : Pack) (l : LaneId) :
    s.changesOnly (s.bindPack p l) laneParts :=
  State.changesOnly_then
    (State.changesOnly_then (c := laneParts) (s.updatePack_frame _ _) (State.moveLane_frame _ l _))
    (State.startPriming_frame _ l)

theorem State.withdrawLane_frame (l : LaneId) (p : Pack) (m : WithdrawMode) :
    s.changesOnly (s.withdrawLane l p m) [.lanes, .packs, .census, .faults, .queues] :=
  State.changesOnly_then
    (State.changesOnly_then (c := [.lanes, .packs, .census, .faults, .queues])
      (State.changesOnly_then (c := [.lanes, .packs, .census, .faults, .queues])
        (s.releaseLane_frame l p m) (State.clearByWithdrawal_frame _ l))
      (State.postOffice_frame _ _ _))
    (State.postLane_frame _ l)

theorem State.removePack_frame (n : Nat) :
    s.changesOnly (s.removePack n) [.packs, .nextPack, .queues] :=
  State.changesOnly_then (s.withPacks_frame _ s.nextPack) (State.postOffice_frame _ _ _)

theorem State.setGrants_frame (g : Vector GrantSet 6) :
    s.changesOnly { s with grants := g } [.grants] := by
  intro y hy
  cases y
  case grants => simp at hy
  case receivers | queues => exact fun q => by cases q <;> simp [State.port]
  all_goals simp [State.same]

theorem State.regrant_frame (g : GrantSet) :
    s.changesOnly (s.regrant w g) [.grants, .queues] :=
  State.changesOnly_ite (State.changesOnly_mono (s.setGrants_frame _))
    (State.changesOnly_then (s.setGrants_frame _) (State.post_frame _ _ _))

end

end Sys2Proof.Machine
end

section
/-! SUPPORT. What a request command does, said once: it is discarded, answered by admission, or answered
by the block that owns it (01 R3 to R6); what a refusal leaves, and the parts each command may change. -/

-- One proof at a time: the check's memory limit holds few threads.
set_option Elab.async false

namespace Sys2Proof.Machine

/-! ## The block a request reaches -/

/-- A window's request handed to its block; at the office admission refuses it before this. -/
def windowBlock {β : Type} (p : Port) (take : Window → β → State → State × Reply) (b : β)
    (s : State) : State × Reply :=
  match p with
  | .window w => take w b s
  | .office => (s, refusal .wrongPort)

/-- What the owning block makes of a request whose body has its layout; absent for a command that is no
request and for a body without its layout. -/
def blockOf (c : Instr) (s : State) : Option (State × Reply) :=
  match c with
  | .openSession p _ b => b.map fun b => windowBlock p State.openSession b s
  | .submitJob p _ b => b.map fun b => windowBlock p State.submitJob b s
  | .supplyLines p _ b => b.map fun b => windowBlock p State.supplyLines b s
  | .holdJob p _ b => b.map fun b => windowBlock p State.holdJob b s
  | .amendJob p _ b => b.map fun b => windowBlock p State.amendJob b s
  | .releaseJob p _ b => b.map fun b => windowBlock p State.releaseRequest b s
  | .withdrawJob p _ b => b.map fun b => windowBlock p State.withdrawJob b s
  | .voidTicket p _ b => b.map fun b => windowBlock p State.voidTicket b s
  | .declareBegin p _ b => b.map fun b => windowBlock p State.declareBegin b s
  | .declareItem p _ b => b.map fun b => windowBlock p State.declareItem b s
  | .declareConfirm p _ b => b.map fun b => windowBlock p State.declareConfirm b s
  | .fetchNotice p _ b => b.map fun _ => s.fetchNotice p
  | .readJob _ _ b => b.map fun b => s.readJob b
  | .readSession _ _ b => b.map fun b => s.readSession b
  | .readLane _ _ b => b.map fun b => s.readLane b
  | .declarePack _ _ b => b.map fun b => s.declarePack b
  | .mountPack _ _ b => b.map fun b => s.mountPack b
  | .withdrawPack _ _ b => b.map fun b => s.withdrawPack b
  | .collectPack _ _ b => b.map fun b => s.collectPack b
  | .readPack _ _ b => b.map fun b => s.readPack b
  | .startCensus _ _ b => b.map fun b => s.startCensus b
  | .suspendCensus _ _ b => b.map fun _ => s.suspendCensus
  | .resumeCensus _ _ b => b.map fun _ => s.resumeCensus
  | .stopCensus _ _ b => b.map fun _ => s.stopCensus
  | .readCensus _ _ b => b.map fun _ => (s, accepted s.censusFields)
  | .clearLane _ _ b => b.map fun b => s.clearLane b
  | .purgeLane _ _ b => b.map fun b => s.purgeLane b
  | .advanceBlank _ _ b => b.map fun b => s.advanceBlank b
  | .ackFault _ _ b => b.map fun b => s.ackFault b
  | .readFaults _ _ b => b.map fun b => s.readFaults b
  | .defineForm _ _ b => b.map fun b => s.defineForm b
  | .readForm _ _ b => b.map fun b => s.readForm b
  | .setDiscount _ _ b => b.map fun b => s.setDiscount b
  | .setLimits _ _ b => b.map fun b => s.setLimits b
  | .setPermissions _ _ b => b.map fun b => s.setPermissions b
  | .collectCashup _ _ b => b.map fun b => s.collectCashup b
  | .reopenSession _ _ b => b.map fun b => s.reopenSession b
  | .setClock _ _ b => b.map fun b => s.setClock b
  | .restart _ _ b => b.map fun _ => s.restart
  | .storeReinitialise _ _ b => b.map fun _ => s.storeReinitialise
  | _ => none

/-- The codes with which admission refuses a request itself (01 R6). -/
def admissionCodes : List ResultCode := [.wrongPort, .malformed, .storeInvalid, .notPermitted]

theorem State.admission_mem {s : State} {p : Port} {k : RequestKind} {own fits : Bool}
    {c : ResultCode} (h : s.admission p k own fits = some c) : c ∈ admissionCodes := by
  unfold State.admission at h
  split at h
  · cases h; decide
  · split at h
    · cases h; decide
    · split at h
      · cases h; decide
      · cases p with
        | office => cases h
        | window w =>
          simp only at h
          split at h
          · cases h
          · cases h; decide

/-- Admission that passes a request passes its kind at that port. -/
theorem State.admission_none {s : State} {p : Port} {k : RequestKind} {own fits : Bool}
    (h : s.admission p k own fits = none) :
    own = true ∧ fits = true ∧ s.admission p k true true = none := by
  unfold State.admission at h
  split at h
  · cases h
  · split at h
    · cases h
    · rename_i wrong unfit
      obtain rfl : fits = true := by simpa using unfit
      obtain rfl : own = true := by
        simp only [Bool.not_eq_true', Bool.not_eq_false, Bool.and_eq_true] at wrong
        exact wrong.2
      refine ⟨rfl, rfl, ?_⟩
      unfold State.admission
      rw [if_neg wrong, if_neg (by simp)]
      exact h

/-- The three ways a request is taken: discarded at a port that takes none, refused by admission, or
answered by its block, once a declaration in progress has been dropped where the kind asks it. -/
theorem State.request_cases {β : Type} (s : State) (p : Port) (tag : Byte) (k : RequestKind)
    (body : Body β) (own fits : β → Bool) (take : β → State → State × Reply) :
    ((s.port p).rx.takes k tag = false ∧ s.request p tag k body own fits take = s) ∨
    ((s.port p).rx.takes k tag = true ∧ ∃ code ∈ admissionCodes,
      s.request p tag k body own fits take = s.answerWith p k.byte tag (refusal code)) ∨
    ((s.port p).rx.takes k tag = true ∧ s.admission p k true true = none ∧ ∃ b, body = some b ∧
      own b = true ∧ fits b = true ∧
      s.request p tag k body own fits take =
        (take b (s.reachBlock p k)).1.answerWith p k.byte tag (take b (s.reachBlock p k)).2) := by
  unfold State.request
  cases takes : (s.port p).rx.takes k tag with
  | false => exact .inl ⟨rfl, if_neg (by simp)⟩
  | true =>
    refine .inr ?_
    rw [if_pos rfl]
    cases body with
    | none =>
      refine .inl ⟨rfl, _, ?_, rfl⟩
      cases found : s.admission p k true false with
      | none => exact absurd (State.admission_none found).2.1 (by decide)
      | some c => exact State.admission_mem found
    | some b =>
      cases found : s.admission p k (own b) (fits b) with
      | some c => exact .inl ⟨rfl, c, State.admission_mem found, by simp only [found]⟩
      | none =>
        obtain ⟨hown, hfits, passed⟩ := State.admission_none found
        exact .inr ⟨rfl, passed, b, rfl, hown, hfits, by simp only [found]⟩

/-- A request command that is taken as `State.request_cases` says, its block being `blockOf`. -/
def takenAs (c : Instr) (s : State) (p : Port) (k : RequestKind) (tag : Byte) : Prop :=
  ((s.port p).rx.takes k tag = false ∧ exec c s = .next s) ∨
  ((s.port p).rx.takes k tag = true ∧ ∃ code ∈ admissionCodes,
    exec c s = .next (s.answerWith p k.byte tag (refusal code))) ∨
  ((s.port p).rx.takes k tag = true ∧ s.admission p k true true = none ∧ bodyFits c = true ∧
    ∃ r, blockOf c (s.reachBlock p k) = some r ∧
      exec c s = .next (r.1.answerWith p k.byte tag r.2))

theorem takenAs_of_request {β : Type} {c : Instr} {s : State} {p : Port} {k : RequestKind}
    {tag : Byte} {body : Body β} {own fits : β → Bool} {take : β → State → State × Reply}
    (run : exec c s = .next (s.request p tag k body own fits take))
    (layout : ∀ b, body = some b → fits b = true → bodyFits c = true)
    (block : ∀ b t, body = some b → blockOf c t = some (take b t)) : takenAs c s p k tag := by
  rcases s.request_cases p tag k body own fits take with
    ⟨free, same⟩ | ⟨takes, code, mem, same⟩ | ⟨takes, passed, b, hb, -, fit, same⟩
  · exact .inl ⟨free, by rw [run, same]⟩
  · exact .inr (.inl ⟨takes, code, mem, by rw [run, same]⟩)
  · exact .inr (.inr ⟨takes, passed, layout b hb fit, _, block b _ hb, by rw [run, same]⟩)

/-- Every request command is discarded, refused by admission, or answered by its block. -/
theorem exec_request {c : Instr} {s : State} {p : Port} {k : RequestKind} {tag : Byte}
    (h : requestOf c = some (p, k, tag)) : takenAs c s p k tag := by
  cases c <;> cases h <;>
    exact takenAs_of_request rfl (by rintro b rfl fit; exact fit) (by rintro b t rfl; rfl)

/-! ## Refusals -/

/-- The answers after which a request may have moved something besides the answering port. -/
def movingCodes : List ResultCode := [.ok, .withdrawn, .windowInSession, .laneLocked]

/-- A block that answers another code leaves the state as it found it. -/
def RefusedUnmoved (s : State) (r : State × Reply) : Prop := r.2.code ∉ movingCodes → r.1 = s

section
variable {s t : State} {w : Window} {n : Nat}

theorem refusedUnmoved_self (r : Reply) : RefusedUnmoved s (s, r) := fun _ => rfl

theorem refusedUnmoved_of_code {r : Reply} (h : r.code ∈ movingCodes) : RefusedUnmoved s (t, r) :=
  fun other => absurd h other

theorem refusedUnmoved_accepted (f : AnswerFields) : RefusedUnmoved s (t, accepted f) :=
  refusedUnmoved_of_code (by simp [accepted, movingCodes])

theorem refusedUnmoved_ite {c : Prop} [Decidable c] {a b : State × Reply}
    (ha : RefusedUnmoved s a) (hb : RefusedUnmoved s b) :
    RefusedUnmoved s (if c then a else b) := by
  split
  · exact ha
  · exact hb

/-- A request on a slot is unmoved where its effect on an active job is. -/
theorem State.onJob_refusedUnmoved {take : SlotId → Job → State → State × Reply}
    (h : ∀ k j, RefusedUnmoved s (take k j s)) : RefusedUnmoved s (s.onJob w n take) := by
  unfold State.onJob
  split
  · exact refusedUnmoved_self _
  · split
    · exact refusedUnmoved_self _
    · exact refusedUnmoved_ite (h _ _) (refusedUnmoved_self _)

theorem State.submitJob_refusedUnmoved (b : SubmitBody) : RefusedUnmoved s (s.submitJob w b) := by
  unfold State.submitJob
  repeat' split
  case h_2.isFalse => exact refusedUnmoved_accepted _
  all_goals exact refusedUnmoved_self _

theorem State.amendJob_refusedUnmoved (b : AmendBody) : RefusedUnmoved s (s.amendJob w b) := by
  refine State.onJob_refusedUnmoved fun k j => ?_
  split
  · split
    · exact refusedUnmoved_self _
    · exact refusedUnmoved_accepted _
  all_goals exact refusedUnmoved_self _

theorem State.supplyLines_refusedUnmoved (b : SupplyBody) :
    RefusedUnmoved s (s.supplyLines w b) :=
  State.onJob_refusedUnmoved fun _ _ => refusedUnmoved_ite (refusedUnmoved_self _)
    (refusedUnmoved_ite (refusedUnmoved_self _) (refusedUnmoved_accepted _))

theorem State.holdJob_refusedUnmoved : RefusedUnmoved s (s.holdJob w n) := by
  refine State.onJob_refusedUnmoved fun k j => ?_
  split
  · exact refusedUnmoved_accepted _
  all_goals exact refusedUnmoved_self _

theorem State.releaseRequest_refusedUnmoved : RefusedUnmoved s (s.releaseRequest w n) := by
  refine State.onJob_refusedUnmoved fun k j => ?_
  split
  · exact refusedUnmoved_accepted _
  · exact refusedUnmoved_ite (refusedUnmoved_self _) (refusedUnmoved_accepted _)
  all_goals exact refusedUnmoved_self _

theorem State.withdrawJob_refusedUnmoved : RefusedUnmoved s (s.withdrawJob w n) := by
  refine State.onJob_refusedUnmoved fun k j => ?_
  split
  case h_1 | h_2 | h_3 => exact refusedUnmoved_of_code (by decide)
  all_goals exact refusedUnmoved_self _

theorem State.voidOpen_refusedUnmoved (b : VoidBody) : RefusedUnmoved s (s.voidOpen w b) := by
  refine refusedUnmoved_ite (refusedUnmoved_self _) ?_
  split
  case h_3 =>
    unfold State.voidIssued
    split
    · exact refusedUnmoved_self _
    · exact refusedUnmoved_ite (refusedUnmoved_self _)
        (refusedUnmoved_ite (refusedUnmoved_self _) (refusedUnmoved_accepted _))
  all_goals exact refusedUnmoved_self _

/-- A request of a declaration sequence, or a void, leaves the state, or drops the declaration. -/
def RefusedDropping (s : State) (w : Window) (r : State × Reply) : Prop :=
  r.2.code ∉ movingCodes → r.1 = s ∨ r.1 = s.dropDeclaration w

theorem RefusedUnmoved.dropping {r : State × Reply} (h : RefusedUnmoved s r) :
    RefusedDropping s w r := fun other => .inl (h other)

theorem refusedDropping_drop (r : Reply) : RefusedDropping s w (s.dropDeclaration w, r) :=
  fun _ => .inr rfl

theorem State.voidTicket_refusedDropping (b : VoidBody) :
    RefusedDropping s w (s.voidTicket w b) := by
  unfold State.voidTicket
  split
  case h_2 => exact refusedDropping_drop _
  case h_5 => exact (State.voidOpen_refusedUnmoved b).dropping
  all_goals exact (refusedUnmoved_self _).dropping

theorem State.inSequence_refusedDropping {take : DeclarationInProgress → State → State × Reply}
    (h : ∀ d, RefusedDropping s w (take d s)) : RefusedDropping s w (s.inSequence w take) := by
  unfold State.inSequence
  split
  case h_5 => exact h _
  all_goals exact (refusedUnmoved_self _).dropping

theorem State.declareItem_refusedDropping (b : ItemBody) :
    RefusedDropping s w (s.declareItem w b) := by
  refine State.inSequence_refusedDropping fun d => ?_
  split
  · exact (refusedUnmoved_self _).dropping
  · repeat' split
    case isTrue => exact (refusedUnmoved_self _).dropping
    case isFalse.isTrue | isFalse.isFalse.isTrue => exact refusedDropping_drop _
    case isFalse.isFalse.isFalse => exact (refusedUnmoved_accepted _).dropping

theorem State.declareConfirm_refusedDropping (b : ConfirmBody) :
    RefusedDropping s w (s.declareConfirm w b) := by
  refine State.inSequence_refusedDropping fun d => ?_
  repeat' split
  case isTrue => exact (refusedUnmoved_self _).dropping
  case isFalse.isTrue => exact refusedDropping_drop _
  case isFalse.isFalse => exact (refusedUnmoved_accepted _).dropping

theorem State.declareBegin_refusedUnmoved : RefusedUnmoved s (s.declareBegin w n) := by
  unfold State.declareBegin
  split
  case h_3 =>
    exact refusedUnmoved_ite (refusedUnmoved_self _)
      (refusedUnmoved_ite (refusedUnmoved_self _) (refusedUnmoved_accepted _))
  case h_4 => exact refusedUnmoved_ite (refusedUnmoved_self _) (refusedUnmoved_accepted _)
  all_goals exact refusedUnmoved_self _

theorem State.mountPack_refusedUnmoved (b : MountBody) : RefusedUnmoved s (s.mountPack b) := by
  unfold State.mountPack
  split
  · exact refusedUnmoved_self _
  · split
    · exact refusedUnmoved_self _
    · split
      · exact refusedUnmoved_self _
      · split
        · exact refusedUnmoved_of_code (by decide)
        · exact refusedUnmoved_accepted _
        · exact refusedUnmoved_self _

theorem State.withdrawPack_refusedUnmoved (b : WithdrawBody) :
    RefusedUnmoved s (s.withdrawPack b) := by
  unfold State.withdrawPack
  split
  · exact refusedUnmoved_self _
  · split
    · unfold State.withdrawFromLane
      split
      · exact refusedUnmoved_self _
      · split
        · exact refusedUnmoved_self _
        · exact refusedUnmoved_ite (refusedUnmoved_self _)
            (refusedUnmoved_ite (refusedUnmoved_self _) (refusedUnmoved_accepted _))
    · unfold State.withdrawByNumber
      split
      · exact refusedUnmoved_self _
      · exact refusedUnmoved_ite (refusedUnmoved_self _)
          (refusedUnmoved_ite (refusedUnmoved_self _)
            (refusedUnmoved_ite (refusedUnmoved_self _)
              (refusedUnmoved_ite (refusedUnmoved_self _) (refusedUnmoved_accepted _))))

theorem State.startCensus_refusedUnmoved (b : CensusBody) :
    RefusedUnmoved s (s.startCensus b) := by
  unfold State.startCensus
  split
  · exact refusedUnmoved_self _
  · refine refusedUnmoved_ite (refusedUnmoved_self _) (refusedUnmoved_ite (refusedUnmoved_self _) ?_)
    split
    · exact refusedUnmoved_self _
    · exact refusedUnmoved_ite (refusedUnmoved_self _) (refusedUnmoved_accepted _)

theorem State.fetchNotice_refusedUnmoved (p : Port) : RefusedUnmoved s (s.fetchNotice p) := by
  unfold State.fetchNotice
  split
  · exact refusedUnmoved_self _
  · exact refusedUnmoved_accepted _

theorem State.readJob_unmoved (b : ReadJobBody) : (s.readJob b).1 = s := by
  unfold State.readJob; split <;> rfl

theorem State.readSession_unmoved (b : ReadSessionBody) : (s.readSession b).1 = s := by
  unfold State.readSession; split <;> rfl

theorem State.readLane_unmoved : (s.readLane n).1 = s := by
  unfold State.readLane; split <;> rfl

theorem State.readForm_unmoved : (s.readForm n).1 = s := by
  unfold State.readForm; split <;> rfl

theorem State.readFaults_unmoved : (s.readFaults n).1 = s := by
  unfold State.readFaults; split <;> rfl

theorem State.readPack_unmoved (b : ReadPackBody) : (s.readPack b).1 = s := by
  unfold State.readPack
  split
  · rfl
  · split <;> rfl

theorem State.stopCensus_refusedUnmoved : RefusedUnmoved s s.stopCensus := by
  unfold State.stopCensus
  split
  · exact refusedUnmoved_self _
  all_goals exact refusedUnmoved_accepted _

theorem State.clearLane_refusedUnmoved : RefusedUnmoved s (s.clearLane n) := by
  unfold State.clearLane
  split
  · exact refusedUnmoved_self _
  · split
    · exact refusedUnmoved_self _
    · split
      · exact refusedUnmoved_self _
      · exact refusedUnmoved_accepted _
    · exact refusedUnmoved_self _

theorem State.purgeLane_refusedUnmoved : RefusedUnmoved s (s.purgeLane n) := by
  unfold State.purgeLane
  split
  · exact refusedUnmoved_self _
  · exact refusedUnmoved_ite (refusedUnmoved_self _) (refusedUnmoved_accepted _)

theorem State.advanceBlank_refusedUnmoved (b : AdvanceBody) :
    RefusedUnmoved s (s.advanceBlank b) := by
  unfold State.advanceBlank
  split
  · exact refusedUnmoved_self _
  · refine refusedUnmoved_ite (refusedUnmoved_self _) ?_
    split
    · exact refusedUnmoved_of_code (by decide)
    · exact refusedUnmoved_accepted _
    · exact refusedUnmoved_self _

theorem State.ackFault_refusedUnmoved : RefusedUnmoved s (s.ackFault n) := by
  unfold State.ackFault
  split
  · exact refusedUnmoved_self _
  · exact refusedUnmoved_ite (refusedUnmoved_self _)
      (refusedUnmoved_ite (refusedUnmoved_self _) (refusedUnmoved_accepted _))

theorem State.defineForm_refusedUnmoved (b : FormBody) : RefusedUnmoved s (s.defineForm b) := by
  unfold State.defineForm
  split
  · exact refusedUnmoved_self _
  · exact refusedUnmoved_ite (refusedUnmoved_self _)
      (refusedUnmoved_ite (refusedUnmoved_accepted _)
        (refusedUnmoved_ite (refusedUnmoved_self _) (refusedUnmoved_accepted _)))

theorem State.setDiscount_refusedUnmoved (b : DiscountBody) :
    RefusedUnmoved s (s.setDiscount b) := by
  unfold State.setDiscount
  split
  · exact refusedUnmoved_self _
  · refine refusedUnmoved_ite (refusedUnmoved_self _) ?_
    split
    case h_2 => exact refusedUnmoved_accepted _
    case h_4 => exact refusedUnmoved_ite (refusedUnmoved_accepted _) (refusedUnmoved_self _)
    all_goals exact refusedUnmoved_self _

theorem State.collectPack_refusedUnmoved : RefusedUnmoved s (s.collectPack n) := by
  unfold State.collectPack
  split
  · exact refusedUnmoved_self _
  · exact refusedUnmoved_ite (refusedUnmoved_self _)
      (refusedUnmoved_ite (refusedUnmoved_self _)
        (refusedUnmoved_ite (refusedUnmoved_self _)
          (refusedUnmoved_ite (refusedUnmoved_self _) (refusedUnmoved_accepted _))))

theorem State.setPermissions_refusedUnmoved (b : PermissionsBody) :
    RefusedUnmoved s (s.setPermissions b) := by
  unfold State.setPermissions
  split
  · exact refusedUnmoved_self _
  · exact refusedUnmoved_ite (refusedUnmoved_self _)
      (refusedUnmoved_ite (refusedUnmoved_of_code (by simp [movingCodes]))
        (refusedUnmoved_accepted _))

theorem State.declarePack_refusedUnmoved (b : PackBody) :
    RefusedUnmoved s (s.declarePack b) := by
  rw [State.declarePack_eq]
  split
  · exact refusedUnmoved_self _
  · exact refusedUnmoved_accepted _

theorem State.openSession_refusedUnmoved (b : OpenBody) :
    RefusedUnmoved s (s.openSession w b) :=
  refusedUnmoved_ite (refusedUnmoved_self _)
    (refusedUnmoved_ite (refusedUnmoved_self _) (refusedUnmoved_accepted _))

theorem State.setClock_refusedUnmoved (c : Option ClockBody) : RefusedUnmoved s (s.setClock c) := by
  unfold State.setClock
  split
  · exact refusedUnmoved_self _
  · exact refusedUnmoved_ite (refusedUnmoved_self _) (refusedUnmoved_accepted _)

theorem State.collectCashup_refusedUnmoved : RefusedUnmoved s (s.collectCashup n) := by
  unfold State.collectCashup
  split
  · exact refusedUnmoved_self _
  · exact refusedUnmoved_ite (refusedUnmoved_self _) (refusedUnmoved_accepted _)

theorem State.reopenSession_refusedUnmoved : RefusedUnmoved s (s.reopenSession n) := by
  unfold State.reopenSession
  split
  · exact refusedUnmoved_self _
  · exact refusedUnmoved_ite (refusedUnmoved_self _) (refusedUnmoved_accepted _)

end

theorem windowBlock_refused {β : Type} {p : Port} {take : Window → β → State → State × Reply}
    {b : β} {s : State} (h : ∀ w, RefusedDropping s w (take w b s)) :
    (windowBlock p take b s).2.code ∉ movingCodes → (windowBlock p take b s).1 = s ∨
      ∃ w, p = .window w ∧ (windowBlock p take b s).1 = s.dropDeclaration w := by
  cases p with
  | office => exact fun _ => .inl rfl
  | window w => exact fun other => (h w other).imp_right fun e => ⟨w, rfl, e⟩

/-- A block that refuses leaves the state, or drops the declaration of the window that asked. -/
theorem blockOf_refused {c : Instr} {s : State} {p : Port} {k : RequestKind} {tag : Byte}
    {r : State × Reply} (h : requestOf c = some (p, k, tag)) (hr : blockOf c s = some r)
    (other : r.2.code ∉ movingCodes) :
    r.1 = s ∨ ∃ w, p = .window w ∧ r.1 = s.dropDeclaration w := by
  cases c <;> cases h <;> obtain ⟨b, -, rfl⟩ := Option.map_eq_some_iff.1 hr
  case openSession => exact windowBlock_refused (fun w => (State.openSession_refusedUnmoved b).dropping) other
  case submitJob => exact windowBlock_refused (fun w => (State.submitJob_refusedUnmoved b).dropping) other
  case supplyLines => exact windowBlock_refused (fun w => (State.supplyLines_refusedUnmoved b).dropping) other
  case holdJob => exact windowBlock_refused (fun w => State.holdJob_refusedUnmoved.dropping) other
  case amendJob => exact windowBlock_refused (fun w => (State.amendJob_refusedUnmoved b).dropping) other
  case releaseJob => exact windowBlock_refused (fun w => State.releaseRequest_refusedUnmoved.dropping) other
  case withdrawJob => exact windowBlock_refused (fun w => State.withdrawJob_refusedUnmoved.dropping) other
  case voidTicket => exact windowBlock_refused (fun w => State.voidTicket_refusedDropping b) other
  case declareBegin => exact windowBlock_refused (fun w => State.declareBegin_refusedUnmoved.dropping) other
  case declareItem => exact windowBlock_refused (fun w => State.declareItem_refusedDropping b) other
  case declareConfirm => exact windowBlock_refused (fun w => State.declareConfirm_refusedDropping b) other
  all_goals left
  case fetchNotice => exact State.fetchNotice_refusedUnmoved _ other
  case readJob => exact State.readJob_unmoved b
  case readSession => exact State.readSession_unmoved b
  case readLane => exact State.readLane_unmoved
  case declarePack => exact State.declarePack_refusedUnmoved b other
  case mountPack => exact State.mountPack_refusedUnmoved b other
  case withdrawPack => exact State.withdrawPack_refusedUnmoved b other
  case collectPack => exact State.collectPack_refusedUnmoved other
  case readPack => exact State.readPack_unmoved b
  case startCensus => exact State.startCensus_refusedUnmoved b other
  case suspendCensus =>
    exact refusedUnmoved_ite (refusedUnmoved_accepted _) (refusedUnmoved_self _) other
  case resumeCensus =>
    exact refusedUnmoved_ite (refusedUnmoved_accepted _) (refusedUnmoved_self _) other
  case stopCensus => exact State.stopCensus_refusedUnmoved other
  case readCensus => rfl
  case clearLane => exact State.clearLane_refusedUnmoved other
  case purgeLane => exact State.purgeLane_refusedUnmoved other
  case advanceBlank => exact State.advanceBlank_refusedUnmoved b other
  case ackFault => exact State.ackFault_refusedUnmoved other
  case readFaults => exact State.readFaults_unmoved
  case defineForm => exact State.defineForm_refusedUnmoved b other
  case readForm => exact State.readForm_unmoved
  case setDiscount => exact State.setDiscount_refusedUnmoved b other
  case setLimits => exact refusedUnmoved_ite (refusedUnmoved_self _) (refusedUnmoved_accepted _) other
  case setPermissions => exact State.setPermissions_refusedUnmoved b other
  case collectCashup => exact State.collectCashup_refusedUnmoved other
  case reopenSession => exact State.reopenSession_refusedUnmoved other
  case setClock => exact State.setClock_refusedUnmoved b other
  case restart => exact refusedUnmoved_accepted _ other
  case storeReinitialise =>
    exact refusedUnmoved_ite (refusedUnmoved_self _) (refusedUnmoved_accepted _) other

/-- What a refusal leaves of the state it found: the state itself, or its declaration dropped. -/
theorem State.refusedAt_answerWith (s : State) (p : Port) (a g : Byte) (r : Reply) {t : State}
    (h : t = s ∨ ∃ w, p = .window w ∧ t = s.dropDeclaration w) :
    s.refusedAt (t.answerWith p a g r) p := by
  rcases h with rfl | ⟨w, rfl, rfl⟩
  · exact ⟨State.changesOnly_mono (t.answerWith_frame p a g r),
      fun w => .inl (State.setPort_session _ _ _ w)⟩
  · exact s.refusedAt_dropDeclaration w a g r

theorem State.reachBlock_cases (s : State) (p : Port) (k : RequestKind) :
    (s.reachBlock p k = s) ∨
      ∃ w, p = .window w ∧ k.abandons = true ∧ s.reachBlock p k = s.dropDeclaration w := by
  cases p with
  | office => exact .inl rfl
  | window w =>
    cases h : k.abandons with
    | false => exact .inl (s.reachBlock_of_not_abandons _ h)
    | true => exact .inr ⟨w, rfl, rfl, by simp [State.reachBlock, h]⟩

theorem State.dropDeclaration_dropDeclaration (s : State) (w : Window) :
    (s.dropDeclaration w).dropDeclaration w = s.dropDeclaration w := by
  simp only [State.dropDeclaration, State.setSession_session_self]
  simp [State.setSession]

/-- The block of a request reached from `s` that refuses leaves `s`, or its declaration dropped. -/
theorem blockOf_refused_from_reach {c : Instr} {s : State} {p : Port} {k : RequestKind}
    {tag : Byte} {r : State × Reply} (h : requestOf c = some (p, k, tag))
    (hr : blockOf c (s.reachBlock p k) = some r) (other : r.2.code ∉ movingCodes) :
    r.1 = s ∨ ∃ w, p = .window w ∧ r.1 = s.dropDeclaration w := by
  rcases blockOf_refused h hr other with same | ⟨w, rfl, same⟩
  · rw [same]
    exact (s.reachBlock_cases p k).imp_right fun ⟨w, hp, _, e⟩ => ⟨w, hp, e⟩
  · refine .inr ⟨w, rfl, ?_⟩
    rcases s.reachBlock_cases (.window w) k with e | ⟨v, hv, _, e⟩
    · rw [same, e]
    · cases hv
      rw [same, e, State.dropDeclaration_dropDeclaration]

end Sys2Proof.Machine
end

section
/-! SUPPORT. The parts of State each command may change, in one table. -/

-- One proof at a time: the check's memory limit holds few threads.
set_option Elab.async false

namespace Sys2Proof.Machine

/-! ## The blocks' frames -/

section
variable {s : State} {w : Window} {n : Nat}

theorem State.onJob_frame {take : SlotId → Job → State → State × Reply} {a : List Part}
    (h : ∀ k j, s.changesOnly (take k j s).1 a) : s.changesOnly (s.onJob w n take).1 a := by
  unfold State.onJob
  split
  · exact s.changesOnly_refl _
  · split
    · exact s.changesOnly_refl _
    · split
      · exact h _ _
      · exact s.changesOnly_refl _

/-- What a request of a kind may change besides its port's receiver. -/
def RequestKind.parts : RequestKind → List Part
  | .openSession | .declareBegin | .declareItem | .declareConfirm | .reopenSession =>
    [.sessions, .queues]
  | .submitJob => [.forms, .sessions, .journal, .slots, .lanes]
  | .supplyLines | .releaseJob => [.sessions, .slots, .lanes]
  | .holdJob | .amendJob => [.sessions, .slots]
  | .withdrawJob => [.sessions, .journal, .slots, .forms, .queues, .lanes]
  | .voidTicket => [.sessions, .journal, .packs, .queues, .census]
  | .fetchNotice => [.queues, .slots]
  | .readJob | .readSession | .readLane | .readPack | .readCensus | .readFaults | .readForm => []
  | .declarePack | .collectPack => [.queues, .packs, .nextPack]
  | .mountPack | .clearLane | .purgeLane | .advanceBlank => laneParts
  | .withdrawPack => [.lanes, .packs, .census, .faults, .queues]
  | .startCensus | .suspendCensus | .resumeCensus | .stopCensus => [.census, .queues]
  | .ackFault => [.faults, .queues]
  | .defineForm => [.forms, .queues]
  | .setDiscount => [.discounts]
  | .setLimits => [.limits, .queues]
  | .setPermissions => [.grants, .queues]
  | .collectCashup => [.sessions, .journal, .packs, .queues]
  | .setClock => [.clock]
  | .restart => [.queues, .slots, .sessions, .journal, .forms, .lanes, .census]
  | .storeReinitialise => [.queues, .grants, .forms, .slots, .lanes, .packs, .nextPack, .census,
      .discounts, .limits, .sessions, .journal, .faults, .store]

theorem State.openSession_frame (b : OpenBody) :
    s.changesOnly (s.openSession w b).1 [.sessions, .queues] := by
  unfold State.openSession
  split
  · exact s.changesOnly_refl _
  · split
    · exact s.changesOnly_refl _
    · exact s.setSession_postSession_frame w _

theorem State.submitJob_frame (b : SubmitBody) :
    s.changesOnly (s.submitJob w b).1 [.forms, .sessions, .journal, .slots, .lanes] := by
  unfold State.submitJob
  repeat' split
  case h_2.isFalse => exact s.placeJob_frame w _ _ _
  all_goals exact s.changesOnly_refl _

theorem State.supplyLines_frame (b : SupplyBody) :
    s.changesOnly (s.supplyLines w b).1 [.slots, .lanes] := by
  refine State.onJob_frame fun k j => ?_
  split
  · exact s.changesOnly_refl _
  · split
    · exact s.changesOnly_refl _
    · exact State.changesOnly_ite
        (State.changesOnly_then (s.mapJob_frame w k _) (State.reportEligible_frame _))
        (State.changesOnly_mono (s.mapJob_frame w k _))

theorem State.holdJob_frame : s.changesOnly (s.holdJob w n).1 [.slots] := by
  refine State.onJob_frame fun k j => ?_
  split
  · exact s.mapJob_frame w k _
  all_goals exact s.changesOnly_refl _

theorem State.amendJob_frame (b : AmendBody) : s.changesOnly (s.amendJob w b).1 [.slots] := by
  refine State.onJob_frame fun k j => ?_
  split
  · split
    · exact s.changesOnly_refl _
    · exact s.mapJob_frame w k _
  all_goals exact s.changesOnly_refl _

theorem State.releaseRequest_frame : s.changesOnly (s.releaseRequest w n).1 [.slots, .lanes] := by
  refine State.onJob_frame fun k j => ?_
  split
  · exact s.requeue_frame w k
  · split
    · exact s.changesOnly_refl _
    · exact s.requeue_frame w k
  all_goals exact s.changesOnly_refl _

/-- A job taken from its slot before it is printed (03 R49). -/
theorem State.withdrawn_frame (k : SlotId) (f : Fin 8) (g : Option Nat) :
    s.changesOnly (((s.releaseJob w k).emptySlot w k).unbind f g)
      [.sessions, .journal, .slots, .forms, .queues, .lanes] :=
  State.changesOnly_then
    (State.changesOnly_then (c := [.sessions, .journal, .slots]) (s.releaseJob_frame w k)
      (State.setSlot_frame _ w k _))
    (State.unbind_frame _ _ _)

theorem State.withdrawJob_frame : s.changesOnly (s.withdrawJob w n).1
    [.sessions, .journal, .slots, .forms, .queues, .lanes] := by
  refine State.onJob_frame fun k j => ?_
  split
  case h_1 | h_2 | h_3 => exact s.withdrawn_frame k _ _
  all_goals exact s.changesOnly_refl _

theorem State.takeVoid_frame (e : JournalEntry) :
    s.changesOnly (s.takeVoid w e) [.sessions, .journal, .packs, .queues, .census] :=
  State.changesOnly_then (s.changeMark_frame _ _ _) (State.writeEntry_frame _ w _)

theorem State.voidTicket_frame (b : VoidBody) :
    s.changesOnly (s.voidTicket w b).1 [.sessions, .journal, .packs, .queues, .census] := by
  unfold State.voidTicket State.voidOpen State.voidIssued
  repeat' split
  case h_2 => exact State.changesOnly_mono (s.dropDeclaration_frame w)
  case isFalse.isFalse => exact s.takeVoid_frame _
  all_goals exact s.changesOnly_refl _

theorem State.declareBegin_frame : s.changesOnly (s.declareBegin w n).1 [.sessions, .queues] := by
  have begun := s.setSession_frame w { s.session w with state := .declaring, inProgress := some ⟨n, []⟩ }
  unfold State.declareBegin
  repeat' split
  case h_3.isFalse.isFalse => exact State.changesOnly_then begun (State.postSession_frame _ w)
  case h_4.isFalse => exact State.changesOnly_mono begun
  all_goals exact s.changesOnly_refl _

theorem State.inSequence_frame {take : DeclarationInProgress → State → State × Reply}
    {a : List Part} (h : ∀ d, s.changesOnly (take d s).1 a) :
    s.changesOnly (s.inSequence w take).1 a := by
  unfold State.inSequence
  split
  case h_5 => exact h _
  all_goals exact s.changesOnly_refl _

theorem State.declareItem_frame (b : ItemBody) :
    s.changesOnly (s.declareItem w b).1 [.sessions] := by
  refine State.inSequence_frame fun d => ?_
  repeat' split
  case isFalse.isTrue | isFalse.isFalse.isTrue => exact s.dropDeclaration_frame w
  case isFalse.isFalse.isFalse => exact s.setSession_frame w _
  all_goals exact s.changesOnly_refl _

theorem State.declareConfirm_frame (b : ConfirmBody) :
    s.changesOnly (s.declareConfirm w b).1 [.sessions, .queues] := by
  refine State.inSequence_frame fun d => ?_
  repeat' split
  case isFalse.isTrue => exact State.changesOnly_mono (s.dropDeclaration_frame w)
  case isFalse.isFalse => exact s.setSession_postSession_frame w _
  all_goals exact s.changesOnly_refl _

theorem State.fetchNotice_frame (p : Port) :
    s.changesOnly (s.fetchNotice p).1 [.queues, .slots] := by
  cases h : (s.port p).queue with
  | nil =>
    rw [State.fetchNotice_nil h]
    exact s.changesOnly_refl _
  | cons m rest =>
    rw [State.fetchNotice_cons h]
    exact s.dequeued_frame p m rest

theorem State.declarePack_frame (b : PackBody) :
    s.changesOnly (s.declarePack b).1 [.queues, .packs, .nextPack] := by
  rw [State.declarePack_eq]
  split
  · exact s.changesOnly_refl _
  · exact s.addPack_frame b

theorem State.collectPack_frame :
    s.changesOnly (s.collectPack n).1 [.queues, .packs, .nextPack] := by
  unfold State.collectPack
  repeat' split
  case isFalse => exact State.changesOnly_mono (s.removePack_frame n)
  all_goals exact s.changesOnly_refl _

theorem State.mountPack_frame (b : MountBody) : s.changesOnly (s.mountPack b).1 laneParts := by
  unfold State.mountPack
  split
  · exact s.changesOnly_refl _
  · split
    · exact s.changesOnly_refl _
    · split
      · exact s.changesOnly_refl _
      · split
        · exact State.changesOnly_mono (s.countRefusal_frame _)
        · exact s.bindPack_frame _ _
        · exact s.changesOnly_refl _

theorem State.withdrawPack_frame (b : WithdrawBody) :
    s.changesOnly (s.withdrawPack b).1 [.lanes, .packs, .census, .faults, .queues] := by
  unfold State.withdrawPack
  split
  · exact s.changesOnly_refl _
  · split
    · unfold State.withdrawFromLane
      repeat' split
      case isFalse => exact s.withdrawLane_frame _ _ _
      all_goals exact s.changesOnly_refl _
    · unfold State.withdrawByNumber
      repeat' split
      case isFalse => exact State.changesOnly_mono (s.applyMode_frame _ _)
      all_goals exact s.changesOnly_refl _

theorem State.startCensus_frame (b : CensusBody) :
    s.changesOnly (s.startCensus b).1 [.census, .queues] := by
  unfold State.startCensus
  repeat' split
  case isFalse => exact s.moveCensus_frame _
  all_goals exact s.changesOnly_refl _

theorem State.suspendCensus_frame : s.changesOnly s.suspendCensus.1 [.census, .queues] := by
  unfold State.suspendCensus
  split
  · exact s.moveCensus_frame _
  · exact s.changesOnly_refl _

theorem State.resumeCensus_frame : s.changesOnly s.resumeCensus.1 [.census, .queues] := by
  unfold State.resumeCensus
  split
  · exact s.moveCensus_frame _
  · exact s.changesOnly_refl _

theorem State.stopCensus_frame : s.changesOnly s.stopCensus.1 [.census, .queues] := by
  unfold State.stopCensus
  split
  case h_1 | h_2 => exact s.changesOnly_refl _
  all_goals exact s.moveCensus_frame _

theorem State.clearLane_frame : s.changesOnly (s.clearLane n).1 laneParts := by
  unfold State.clearLane
  split
  · exact s.changesOnly_refl _
  · split
    · exact s.changesOnly_refl _
    · split
      · exact s.changesOnly_refl _
      · exact s.clearTaken_frame _
    · exact s.changesOnly_refl _

theorem State.purgeLane_frame : s.changesOnly (s.purgeLane n).1 laneParts := by
  unfold State.purgeLane
  split
  · exact s.changesOnly_refl _
  · rename_i l _
    split
    · exact s.changesOnly_refl _
    · dsimp only
      exact s.purge_frame l

theorem State.advanceBlank_frame (b : AdvanceBody) :
    s.changesOnly (s.advanceBlank b).1 laneParts := by
  unfold State.advanceBlank
  split
  · exact s.changesOnly_refl _
  · split
    · exact s.changesOnly_refl _
    · split
      · exact State.changesOnly_mono (s.countRefusal_frame _)
      · exact State.changesOnly_then (s.moveLane_frame _ _) (State.feedAttempt_frame _ _)
      · exact s.changesOnly_refl _

theorem State.ackFault_frame : s.changesOnly (s.ackFault n).1 [.faults, .queues] := by
  unfold State.ackFault
  repeat' split
  case isFalse =>
    exact State.changesOnly_then (s.mapReports_frame _) (State.postReport_frame _ _)
  all_goals exact s.changesOnly_refl _

theorem State.defineForm_frame (b : FormBody) :
    s.changesOnly (s.defineForm b).1 [.forms, .queues] := by
  unfold State.defineForm
  split
  · exact s.changesOnly_refl _
  · dsimp only
    repeat' split
    case isFalse.isTrue =>
      exact State.changesOnly_then (s.setForm_frame _ _) (State.postOffice_frame _ _ _)
    case isFalse.isFalse.isFalse =>
      exact State.changesOnly_then (s.setForm_frame _ _) (State.postOffice_frame _ _ _)
    all_goals exact s.changesOnly_refl _

theorem State.setDiscounts_frame (d : Vector DiscountEntry 16) :
    s.changesOnly { s with discounts := d } [.discounts] := by
  intro y hy
  cases y
  case discounts => simp at hy
  case receivers | queues => exact fun q => by cases q <;> simp [State.port]
  all_goals simp [State.same]

theorem State.setDiscount_frame (b : DiscountBody) :
    s.changesOnly (s.setDiscount b).1 [.discounts] := by
  unfold State.setDiscount
  repeat' split
  case h_2 => exact s.setDiscounts_frame _
  case h_4.isTrue => exact s.setDiscounts_frame _
  all_goals exact s.changesOnly_refl _

theorem State.withLimits_frame (l : Limits) :
    s.changesOnly { s with limits := l } [.limits] := by
  intro y hy
  cases y
  case limits => simp at hy
  case receivers | queues => exact fun q => by cases q <;> simp [State.port]
  all_goals simp [State.same]

theorem State.setLimits_frame (b : LimitsBody) :
    s.changesOnly (s.setLimits b).1 [.limits, .queues] := by
  unfold State.setLimits
  split
  · exact s.changesOnly_refl _
  · exact State.changesOnly_ite (State.changesOnly_mono (s.withLimits_frame _))
      (State.changesOnly_then (s.withLimits_frame _) (State.postOffice_frame _ _ _))

theorem State.setPermissions_frame (b : PermissionsBody) :
    s.changesOnly (s.setPermissions b).1 [.grants, .queues] := by
  unfold State.setPermissions
  repeat' split
  case isFalse.isTrue => exact s.regrant_frame _ _
  case isFalse.isFalse => exact s.regrant_frame _ _
  all_goals exact s.changesOnly_refl _

theorem State.collectCashup_frame :
    s.changesOnly (s.collectCashup n).1 [.sessions, .journal, .packs, .queues] := by
  unfold State.collectCashup
  repeat' split
  case isFalse =>
    exact State.changesOnly_then (s.freeEntries_frame _)
      (State.setSession_postSession_frame _ _ _)
  all_goals exact s.changesOnly_refl _

theorem State.reopenSession_frame :
    s.changesOnly (s.reopenSession n).1 [.sessions, .queues] := by
  unfold State.reopenSession
  repeat' split
  case isFalse => exact s.setSession_postSession_frame _ _
  all_goals exact s.changesOnly_refl _

theorem State.withClock_frame (c : OfficeClock) :
    s.changesOnly { s with clock := c } [.clock] := by
  intro y hy
  cases y
  case clock => simp at hy
  case receivers | queues => exact fun q => by cases q <;> simp [State.port]
  all_goals simp [State.same]

theorem State.setClock_frame (c : Option ClockBody) :
    s.changesOnly (s.setClock c).1 [.clock] := by
  unfold State.setClock
  repeat' split
  case isFalse => exact s.withClock_frame _
  all_goals exact s.changesOnly_refl _

/-! ## RESTART and STORE_REINITIALISE -/

theorem State.restartQueues_frame : s.changesOnly s.restartQueues [.queues] := by
  intro y hy
  cases y
  case queues => simp at hy
  case receivers => exact fun q => by simp [State.restartQueues_port, PortState.restarted]
  all_goals simp [State.same, State.restartQueues]

theorem State.setSlots_frame (x : Vector (Vector Slot 8) 6) :
    s.changesOnly { s with slots := x } [.slots] := by
  intro y hy
  cases y
  case slots => simp at hy
  case receivers | queues => exact fun q => by cases q <;> simp [State.port]
  all_goals simp [State.same]

theorem State.dropJob_frame (x : Window × SlotId × Job) :
    s.changesOnly (s.dropJob x) [.sessions, .journal, .forms, .queues, .lanes] :=
  State.changesOnly_then (s.unreserve_frame _ _) (State.unbind_frame _ _ _)

theorem State.restartSlots_frame :
    s.changesOnly s.restartSlots [.slots, .sessions, .journal, .forms, .queues, .lanes] :=
  State.changesOnly_then (s.setSlots_frame _)
    (State.changesOnly_foldl (a := [.sessions, .journal, .forms, .queues, .lanes]) _
      (fun t x => State.dropJob_frame (s := t) x) _ _)

theorem State.setSessions_frame (x : Vector Session 6) :
    s.changesOnly { s with sessions := x } [.sessions] := by
  intro y hy
  cases y
  case sessions => simp at hy
  case receivers | queues => exact fun q => by cases q <;> simp [State.port]
  all_goals simp [State.same]

theorem State.restart_frame : s.changesOnly s.restart.1
    [.queues, .slots, .sessions, .journal, .forms, .lanes, .census] :=
  State.changesOnly_then
    (State.changesOnly_then (c := [.queues, .slots, .sessions, .journal, .forms, .lanes, .census])
      (State.changesOnly_then (c := [.queues, .slots, .sessions, .journal, .forms, .lanes])
        s.restartQueues_frame State.restartSlots_frame)
      (State.haltCensus_frame _ _))
    (State.setSessions_frame _)

theorem State.cancelJobs_frame : s.changesOnly s.cancelJobs [.slots, .queues] :=
  State.changesOnly_foldl _
    (fun t x => State.changesOnly_ite
      (State.changesOnly_then (t.mapJob_frame _ _ _) (State.postOutcome_frame _ _ _ _))
      (State.changesOnly_mono (t.mapJob_frame _ _ _))) _ _

theorem State.setJournal_frame (j : List JournalEntry) (a b : Nat) :
    s.changesOnly { s with journal := j, journalInUse := a, journalReserved := b } [.journal] := by
  intro y hy
  cases y
  case journal => simp at hy
  case receivers | queues => exact fun q => by cases q <;> simp [State.port]
  all_goals simp [State.same]

theorem State.emptySession_frame (v : Window) :
    s.changesOnly (s.emptySession v) [.sessions, .queues] :=
  State.changesOnly_ite (State.changesOnly_mono (s.setSession_frame v _))
    (s.setSession_postSession_frame v _)

theorem State.emptySessions_frame :
    s.changesOnly s.emptySessions [.sessions, .queues, .journal] :=
  State.changesOnly_then
    (State.changesOnly_foldl (a := [.sessions, .queues]) _
      (fun t v => State.emptySession_frame (s := t) v) allWindows s)
    (State.setJournal_frame _ _ _)

theorem State.reinitialiseLanes_frame : s.changesOnly s.reinitialiseLanes [.lanes, .queues] :=
  State.changesOnly_foldl _
    (fun t l => State.changesOnly_then (t.setLane_frame l _) (State.postLane_frame _ l)) _ _

theorem State.emptyPacks_frame : s.changesOnly s.emptyPacks [.packs, .nextPack, .queues] :=
  State.changesOnly_then (s.withPacks_frame _ _) (State.postOffice_frame _ _ _)

theorem State.setForms_frame (x : Vector FormRecord 8) :
    s.changesOnly { s with forms := x } [.forms] := by
  intro y hy
  cases y
  case forms => simp at hy
  case receivers | queues => exact fun q => by cases q <;> simp [State.port]
  all_goals simp [State.same]

theorem State.emptyForms_frame : s.changesOnly s.emptyForms [.forms, .queues] :=
  State.changesOnly_then (s.setForms_frame _) (State.postOffice_frame _ _ _)

theorem State.grantAll_frame : s.changesOnly s.grantAll [.grants, .queues] :=
  State.changesOnly_foldl _ (fun t w => t.regrant_frame w _) _ _

theorem State.emptyFaults_frame : s.changesOnly s.emptyFaults [.faults, .queues] :=
  State.changesOnly_then (s.setFaults_frame _ s.faultCounter) (State.postOffice_frame _ _ _)

theorem State.setStore_frame (a b : Bool) :
    s.changesOnly { s with storeValid := a, checkAgrees := b } [.store] := by
  intro y hy
  cases y
  case store => simp at hy
  case receivers | queues => exact fun q => by cases q <;> simp [State.port]
  all_goals simp [State.same]

theorem State.reinitialised_frame : s.changesOnly s.reinitialised
    [.queues, .grants, .forms, .slots, .lanes, .packs, .nextPack, .census, .discounts, .limits,
      .sessions, .journal, .faults, .store] := by
  have emptied := State.changesOnly_then
    (c := [.slots, .queues, .sessions, .journal, .lanes, .packs, .nextPack, .census, .forms])
    (State.changesOnly_then (c := [.slots, .queues, .sessions, .journal, .lanes, .packs, .nextPack])
      (State.changesOnly_then (c := [.slots, .queues, .sessions, .journal, .lanes])
        (State.changesOnly_then (c := [.slots, .queues, .sessions, .journal])
          s.cancelJobs_frame State.emptySessions_frame)
        State.reinitialiseLanes_frame)
      State.emptyPacks_frame)
    (State.changesOnly_then (c := [.census, .queues, .forms])
      (State.haltCensus_frame _ .storeReinitialise) State.emptyForms_frame)
  have granted := State.changesOnly_then
    (c := [.slots, .queues, .sessions, .journal, .lanes, .packs, .nextPack, .census, .forms,
      .discounts, .grants]) emptied
    (State.changesOnly_then (c := [.discounts, .grants, .queues])
      (State.setDiscounts_frame emptyDiscounts) State.grantAll_frame)
  exact State.changesOnly_then granted
    (State.changesOnly_then (c := [.limits, .faults, .queues, .store])
      (State.withLimits_frame .default)
      (State.changesOnly_then (c := [.faults, .queues, .store]) State.emptyFaults_frame
        (State.changesOnly_then (c := [.store, .queues]) (State.setStore_frame true true)
          (State.postOffice_frame _ _ _))))

theorem State.storeReinitialise_frame :
    s.changesOnly s.storeReinitialise.1 RequestKind.storeReinitialise.parts := by
  unfold State.storeReinitialise
  split
  · exact s.changesOnly_refl _
  · exact s.reinitialised_frame

end

theorem windowBlock_frame {β : Type} {p : Port} {take : Window → β → State → State × Reply}
    {b : β} {s : State} {a : List Part} (h : ∀ w, s.changesOnly (take w b s).1 a) :
    s.changesOnly (windowBlock p take b s).1 a := by
  cases p with
  | office => exact s.changesOnly_refl _
  | window w => exact h w

theorem blockOf_frame {c : Instr} {s : State} {p : Port} {k : RequestKind} {tag : Byte}
    {r : State × Reply} (h : requestOf c = some (p, k, tag)) (hr : blockOf c s = some r) :
    s.changesOnly r.1 k.parts := by
  cases c <;> cases h <;> obtain ⟨b, -, rfl⟩ := Option.map_eq_some_iff.1 hr
  case openSession => exact windowBlock_frame fun w => State.openSession_frame b
  case submitJob => exact windowBlock_frame fun w => State.submitJob_frame b
  case supplyLines =>
    exact windowBlock_frame fun w => State.changesOnly_mono (State.supplyLines_frame b)
  case holdJob => exact windowBlock_frame fun w => State.changesOnly_mono State.holdJob_frame
  case amendJob => exact windowBlock_frame fun w => State.changesOnly_mono (State.amendJob_frame b)
  case releaseJob =>
    exact windowBlock_frame fun w => State.changesOnly_mono State.releaseRequest_frame
  case withdrawJob => exact windowBlock_frame fun w => State.withdrawJob_frame
  case voidTicket => exact windowBlock_frame fun w => State.voidTicket_frame b
  case declareBegin => exact windowBlock_frame fun w => State.declareBegin_frame
  case declareItem =>
    exact windowBlock_frame fun w => State.changesOnly_mono (State.declareItem_frame b)
  case declareConfirm => exact windowBlock_frame fun w => State.declareConfirm_frame b
  case fetchNotice => exact State.fetchNotice_frame _
  case readJob => rw [State.readJob_unmoved]; exact s.changesOnly_refl _
  case readSession => rw [State.readSession_unmoved]; exact s.changesOnly_refl _
  case readLane => rw [State.readLane_unmoved]; exact s.changesOnly_refl _
  case declarePack => exact State.declarePack_frame b
  case mountPack => exact State.mountPack_frame b
  case withdrawPack => exact State.withdrawPack_frame b
  case collectPack => exact State.collectPack_frame
  case readPack => rw [State.readPack_unmoved]; exact s.changesOnly_refl _
  case startCensus => exact State.startCensus_frame b
  case suspendCensus => exact State.suspendCensus_frame
  case resumeCensus => exact State.resumeCensus_frame
  case stopCensus => exact State.stopCensus_frame
  case readCensus => exact s.changesOnly_refl _
  case clearLane => exact State.clearLane_frame
  case purgeLane => exact State.purgeLane_frame
  case advanceBlank => exact State.advanceBlank_frame b
  case ackFault => exact State.ackFault_frame
  case readFaults => rw [State.readFaults_unmoved]; exact s.changesOnly_refl _
  case defineForm => exact State.defineForm_frame b
  case readForm => rw [State.readForm_unmoved]; exact s.changesOnly_refl _
  case setDiscount => exact State.setDiscount_frame b
  case setLimits => exact State.setLimits_frame b
  case setPermissions => exact State.setPermissions_frame b
  case collectCashup => exact State.collectCashup_frame
  case reopenSession => exact State.reopenSession_frame
  case setClock => exact State.setClock_frame b
  case restart => exact State.restart_frame
  case storeReinitialise => exact State.storeReinitialise_frame

/-- A kind that abandons a declaration may change the sessions. -/
theorem RequestKind.sessions_mem_parts {k : RequestKind} (h : k.abandons = true) :
    Part.sessions ∈ k.parts := by
  cases k <;> simp_all [RequestKind.abandons, RequestKind.parts]

theorem State.reachBlock_parts (s : State) (p : Port) (k : RequestKind) :
    s.changesOnly (s.reachBlock p k) k.parts := by
  rcases s.reachBlock_cases p k with e | ⟨w, rfl, abandons, e⟩
  · rw [e]
    exact s.changesOnly_refl _
  · rw [e]
    exact State.changesOnly_mono (s.dropDeclaration_frame w)
      (by simpa using RequestKind.sessions_mem_parts abandons)

/-! ## Power -/

/-- The parts a start or a loss of supply leaves alone. -/
def powerParts : List Part :=
  [.phase, .receivers, .queues, .grants, .forms, .slots, .scanner, .lanes, .packs, .nextPack,
    .census, .discounts, .limits, .sessions, .journal, .faults, .clock, .runTime, .store]

/-- A state that differs in none of the kept inputs differs in the parts of power alone. -/
theorem State.changesOnly_power {s t : State} (hp : t.powerFail = s.powerFail)
    (hq : t.pending = s.pending) : s.changesOnly t powerParts := by
  intro y hy
  cases y
  case powerFail => exact hp
  case pending => exact hq
  all_goals simp [powerParts] at hy

theorem State.startForms_frame (s : State) : s.changesOnly s.startForms [.forms, .queues] :=
  State.changesOnly_ite
    (State.changesOnly_then (s.setForms_frame _) (State.postOffice_frame _ _ _))
    (State.changesOnly_mono (s.setForms_frame _))

theorem State.startPorts_frame (s : State) : s.changesOnly s.startPorts [.receivers, .queues] := by
  intro y hy
  cases y
  case receivers | queues => simp at hy
  all_goals simp [State.same, State.startPorts]

theorem State.powerOnSpoil_frame (s : State) (l : LaneId) (r : InFlight) :
    s.changesOnly (s.powerOnSpoil l r) laneParts := by
  unfold State.powerOnSpoil
  have written := State.changesOnly_then (c := laneParts)
    (State.changesOnly_then (c := laneParts) (s.changeMark_frame (s.mountedClass l) r.serial .spoiled)
      (State.unreserve_frame _ r.window r.reserved))
    (State.writeEntry_frame _ r.window
      (r.spoilEntry (s.mountedClass l) ((s.lane l).pack.getD 0)))
  have raised := State.changesOnly_then (c := laneParts) written
    (State.raiseLane_frame _ l .powerInterrupted (r.lostContext (s.lane l).pack))
  exact State.changesOnly_then
    (State.changesOnly_then (c := laneParts) raised (State.moveLane_frame _ l _))
    (State.feedAttempt_frame _ l)

theorem State.startMounted_frame (s : State) (l : LaneId) :
    s.changesOnly (s.startMounted l) laneParts := by
  unfold State.startMounted
  split
  · exact s.startPriming_frame l
  · exact State.changesOnly_ite (s.powerOnSpoil_frame l _)
      (State.changesOnly_then
        (State.changesOnly_then (c := laneParts) (s.unreserve_frame _ _) (State.moveLane_frame _ l _))
        (State.startPriming_frame _ l))

theorem State.reconcileCabinet_frame (s : State) (l : LaneId) :
    s.changesOnly (s.reconcileCabinet l) [.faults, .queues] := by
  unfold State.reconcileCabinet
  split
  · exact s.selfClear_frame l
  · exact State.changesOnly_ite (s.raiseCabinet_frame l) (s.changesOnly_refl _)

theorem State.startLane_frame (s : State) (l : LaneId) :
    s.changesOnly (s.startLane l) laneParts := by
  have sampled := s.setLane_frame l ((s.lane l).started (s.mounted l))
  refine State.changesOnly_then (b := [.faults, .queues]) (a := laneParts) ?_
    (State.reconcileCabinet_frame _ l)
  exact State.changesOnly_ite (State.changesOnly_then sampled (State.startMounted_frame _ l))
    (State.changesOnly_mono sampled)

theorem State.startValid_frame (s : State) : s.changesOnly s.startValid powerParts :=
  State.changesOnly_then
    (State.changesOnly_then (c := powerParts)
      (State.changesOnly_then (c := powerParts)
        (State.changesOnly_power (t := State.startTill { s with storeValid := true }) rfl rfl)
        (State.startForms_frame _))
      (State.startPorts_frame _))
    (State.changesOnly_foldl _ State.startLane_frame _ _)

theorem State.startInvalid_frame (s : State) : s.changesOnly s.startInvalid powerParts :=
  State.changesOnly_then
    (State.changesOnly_then (c := powerParts)
      (State.changesOnly_then (c := powerParts)
        (State.changesOnly_power (t := s.disregarded) rfl rfl) (State.raiseController_frame _ _ _))
      (State.postOffice_frame _ _ _))
    (State.startPorts_frame _)

/-! ## Every command -/

/-- The parts of State a command may change. -/
def touches (c : Instr) : List Part :=
  match requestOf c with
  | some (_, k, _) => .receivers :: k.parts
  | none =>
    match c with
    | .censusEntryStep => [.packs, .queues, .faults, .census]
    | .claimRequest _ => [.lanes, .queues, .slots]
    | .claimAnswer _ => [.lanes, .queues, .faults, .slots]
    | .scannerVisit => [.slots, .sessions, .journal, .forms, .queues, .lanes, .scanner]
    | .positioned _ | .headReady _ => [.lanes, .queues]
    | .cutDone _ | .markRecord _ _ | .markReadTimeout _ | .feedTimeout _ | .strobeTimeout _
    | .cutTimeout _ | .cabinetOpening _ | .cabinetRelock _ => laneParts
    | .powerFailWarningAssert => [.powerFail]
    | .powerFailWarningDeassert => .powerFail :: laneParts
    | .resetAsserted => [.phase, .receivers]
    | .powerOn | .supplyLoss _ => powerParts
    | .officeClockTick => [.clock]
    | .runTimeTick => [.runTime]
    | _ => [.receivers]

theorem exec_frame_of_request {c : Instr} {s : State} {p : Port} {k : RequestKind} {tag : Byte}
    (h : requestOf c = some (p, k, tag)) :
    ∃ t, exec c s = .next t ∧ s.changesOnly t (.receivers :: k.parts) := by
  rcases exec_request (s := s) h with ⟨-, run⟩ | ⟨-, code, -, run⟩ | ⟨-, -, -, r, hr, run⟩
  · exact ⟨_, run, s.changesOnly_refl _⟩
  · exact ⟨_, run, State.changesOnly_mono (s.answerWith_frame p _ _ _) (by simp)⟩
  · exact ⟨_, run, State.changesOnly_then (c := .receivers :: k.parts)
      (State.changesOnly_then (c := k.parts) (s.reachBlock_parts p k) (blockOf_frame h hr) (by simp))
      (State.answerWith_frame _ p _ _ _) (by simp)⟩

theorem State.setPowerFail_frame (s : State) (b : Bool) :
    s.changesOnly { s with powerFail := b } [.powerFail] := by
  intro y hy
  cases y
  case powerFail => simp at hy
  case receivers | queues => exact fun q => by cases q <;> simp [State.port]
  all_goals simp [State.same]

theorem State.setRunTime_frame (s : State) (n : RunTime) :
    s.changesOnly { s with runTime := n } [.runTime] := by
  intro y hy
  cases y
  case runTime => simp at hy
  case receivers | queues => exact fun q => by cases q <;> simp [State.port]
  all_goals simp [State.same]

theorem State.resetHeld_frame (s : State) :
    s.changesOnly { s.stopPorts with phase := .resetHeld } [.phase, .receivers] := by
  intro y hy
  cases y
  case phase | receivers => simp at hy
  case queues => exact fun q => by cases q <;> simp [State.port, State.stopPorts, PortState.starting]
  all_goals simp [State.same, State.stopPorts]

/-- A byte received moves its port's receiver and answer alone. -/
theorem State.receiver_frames (s : State) (p : Port) (c : Instr)
    (h : (∃ b e, c = .portByteReceived p b e) ∨ c = .gapTimerExpiry p ∨ c = .quietTimerExpiry p ∨
      c = .answerSent p) : ∃ t, exec c s = .next t ∧ s.changesOnly t [.receivers] := by
  rcases h with ⟨b, e, rfl⟩ | rfl | rfl | rfl
  · refine ⟨_, rfl, ?_⟩
    split
    · exact State.changesOnly_ite (s.setReceiver_frame p _ _) (s.changesOnly_refl _)
    · unfold State.receiveByte State.completeFrame State.admitFrame
      repeat' split
      all_goals exact s.setReceiver_frame p _ _
    · exact s.setReceiver_frame p _ _
    all_goals exact s.changesOnly_refl _
  · refine ⟨_, rfl, ?_⟩
    split
    · exact s.setReceiver_frame p _ _
    · exact s.changesOnly_refl _
  · refine ⟨_, rfl, ?_⟩
    split
    · exact s.setReceiver_frame p _ _
    · exact s.setReceiver_frame p _ _
    · exact s.changesOnly_refl _
  · exact ⟨_, rfl, State.changesOnly_ite (s.setReceiver_frame p _ _) (s.changesOnly_refl _)⟩

/-- Every command is carried out to a next state, which differs in the parts `touches` lists alone. -/
theorem exec_frame (c : Instr) (s : State) :
    ∃ t, exec c s = .next t ∧ s.changesOnly t (touches c) := by
  cases h : requestOf c with
  | some r =>
    obtain ⟨p, k, tag⟩ := r
    unfold touches
    rw [h]
    exact exec_frame_of_request h
  | none =>
    cases c
    case portByteReceived p b e => exact s.receiver_frames p _ (.inl ⟨b, e, rfl⟩)
    case gapTimerExpiry p => exact s.receiver_frames p _ (.inr (.inl rfl))
    case quietTimerExpiry p => exact s.receiver_frames p _ (.inr (.inr (.inl rfl)))
    case answerSent p => exact s.receiver_frames p _ (.inr (.inr (.inr rfl)))
    case censusEntryStep => exact ⟨_, rfl, s.whenRunning_frame s.entryStep_frame⟩
    case claimRequest l => exact ⟨_, rfl, s.whenRunning_frame (s.takeClaim_frame l)⟩
    case claimAnswer l => exact ⟨_, rfl, s.whenRunning_frame (s.takeAnswer_frame l)⟩
    case scannerVisit => exact ⟨_, rfl, s.whenRunning_frame s.scan_frame⟩
    case positioned l => exact ⟨_, rfl, s.whenAwaiting_frame l (s.moveLane_frame l _)⟩
    case headReady l => exact ⟨_, rfl, s.whenAwaiting_frame l (s.afterStrobe_frame l)⟩
    case cutDone l => exact ⟨_, rfl, s.whenAwaiting_frame l (s.cutCompletion_frame l)⟩
    case markRecord l r => exact ⟨_, rfl, s.whenAwaiting_frame l (s.takeRecord_frame l r)⟩
    case markReadTimeout l =>
      exact ⟨_, rfl, s.whenAwaiting_frame l
        (State.changesOnly_then (c := laneParts) (s.moveLane_frame l _)
          (State.failedRead_frame _ l))⟩
    case feedTimeout l => exact ⟨_, rfl, s.whenAwaiting_frame l (s.laneFault_frame l _ _)⟩
    case strobeTimeout l => exact ⟨_, rfl, s.whenAwaiting_frame l (s.laneFault_frame l _ _)⟩
    case cutTimeout l => exact ⟨_, rfl, s.whenAwaiting_frame l (s.laneFault_frame l _ _)⟩
    case cabinetOpening l =>
      exact ⟨_, rfl, State.changesOnly_then (c := laneParts) (s.moveLane_frame l _)
        (State.whenRunning_frame _ (State.changesOnly_ite (State.observeOpening_frame _ l)
          (State.changesOnly_refl _ _)))⟩
    case cabinetRelock l =>
      exact ⟨_, rfl, State.changesOnly_then (c := laneParts) (s.moveLane_frame l _)
        (State.whenRunning_frame _ (State.changesOnly_ite (State.relock_frame _ l)
          (State.changesOnly_refl _ _)))⟩
    case powerFailWarningAssert => exact ⟨_, rfl, s.setPowerFail_frame true⟩
    case powerFailWarningDeassert =>
      exact ⟨_, rfl, State.changesOnly_then (c := .powerFail :: laneParts)
        (s.setPowerFail_frame false)
        (State.whenRunning_frame _
          (State.changesOnly_then (c := laneParts)
            (State.changesOnly_foldl _ State.resume_frame _ _) (State.reportEligible_frame _)))⟩
    case resetAsserted =>
      exact ⟨_, rfl, State.changesOnly_ite (s.changesOnly_refl _) s.resetHeld_frame⟩
    case powerOn =>
      have lost := State.changesOnly_power (s := s)
        (t := { s.volatileLost with phase := .running }) rfl rfl
      exact ⟨_, rfl, State.changesOnly_then (c := powerParts) lost
        (State.changesOnly_ite (State.startValid_frame _) (State.startInvalid_frame _))⟩
    case supplyLoss b => exact ⟨_, rfl, State.changesOnly_power rfl rfl⟩
    case officeClockTick => exact ⟨_, rfl, s.whenRunning_frame (s.withClock_frame _)⟩
    case runTimeTick => exact ⟨_, rfl, s.whenRunning_frame (s.setRunTime_frame _)⟩
    all_goals cases h

theorem exec_changesOnly {c : Instr} {s t : State} (run : exec c s = .next t) :
    s.changesOnly t (touches c) := by
  obtain ⟨u, run', frame⟩ := exec_frame c s
  rw [run] at run'
  cases run'
  exact frame

/-- A part a command does not touch is the same after it. -/
theorem exec_same {c : Instr} {s t : State} (run : exec c s = .next t) (x : Part)
    (hx : x ∉ touches c) : s.same t x :=
  exec_changesOnly run x hx

theorem touches_request {c : Instr} {p : Port} {k : RequestKind} {tag : Byte}
    (h : requestOf c = some (p, k, tag)) : touches c = .receivers :: k.parts := by
  unfold touches
  rw [h]

theorem pending_not_touched (c : Instr) : Part.pending ∉ touches c := by
  cases h : requestOf c with
  | some r =>
    obtain ⟨p, k, tag⟩ := r
    rw [touches_request h]
    cases k <;> decide
  | none => cases c <;> cases h <;> exact of_decide_eq_true rfl

/-- Settles O1: both halves are `step`'s own cases. -/
theorem stepTakesTheFront : Obligations.StepTakesTheFront := by
  unfold Obligations.StepTakesTheFront
  refine ⟨fun s c rest queue => ?_, fun s queue => ?_⟩
  · rw [step, queue]
  · rw [step, queue]

/-- Settles O2: `exec_frame` reaches a next state for every command, and no command touches the queue. -/
theorem everyCommandKeepsTheQueue : Obligations.EveryCommandKeepsTheQueue := by
  unfold Obligations.EveryCommandKeepsTheQueue
  intro c s
  obtain ⟨t, run, frame⟩ := exec_frame c s
  exact ⟨t, run, frame .pending (pending_not_touched c)⟩

/-- Settles O11: a request is refused by admission, which answers alone, or by its block, which
`blockOf_refused_from_reach` says leaves the state or drops the declaration. -/
theorem refusalsChangeNothing : Obligations.RefusalsChangeNothing := by
  unfold Obligations.RefusalsChangeNothing
  intro c s p k tag h takes
  rcases exec_request (s := s) h with ⟨free, -⟩ | ⟨-, code, -, run⟩ | ⟨-, -, -, r, hr, run⟩
  · exact absurd takes (by simp [free])
  · exact ⟨_, _, run, State.answered_answerWith _ _ _ (s.same_refl .receivers) _,
      fun _ => s.refusedAt_answerWith p _ _ _ (.inl rfl)⟩
  · have kept : s.same r.1 .receivers := by
      refine State.same_trans (s.reachBlock_parts p k .receivers ?_)
        (blockOf_frame h hr .receivers ?_) <;> cases k <;> decide
    exact ⟨_, _, run, State.answered_answerWith _ _ _ kept _,
      fun other => s.refusedAt_answerWith p _ _ _ (blockOf_refused_from_reach h hr other)⟩

end Sys2Proof.Machine
end

section
/-! SUPPORT. What a lane's event, a job's end and a claim are made of: the moves of `Move`, and `Run`, a
chain of them. Each operation is shown once to be a run; a rule that every move keeps is then kept by
every operation. -/

-- One proof at a time: the check's memory limit holds few threads.
set_option Elab.async false

namespace Sys2Proof.Machine

/-- The objects a port's queue holds notices for (01 Table 1.9). -/
def ownedBy : Port → NoticeObject → Bool
  | .window _ => NoticeObject.atWindow
  | .office => NoticeObject.atOffice

/-- One move of an operation of lane `l`: a record written, with the notices its rule posts. A lane's move
keeps its pack, and gives it a record in flight only with a pack mounted; a mark goes to none that a void
or a withdrawal alone gives; an entry names the pack of a lane with a record in flight. -/
inductive Move (l : LaneId) : State → State → Prop
  | lane (s : State) (f : Lane → Lane) (pack : (f (s.lane l)).pack = (s.lane l).pack)
      (kept : (f (s.lane l)).inflight.isSome = true →
        (s.lane l).inflight.isSome = true ∨ (s.lane l).pack.isSome = true) :
      Move l s (s.moveLane l f)
  | told (s : State) : Move l s s.reportEligible
  | slot (s : State) (w : Window) (k : SlotId) (x : Slot)
      (latest : ∀ o, x.job.bind Job.latest = some o → (s.job w k).bind Job.latest = some o) :
      Move l s (s.setSlot w k x)
  | outcome (s : State) (w : Window) (k : SlotId) (o : SlotOutcome) : Move l s (s.postOutcome w k o)
  | form (s : State) (f : Fin 8) (x : FormRecord) (current : x.current = (s.form f).current)
      (pending : x.pending = (s.form f).pending) (generation : x.generation = (s.form f).generation) :
      Move l s (s.setForm f x)
  | applied (s : State) (f : Fin 8) (due : (s.form f).applyDue = true) :
      Move l s (s.setForm f (s.form f).applied).postForms
  | mark (s : State) (cls serial : Nat) (new : Mark)
      (given : new ∈ [Mark.issued, .spoiled, .advanced, .missing]) :
      Move l s (s.changeMark cls serial new)
  | entry (s : State) (w : Window) (d : EntryData) (begun : (s.lane l).inflight.isSome = true)
      (named : d.pack = (s.lane l).pack.getD 0) : Move l s (s.writeEntry w d)
  | reserved (s : State) (w : Window) (n m : Nat) :
      Move l s { s.setSession w { s.session w with reserved := n } with journalReserved := m }
  | raised (s : State) (k : FaultKind) (c : FaultContext) : Move l s (s.raiseLane l k c)
  | relocked (s : State) : Move l s (s.selfClear l)
  | recovered (s : State) (how : HowCleared) :
      Move l s ((s.recoverReports l how).postReport (.lane l))
  | counted (s : State) : Move l s (s.countRefusal l)

/-- A chain of moves. -/
abbrev Run (l : LaneId) : State → State → Prop := Relation.ReflTransGen (Move l)

section
variable {l : LaneId} {s t u : State}

theorem Run.refl (s : State) : Run l s s := Relation.ReflTransGen.refl

theorem Move.run (h : Move l s t) : Run l s t := Relation.ReflTransGen.single h

theorem Run.andThen (h : Run l s t) (h' : Run l t u) : Run l s u := Relation.ReflTransGen.trans h h'

theorem Run.ite {c : Prop} [Decidable c] (h : Run l s t) (h' : Run l s u) :
    Run l s (if c then t else u) := by
  split
  · exact h
  · exact h'

/-- A reflexive and transitive relation that every move keeps is kept by a run. -/
theorem Run.lift {R : State → State → Prop} (refl : ∀ s, R s s)
    (trans : ∀ s t u, R s t → R t u → R s u) (move : ∀ s t, Move l s t → R s t)
    (h : Run l s t) : R s t := by
  induction h with
  | refl => exact refl _
  | tail _ last ih => exact trans _ _ _ ih (move _ _ last)

/-- A rule that every move keeps is kept by a run. -/
theorem Run.keeps {P : State → Prop} (move : ∀ s t, Move l s t → P s → P t) (h : Run l s t)
    (hs : P s) : P t :=
  h.lift (R := fun s t => P s → P t) (fun _ h => h) (fun _ _ _ a b h => b (a h)) move hs

end

/-! ## Jobs -/

section
variable (s : State) (l : LaneId) (w : Window) (k : SlotId)

theorem Run.slot (x : Slot)
    (latest : ∀ o, x.job.bind Job.latest = some o → (s.job w k).bind Job.latest = some o) :
    Run l s (s.setSlot w k x) := (Move.slot s w k x latest).run

theorem Run.mapJob (f : Job → Job) (latest : ∀ j, (f j).latest = j.latest := by intro _; rfl) :
    Run l s (s.mapJob w k f) := by
  refine Run.slot s l w k _ fun o => ?_
  cases s.job w k <;> simp [latest]

/-- The job of a slot replaced by one with the same latest outcome. -/
theorem Run.rewriteJob {j : Job} (held : s.job w k = some j) (x : Job)
    (latest : x.latest = j.latest := by rfl) : Run l s (s.mapJob w k fun _ => x) :=
  Run.slot s l w k _ fun o => by simp [held, latest]

theorem Run.reserve (n : Nat) : Run l s (s.reserve w n) := (Move.reserved s w _ _).run

theorem Run.unreserve (n : Nat) : Run l s (s.unreserve w n) := (Move.reserved s w _ _).run

theorem Run.reportEligible : Run l s s.reportEligible := (Move.told s).run

theorem Run.reportJob : Run l s (s.reportJob w k) := by
  unfold State.reportJob
  split
  · exact Run.ite (Run.reportEligible s l) (Run.refl s)
  · exact Run.refl s

theorem Run.applyPending (f : Fin 8) : Run l s (s.applyPending f) := by
  unfold State.applyPending
  split
  · exact Run.ite ((Move.applied s f ‹_›).run.andThen (Run.reportEligible _ l))
      (Move.applied s f ‹_›).run
  · exact Run.refl s

theorem FormRecord.lowered_current (f : FormRecord) (g : Nat) : (f.lowered g).current = f.current := by
  unfold FormRecord.lowered
  repeat' split
  all_goals rfl

theorem FormRecord.lowered_pending (f : FormRecord) (g : Nat) : (f.lowered g).pending = f.pending := by
  unfold FormRecord.lowered
  repeat' split
  all_goals rfl

theorem FormRecord.lowered_generation (f : FormRecord) (g : Nat) :
    (f.lowered g).generation = f.generation := by
  unfold FormRecord.lowered
  repeat' split
  all_goals rfl

theorem Run.unbind (f : Fin 8) (g : Option Nat) : Run l s (s.unbind f g) := by
  cases g with
  | none => exact Run.refl s
  | some g =>
    have lowered : Run l s (s.setForm f ((s.form f).lowered g)) :=
      (Move.form s f _ (FormRecord.lowered_current _ g) (FormRecord.lowered_pending _ g)
        (FormRecord.lowered_generation _ g)).run
    exact Run.ite (lowered.andThen (Run.applyPending _ l f)) lowered

theorem Run.postOutcome (o : SlotOutcome) : Run l s (s.postOutcome w k o) :=
  (Move.outcome s w k o).run

theorem Run.releaseJob : Run l s (s.releaseJob w k) := by
  unfold State.releaseJob
  split
  · exact (Run.unreserve s l w _).andThen (Run.mapJob _ l w k _)
  · exact Run.refl s

theorem Run.endJob (st : JobState) (o : SlotOutcome) : Run l s (s.endJob w k st o) := by
  unfold State.endJob
  split
  · exact (((Run.mapJob s l w k _).andThen (Run.releaseJob _ l w k)).andThen
      (Run.unbind _ l _ _)).andThen (Run.postOutcome _ l w k o)
  · exact Run.refl s

theorem Run.handBack : Run l s (s.handBack w k) :=
  (Run.mapJob s l w k _).andThen (Run.reportJob _ l w k)

theorem Run.requeue : Run l s (s.requeue w k) :=
  (Run.mapJob s l w k _).andThen (Run.reportJob _ l w k)

theorem Run.spoilJob (r : OutcomeReason) (cls serial : Nat) :
    Run l s (s.spoilJob w k r cls serial) := by
  unfold State.spoilJob
  split
  · exact Run.refl s
  · rename_i j _
    have counted := Run.mapJob s l w k fun i => { i with attempts := j.attempts + 1 }
    refine Run.ite (counted.andThen (Run.endJob _ l w k _ _)) ?_
    exact ((counted.andThen (Run.mapJob _ l w k _)).andThen
      (Run.postOutcome _ l w k _)).andThen (Run.reportJob _ l w k)

theorem Run.dropJob (x : Window × SlotId × Job) : Run l s (s.dropJob x) :=
  (Run.unreserve s l _ _).andThen (Run.unbind _ l _ _)

theorem Run.visitSlot : Run l s (s.visitSlot w k) := by
  unfold State.visitSlot
  split
  · exact Run.ite (Run.endJob s l w k _ _) (Run.refl s)
  · exact Run.refl s

theorem Run.withdrawn (f : Fin 8) (g : Option Nat) :
    Run l s (((s.releaseJob w k).emptySlot w k).unbind f g) :=
  ((Run.releaseJob s l w k).andThen (Run.slot _ l w k _ (by simp))).andThen (Run.unbind _ l f g)

theorem Run.placeJob (b : SubmitBody) (g : Binding) : Run l s (s.placeJob w k b g).1 := by
  have raised : Run l s (s.setForm g.form ((s.form g.form).raised g.coming)) := by
    refine (Move.form s _ _ ?_ ?_ ?_).run <;> cases h : g.coming <;> simp [FormRecord.raised]
  exact ((raised.andThen (Run.reserve _ l w _)).andThen
    (Run.slot _ l w k _ (by simp [State.newJob]))).andThen (Run.reportJob _ l w k)

end

/-! ## Lanes -/

section
variable (s : State) (l : LaneId)

/-- A lane's move that keeps the pack and gives no record in flight. -/
theorem Run.lane (f : Lane → Lane) (pack : ∀ x, (f x).pack = x.pack := by intro _; rfl)
    (kept : ∀ x, (f x).inflight.isSome = true → x.inflight.isSome = true := by intro _ h; exact h) :
    Run l s (s.moveLane l f) :=
  (Move.lane s f (pack _) fun h => .inl (kept _ h)).run

theorem Run.mark (cls serial : Nat) (new : Mark)
    (given : new ∈ [Mark.issued, .spoiled, .advanced, .missing] := by decide) :
    Run l s (s.changeMark cls serial new) := (Move.mark s cls serial new given).run

theorem Run.markUnused (cls : Nat) (new : Mark)
    (serials : List Nat) (given : new ∈ [Mark.issued, .spoiled, .advanced, .missing] := by decide) :
    Run l s (s.markUnused cls new serials) := by
  unfold State.markUnused
  induction serials generalizing s with
  | nil => exact Run.refl s
  | cons r rest ih =>
    exact Run.andThen (Run.ite (Run.mark s l cls r new given) (Run.refl s)) (ih _)

theorem Run.writeJobEntry (w : Window) (k : SlotId) (d : EntryData)
    (begun : (s.lane l).inflight.isSome = true) (named : d.pack = (s.lane l).pack.getD 0) :
    Run l s (s.writeJobEntry w k d) :=
  ((Run.unreserve s l w 1).andThen (Run.mapJob _ l w k _)).andThen
    (Move.entry (State.mapJob (s.unreserve w 1) w k fun j => { j with reserved := j.reserved - 1 })
      w d begun named).run

theorem Run.raiseLane (k : FaultKind) (c : FaultContext) : Run l s (s.raiseLane l k c) :=
  (Move.raised s k c).run

theorem Lane.claiming_pack (x : Lane) (b : Bool) : (x.claiming b).pack = x.pack := by
  unfold Lane.claiming
  split <;> rfl

theorem Lane.claiming_inflight (x : Lane) (b : Bool) : (x.claiming b).inflight = x.inflight := by
  unfold Lane.claiming
  split <;> rfl

theorem Run.enterHolding (c : HoldCauses) : Run l s (s.enterHolding l c) := by
  refine Run.lane s l _ (pack := fun x => ?_) (kept := fun x h => ?_)
  · split <;> rfl
  · split at h <;> exact h

theorem Run.enterIdle : Run l s (s.enterIdle l) := by
  refine Run.lane s l _ (pack := fun x => ?_) (kept := fun x h => ?_)
  · split
    · rfl
    · exact Lane.claiming_pack _ _
  · split at h
    · exact h
    · simpa [Lane.claiming_inflight] using h

@[simp] theorem State.changeMark_lanes (cls serial : Nat) (new : Mark) :
    (s.changeMark cls serial new).lanes = s.lanes :=
  State.changesOnly_same (s.changeMark_frame cls serial new) .lanes

@[simp] theorem State.changeMark_lane (cls serial : Nat) (new : Mark) (m : LaneId) :
    (s.changeMark cls serial new).lane m = s.lane m := by
  simp [State.lane]

theorem Run.endTicket (head : Lane → HeadStatus) :
    Run l s (s.moveLane l fun x => x.endTicket (head x)) :=
  Run.lane s l _ (kept := by intro _ h; simp [Lane.endTicket] at h)

theorem Run.spoilTicket (r : InFlight) (x : OutcomeReason)
    (begun : (s.lane l).inflight.isSome = true) : Run l s (s.spoilTicket l r x) :=
  (((Run.mark s l _ _ _).andThen
    (Run.writeJobEntry _ l _ _ _ (by simpa using begun) (by simp [InFlight.spoilEntry]))).andThen
    (Run.spoilJob _ l _ _ _ _ _)).andThen (Run.endTicket _ l fun _ => .notPositioned)

theorem Run.issueTicket (r : InFlight) (begun : (s.lane l).inflight.isSome = true) :
    Run l s (s.issueTicket l r) :=
  (((Run.mark s l _ _ _).andThen
    (Run.writeJobEntry _ l _ _ _ (by simpa using begun) (by simp [InFlight.issueEntry]))).andThen
    (Run.endJob _ l _ _ _ _)).andThen (Run.endTicket _ l fun _ => .notPositioned)

theorem Run.settle : Run l s (s.settle l) := by
  unfold State.settle
  split
  · exact Run.refl s
  · rename_i r begun
    exact Run.ite (Run.spoilTicket s l r _ (by simp [begun]))
      ((Run.handBack s l _ _).andThen
        (Run.endTicket _ l fun x => x.head))

theorem Run.laneFault (k : FaultKind) (c : FaultContext) : Run l s (s.laneFault l k c) :=
  (((Run.lane s l _).andThen (Run.settle _ l)).andThen
    (Run.raiseLane _ l k c)).andThen (Run.lane _ l _)

theorem Run.advanceHead : Run l s (s.advanceHead l) := by
  unfold State.advanceHead
  split
  · exact Run.ite ((Run.mark s l _ _ _).andThen
      (Run.lane _ l _)) (Run.refl s)
  · exact Run.refl s

theorem Run.issueFeed : Run l s (s.issueFeed l) :=
  Run.ite (Run.laneFault s l _ _) (Run.lane s l _)

theorem Run.stockOutEnd : Run l s (s.stockOutEnd l) := by
  refine Run.lane s l _ (pack := fun x => ?_) (kept := fun x h => ?_)
  · split <;> rfl
  · split at h <;> exact h

theorem Run.feedAttempt : Run l s (s.feedAttempt l) :=
  Run.ite ((Run.advanceHead s l).andThen (Run.stockOutEnd _ l))
    (Run.ite ((Run.advanceHead s l).andThen (Run.lane _ l _))
      ((Run.advanceHead s l).andThen (Run.issueFeed _ l)))

theorem Run.endMatch : Run l s (s.endMatch l) :=
  Run.ite (Run.lane s l _)
    (Run.ite (Run.enterHolding s l _)
      (Run.ite ((Run.lane s l _).andThen (Run.feedAttempt _ l))
        ((Run.lane s l _).andThen (Run.enterIdle _ l))))

theorem Run.readAhead (cls serial e : Nat) : Run l s (s.readAhead l cls serial e) :=
  ((Run.markUnused s l _ _ _).andThen
    (Run.lane _ l _)).andThen (Run.laneFault _ l _ _)

theorem Run.wrongStock (cls serial : Nat) : Run l s (s.wrongStock l cls serial) :=
  (Run.lane s l _).andThen (Run.laneFault _ l _ _)

theorem Run.compareRead (cls serial : Nat) : Run l s (s.compareRead l cls serial) := by
  unfold State.compareRead
  split
  · exact Run.ite ((Run.lane s l _).andThen (Run.endMatch _ l))
      (Run.ite (Run.readAhead s l _ _ _) (Run.wrongStock s l _ _))
  · exact Run.wrongStock s l _ _

theorem Run.failedRead : Run l s (s.failedRead l) :=
  Run.ite (Run.lane s l _)
    ((Run.lane s l _).andThen (Run.laneFault _ l _ _))

theorem Run.strobeLine : Run l s (s.strobeLine l) :=
  Run.ite (Run.lane s l _)
    (Run.lane s l _ (kept := by intro _ h; simpa [Lane.strobe] using h))

theorem Run.afterStrobe : Run l s (s.afterStrobe l) :=
  Run.ite ((Run.lane s l _).andThen (Run.strobeLine _ l))
    (Run.lane s l _)

theorem Run.afterTicket : Run l s (s.afterTicket l) :=
  Run.ite (Run.enterHolding s l _)
    (Run.ite (Run.stockOutEnd s l)
      ((Run.lane s l _).andThen (Run.feedAttempt _ l)))

theorem Run.cutCompletion : Run l s (s.cutCompletion l) := by
  have stopped := Run.lane s l (fun x => { x with awaiting := none }) 
  unfold State.cutCompletion
  split
  · exact stopped
  · rename_i r begun
    have kept : ((s.moveLane l fun x => { x with awaiting := none }).lane l).inflight.isSome = true := by
      simp [begun]
    exact (stopped.andThen (Run.ite (Run.spoilTicket _ l r _ kept)
      (Run.issueTicket _ l r kept))).andThen (Run.afterTicket _ l)

theorem Run.raiseCabinet : Run l s (s.raiseCabinet l) := Run.raiseLane s l _ _

theorem Run.observeOpening : Run l s (s.observeOpening l) := by
  have seen := Run.lane s l (fun x => { x with cabinetSeen := .opened }) 
  have raised := seen.andThen (Run.raiseCabinet _ l)
  unfold State.observeOpening
  split
  · exact seen
  · exact raised.andThen (Run.enterHolding _ l _)
  · exact raised.andThen (Run.lane _ l _)
  · exact raised
  all_goals exact raised.andThen (Run.lane _ l _)

theorem Run.sampleAtPriming : Run l s (s.sampleAtPriming l) :=
  Run.ite ((Run.lane s l _).andThen (Run.raiseCabinet _ l)) (Run.refl s)

theorem Run.startPriming : Run l s (s.startPriming l) :=
  Run.ite ((Run.sampleAtPriming s l).andThen (Run.enterHolding _ l _))
    (Run.ite
      (((Run.sampleAtPriming s l).andThen (Run.lane _ l _)).andThen
        (Run.feedAttempt _ l))
      ((Run.sampleAtPriming s l).andThen (Run.lane _ l _)))

theorem Run.relock : Run l s (s.relock l) := by
  have closed := (Run.lane s l (fun x => { x with cabinetSeen := .locked }) ).andThen (Move.relocked _).run
  unfold State.relock
  split
  · have moved := closed.andThen
      (Run.lane _ l (fun x => { x with causes := { x.causes with cabinetOpen := false } })
       )
    exact Run.ite (moved.andThen (Run.startPriming _ l)) moved
  case h_9 | h_10 | h_11 => exact closed
  all_goals exact closed.andThen (Run.lane _ l _)

theorem Run.startTicket (h : Handed) (d : FormDef) (serial : Nat)
    (mounted : (s.lane l).pack.isSome = true) : Run l s (s.startTicket l h d serial) :=
  (Move.lane s _ rfl fun _ => .inr mounted).run.andThen (Run.strobeLine _ l)

theorem Run.openAtStart : Run l s (s.openAtStart l) := by
  unfold State.openAtStart
  split
  · exact Run.observeOpening s l
  · exact Run.enterHolding s l _

/-- A lane that prints a handed job by a definition has a pack mounted. -/
theorem State.pack_of_handedDef {h : Handed} {d : FormDef} (found : s.handedDef l h = some d) :
    (s.lane l).pack.isSome = true := by
  unfold State.handedDef State.mounted at found
  cases pack : (s.lane l).pack with
  | some n => rfl
  | none =>
    rw [pack] at found
    split at found <;> simp at found

theorem Run.answerClaim (h : Handed) : Run l s (s.answerClaim l h) := by
  unfold State.answerClaim
  split
  · refine Run.ite ((Run.openAtStart s l).andThen (Run.handBack _ l _ _))
      (Run.ite (Run.handBack s l _ _) ?_)
    split
    · exact Run.startTicket s l h _ _ (s.pack_of_handedDef l ‹_›)
    · exact Run.handBack s l _ _
  · exact Run.handBack s l _ _

theorem Run.takeAnswer : Run l s (s.takeAnswer l) := by
  unfold State.takeAnswer
  split
  · exact (Run.lane s l _).andThen (Run.answerClaim _ l _)
  · exact Run.refl s

theorem Run.takeClaim : Run l s (s.takeClaim l) := by
  have taken := Run.lane s l (fun x => { x with claimSent := false }) 
  refine Run.ite ?_ (Run.refl s)
  dsimp only
  split
  · exact taken.andThen ((Run.mapJob _ l _ _ _).andThen
      (Run.lane _ l _))
  · exact taken

theorem Run.takeRecord (r : Vector Byte 6) : Run l s (s.takeRecord l r) := by
  have stopped := Run.lane s l (fun x => { x with awaiting := none }) 
  unfold State.takeRecord
  split
  · exact stopped.andThen (Run.compareRead _ l _ _)
  · exact stopped.andThen (Run.failedRead _ l)

theorem Run.resume : Run l s (s.resume l) := by
  unfold State.resume
  split
  · exact Run.issueFeed s l
  · exact Run.strobeLine s l
  · exact Run.refl s

theorem Run.purge : Run l s (s.purge l) :=
  ((((Run.lane s l _).andThen (Run.settle _ l)).andThen
    (Move.recovered _ _).run).andThen (Run.lane _ l _)).andThen
    (Run.feedAttempt _ l)

theorem Run.clearTaken : Run l s (s.clearTaken l) :=
  (Move.recovered s _).run.andThen (Run.startPriming _ l)

theorem Run.whenRunning {f : State → State} (h : Run l s (f s)) : Run l s (s.whenRunning f) :=
  Run.ite h (Run.refl s)

theorem Run.whenAwaiting {op : LaneOp} {f : State → State} (h : Run l s (f s)) :
    Run l s (s.whenAwaiting l op f) :=
  Run.whenRunning s l (Run.ite h (Run.refl s))

end

end Sys2Proof.Machine
end

section
/-! SUPPORT. What a command makes of the notice queues: it posts well-formed notices to the ports that own
their objects, so well-formed queues stay so, and a notice posted in a taking is not lost in the rest of
it. -/

-- One proof at a time: the check's memory limit holds few threads.
set_option Elab.async false

namespace Sys2Proof.Machine

/-! ## One queue -/

/-- A notice without an outcome's fields, as every posting but a SLOT_OUTCOME makes it. -/
def Notice.plain (n : Notice) : Prop := n.wf = true ∧ n.detail = none

theorem Notice.eq_of_object {m n : Notice} (hm : m.wf = true) (hn : n.plain)
    (same : m.object = n.object) : m = n := by
  obtain ⟨mk, mo, md⟩ := m
  obtain ⟨nk, no, nd⟩ := n
  obtain ⟨wf, rfl⟩ := hn
  obtain rfl : mo = no := same
  simp only [Notice.wf, Bool.and_eq_true, beq_iff_eq] at hm wf
  obtain ⟨rfl, hd⟩ := hm
  obtain ⟨rfl, hd'⟩ := wf
  cases md with
  | none => rfl
  | some o => simp_all

theorem mem_coalesce_self (q : List Notice) (n : Notice) : n ∈ coalesce q n := by
  unfold coalesce
  split
  · rename_i found
    obtain ⟨m, hm, same⟩ := List.any_eq_true.1 found
    exact List.mem_map.2 ⟨m, hm, if_pos (by simpa using same)⟩
  · simp

/-- A posting replaces notices of its own object alone. -/
theorem mem_coalesce_of_ne {q : List Notice} {m n : Notice} (hm : m ∈ q)
    (ne : m.object ≠ n.object) : m ∈ coalesce q n := by
  unfold coalesce
  split
  · exact List.mem_map.2 ⟨m, hm, if_neg ne⟩
  · exact List.mem_append_left _ hm

/-- A plain notice stands where any well-formed notice is posted. -/
theorem mem_coalesce_of_plain {q : List Notice} {m n : Notice} (hm : m ∈ q) (plain : m.plain)
    (wf : n.wf = true) : m ∈ coalesce q n := by
  by_cases same : n.object = m.object
  · rw [Notice.eq_of_object wf plain same]
    exact mem_coalesce_self q m
  · exact mem_coalesce_of_ne hm (Ne.symm same)

theorem mem_of_mem_coalesce {q : List Notice} {m n : Notice} (h : m ∈ coalesce q n) :
    m ∈ q ∨ m = n := by
  unfold coalesce at h
  split at h
  · obtain ⟨x, hx, e⟩ := List.mem_map.1 h
    split at e
    · exact .inr e.symm
    · exact .inl (e ▸ hx)
  · simpa using h

theorem queueWf_coalesce {own : NoticeObject → Bool} {q : List Notice} {n : Notice}
    (h : queueWf own q) (wf : n.wf = true) (owned : own n.object = true) :
    queueWf own (coalesce q n) := by
  refine ⟨nodup_object_coalesce h.1 n, fun m hm => ?_⟩
  rcases mem_of_mem_coalesce hm with hm | rfl
  · exact h.2 m hm
  · exact ⟨wf, owned⟩

/-! ## All the queues -/

/-- Well-formed queues stay well formed, and no plain notice is lost. -/
def State.queuesGrow (s t : State) : Prop :=
  ∀ p : Port, (queueWf (ownedBy p) (s.port p).queue → queueWf (ownedBy p) (t.port p).queue) ∧
    ∀ n : Notice, n.plain → n ∈ (s.port p).queue → n ∈ (t.port p).queue

theorem State.queuesHold_iff (s : State) :
    s.queuesHold ↔ ∀ p : Port, queueWf (ownedBy p) (s.port p).queue := by
  constructor
  · rintro ⟨windows, office⟩ (w | _)
    · exact windows w
    · exact office
  · exact fun h => ⟨fun w => h (.window w), h .office⟩

theorem State.queuesGrow.holds {s t : State} (h : s.queuesGrow t) (hs : s.queuesHold) :
    t.queuesHold := by
  rw [State.queuesHold_iff] at hs ⊢
  exact fun p => (h p).1 (hs p)

theorem State.queuesGrow_refl (s : State) : s.queuesGrow s := fun _ => ⟨id, fun _ _ => id⟩

theorem State.queuesGrow.andThen {s t u : State} (h : s.queuesGrow t) (h' : t.queuesGrow u) :
    s.queuesGrow u := fun p =>
  ⟨fun hs => (h' p).1 ((h p).1 hs), fun n plain hn => (h' p).2 n plain ((h p).2 n plain hn)⟩

theorem State.queuesGrow_ite {s t u : State} {c : Prop} [Decidable c] (h : s.queuesGrow t)
    (h' : s.queuesGrow u) : s.queuesGrow (if c then t else u) := by
  split
  · exact h
  · exact h'

theorem State.queuesGrow_of_same {s t : State} (h : s.same t .queues) : s.queuesGrow t := by
  intro p
  rw [h p]
  exact ⟨id, fun _ _ => id⟩

/-- An operation that does not touch the queues. -/
theorem State.changesOnly.queuesGrow {s t : State} {a : List Part} (h : s.changesOnly t a)
    (ha : Part.queues ∉ a := by decide) : s.queuesGrow t := State.queuesGrow_of_same (h .queues ha)

theorem State.queuesGrow_foldl {α : Type} (f : State → α → State)
    (h : ∀ (s : State) (x : α), s.queuesGrow (f s x)) : ∀ (xs : List α) (s : State),
    s.queuesGrow (xs.foldl f s)
  | [], s => s.queuesGrow_refl
  | x :: xs, s => (h s x).andThen (State.queuesGrow_foldl f h xs (f s x))

section
variable (s : State) (p : Port) (l : LaneId) (w : Window) (k : SlotId)

theorem State.post_grow (n : Notice) (wf : n.wf = true) (owned : ownedBy p n.object = true) :
    s.queuesGrow (s.post p n) := by
  intro q
  rw [State.post_queue]
  split
  · subst q
    exact ⟨fun h => queueWf_coalesce h wf owned,
      fun m plain hm => mem_coalesce_of_plain hm plain wf⟩
  · exact ⟨id, fun _ _ => id⟩

/-- LANE_CHANGE for a lane (01 Table 1.4). -/
def laneNotice (l : LaneId) : Notice := ⟨.laneChange, .lane l, none⟩

theorem laneNotice_plain : (laneNotice l).plain := ⟨rfl, rfl⟩

theorem State.postLane_grow : s.queuesGrow (s.postLane l) := by
  intro q
  rw [State.postLane_queue]
  exact ⟨fun h => queueWf_coalesce h rfl (by cases q <;> rfl),
    fun m plain hm => mem_coalesce_of_plain hm plain rfl⟩

theorem State.postSession_grow : s.queuesGrow (s.postSession w) :=
  (s.post_grow (.window w) _ rfl rfl).andThen (State.post_grow _ .office _ rfl rfl)

theorem State.postStock_grow : s.queuesGrow s.postStock := s.post_grow .office _ rfl rfl
theorem State.postForms_grow : s.queuesGrow s.postForms := s.post_grow .office _ rfl rfl
theorem State.postCensus_grow : s.queuesGrow s.postCensus := s.post_grow .office _ rfl rfl
theorem State.postStore_grow : s.queuesGrow s.postStore := s.post_grow .office _ rfl rfl
theorem State.postFaults_grow : s.queuesGrow s.postFaults := s.post_grow .office _ rfl rfl

theorem State.postReport_grow (src : FaultSource) : s.queuesGrow (s.postReport src) := by
  cases src with
  | lane l => exact s.postFaults_grow.andThen (State.postLane_grow _ l)
  | controller => exact s.postFaults_grow

theorem State.postOutcome_grow (o : SlotOutcome) : s.queuesGrow (s.postOutcome w k o) :=
  (s.setSlot_frame w k _).queuesGrow.andThen (State.post_grow _ (.window w) _ rfl rfl)

theorem State.moveLane_grow (f : Lane → Lane) : s.queuesGrow (s.moveLane l f) :=
  State.queuesGrow_ite ((s.setLane_frame l _).queuesGrow.andThen (State.postLane_grow _ l))
    (s.setLane_frame l _).queuesGrow

theorem State.updatePack_grow (n : Nat) (f : Pack → Pack) : s.queuesGrow (s.updatePack n f) :=
  (s.withPacks_frame _ s.nextPack).queuesGrow.andThen (State.postStock_grow _)

theorem State.stockLow_grow (a b : Pack) : s.queuesGrow (s.stockLow a b) := by
  unfold State.stockLow
  split
  · exact State.queuesGrow_ite (s.postLane_grow _) s.queuesGrow_refl
  · exact s.queuesGrow_refl

theorem State.changeMark_grow (cls serial : Nat) (new : Mark) :
    s.queuesGrow (s.changeMark cls serial new) := by
  unfold State.changeMark
  split
  · exact s.queuesGrow_refl
  · split
    · exact s.queuesGrow_refl
    · exact State.queuesGrow_ite
        (((s.updatePack_grow _ _).andThen (State.stockLow_grow _ _ _)).andThen
          (State.setCensus_frame _ _).queuesGrow) s.queuesGrow_refl

theorem State.markUnused_grow (cls : Nat) (new : Mark) (serials : List Nat) :
    s.queuesGrow (s.markUnused cls new serials) :=
  State.queuesGrow_foldl _
    (fun t r => State.queuesGrow_ite (t.changeMark_grow cls r new) t.queuesGrow_refl) serials s

theorem State.writeEntry_grow (d : EntryData) : s.queuesGrow (s.writeEntry w d) :=
  ((s.addEntry_frame w _ _ _).queuesGrow.andThen (State.updatePack_grow _ _ _)).andThen
    (State.postSession_grow _ w)

theorem State.mapReports_grow (f : Report → Report) : s.queuesGrow (s.mapReports f) :=
  (s.mapReports_frame f).queuesGrow

theorem State.addOccurrence_grow (src : FaultSource) (n : Nat) (o : Option FaultKind) :
    s.queuesGrow (s.addOccurrence src n o) :=
  (s.mapReports_grow _).andThen (State.postReport_grow _ src)

theorem State.ageFaults_grow : s.queuesGrow s.ageFaults := by
  unfold State.ageFaults
  refine State.queuesGrow_ite s.queuesGrow_refl ?_
  split
  · exact (s.setFaults_frame _ s.faultCounter).queuesGrow.andThen (State.postReport_grow _ _)
  · exact s.queuesGrow_refl

theorem State.addReport_grow (src : FaultSource) (a : FaultKind) (n : Option Nat)
    (c : FaultContext) : s.queuesGrow (s.addReport src a n c) :=
  (s.ageFaults_grow.andThen (State.setFaults_frame _ _ _).queuesGrow).andThen
    (State.postReport_grow _ src)

theorem State.raiseLane_grow (a : FaultKind) (c : FaultContext) :
    s.queuesGrow (s.raiseLane l a c) := by
  unfold State.raiseLane
  dsimp only
  split
  · exact s.addOccurrence_grow _ _ _
  · split
    · exact s.addReport_grow _ _ _ _
    · exact s.addReport_grow _ _ _ _
    · exact s.addOccurrence_grow _ _ _

theorem State.raiseController_grow (a : FaultKind) (c : FaultContext) :
    s.queuesGrow (s.raiseController a c) := by
  unfold State.raiseController
  split
  · exact s.addOccurrence_grow _ _ _
  · exact s.addReport_grow _ _ _ _

theorem State.selfClear_grow : s.queuesGrow (s.selfClear l) :=
  State.queuesGrow_ite
    (((s.mapReports_grow _).andThen (State.promote_frame _ l).queuesGrow).andThen
      (State.postReport_grow _ _)) s.queuesGrow_refl

theorem State.countRefusal_grow : s.queuesGrow (s.countRefusal l) := by
  unfold State.countRefusal
  split
  · exact (s.mapReports_grow _).andThen (State.postReport_grow _ _)
  · exact s.queuesGrow_refl

theorem Move.queuesGrow {l : LaneId} {s t : State} (h : Move l s t) : s.queuesGrow t := by
  cases h with
  | lane f => exact s.moveLane_grow l f
  | told => exact s.reportEligible_frame.queuesGrow
  | slot w k x => exact (s.setSlot_frame w k x).queuesGrow
  | outcome w k o => exact s.postOutcome_grow w k o
  | form f x => exact (s.setForm_frame f x).queuesGrow
  | applied f => exact (s.setForm_frame f _).queuesGrow.andThen (State.postForms_grow _)
  | mark cls serial new => exact s.changeMark_grow cls serial new
  | entry w d => exact s.writeEntry_grow w d
  | reserved w n m =>
    exact ((s.setSession_frame w _).queuesGrow).andThen
      (State.setJournal_frame (s := s.setSession w { s.session w with reserved := n })
        s.journal s.journalInUse m).queuesGrow
  | raised k c => exact s.raiseLane_grow l k c
  | relocked => exact s.selfClear_grow l
  | recovered how => exact (s.mapReports_grow _).andThen (State.postReport_grow _ _)
  | counted => exact s.countRefusal_grow l

theorem Run.queuesGrow {l : LaneId} {s t : State} (h : Run l s t) : s.queuesGrow t :=
  h.lift State.queuesGrow_refl (fun _ _ _ => State.queuesGrow.andThen) fun _ _ => Move.queuesGrow

/-- What every move that makes a change posts, a run that makes it has posted at its end. -/
theorem Run.posts {p : Port} {n : Notice} (plain : n.plain) (I : State → Prop)
    (changed : State → State → Prop) (irr : ∀ s, ¬changed s s)
    (split : ∀ s t u, I s → I t → changed s u → changed s t ∨ changed t u)
    (keep : ∀ s t, Move l s t → I s → I t)
    (move : ∀ s t, Move l s t → I s → changed s t → n ∈ (t.port p).queue)
    {s t : State} (h : Run l s t) (hs : I s) : changed s t → n ∈ (t.port p).queue := by
  induction h with
  | refl => exact fun c => absurd c (irr _)
  | tail run last ih =>
    intro c
    have mid := Run.keeps keep run hs
    rcases split _ _ _ hs mid c with c | c
    · exact (last.queuesGrow p).2 n plain (ih c)
    · exact move _ _ last mid c

/-! ## The blocks outside the runs -/

theorem State.moveCensus_grow (c : Census) : s.queuesGrow (s.moveCensus c) :=
  (s.setCensus_frame c).queuesGrow.andThen (State.postCensus_grow _)

theorem State.haltCensus_grow (c : StopCause) : s.queuesGrow (s.haltCensus c) :=
  State.queuesGrow_ite s.queuesGrow_refl (s.moveCensus_grow _)

theorem State.storeVerdict_grow (a : Pack) (v : Verdict) : s.queuesGrow (s.storeVerdict a v) := by
  cases v with
  | none => exact s.queuesGrow_refl
  | matched => exact s.updatePack_grow _ _
  | mismatch => exact (s.updatePack_grow _ _).andThen (State.raiseController_grow _ _ _)

theorem State.entryStep_grow : s.queuesGrow s.entryStep := by
  refine State.queuesGrow_ite ?_ s.queuesGrow_refl
  split
  · exact s.queuesGrow_refl
  · refine State.queuesGrow_ite (s.moveCensus_grow _) ?_
    split
    · exact s.queuesGrow_refl
    · exact State.queuesGrow_ite (s.setCensus_frame _).queuesGrow
        (State.queuesGrow_ite ((s.storeVerdict_grow _ _).andThen (State.moveCensus_grow _ _))
          (State.queuesGrow_ite (s.moveCensus_grow _) (s.setCensus_frame _).queuesGrow))

theorem State.setSession_postSession_grow (x : Session) :
    s.queuesGrow ((s.setSession w x).postSession w) :=
  (s.setSession_frame w x).queuesGrow.andThen (State.postSession_grow _ w)

theorem State.addPack_grow (b : PackBody) : s.queuesGrow (s.addPack b) :=
  (s.withPacks_frame _ _).queuesGrow.andThen (State.postStock_grow _)

theorem State.removePack_grow (n : Nat) : s.queuesGrow (s.removePack n) :=
  (s.withPacks_frame _ s.nextPack).queuesGrow.andThen (State.postStock_grow _)

theorem State.freeEntries_grow : s.queuesGrow (s.freeEntries w) :=
  State.queuesGrow_ite ((s.setJournalPacks_frame _ _ _).queuesGrow.andThen (State.postStock_grow _))
    (s.setJournalPacks_frame _ _ _).queuesGrow

theorem State.bindPack_grow (a : Pack) : s.queuesGrow (s.bindPack a l) :=
  ((s.updatePack_grow _ _).andThen (State.moveLane_grow _ l _)).andThen
    (Run.startPriming _ l).queuesGrow

theorem State.applyMode_grow (a : Pack) (m : WithdrawMode) : s.queuesGrow (s.applyMode a m) := by
  unfold State.applyMode
  dsimp only
  split
  · exact (s.updatePack_grow _ _).andThen (State.markUnused_grow _ _ _ _)
  · exact s.updatePack_grow _ _

theorem State.clearByWithdrawal_grow : s.queuesGrow (s.clearByWithdrawal l) :=
  State.queuesGrow_ite s.queuesGrow_refl ((s.mapReports_grow _).andThen (State.postFaults_grow _))

theorem State.withdrawLane_grow (a : Pack) (m : WithdrawMode) :
    s.queuesGrow (s.withdrawLane l a m) :=
  (((s.releaseLane_frame l a m).queuesGrow.andThen (State.clearByWithdrawal_grow _ l)).andThen
    (State.postStock_grow _)).andThen (State.postLane_grow _ l)

theorem State.regrant_grow (g : GrantSet) : s.queuesGrow (s.regrant w g) :=
  State.queuesGrow_ite (s.setGrants_frame _).queuesGrow
    ((s.setGrants_frame _).queuesGrow.andThen (State.post_grow _ (.window w) _ rfl rfl))

theorem State.cancelJobs_grow : s.queuesGrow s.cancelJobs :=
  State.queuesGrow_foldl _
    (fun t _ => State.queuesGrow_ite
      ((t.mapJob_frame _ _ _).queuesGrow.andThen (State.postOutcome_grow _ _ _ _))
      (t.mapJob_frame _ _ _).queuesGrow) _ _

theorem State.emptySessions_grow : s.queuesGrow s.emptySessions :=
  (State.queuesGrow_foldl _
    (fun t v => State.queuesGrow_ite (t.setSession_frame v _).queuesGrow
      (t.setSession_postSession_grow v _)) allWindows s).andThen
    (State.setJournal_frame _ _ _).queuesGrow

theorem State.reinitialiseLanes_grow : s.queuesGrow s.reinitialiseLanes :=
  State.queuesGrow_foldl _
    (fun t l => (t.setLane_frame l _).queuesGrow.andThen (State.postLane_grow _ l)) _ _

theorem State.reinitialised_grow : s.queuesGrow s.reinitialised := by
  have emptied := ((s.cancelJobs_grow.andThen (State.emptySessions_grow _)).andThen
    (State.reinitialiseLanes_grow _)).andThen
    ((State.withPacks_frame _ [] 1).queuesGrow.andThen (State.postStock_grow _))
  have formed := (emptied.andThen (State.haltCensus_grow _ .storeReinitialise)).andThen
    ((State.setForms_frame (.replicate 8 .undefined)).queuesGrow.andThen (State.postForms_grow _))
  have granted := (formed.andThen (State.setDiscounts_frame emptyDiscounts).queuesGrow).andThen
    (State.queuesGrow_foldl _ (fun t w => t.regrant_grow w .all) allWindows _)
  have limited := granted.andThen (State.withLimits_frame .default).queuesGrow
  exact ((limited.andThen
    ((State.setFaults_frame _ _ _).queuesGrow.andThen (State.postFaults_grow _))).andThen
    (State.setStore_frame true true).queuesGrow).andThen (State.postStore_grow _)

end

/-- What an active job's request and its refusals keep, a request on a slot keeps. -/
theorem State.onJob_keeps {P : State → Prop} {s : State} {w : Window} {n : Nat}
    {take : SlotId → Job → State → State × Reply} (hs : P s)
    (h : ∀ k j, s.job w k = some j → j.isActive = true → P (take k j s).1) :
    P (s.onJob w n take).1 := by
  unfold State.onJob
  split
  · exact hs
  · split
    · exact hs
    · split
      · exact h _ _ ‹_› ‹_›
      · exact hs

/-- What a declaration's request and its refusals keep, a request of the sequence keeps. -/
theorem State.inSequence_keeps {P : State → Prop} {s : State} {w : Window}
    {take : DeclarationInProgress → State → State × Reply} (hs : P s)
    (h : ∀ d, P (take d s).1) : P (s.inSequence w take).1 := by
  unfold State.inSequence
  split
  case h_5 => exact h _
  all_goals exact hs

theorem windowBlock_grow {β : Type} {p : Port} {take : Window → β → State → State × Reply}
    {b : β} {s : State} (h : ∀ w, s.queuesGrow (take w b s).1) :
    s.queuesGrow (windowBlock p take b s).1 := by
  cases p with
  | office => exact s.queuesGrow_refl
  | window w => exact h w

/-- Every block but FETCH_NOTICE and RESTART, which take notices away. -/
theorem blockOf_grow {c : Instr} {s : State} {p : Port} {k : RequestKind} {tag : Byte}
    {r : State × Reply} (h : requestOf c = some (p, k, tag)) (hr : blockOf c s = some r)
    (fetch : k ≠ .fetchNotice) (restart : k ≠ .restart) : s.queuesGrow r.1 := by
  have kept := fun hq => State.queuesGrow_of_same (blockOf_frame h hr .queues hq)
  cases c <;> cases h <;> obtain ⟨b, -, rfl⟩ := Option.map_eq_some_iff.1 hr
  case fetchNotice => exact absurd rfl fetch
  case restart => exact absurd rfl restart
  case openSession =>
    refine windowBlock_grow fun w => ?_
    unfold State.openSession
    repeat' split
    case isFalse.isFalse => exact s.setSession_postSession_grow w _
    all_goals exact s.queuesGrow_refl
  case withdrawJob =>
    refine windowBlock_grow fun w => ?_
    refine State.onJob_keeps (P := s.queuesGrow) s.queuesGrow_refl fun k j _ _ => ?_
    split
    case h_1 | h_2 | h_3 => exact (Run.withdrawn s 0 w k _ _).queuesGrow
    all_goals exact s.queuesGrow_refl
  case voidTicket =>
    refine windowBlock_grow fun w => ?_
    unfold State.voidTicket State.voidOpen State.voidIssued
    repeat' split
    case h_2 => exact (s.dropDeclaration_frame w).queuesGrow
    case isFalse.isFalse => exact (s.changeMark_grow _ _ _).andThen (State.writeEntry_grow _ w _)
    all_goals exact s.queuesGrow_refl
  case declareBegin =>
    refine windowBlock_grow fun w => ?_
    unfold State.declareBegin
    repeat' split
    case h_3.isFalse.isFalse => exact s.setSession_postSession_grow w _
    case h_4.isFalse => exact (s.setSession_frame w _).queuesGrow
    all_goals exact s.queuesGrow_refl
  case declareItem =>
    exact windowBlock_grow fun w => (State.declareItem_frame b).queuesGrow
  case declareConfirm =>
    refine windowBlock_grow fun w => ?_
    refine State.inSequence_keeps (P := s.queuesGrow) s.queuesGrow_refl fun d => ?_
    split
    · exact s.queuesGrow_refl
    · split
      · exact (s.dropDeclaration_frame w).queuesGrow
      · exact s.setSession_postSession_grow w _
  case declarePack =>
    rw [State.declarePack_eq]
    split
    · exact s.queuesGrow_refl
    · exact s.addPack_grow b
  case mountPack =>
    unfold State.mountPack
    split
    · exact s.queuesGrow_refl
    · split
      · exact s.queuesGrow_refl
      · split
        · exact s.queuesGrow_refl
        · split
          · exact s.countRefusal_grow _
          · exact s.bindPack_grow _ _
          · exact s.queuesGrow_refl
  case withdrawPack =>
    unfold State.withdrawPack
    split
    · exact s.queuesGrow_refl
    · split
      · unfold State.withdrawFromLane
        repeat' split
        case isFalse => exact s.withdrawLane_grow _ _ _
        all_goals exact s.queuesGrow_refl
      · unfold State.withdrawByNumber
        repeat' split
        case isFalse => exact s.applyMode_grow _ _
        all_goals exact s.queuesGrow_refl
  case collectPack =>
    unfold State.collectPack
    repeat' split
    case isFalse => exact s.removePack_grow _
    all_goals exact s.queuesGrow_refl
  case startCensus =>
    unfold State.startCensus
    repeat' split
    case isFalse => exact s.moveCensus_grow _
    all_goals exact s.queuesGrow_refl
  case suspendCensus =>
    unfold State.suspendCensus
    split
    · exact s.moveCensus_grow _
    · exact s.queuesGrow_refl
  case resumeCensus =>
    unfold State.resumeCensus
    split
    · exact s.moveCensus_grow _
    · exact s.queuesGrow_refl
  case stopCensus =>
    unfold State.stopCensus
    split
    case h_1 | h_2 => exact s.queuesGrow_refl
    all_goals exact s.moveCensus_grow _
  case clearLane =>
    unfold State.clearLane
    split
    · exact s.queuesGrow_refl
    · split
      · exact s.queuesGrow_refl
      · split
        · exact s.queuesGrow_refl
        · exact (Run.clearTaken s _).queuesGrow
      · exact s.queuesGrow_refl
  case purgeLane =>
    unfold State.purgeLane
    split
    · exact s.queuesGrow_refl
    · split
      · exact s.queuesGrow_refl
      · dsimp only
        exact (Run.purge s _).queuesGrow
  case advanceBlank =>
    unfold State.advanceBlank
    split
    · exact s.queuesGrow_refl
    · split
      · exact s.queuesGrow_refl
      · split
        · exact s.countRefusal_grow _
        · exact (s.moveLane_grow _ _).andThen (Run.feedAttempt _ _).queuesGrow
        · exact s.queuesGrow_refl
  case ackFault =>
    unfold State.ackFault
    repeat' split
    case isFalse => exact (s.mapReports_grow _).andThen (State.postReport_grow _ _)
    all_goals exact s.queuesGrow_refl
  case defineForm =>
    unfold State.defineForm
    split
    · exact s.queuesGrow_refl
    · dsimp only
      repeat' split
      case isFalse.isTrue => exact (s.setForm_frame _ _).queuesGrow.andThen (State.postForms_grow _)
      case isFalse.isFalse.isFalse =>
        exact (s.setForm_frame _ _).queuesGrow.andThen (State.postForms_grow _)
      all_goals exact s.queuesGrow_refl
  case setLimits =>
    unfold State.setLimits
    split
    · exact s.queuesGrow_refl
    · exact State.queuesGrow_ite (s.withLimits_frame _).queuesGrow
        ((s.withLimits_frame _).queuesGrow.andThen (State.postStore_grow _))
  case setPermissions =>
    unfold State.setPermissions
    repeat' split
    case isFalse.isTrue => exact s.regrant_grow _ _
    case isFalse.isFalse => exact s.regrant_grow _ _
    all_goals exact s.queuesGrow_refl
  case collectCashup =>
    unfold State.collectCashup
    repeat' split
    case isFalse => exact (s.freeEntries_grow _).andThen (State.setSession_postSession_grow _ _ _)
    all_goals exact s.queuesGrow_refl
  case reopenSession =>
    unfold State.reopenSession
    repeat' split
    case isFalse => exact s.setSession_postSession_grow _ _
    all_goals exact s.queuesGrow_refl
  case storeReinitialise =>
    unfold State.storeReinitialise
    split
    · exact s.queuesGrow_refl
    · exact s.reinitialised_grow
  all_goals exact kept (by decide)

/-! ## Power, and every command -/

theorem queueWf_nil (own : NoticeObject → Bool) : queueWf own [] := by simp [queueWf]

theorem State.volatileLost_queue (s : State) (p : Port) : (s.volatileLost.port p).queue = [] := by
  cases p with
  | office => rfl
  | window w => simp [State.volatileLost, State.port]

theorem State.startPorts_grow (s : State) : s.queuesGrow s.startPorts := by
  intro q
  rw [State.startPorts_port]
  exact ⟨fun h => queueWf_coalesce h rfl (by cases q <;> rfl),
    fun m plain hm => mem_coalesce_of_plain hm plain rfl⟩

theorem State.startForms_grow (s : State) : s.queuesGrow s.startForms :=
  State.queuesGrow_ite ((s.setForms_frame _).queuesGrow.andThen (State.postForms_grow _))
    (s.setForms_frame _).queuesGrow

theorem State.powerOnSpoil_grow (s : State) (l : LaneId) (r : InFlight) :
    s.queuesGrow (s.powerOnSpoil l r) := by
  have written := ((s.changeMark_grow (s.mountedClass l) r.serial .spoiled).andThen
    (State.unreserve_frame _ r.window r.reserved).queuesGrow).andThen
    (State.writeEntry_grow _ r.window (r.spoilEntry (s.mountedClass l) ((s.lane l).pack.getD 0)))
  exact ((written.andThen
    (State.raiseLane_grow _ l .powerInterrupted (r.lostContext (s.lane l).pack))).andThen
    (State.moveLane_grow _ l _)).andThen (Run.feedAttempt _ l).queuesGrow

theorem State.startLane_grow (s : State) (l : LaneId) : s.queuesGrow (s.startLane l) := by
  have mounted : ∀ t : State, t.queuesGrow (t.startMounted l) := by
    intro t
    unfold State.startMounted
    split
    · exact (Run.startPriming t l).queuesGrow
    · exact State.queuesGrow_ite (t.powerOnSpoil_grow l _)
        (((t.unreserve_frame _ _).queuesGrow.andThen (State.moveLane_grow _ l _)).andThen
          (Run.startPriming _ l).queuesGrow)
  have cabinet : ∀ t : State, t.queuesGrow (t.reconcileCabinet l) := by
    intro t
    unfold State.reconcileCabinet
    split
    · exact t.selfClear_grow l
    · exact State.queuesGrow_ite (t.raiseLane_grow l _ _) t.queuesGrow_refl
  exact (State.queuesGrow_ite ((s.setLane_frame l _).queuesGrow.andThen (mounted _))
    (s.setLane_frame l _).queuesGrow).andThen (cabinet _)

/-- The commands that take notices away: a fetch, a restart, a loss of supply and a start. -/
def takesNotices : Instr → Bool
  | .fetchNotice _ _ _ | .restart _ _ _ | .powerOn | .supplyLoss _ => true
  | _ => false

theorem exec_grow_of_request {c : Instr} {s t : State} {p : Port} {k : RequestKind} {tag : Byte}
    (h : requestOf c = some (p, k, tag)) (run : exec c s = .next t)
    (fetch : k ≠ .fetchNotice) (restart : k ≠ .restart) : s.queuesGrow t := by
  rcases exec_request (s := s) h with ⟨-, run'⟩ | ⟨-, code, -, run'⟩ | ⟨-, -, -, r, hr, run'⟩ <;>
    rw [run] at run' <;> cases run'
  · exact s.queuesGrow_refl
  · exact (s.answerWith_frame p _ _ _).queuesGrow
  · exact (((s.reachBlock_frame p k).queuesGrow).andThen (blockOf_grow h hr fetch restart)).andThen
      (State.answerWith_frame _ p _ _ _).queuesGrow

/-- Every command but those of `takesNotices` keeps the queues well formed and loses no plain notice. -/
theorem exec_queuesGrow {c : Instr} {s t : State} (run : exec c s = .next t)
    (h : takesNotices c = false) : s.queuesGrow t := by
  cases hr : requestOf c with
  | some r =>
    obtain ⟨p, k, tag⟩ := r
    refine exec_grow_of_request hr run ?_ ?_ <;> rintro rfl <;> cases c <;> cases hr <;> cases h
  | none =>
    have kept := fun hq => State.queuesGrow_of_same (exec_same run .queues hq)
    cases c
    case portByteReceived | gapTimerExpiry | quietTimerExpiry | answerSent
      | powerFailWarningAssert | resetAsserted | officeClockTick | runTimeTick =>
      exact kept (of_decide_eq_true rfl)
    case fetchNotice | restart | powerOn | supplyLoss => cases h
    case censusEntryStep => cases run; exact State.queuesGrow_ite s.entryStep_grow s.queuesGrow_refl
    case claimRequest l => cases run; exact (Run.whenRunning s l (Run.takeClaim s l)).queuesGrow
    case claimAnswer l => cases run; exact (Run.whenRunning s l (Run.takeAnswer s l)).queuesGrow
    case scannerVisit =>
      cases run
      exact State.queuesGrow_ite ((Run.visitSlot s 0 _ _).queuesGrow.andThen
        (State.setScanner_frame _ _).queuesGrow) s.queuesGrow_refl
    case positioned l =>
      cases run
      exact State.queuesGrow_ite
        (State.queuesGrow_ite (s.moveLane_grow l _) s.queuesGrow_refl) s.queuesGrow_refl
    case headReady l => cases run; exact (Run.whenAwaiting s l (Run.afterStrobe s l)).queuesGrow
    case cutDone l => cases run; exact (Run.whenAwaiting s l (Run.cutCompletion s l)).queuesGrow
    case markRecord l r => cases run; exact (Run.whenAwaiting s l (Run.takeRecord s l r)).queuesGrow
    case markReadTimeout l =>
      cases run
      exact (Run.whenAwaiting s l ((Run.lane s l _).andThen (Run.failedRead _ l))).queuesGrow
    case feedTimeout l => cases run; exact (Run.whenAwaiting s l (Run.laneFault s l _ _)).queuesGrow
    case strobeTimeout l =>
      cases run; exact (Run.whenAwaiting s l (Run.laneFault s l _ _)).queuesGrow
    case cutTimeout l => cases run; exact (Run.whenAwaiting s l (Run.laneFault s l _ _)).queuesGrow
    case cabinetOpening l =>
      cases run
      exact (s.moveLane_grow l _).andThen (Run.whenRunning _ l
        (Run.ite (Run.observeOpening _ l) (Run.refl _))).queuesGrow
    case cabinetRelock l =>
      cases run
      exact (s.moveLane_grow l _).andThen (Run.whenRunning _ l
        (Run.ite (Run.relock _ l) (Run.refl _))).queuesGrow
    case powerFailWarningDeassert =>
      cases run
      exact (s.setPowerFail_frame false).queuesGrow.andThen
        (State.queuesGrow_ite
          ((State.queuesGrow_foldl _ (fun t l => (Run.resume t l).queuesGrow) allLanes _).andThen
            (State.reportEligible_frame _).queuesGrow) (State.queuesGrow_refl _))
    all_goals cases hr

/-- A fetch takes the head of one queue. -/
theorem State.fetchNotice_queuesHold {s : State} (p : Port) (hs : s.queuesHold) :
    (s.fetchNotice p).1.queuesHold := by
  rw [State.queuesHold_iff] at hs ⊢
  intro q
  cases queue : (s.port p).queue with
  | nil => rw [State.fetchNotice_nil queue]; exact hs q
  | cons n rest =>
    rw [State.fetchNotice_cons queue]
    dsimp only
    rw [State.dequeued_queue]
    split
    · subst q
      obtain ⟨nodup, each⟩ := hs p
      rw [queue] at nodup each
      exact ⟨(List.nodup_cons.1 nodup).2, fun m hm => each m (List.mem_cons_of_mem _ hm)⟩
    · exact hs q

theorem State.restart_queuesHold (s : State) : s.restart.1.queuesHold := by
  have emptied : s.restartQueues.queuesHold := by
    rw [State.queuesHold_iff]
    intro q
    rw [State.restartQueues_port]
    cases q <;> simp [PortState.restarted, queueWf, ownedBy, Notice.controllerStart, Notice.wf,
      NoticeObject.kind, NoticeObject.atWindow, NoticeObject.atOffice]
  have slots : s.restartQueues.queuesGrow s.restartQueues.restartSlots :=
    (State.setSlots_frame _).queuesGrow.andThen
      (State.queuesGrow_foldl _ (fun t x => (Run.dropJob t 0 x).queuesGrow) _ _)
  exact ((slots.andThen (State.haltCensus_grow _ .restart)).andThen
    (State.setSessions_frame _).queuesGrow).holds emptied

theorem State.queuesHold_of_empty {s t : State} (h : ∀ p, (s.port p).queue = [])
    (grow : s.queuesGrow t) : t.queuesHold := by
  refine grow.holds ?_
  rw [State.queuesHold_iff]
  intro p
  rw [h p]
  exact queueWf_nil _

theorem exec_powerOn_queuesHold {s t : State} (run : exec .powerOn s = .next t) : t.queuesHold := by
  cases run
  have lost : ∀ p, ((({ s.volatileLost with phase := .running } : State)).port p).queue = [] := by
    intro p
    cases p with
    | office => rfl
    | window w => simp [State.volatileLost, State.port]
  refine State.queuesHold_of_empty lost (State.queuesGrow_ite ?_ ?_)
  · have till : State.queuesGrow { s.volatileLost with phase := .running }
        (State.startTill { s.volatileLost with phase := .running, storeValid := true }) :=
      State.queuesGrow_of_same fun p => by cases p <;> rfl
    exact ((till.andThen (State.startForms_grow _)).andThen (State.startPorts_grow _)).andThen
      (State.queuesGrow_foldl _ State.startLane_grow allLanes _)
  · have disregarded : State.queuesGrow { s.volatileLost with phase := .running }
        (State.disregarded { s.volatileLost with phase := .running }) :=
      State.queuesGrow_of_same fun p => by cases p <;> rfl
    exact ((disregarded.andThen (State.raiseController_grow _ _ _)).andThen
      (State.postStore_grow _)).andThen (State.startPorts_grow _)

theorem exec_queuesHold {c : Instr} {s t : State} (hs : s.queuesHold) (run : exec c s = .next t) :
    t.queuesHold := by
  cases h : takesNotices c with
  | false => exact (exec_queuesGrow run h).holds hs
  | true =>
    have answered : ∀ (u : State) p a g r, u.queuesHold → (u.answerWith p a g r).queuesHold :=
      fun u p a g r hu => (u.answerWith_frame p a g r).queuesGrow.holds hu
    cases c
    case fetchNotice p tag b =>
      rcases exec_request (s := s) (c := .fetchNotice p tag b) rfl with
        ⟨-, run'⟩ | ⟨-, code, -, run'⟩ | ⟨-, -, -, r, hr, run'⟩ <;>
        rw [run] at run' <;> cases run'
      · exact hs
      · exact answered _ _ _ _ _ hs
      · obtain ⟨b, -, rfl⟩ := Option.map_eq_some_iff.1 hr
        exact answered _ _ _ _ _
          (State.fetchNotice_queuesHold p ((s.reachBlock_frame p _).queuesGrow.holds hs))
    case restart p tag b =>
      rcases exec_request (s := s) (c := .restart p tag b) rfl with
        ⟨-, run'⟩ | ⟨-, code, -, run'⟩ | ⟨-, -, -, r, hr, run'⟩ <;>
        rw [run] at run' <;> cases run'
      · exact hs
      · exact answered _ _ _ _ _ hs
      · obtain ⟨b, -, rfl⟩ := Option.map_eq_some_iff.1 hr
        exact answered _ _ _ _ _ (State.restart_queuesHold _)
    case powerOn => exact exec_powerOn_queuesHold run
    case supplyLoss b =>
      cases run
      refine State.queuesHold_of_empty (s := s.volatileLost) s.volatileLost_queue
        (State.queuesGrow_of_same fun p => ?_)
      cases p <;> rfl
    all_goals cases h

/-- A step is its front command on the state without it, or idles. -/
theorem step_keeps {P : State → Prop} (pending : ∀ (s : State) q, P s → P { s with pending := q })
    (each : ∀ (c : Instr) (s t : State), P s → exec c s = .next t → P t) {s t : State} (hs : P s)
    (run : step s = .next t) : P t := by
  unfold step at run
  split at run
  · cases run
    exact hs
  · exact each _ _ _ (pending s _ hs) run

/-- Settles O15: a step is a command or idles, and every command keeps the queues by
`exec_queuesHold`. -/
theorem queuesStayWellFormed : Obligations.QueuesStayWellFormed := by
  unfold Obligations.QueuesStayWellFormed
  intro s t
  exact step_keeps (P := State.queuesHold) (fun _ _ h => h) fun c s t hs run => exec_queuesHold hs run

end Sys2Proof.Machine
end

section
/-! SUPPORT. LANE_CHANGE (04 R70): every command but a loss of supply and a start leaves it at every port
for a lane it changes; and a window's request, which reaches nothing of another window. -/

-- One proof at a time: the check's memory limit holds few threads.
set_option Elab.async false

namespace Sys2Proof.Machine

/-! ## A lane's change of R70 -/

/-- Lane `l` differs as R70 (04) posts LANE_CHANGE for. -/
def laneSeen (l : LaneId) (s t : State) : Prop :=
  (t.lane l).state ≠ (s.lane l).state ∨ (t.lane l).causes ≠ (s.lane l).causes ∨
    (t.lane l).pack ≠ (s.lane l).pack ∨
    ((t.lane l).head ≠ (s.lane l).head ∧ ∃ n, (t.lane l).head = .verified n)

theorem laneSeen_irrefl (l : LaneId) (s : State) : ¬laneSeen l s s := by simp [laneSeen]

theorem laneSeen_split {l : LaneId} {s u : State} (t : State) (h : laneSeen l s u) :
    laneSeen l s t ∨ laneSeen l t u := by
  by_contra none
  simp only [laneSeen, not_or, not_not, not_and, not_exists] at none
  obtain ⟨⟨state, causes, pack, head⟩, state', causes', pack', head'⟩ := none
  rcases h with h | h | h | ⟨ne, n, verified⟩
  · exact h (state'.trans state)
  · exact h (causes'.trans causes)
  · exact h (pack'.trans pack)
  · by_cases same : (u.lane l).head = (t.lane l).head
    · exact head (fun e => ne (same.trans e)) n (same ▸ verified)
    · exact head' same n verified

theorem laneSeen_of_lane_eq {l : LaneId} {s t : State} (h : t.lane l = s.lane l) :
    ¬laneSeen l s t := by simp [laneSeen, h]

/-- What `Lane.visiblyChanged` computes. -/
theorem Lane.visiblyChanged_iff (old new : Lane) : old.visiblyChanged new = true ↔
    new.state ≠ old.state ∨ new.causes ≠ old.causes ∨ new.pack ≠ old.pack ∨
      (new.head ≠ old.head ∧ ∃ n, new.head = .verified n) := by
  rw [ne_comm (a := new.state), ne_comm (a := new.causes), ne_comm (a := new.pack),
    ne_comm (a := new.head)]
  cases h : new.head <;> simp [Lane.visiblyChanged, h, or_assoc]

theorem State.moveLane_posts {s : State} {l m : LaneId} {f : Lane → Lane} (p : Port)
    (h : laneSeen m s (s.moveLane l f)) : laneNotice m ∈ ((s.moveLane l f).port p).queue := by
  by_cases same : m = l
  · subst same
    have changed : (s.lane m).visiblyChanged (f (s.lane m)) = true := by
      rw [Lane.visiblyChanged_iff]
      simpa [laneSeen] using h
    rw [State.moveLane, if_pos changed, State.postLane_queue]
    exact mem_coalesce_self _ _
  · exact absurd h (laneSeen_of_lane_eq (s.moveLane_lane_ne l f same))

/-- Each lane's change has its LANE_CHANGE at every port. -/
def State.lanesPosted (s t : State) : Prop :=
  ∀ l p, laneSeen l s t → laneNotice l ∈ (t.port p).queue

theorem State.lanesPosted_of_same {s t : State} (h : s.same t .lanes) : s.lanesPosted t :=
  fun l _ seen => absurd seen (laneSeen_of_lane_eq (congrArg (fun v : Vector Lane 4 => v[l]) h))

theorem State.changesOnly.lanesPosted {s t : State} {a : List Part} (h : s.changesOnly t a)
    (ha : Part.lanes ∉ a := by decide) : s.lanesPosted t := State.lanesPosted_of_same (h .lanes ha)

theorem State.lanesPosted.andThen {s t u : State} (h : s.lanesPosted t) (h' : t.lanesPosted u)
    (grow : t.queuesGrow u) : s.lanesPosted u := fun l p seen => by
  rcases laneSeen_split t seen with seen | seen
  · exact (grow p).2 _ (laneNotice_plain l) (h l p seen)
  · exact h' l p seen

theorem Lane.claiming_cases (x : Lane) (b : Bool) :
    x.claiming b = x ∨ x.claiming b = { x with claimSent := true } := by
  unfold Lane.claiming
  split
  · exact .inr rfl
  · exact .inl rfl

theorem State.reportEligible_lane (s : State) (l : LaneId) :
    s.reportEligible.lane l = (s.lane l).claiming s.powerFail := by
  simp [State.reportEligible, State.lane]

theorem State.reportEligible_lanesPosted (s : State) : s.lanesPosted s.reportEligible := by
  intro l p seen
  refine absurd seen ?_
  rcases Lane.claiming_cases (s.lane l) s.powerFail with e | e <;>
    simp [laneSeen, State.reportEligible_lane, e]

theorem Move.lanesPosted {l : LaneId} {s t : State} (h : Move l s t) : s.lanesPosted t := by
  cases h with
  | lane f => exact fun m p => State.moveLane_posts p
  | told => exact s.reportEligible_lanesPosted
  | slot w k x => exact (s.setSlot_frame w k x).lanesPosted
  | outcome w k o => exact (s.postOutcome_frame w k o).lanesPosted
  | form f x => exact (s.setForm_frame f x).lanesPosted
  | applied f => exact State.lanesPosted_of_same (State.post_lanes _ _ _)
  | mark cls serial new => exact (s.changeMark_frame cls serial new).lanesPosted
  | entry w d => exact (s.writeEntry_frame w d).lanesPosted
  | reserved w n m => exact State.lanesPosted_of_same rfl
  | raised k c => exact (s.raiseLane_frame l k c).lanesPosted
  | relocked => exact (s.selfClear_frame l).lanesPosted
  | recovered how =>
    exact ((s.mapReports_frame _).lanesPosted).andThen (State.postReport_frame _ _).lanesPosted
      (State.postReport_grow _ _)
  | counted => exact (s.countRefusal_frame l).lanesPosted

theorem State.lanesPosted_foldl {α : Type} (f : State → α → State)
    (h : ∀ (s : State) (x : α), s.lanesPosted (f s x))
    (grow : ∀ (s : State) (x : α), s.queuesGrow (f s x)) : ∀ (xs : List α) (s : State),
    s.lanesPosted (xs.foldl f s)
  | [], s => State.lanesPosted_of_same (s.same_refl .lanes)
  | x :: xs, s => (h s x).andThen (State.lanesPosted_foldl f h grow xs (f s x))
      (State.queuesGrow_foldl f grow xs _)

theorem Run.lanesPosted {l : LaneId} {s t : State} (h : Run l s t) : s.lanesPosted t :=
  fun m _ => Run.posts l (laneNotice_plain m) (fun _ => True) (laneSeen m) (laneSeen_irrefl m)
    (fun _ t _ _ _ => laneSeen_split t) (fun _ _ _ h => h)
    (fun _ _ move _ seen => move.lanesPosted m _ seen) h trivial

/-! ## The commands outside the runs -/

theorem State.bindPack_lanesPosted (s : State) (a : Pack) (l : LaneId) :
    s.lanesPosted (s.bindPack a l) :=
  (((s.updatePack_frame _ _).lanesPosted).andThen (fun _ p => State.moveLane_posts p)
    (State.moveLane_grow _ l _)).andThen (Run.startPriming _ l).lanesPosted
    (Run.startPriming _ l).queuesGrow

/-- A released lane is the only one written. -/
theorem State.releaseLane_lane_ne (s : State) {l m : LaneId} (h : m ≠ l) (a : Pack)
    (mode : WithdrawMode) : (s.releaseLane l a mode).lane m = s.lane m := by
  have kept : ((s.moveLane l Lane.stopped).applyMode a mode).lane m =
      (s.moveLane l Lane.stopped).lane m :=
    congrArg (fun v : Vector Lane 4 => v[m])
      (State.changesOnly_same (State.applyMode_frame _ a mode) .lanes)
  rw [State.releaseLane, State.unposted_lane, State.moveLane_lane_ne _ _ _ h, kept,
    State.moveLane_lane_ne _ _ _ h]

/-- The part of a withdrawal by lane that follows the release writes no lane. -/
theorem State.withdrawLane_lanes (s : State) (l : LaneId) (a : Pack) (mode : WithdrawMode) :
    (s.withdrawLane l a mode).lanes = (s.releaseLane l a mode).lanes := by
  have frame := State.changesOnly_then (c := [.faults, .queues])
    (State.changesOnly_then (c := [.faults, .queues])
      (State.clearByWithdrawal_frame (s.releaseLane l a mode) l) (State.postOffice_frame _ .stockChange .stock))
    (State.postLane_frame _ l)
  exact frame .lanes (by decide)

theorem State.withdrawLane_lanesPosted (s : State) (l : LaneId) (a : Pack) (mode : WithdrawMode) :
    s.lanesPosted (s.withdrawLane l a mode) := by
  intro m p seen
  by_cases same : m = l
  · subst same
    rw [State.withdrawLane, State.postLane_queue]
    exact mem_coalesce_self _ _
  · refine absurd seen (laneSeen_of_lane_eq ?_)
    rw [← s.releaseLane_lane_ne same a mode]
    exact congrArg (fun v : Vector Lane 4 => v[m]) (s.withdrawLane_lanes l a mode)

theorem State.reinitialiseLanes_posts (s : State) (l : LaneId) (p : Port) :
    laneNotice l ∈ (s.reinitialiseLanes.port p).queue := by
  have posted : ∀ (t : State) (m : LaneId),
      laneNotice m ∈ (((t.setLane m (t.lane m).reinitialised).postLane m).port p).queue := by
    intro t m
    rw [State.postLane_queue]
    exact mem_coalesce_self _ _
  have kept : ∀ (xs : List LaneId) (t : State), laneNotice l ∈ (t.port p).queue →
      laneNotice l ∈ ((xs.foldl
        (fun t m => (t.setLane m (t.lane m).reinitialised).postLane m) t).port p).queue :=
    fun xs t h => (State.queuesGrow_foldl _ (fun t m => (t.setLane_frame m _).queuesGrow.andThen
      (State.postLane_grow _ m)) xs t p).2 _ (laneNotice_plain l) h
  fin_cases l
  · exact kept [1, 2, 3] _ (posted _ 0)
  · exact kept [2, 3] _ (posted _ 1)
  · exact kept [3] _ (posted _ 2)
  · exact kept [] _ (posted _ 3)

/-- The steps of STORE_REINITIALISE after the lanes' (11 R196). -/
def State.reinitialisedAfterLanes (t : State) : State :=
  let t := (t.emptyPacks.haltCensus .storeReinitialise).emptyForms
  let t : State := { t with discounts := emptyDiscounts }
  let t := t.grantAll
  let t : State := { t with limits := .default }
  let t := t.emptyFaults
  State.postStore { t with storeValid := true, checkAgrees := true }

theorem State.reinitialised_eq (s : State) : s.reinitialised =
    (s.cancelJobs.emptySessions.reinitialiseLanes).reinitialisedAfterLanes := rfl

theorem State.reinitialisedAfterLanes_grow (t : State) :
    t.queuesGrow t.reinitialisedAfterLanes := by
  have formed := (((t.withPacks_frame [] 1).queuesGrow.andThen (State.postStock_grow _)).andThen
    (State.haltCensus_grow _ .storeReinitialise)).andThen
    ((State.setForms_frame (.replicate 8 .undefined)).queuesGrow.andThen (State.postForms_grow _))
  have granted := (formed.andThen (State.setDiscounts_frame emptyDiscounts).queuesGrow).andThen
    (State.queuesGrow_foldl _ (fun t w => t.regrant_grow w .all) allWindows _)
  have limited := granted.andThen (State.withLimits_frame .default).queuesGrow
  exact ((limited.andThen
    ((State.setFaults_frame _ _ _).queuesGrow.andThen (State.postFaults_grow _))).andThen
    (State.setStore_frame true true).queuesGrow).andThen (State.postStore_grow _)

theorem State.reinitialised_lanesPosted (s : State) : s.lanesPosted s.reinitialised := by
  intro l p _
  rw [State.reinitialised_eq]
  exact (State.reinitialisedAfterLanes_grow _ p).2 _ (laneNotice_plain l)
    (State.reinitialiseLanes_posts _ l p)

/-- RESTART's jobs dropped, one after another. -/
theorem Run.dropJobs (l : LaneId) : ∀ (xs : List (Window × SlotId × Job)) (s : State),
    Run l s (xs.foldl State.dropJob s)
  | [], s => Run.refl s
  | x :: xs, s => (Run.dropJob s l x).andThen (Run.dropJobs l xs _)

theorem State.restart_lanesPosted (s : State) : s.lanesPosted s.restart.1 := by
  have queues : s.lanesPosted s.restartQueues := s.restartQueues_frame.lanesPosted
  have slots := State.setSlots_frame (s := s.restartQueues)
    (s.restartQueues.slots.map fun v => v.map Slot.restarted)
  have dropped := (queues.andThen slots.lanesPosted slots.queuesGrow).andThen
    (Run.dropJobs 0 s.restartQueues.restartedJobs _).lanesPosted
    (Run.dropJobs 0 s.restartQueues.restartedJobs _).queuesGrow
  exact (dropped.andThen (State.haltCensus_frame _ .restart).lanesPosted
    (State.haltCensus_grow _ .restart)).andThen (State.setSessions_frame _).lanesPosted
    (State.setSessions_frame _).queuesGrow

/-- A block that answers posts a LANE_CHANGE for each lane it changes. -/
theorem blockOf_lanesPosted {c : Instr} {s : State} {p : Port} {k : RequestKind} {tag : Byte}
    {r : State × Reply} (h : requestOf c = some (p, k, tag)) (hr : blockOf c s = some r) :
    s.lanesPosted r.1 := by
  have kept := fun hq => State.lanesPosted_of_same (blockOf_frame h hr .lanes hq)
  have self := State.lanesPosted_of_same (s.same_refl .lanes)
  have jobs : ∀ {p : Port} {β : Type} {take : Window → β → State → State × Reply} {b : β},
      (∀ w, s.lanesPosted (take w b s).1) → s.lanesPosted (windowBlock p take b s).1 := by
    intro p β take b each
    cases p with
    | office => exact self
    | window w => exact each w
  cases c <;> cases h <;> obtain ⟨b, -, rfl⟩ := Option.map_eq_some_iff.1 hr
  case submitJob =>
    refine jobs fun w => ?_
    unfold State.submitJob
    repeat' split
    case h_2.isFalse => exact (Run.placeJob s 0 w _ _ _).lanesPosted
    all_goals exact self
  case supplyLines =>
    refine jobs fun w => State.onJob_keeps (P := s.lanesPosted) self fun k j held _ => ?_
    split
    · exact self
    · split
      · exact self
      · have moved := Run.rewriteJob s 0 w k held { j with lines := j.lines ++ b.lines }
        exact (Run.ite (moved.andThen (Run.reportEligible _ 0)) moved).lanesPosted
  case releaseJob =>
    refine jobs fun w => State.onJob_keeps (P := s.lanesPosted) self fun k j held _ => ?_
    split
    · exact (Run.requeue s 0 w k).lanesPosted
    · split
      · exact self
      · exact (Run.requeue s 0 w k).lanesPosted
    all_goals exact self
  case withdrawJob =>
    refine jobs fun w => State.onJob_keeps (P := s.lanesPosted) self fun k j held _ => ?_
    split
    case h_1 | h_2 | h_3 => exact (Run.withdrawn s 0 w k _ _).lanesPosted
    all_goals exact self
  case mountPack =>
    unfold State.mountPack
    split
    · exact self
    · split
      · exact self
      · split
        · exact self
        · split
          · exact (s.countRefusal_frame _).lanesPosted
          · exact s.bindPack_lanesPosted _ _
          · exact self
  case withdrawPack =>
    unfold State.withdrawPack
    split
    · exact self
    · split
      · unfold State.withdrawFromLane
        repeat' split
        case isFalse => exact s.withdrawLane_lanesPosted _ _ _
        all_goals exact self
      · unfold State.withdrawByNumber
        repeat' split
        case isFalse => exact (s.applyMode_frame _ _).lanesPosted
        all_goals exact self
  case clearLane =>
    unfold State.clearLane
    split
    · exact self
    · split
      · exact self
      · split
        · exact self
        · exact (Run.clearTaken s _).lanesPosted
      · exact self
  case purgeLane =>
    unfold State.purgeLane
    split
    · exact self
    · split
      · exact self
      · dsimp only
        exact (Run.purge s _).lanesPosted
  case advanceBlank =>
    unfold State.advanceBlank
    split
    · exact self
    · split
      · exact self
      · split
        · exact (s.countRefusal_frame _).lanesPosted
        · exact State.lanesPosted.andThen (fun _ p => State.moveLane_posts p)
            (Run.feedAttempt _ _).lanesPosted (Run.feedAttempt _ _).queuesGrow
        · exact self
  case restart => exact s.restart_lanesPosted
  case storeReinitialise =>
    unfold State.storeReinitialise
    split
    · exact self
    · exact s.reinitialised_lanesPosted
  all_goals exact kept (by decide)

theorem State.whenRunning_keeps {P : State → Prop} {s : State} {f : State → State}
    (hf : P (f s)) (hs : P s) : P (s.whenRunning f) := by
  unfold State.whenRunning
  split
  · exact hf
  · exact hs

theorem State.warningEnds_grow (s : State) :
    s.queuesGrow (allLanes.foldl State.resume s).reportEligible :=
  (State.queuesGrow_foldl _ (fun t l => (Run.resume t l).queuesGrow) allLanes _).andThen
    (State.reportEligible_frame _).queuesGrow

theorem State.warningEnds_lanesPosted (s : State) :
    s.lanesPosted (allLanes.foldl State.resume s).reportEligible :=
  (State.lanesPosted_foldl _ (fun t l => (Run.resume t l).lanesPosted)
    (fun t l => (Run.resume t l).queuesGrow) allLanes _).andThen
    (State.reportEligible_lanesPosted _) (State.reportEligible_frame _).queuesGrow

theorem exec_lanesPosted {c : Instr} {s t : State} (power : isPower c = false)
    (run : exec c s = .next t) : s.lanesPosted t := by
  cases hr : requestOf c with
  | some r =>
    obtain ⟨p, k, tag⟩ := r
    rcases exec_request (s := s) hr with ⟨-, run'⟩ | ⟨-, code, -, run'⟩ | ⟨-, -, -, r, hb, run'⟩ <;>
      rw [run] at run' <;> cases run'
    · exact State.lanesPosted_of_same (s.same_refl .lanes)
    · exact (s.answerWith_frame p _ _ _).lanesPosted
    · have reached := (s.reachBlock_frame p k).lanesPosted
      have answered := r.1.answerWith_frame p k.byte tag r.2
      intro l q seen
      rcases laneSeen_split (s.reachBlock p k) seen with seen | seen
      · exact absurd seen (laneSeen_of_lane_eq (congrArg (fun v : Vector Lane 4 => v[l])
          (State.changesOnly_same (s.reachBlock_frame p k) .lanes)))
      · exact ((blockOf_lanesPosted hr hb).andThen answered.lanesPosted answered.queuesGrow) l q seen
  | none =>
    have kept := fun hq => State.lanesPosted_of_same (exec_same run .lanes hq)
    cases c
    case powerOn | supplyLoss => cases power
    case claimRequest l => cases run; exact (Run.whenRunning s l (Run.takeClaim s l)).lanesPosted
    case claimAnswer l => cases run; exact (Run.whenRunning s l (Run.takeAnswer s l)).lanesPosted
    case scannerVisit =>
      cases run
      unfold State.whenRunning
      split
      · exact (Run.visitSlot s 0 _ _).lanesPosted.andThen (State.setScanner_frame _ _).lanesPosted
          (State.setScanner_frame _ _).queuesGrow
      · exact State.lanesPosted_of_same (s.same_refl .lanes)
    case positioned l =>
      cases run
      refine (Run.whenAwaiting s l ?_).lanesPosted
      exact (Move.lane s _ rfl fun h => .inl h).run
    case headReady l => cases run; exact (Run.whenAwaiting s l (Run.afterStrobe s l)).lanesPosted
    case cutDone l => cases run; exact (Run.whenAwaiting s l (Run.cutCompletion s l)).lanesPosted
    case markRecord l r =>
      cases run; exact (Run.whenAwaiting s l (Run.takeRecord s l r)).lanesPosted
    case markReadTimeout l =>
      cases run
      exact (Run.whenAwaiting s l ((Run.lane s l _).andThen (Run.failedRead _ l))).lanesPosted
    case feedTimeout l => cases run; exact (Run.whenAwaiting s l (Run.laneFault s l _ _)).lanesPosted
    case strobeTimeout l =>
      cases run; exact (Run.whenAwaiting s l (Run.laneFault s l _ _)).lanesPosted
    case cutTimeout l => cases run; exact (Run.whenAwaiting s l (Run.laneFault s l _ _)).lanesPosted
    case cabinetOpening l =>
      cases run
      exact ((Run.lane s l _).andThen (Run.whenRunning _ l
        (Run.ite (Run.observeOpening _ l) (Run.refl _)))).lanesPosted
    case cabinetRelock l =>
      cases run
      exact ((Run.lane s l _).andThen (Run.whenRunning _ l
        (Run.ite (Run.relock _ l) (Run.refl _)))).lanesPosted
    case powerFailWarningDeassert =>
      cases run
      have pin := s.setPowerFail_frame false
      exact State.lanesPosted.andThen pin.lanesPosted
        (State.whenRunning_keeps (P := State.lanesPosted _)
          (State.warningEnds_lanesPosted _) (State.lanesPosted_of_same (State.same_refl _ .lanes)))
        (State.whenRunning_keeps (P := State.queuesGrow _)
          (State.warningEnds_grow _) (State.queuesGrow_refl _))
    case portByteReceived | gapTimerExpiry | quietTimerExpiry | answerSent | censusEntryStep
      | powerFailWarningAssert | resetAsserted | officeClockTick | runTimeTick =>
      exact kept (of_decide_eq_true rfl)
    all_goals cases hr

/-- Settles O40: `laneSeen` is the change the statement names, and `exec_lanesPosted` says that each
command posts it. -/
theorem laneChangesArePosted : Obligations.LaneChangesArePosted := by
  unfold Obligations.LaneChangesArePosted
  intro c s t power run l seen p
  exact exec_lanesPosted power run l p seen

/-! ## The windows apart (01 section 1.1) -/

/-- Nothing of a window but `w` differs, nor any lane's state and record in flight. -/
def State.apart (s t : State) (w : Window) : Prop :=
  (∀ v, v ≠ w → t.session v = s.session v ∧ (∀ j, t.slot v j = s.slot v j) ∧
    (t.port (.window v)).queue = (s.port (.window v)).queue ∧ s.entriesOf v = t.entriesOf v) ∧
  ∀ l, (t.lane l).state = (s.lane l).state ∧ (t.lane l).inflight = (s.lane l).inflight

section
variable (s : State) (w : Window) (k : SlotId)

theorem State.apart_refl : s.apart s w := by simp [State.apart]

theorem State.apart.andThen {s t u : State} {w : Window} (h : s.apart t w) (h' : t.apart u w) :
    s.apart u w := by
  refine ⟨fun v ne => ?_, fun l => ?_⟩
  · obtain ⟨session, slot, queue, entries⟩ := h.1 v ne
    obtain ⟨session', slot', queue', entries'⟩ := h'.1 v ne
    exact ⟨session'.trans session, fun j => (slot' j).trans (slot j), queue'.trans queue,
      entries.trans entries'⟩
  · exact ⟨(h'.2 l).1.trans (h.2 l).1, (h'.2 l).2.trans (h.2 l).2⟩

theorem State.apart_ite {s t u : State} {w : Window} {c : Prop} [Decidable c] (h : s.apart t w)
    (h' : s.apart u w) : s.apart (if c then t else u) w := by
  split
  · exact h
  · exact h'

/-- An operation that touches none of what the windows keep apart. -/
theorem State.changesOnly.apart {s t : State} {a : List Part} (h : s.changesOnly t a) (w : Window)
    (sessions : Part.sessions ∉ a := by decide) (slots : Part.slots ∉ a := by decide)
    (queues : Part.queues ∉ a := by decide) (journal : Part.journal ∉ a := by decide)
    (lanes : Part.lanes ∉ a := by decide) : s.apart t w := by
  refine ⟨fun v _ => ⟨congrArg (fun x : Vector Session 6 => x[v]) (h .sessions sessions), fun j =>
    congrArg (fun x : Vector (Vector Slot 8) 6 => x[v][j]) (h .slots slots), h .queues queues _, ?_⟩,
    fun l => ?_⟩
  · rw [State.entriesOf, State.entriesOf, (h .journal journal).1]
  · have lane : t.lane l = s.lane l :=
      congrArg (fun x : Vector Lane 4 => x[l]) (h .lanes lanes)
    rw [lane]
    exact ⟨rfl, rfl⟩

theorem State.setSession_apart (x : Session) : s.apart (s.setSession w x) w :=
  ⟨fun _ ne => ⟨s.setSession_session_ne ne x, fun _ => rfl, by simp, rfl⟩, fun _ => ⟨rfl, rfl⟩⟩

theorem State.setSlot_apart (x : Slot) : s.apart (s.setSlot w k x) w :=
  ⟨fun v ne => ⟨rfl, fun j => s.setSlot_slot_ne (fun e => ne (congrArg Prod.fst e)) x, by simp, rfl⟩,
    fun _ => ⟨rfl, rfl⟩⟩

theorem State.reportEligible_apart : s.apart s.reportEligible w := by
  refine ⟨fun v _ => ⟨rfl, fun _ => rfl, by cases v; rfl, rfl⟩, fun l => ?_⟩
  rw [State.reportEligible_lane]
  rcases Lane.claiming_cases (s.lane l) s.powerFail with e | e <;> simp [e]

theorem State.reportJob_apart : s.apart (s.reportJob w k) w := by
  unfold State.reportJob
  split
  · exact State.apart_ite (s.reportEligible_apart w) (s.apart_refl w)
  · exact s.apart_refl w

/-- A posting at the office, or at the window itself. -/
theorem State.post_apart {p : Port} (h : p = .office ∨ p = .window w) (n : Notice) :
    s.apart (s.post p n) w := by
  refine ⟨fun v ne => ⟨by simp, fun j => by simp, ?_, by simp [State.entriesOf]⟩, fun l => by simp⟩
  rw [State.post_port_ne]
  rcases h with rfl | rfl
  · simp
  · simpa using ne

theorem State.postSession_apart : s.apart (s.postSession w) w :=
  (s.post_apart w (.inr rfl) _).andThen (State.post_apart _ w (.inl rfl) _)

theorem State.unbind_apart (f : Fin 8) (g : Option Nat) : s.apart (s.unbind f g) w := by
  have applied : ∀ t : State, t.apart (t.applyPending f) w := by
    intro t
    have posted := ((t.setForm_frame f (t.form f).applied).apart w).andThen
      (State.post_apart _ w (.inl rfl) ⟨.formsChange, .forms, none⟩)
    exact State.apart_ite (State.apart_ite (posted.andThen (State.reportEligible_apart _ w)) posted)
      (t.apart_refl w)
  cases g with
  | none => exact s.apart_refl w
  | some g =>
    have lowered := (s.setForm_frame f ((s.form f).lowered g)).apart w
    exact State.apart_ite (lowered.andThen (applied _)) lowered

theorem State.setReservation_apart (n m : Nat) : s.apart
    { s.setSession w { s.session w with reserved := n } with journalReserved := m } w :=
  (s.setSession_apart w _).andThen ⟨fun v _ => ⟨rfl, fun _ => rfl, by cases v; rfl, rfl⟩,
    fun _ => ⟨rfl, rfl⟩⟩

theorem State.releaseJob_apart : s.apart (s.releaseJob w k) w := by
  unfold State.releaseJob
  split
  · exact (s.setReservation_apart w _ _).andThen (State.setSlot_apart _ w k _)
  · exact s.apart_refl w

theorem State.placeJob_apart (b : SubmitBody) (g : Binding) :
    s.apart (s.placeJob w k b g).1 w :=
  ((((s.setForm_frame _ _).apart w).andThen (State.setReservation_apart _ w _ _)).andThen
    (State.setSlot_apart _ w k _)).andThen (State.reportJob_apart _ w k)

/-- A void lowers no remaining count, so the stock-low test posts nothing. -/
theorem State.voidMark_apart (cls serial : Nat) : s.apart (s.changeMark cls serial .voided) w := by
  unfold State.changeMark
  split
  · exact s.apart_refl w
  · rename_i p _
    split
    · exact s.apart_refl w
    · rename_i old _
      split
      · rename_i edge
        obtain rfl : old = .issued := by cases old <;> simp_all [markEdge]
        have high : p.fellLow (p.remark serial .issued .voided) (State.updatePack s p.number
            fun q => q.remark serial .issued .voided).limits.stockLow = false := by
          have remaining : (p.remark serial .issued .voided).remaining = p.remaining := by
            simp [Pack.remaining, Pack.remark, MarkCounts.lower, MarkCounts.raise,
              MarkCounts.set, MarkCounts.get]
          rw [Pack.fellLow, remaining]
          by_cases low : (State.updatePack s p.number fun q =>
            q.remark serial .issued .voided).limits.stockLow < p.remaining
          · simp [Nat.not_le.2 low]
          · simp [low]
        have stock : (s.updatePack p.number fun q => q.remark serial .issued .voided).stockLow p
            (p.remark serial .issued .voided) =
            s.updatePack p.number fun q => q.remark serial .issued .voided := by
          unfold State.stockLow
          split
          · rw [high]
            rfl
          · rfl
        have packs := ((s.withPacks_frame (s.packs.map fun q =>
          if q.number = p.number then q.remark serial .issued .voided else q) s.nextPack).apart w).andThen
          (State.post_apart _ w (.inl rfl) ⟨.stockChange, .stock, none⟩)
        refine State.apart.andThen (t := (s.updatePack p.number
          fun q => q.remark serial .issued .voided)) packs ?_
        rw [State.remark, stock]
        exact (State.setCensus_frame _ _).apart w
      · exact s.apart_refl w

theorem State.writeEntry_apart (d : EntryData) : s.apart (s.writeEntry w d) w := by
  have written : s.apart { s.setSession w ((s.session w).withEntry d) with
      journal := s.journal ++ [s.entryFor w d], journalInUse := s.journalInUse + 1 } w := by
    refine ⟨fun v ne => ⟨s.setSession_session_ne ne _, fun _ => rfl, by cases v; rfl, ?_⟩,
      fun _ => ⟨rfl, rfl⟩⟩
    have other : (w == v) = false := by simpa using Ne.symm ne
    simp [State.entriesOf, State.entryFor, other]
  have packs : ∀ (t : State) (n : Nat) (f : Pack → Pack), t.apart (t.updatePack n f) w :=
    fun t n f => ((t.withPacks_frame _ t.nextPack).apart w).andThen
      (State.post_apart _ w (.inl rfl) _)
  exact (written.andThen (packs _ _ _)).andThen (State.postSession_apart _ w)

theorem State.fetchNotice_apart : s.apart (s.fetchNotice (.window w)).1 w := by
  cases queue : (s.port (.window w)).queue with
  | nil => rw [State.fetchNotice_nil queue]; exact s.apart_refl w
  | cons n rest =>
    rw [State.fetchNotice_cons queue]
    have port : s.apart (s.setPort (.window w) { s.port (.window w) with queue := rest }) w :=
      ⟨fun v ne => ⟨by simp, fun j => by simp,
        congrArg PortState.queue (s.setPort_port_ne (by simpa using ne) _),
        by simp [State.entriesOf]⟩, fun l => by simp⟩
    refine port.andThen ?_
    change State.apart _ (State.reportFetched _ (.window w) n) w
    unfold State.reportFetched
    split
    · rename_i e _ _
      cases e
      exact State.setSlot_apart _ w _ _
    · exact State.apart_refl _ w

end

/-- The blocks a window's request reaches. -/
theorem blockOf_apart {c : Instr} {s : State} {w : Window} {k : RequestKind} {tag : Byte}
    {r : State × Reply} (h : requestOf c = some (.window w, k, tag)) (hr : blockOf c s = some r)
    (admitted : k.fromWindow = true) : s.apart r.1 w := by
  have self := s.apart_refl w
  cases c <;> cases h <;> obtain ⟨b, -, rfl⟩ := Option.map_eq_some_iff.1 hr
  case openSession =>
    change s.apart (s.openSession w b).1 w
    unfold State.openSession
    repeat' split
    case isFalse.isFalse => exact (s.setSession_apart w _).andThen (State.postSession_apart _ w)
    all_goals exact self
  case submitJob =>
    change s.apart (s.submitJob w b).1 w
    unfold State.submitJob
    repeat' split
    case h_2.isFalse => exact s.placeJob_apart w _ _ _
    all_goals exact self
  case supplyLines =>
    change s.apart (s.supplyLines w b).1 w
    refine State.onJob_keeps (P := (s.apart · w)) self fun k j held _ => ?_
    split
    · exact self
    · split
      · exact self
      · exact State.apart_ite ((s.setSlot_apart w k _).andThen (State.reportEligible_apart _ w))
          (s.setSlot_apart w k _)
  case holdJob =>
    change s.apart (s.holdJob w b).1 w
    refine State.onJob_keeps (P := (s.apart · w)) self fun k j held _ => ?_
    split
    · exact s.setSlot_apart w k _
    all_goals exact self
  case amendJob =>
    change s.apart (s.amendJob w b).1 w
    refine State.onJob_keeps (P := (s.apart · w)) self fun k j held _ => ?_
    split
    · split
      · exact self
      · exact s.setSlot_apart w k _
    all_goals exact self
  case releaseJob =>
    have requeued := fun k => (s.setSlot_apart w k
      { s.slot w k with job := (s.job w k).map fun j => { j with state := .queued } }).andThen
      (State.reportJob_apart _ w k)
    change s.apart (s.releaseRequest w b).1 w
    refine State.onJob_keeps (P := (s.apart · w)) self fun k j held _ => ?_
    split
    · exact requeued k
    · split
      · exact self
      · exact requeued k
    all_goals exact self
  case withdrawJob =>
    change s.apart (s.withdrawJob w b).1 w
    refine State.onJob_keeps (P := (s.apart · w)) self fun k j held _ => ?_
    split
    case h_1 | h_2 | h_3 =>
      exact ((s.releaseJob_apart w k).andThen (State.setSlot_apart _ w k _)).andThen
        (State.unbind_apart _ w _ _)
    all_goals exact self
  case voidTicket =>
    change s.apart (s.voidTicket w b).1 w
    unfold State.voidTicket State.voidOpen State.voidIssued
    repeat' split
    case h_2 => exact s.setSession_apart w _
    case isFalse.isFalse => exact (s.voidMark_apart w _ _).andThen (State.writeEntry_apart _ w _)
    all_goals exact self
  case declareBegin =>
    change s.apart (s.declareBegin w b).1 w
    unfold State.declareBegin
    repeat' split
    case h_3.isFalse.isFalse => exact (s.setSession_apart w _).andThen (State.postSession_apart _ w)
    case h_4.isFalse => exact s.setSession_apart w _
    all_goals exact self
  case declareItem =>
    change s.apart (s.declareItem w b).1 w
    refine State.inSequence_keeps (P := (s.apart · w)) self fun d => ?_
    split
    · exact self
    · repeat' split
      case isFalse.isTrue | isFalse.isFalse.isTrue => exact s.setSession_apart w _
      case isFalse.isFalse.isFalse => exact s.setSession_apart w _
      all_goals exact self
  case declareConfirm =>
    change s.apart (s.declareConfirm w b).1 w
    refine State.inSequence_keeps (P := (s.apart · w)) self fun d => ?_
    split
    · exact self
    · split
      · exact s.setSession_apart w _
      · exact (s.setSession_apart w _).andThen (State.postSession_apart _ w)
  case fetchNotice => exact s.fetchNotice_apart w
  case readJob => rw [State.readJob_unmoved]; exact self
  case readSession => rw [State.readSession_unmoved]; exact self
  case readLane => rw [State.readLane_unmoved]; exact self
  all_goals cases admitted

/-- Settles O12: a window's request that reaches its block leaves the other windows apart by
`blockOf_apart`, and touches only the parts of its kind. -/
theorem windowsAreApart : Obligations.WindowsAreApart := by
  unfold Obligations.WindowsAreApart
  intro c s t w k tag h run
  suffices all : s.apart t w ∧ (∀ q, q ≠ Port.window w →
      (t.port q).rx = (s.port q).rx ∧ (t.port q).tx = (s.port q).tx) ∧
      s.changesOnly t [.receivers, .queues, .forms, .slots, .lanes, .packs, .census, .sessions,
        .journal] from ⟨all.1.1, all.2.1, all.2.2, all.1.2⟩
  have answered : ∀ (u : State) (r : Reply),
      u.apart (u.answerWith (.window w) k.byte tag r) w := fun u r =>
    ⟨fun v _ => ⟨State.setPort_session _ _ _ v, fun j => State.answerWith_slot _ _ _ _ _ _ _,
      State.answerWith_queue _ _ _ _ _ _, by simp [State.entriesOf, State.answerWith]⟩,
      fun l => by simp [State.answerWith]⟩
  rcases exec_request (s := s) h with ⟨-, run'⟩ | ⟨-, code, -, run'⟩ | ⟨-, passed, -, r, hr, run'⟩ <;>
    rw [run] at run' <;> cases run'
  · exact ⟨s.apart_refl w, fun _ _ => ⟨rfl, rfl⟩, s.changesOnly_refl _⟩
  · exact ⟨answered s _,
      (State.answered_answerWith (.window w) k tag (s.same_refl .receivers) _).2.2,
      State.changesOnly_mono (s.answerWith_frame _ _ _ _)⟩
  · have admitted : k.fromWindow = true := by
      unfold State.admission at passed
      split at passed
      · cases passed
      · rename_i ok
        simpa [RequestKind.admittedFrom] using ok
    have reached : s.apart (s.reachBlock (.window w) k) w :=
      State.apart_ite (s.setSession_apart w _) (s.apart_refl w)
    have parts : k.parts ⊆ [.queues, .forms, .slots, .lanes, .packs, .census, .sessions,
        .journal] ∧ Part.receivers ∉ k.parts := by
      cases k <;> first | (cases admitted; done) | (constructor <;> decide)
    have frame : s.changesOnly r.1 k.parts :=
      State.changesOnly_then (c := k.parts) (s.reachBlock_parts _ k) (blockOf_frame h hr) (by simp)
    exact ⟨(reached.andThen (blockOf_apart h hr admitted)).andThen (answered _ _),
      (State.answered_answerWith (.window w) k tag (frame .receivers parts.2) _).2.2,
      State.changesOnly_then (State.changesOnly_mono frame parts.1)
        (State.answerWith_frame _ _ _ _ _)⟩

end Sys2Proof.Machine
end

section
/-! SUPPORT. What every command but the power ones is made of: the deeds of `Deed`, a lane's moves among
them, each with the parts it may change and the checks its command made before it. A rule that every deed
keeps is kept by every such command (`exec_deeds`). -/

-- One proof at a time: the check's memory limit holds few threads.
set_option Elab.async false

namespace Sys2Proof.Machine

/-- The first checks of a structural request on a pack of the table: the census does not hold it back
(05 R110). -/
def State.reaches (s : State) (p : Pack) : Prop :=
  s.findPack p.number = some p ∧ s.census.blocks p.number = false

/-- What a command may do to the pack table: VOID_TICKET moves marks from ISSUED, a declaration adds a
pack, a collection or STORE_REINITIALISE removes packs, the census's step keeps a verdict, and every
other moves marks from UNUSED. -/
inductive StockUse where
  | marks | voids | adds | removes | counts
  deriving DecidableEq

def stockUse : Instr → StockUse
  | .voidTicket _ _ _ => .voids
  | .declarePack _ _ _ => .adds
  | .collectPack _ _ _ | .storeReinitialise _ _ _ => .removes
  | .censusEntryStep => .counts
  | _ => .marks

/-- A command that binds a pack to a lane. -/
def isMount : Instr → Bool
  | .mountPack _ _ _ => true
  | _ => false

/-- A command that sets the limits, the store's reinitialisation apart. -/
def isLimits : Instr → Bool
  | .setLimits _ _ _ => true
  | _ => false

/-- One deed of a command, and the parts it may change. -/
inductive Deed (c : Instr) : List Part → State → State → Prop
  | move {s t : State} (use : stockUse c = .marks) (l : LaneId) (h : Move l s t) : Deed c laneParts s t
  | idle {s t : State}
      (h : s.changesOnly t [.phase, .powerFail, .receivers, .scanner, .clock, .runTime]) :
      Deed c [.phase, .powerFail, .receivers, .scanner, .clock, .runTime] s t
  | dropped (s : State) (w : Window) : Deed c [.sessions] s (s.dropDeclaration w)
  | undeclared (s : State) : Deed c [.sessions] s s.dropDeclarations
  | opened (s : State) (w : Window) (b : OpenBody) (before : (s.session w).state = .none) :
      Deed c [.sessions, .queues] s
        ((s.setSession w (Session.openedWith b s.clockStamp)).postSession w)
  | begun (s : State) (w : Window) (n : Nat) (range : 1 ≤ n ∧ n ≤ 4)
      (before : (s.session w).state = .opened) (ended : s.hasActiveJob w = false) :
      Deed c [.sessions, .queues] s ((s.beginSequence w n).postSession w)
  | begunAgain (s : State) (w : Window) (n : Nat) (range : 1 ≤ n ∧ n ≤ 4)
      (before : (s.session w).state = .declaring) :
      Deed c [.sessions] s (s.beginSequence w n)
  | item (s : State) (w : Window) (d : DeclarationInProgress) (t : Tender) (amount : Nat)
      (before : (s.session w).state = .declaring) (held : (s.session w).inProgress = some d)
      (few : d.items.length < d.expected) (fresh : ∀ i ∈ d.items, i.1 ≠ t) :
      Deed c [.sessions] s (s.appendItem w d t amount)
  | confirmed (s : State) (w : Window) (d : Declaration) (r : CashUp)
      (before : (s.session w).state = .declaring) :
      Deed c [.sessions, .queues] s
        ((s.setSession w ((s.session w).confirm d r)).postSession w)
  | collected (s : State) (w : Window) (before : (s.session w).state = .declared) :
      Deed c [.sessions, .journal, .packs, .queues] s
        (((s.freeEntries w).setSession w .none).postSession w)
  | reopened (s : State) (w : Window) (before : (s.session w).state = .declared) :
      Deed c [.sessions, .queues] s
        ((s.setSession w (s.session w).reopened).postSession w)
  | voided (use : stockUse c = .voids) (s : State) (w : Window) (e : JournalEntry) (found : e ∈ s.entriesOf w)
      (before : (s.session w).state = .opened) (room : s.journalFree ≠ 0) :
      Deed c [.sessions, .journal, .packs, .census, .queues] s (s.takeVoid w e)
  | packAdded (use : stockUse c = .adds) (s : State) (b : PackBody) (passed : s.declarePackCode b = none) :
      Deed c [.packs, .nextPack, .queues] s (s.addPack b)
  | packMounted (mounts : isMount c = true) (s : State) (l : LaneId) (p : Pack) (found : s.reaches p)
      (loose : p.state ≠ .mounted) (kept : p.state ≠ .withdrawn)
      (free : (s.lane l).state = .offline) :
      Deed c [.packs, .lanes, .queues] s
        ((s.updatePack p.number fun q => { q with state := .mounted, lane := some l }).moveLane l
          fun x => x.mount p.number p.first)
  | packReleased (use : stockUse c = .marks) (mounts : isMount c = false) (s : State) (l : LaneId) (p : Pack) (m : WithdrawMode)
      (found : s.mounted l = some p) (passed : s.census.blocks p.number = false)
      (idle : (s.lane l).refusesWithdrawal = false) :
      Deed c [.lanes, .packs, .census, .faults, .queues] s (s.withdrawLane l p m)
  | packRetired (use : stockUse c = .marks) (mounts : isMount c = false) (s : State) (p : Pack) (m : WithdrawMode) (found : s.reaches p)
      (loose : p.state ≠ .mounted) (kept : p.state ≠ .withdrawn) (m_ne : m ≠ .park) :
      Deed c [.packs, .census, .queues] s (s.applyMode p m)
  | packRemoved (use : stockUse c = .removes) (s : State) (p : Pack) (found : s.reaches p) (gone : p.state = .withdrawn)
      (unnamed : p.references = 0) :
      Deed c [.packs, .nextPack, .queues] s (s.removePack p.number)
  | censusMoved (own : isCensusCommand c = true) (s : State) (u : Census) :
      Deed c [.census, .queues] s (s.moveCensus u)
  | censusRead (own : isCensusCommand c = true) (s : State) (u : Census) (state : u.state = s.census.state) :
      Deed c [.census] s { s with census := u }
  | verdict (use : stockUse c = .counts) (s : State) (p : Pack) (v : Verdict)
      (found : s.findPack p.number = some p) :
      Deed c [.packs, .queues, .faults] s (s.storeVerdict p v)
  | acknowledged (s : State) (n : Nat) (r : Report)
      (found : s.faults.find? (fun r => r.number == n) = some r) (loose : r.stillActive = false) :
      Deed c [.faults, .queues] s
        ((s.mapReports fun q => if q.number = n then q.acknowledge s.stamp else q).postReport r.source)
  | formPlaced (s : State) (f : Fin 8) (d : FormDef) (valid : d.valid = true)
      (unused : (s.form f).useCount = 0) :
      Deed c [.forms, .queues] s
        (s.setForm f { s.form f with
          current := some d.stored, generation := nextGeneration (s.form f).generation }).postForms
  | formStored (s : State) (f : Fin 8) (d : FormDef) (valid : d.valid = true)
      (used : (s.form f).useCount ≠ 0) :
      Deed c [.forms, .queues] s
        (s.setForm f { s.form f with pending := some d.stored }).postForms
  | discount (s : State) (n : Fin 16) (e : DiscountEntry) (fixed : n ≠ 0) (wf : e.wf = true) :
      Deed c [.discounts] s { s with discounts := s.discounts.set n e }
  | limits (own : isLimits c = true) (s : State) (b : LimitsBody) (passed : b.refused = false) :
      Deed c [.limits, .queues] s
        (if s.limits.with b = s.limits then { s with limits := s.limits.with b }
          else State.postStore { s with limits := s.limits.with b })
  | regranted (s : State) (w : Window) (g : GrantSet) :
      Deed c [.grants, .queues] s (s.regrant w g)
  | slotsRestarted (s : State) :
      Deed c [.slots] s { s with slots := s.slots.map fun v => v.map Slot.restarted }
  | reinitialised (own : isCensusCommand c = true) (use : stockUse c = .removes) (s : State) :
      Deed c [.slots, .sessions, .journal, .lanes, .packs, .nextPack, .census, .forms, .discounts,
        .grants, .limits, .faults, .store, .queues] s s.reinitialised

/-- A chain of deeds. -/
abbrev Deeds (c : Instr) : State → State → Prop :=
  Relation.ReflTransGen fun s t => ∃ a, Deed c a s t

section
variable {c : Instr} {a : List Part} {s t u : State}

theorem Deed.one (h : Deed c a s t) : Deeds c s t := Relation.ReflTransGen.single ⟨a, h⟩

theorem Deeds.refl (s : State) : Deeds c s s := Relation.ReflTransGen.refl

theorem Deeds.andThen (h : Deeds c s t) (h' : Deeds c t u) : Deeds c s u :=
  Relation.ReflTransGen.trans h h'

theorem Deeds.ite {q : Prop} [Decidable q] (h : Deeds c s t) (h' : Deeds c s u) :
    Deeds c s (if q then t else u) := by
  split
  · exact h
  · exact h'

theorem Run.deeds {l : LaneId} (h : Run l s t) (use : stockUse c = .marks := by rfl) :
    Deeds c s t :=
  h.lift (R := Deeds c) Deeds.refl (fun _ _ _ => Deeds.andThen) fun _ _ m => (Deed.move use l m).one

theorem Deeds.foldl {α : Type} (f : State → α → State) (each : ∀ t x, Deeds c t (f t x)) :
    ∀ (xs : List α) (s : State), Deeds c s (xs.foldl f s)
  | [], s => Deeds.refl s
  | x :: xs, s => (each s x).andThen (Deeds.foldl f each xs (f s x))

/-- A reflexive and transitive relation that every deed keeps is kept by a chain of them. -/
theorem Deeds.lift {R : State → State → Prop} (refl : ∀ s, R s s)
    (trans : ∀ s t u, R s t → R t u → R s u) (deed : ∀ a s t, Deed c a s t → R s t)
    (h : Deeds c s t) : R s t := by
  induction h with
  | refl => exact refl _
  | tail _ last ih =>
    obtain ⟨a, last⟩ := last
    exact trans _ _ _ ih (deed _ _ _ last)

/-- A rule that every deed keeps is kept by a chain of them. -/
theorem Deeds.keeps {P : State → Prop} (deed : ∀ a s t, Deed c a s t → P s → P t) (h : Deeds c s t)
    (hs : P s) : P t :=
  h.lift (R := fun s t => P s → P t) (fun _ h => h) (fun _ _ _ a b h => b (a h)) deed hs

end

/-! ## The parts of a deed -/

section
variable {l : LaneId} {c : Instr} {a : List Part} {s t : State}

theorem Move.frame (h : Move l s t) : s.changesOnly t laneParts := by
  have sub := fun (a : List Part) (h : a ⊆ laneParts) (f : s.changesOnly t a) =>
    State.changesOnly_mono f h
  cases h with
  | lane f => exact sub _ (by decide) (s.moveLane_frame l f)
  | told => exact sub _ (by decide) s.reportEligible_frame
  | slot w k x => exact sub _ (by decide) (s.setSlot_frame w k x)
  | outcome w k o => exact sub _ (by decide) (s.postOutcome_frame w k o)
  | form f x => exact sub _ (by decide) (s.setForm_frame f x)
  | applied f =>
    exact sub _ (by decide) (State.changesOnly_then (c := [.forms, .queues]) (s.setForm_frame f _)
      (State.postOffice_frame _ _ _))
  | mark cls serial new => exact sub _ (by decide) (s.changeMark_frame cls serial new)
  | entry w d => exact sub _ (by decide) (s.writeEntry_frame w d)
  | reserved w n m =>
    exact sub _ (by decide) (State.changesOnly_then (c := [.sessions, .journal])
      (s.setSession_frame w { s.session w with reserved := n })
      (State.setJournal_frame (s := s.setSession w { s.session w with reserved := n })
        s.journal s.journalInUse m))
  | raised k c => exact sub _ (by decide) (s.raiseLane_frame l k c)
  | relocked => exact sub _ (by decide) (s.selfClear_frame l)
  | recovered how =>
    exact sub _ (by decide) (State.changesOnly_then (c := [.faults, .queues]) (s.mapReports_frame _)
      (State.postReport_frame _ _))
  | counted => exact sub _ (by decide) (s.countRefusal_frame l)

theorem Deed.frame (h : Deed c a s t) : s.changesOnly t a := by
  cases h with
  | move use l h => exact h.frame
  | idle h => exact h
  | dropped _ w => exact s.dropDeclaration_frame w
  | undeclared _ => exact s.setSessions_frame _
  | opened _ w b => exact s.setSession_postSession_frame w _
  | begun _ w n => exact s.setSession_postSession_frame w _
  | begunAgain _ w n => exact s.setSession_frame w _
  | item _ w d t amount => exact s.setSession_frame w _
  | confirmed _ w d r => exact s.setSession_postSession_frame w _
  | collected _ w =>
    exact State.changesOnly_then (c := [.sessions, .journal, .packs, .queues]) (s.freeEntries_frame w)
      (State.setSession_postSession_frame _ w _)
  | reopened _ w => exact s.setSession_postSession_frame w _
  | voided use _ w e =>
    exact State.changesOnly_then (c := [.sessions, .journal, .packs, .census, .queues])
      (s.changeMark_frame _ _ _) (State.writeEntry_frame _ w _)
  | packAdded use _ b => exact State.changesOnly_mono (s.addPack_frame b) (by decide)
  | packMounted mounts _ l p =>
    exact State.changesOnly_then (c := [.packs, .lanes, .queues]) (s.updatePack_frame _ _)
      (State.moveLane_frame _ l _)
  | packReleased use mounts _ l p m => exact State.changesOnly_mono (s.withdrawLane_frame l p m) (by decide)
  | packRetired use mounts _ p m => exact State.changesOnly_mono (s.applyMode_frame p m) (by decide)
  | packRemoved use _ p => exact s.removePack_frame p.number
  | censusMoved own _ c => exact s.moveCensus_frame c
  | censusRead own _ c => exact s.setCensus_frame c
  | verdict use _ p v => exact State.changesOnly_mono (s.storeVerdict_frame p v) (by decide)
  | acknowledged _ n r =>
    exact State.changesOnly_then (c := [.faults, .queues]) (s.mapReports_frame _)
      (State.postReport_frame _ _)
  | formPlaced _ f d =>
    exact State.changesOnly_then (c := [.forms, .queues]) (s.setForm_frame f _)
      (State.postOffice_frame _ _ _)
  | formStored _ f d =>
    exact State.changesOnly_then (c := [.forms, .queues]) (s.setForm_frame f _)
      (State.postOffice_frame _ _ _)
  | discount _ c e => exact s.setDiscounts_frame _
  | limits own _ b =>
    exact State.changesOnly_ite (State.changesOnly_mono (s.withLimits_frame _) (by decide))
      (State.changesOnly_then (c := [.limits, .queues]) (s.withLimits_frame _)
        (State.postOffice_frame _ _ _))
  | regranted _ w g => exact s.regrant_frame w g
  | slotsRestarted _ => exact s.setSlots_frame _
  | reinitialised own use => exact State.changesOnly_mono s.reinitialised_frame (by decide)

/-- A deed keeps the queues well formed and loses no plain notice. -/
theorem Deed.queuesGrow (h : Deed c a s t) : s.queuesGrow t := by
  by_cases touched : Part.queues ∈ a
  swap
  · exact State.queuesGrow_of_same (h.frame .queues touched)
  cases h with
  | move use l h => exact h.queuesGrow
  | opened _ w b => exact s.setSession_postSession_grow w _
  | begun _ w n => exact s.setSession_postSession_grow w _
  | confirmed _ w d r => exact s.setSession_postSession_grow w _
  | collected _ w =>
    exact (s.freeEntries_grow w).andThen (State.setSession_postSession_grow _ w _)
  | reopened _ w => exact s.setSession_postSession_grow w _
  | voided use _ w e => exact (s.changeMark_grow _ _ _).andThen (State.writeEntry_grow _ w _)
  | packAdded use _ b => exact s.addPack_grow b
  | packMounted mounts _ l p => exact (s.updatePack_grow _ _).andThen (State.moveLane_grow _ l _)
  | packReleased use mounts _ l p m => exact s.withdrawLane_grow l p m
  | packRetired use mounts _ p m => exact s.applyMode_grow p m
  | packRemoved use _ p => exact s.removePack_grow p.number
  | censusMoved own _ c => exact s.moveCensus_grow c
  | verdict use _ p v => exact s.storeVerdict_grow p v
  | acknowledged _ n r => exact (s.mapReports_grow _).andThen (State.postReport_grow _ _)
  | formPlaced _ f d => exact (s.setForm_frame f _).queuesGrow.andThen (State.postForms_grow _)
  | formStored _ f d => exact (s.setForm_frame f _).queuesGrow.andThen (State.postForms_grow _)
  | limits own _ b =>
    exact State.queuesGrow_ite (s.withLimits_frame _).queuesGrow
      ((s.withLimits_frame _).queuesGrow.andThen (State.postStore_grow _))
  | regranted _ w g => exact s.regrant_grow w g
  | reinitialised own use => exact s.reinitialised_grow
  | _ => exact absurd touched (by decide)

theorem Deeds.queuesGrow (h : Deeds c s t) : s.queuesGrow t :=
  h.lift State.queuesGrow_refl (fun _ _ _ => State.queuesGrow.andThen) fun _ _ _ => Deed.queuesGrow

end

/-! ## Every command but the power ones, as deeds -/

section
variable {s : State}

theorem State.reaches_of_find {n : Nat} {p : Pack} (found : s.findPack n = some p)
    (free : s.census.blocks p.number = false) : s.reaches p := by
  have number : p.number = n := by simpa using List.find?_some found
  exact ⟨number ▸ found, free⟩

/-- What a request finds before its block takes it: nothing changed but the queues, where its command is
one of `takesNotices`; and then a chain of deeds. -/
def deedsAfter (c : Instr) (s t : State) : Prop :=
  ∃ u, s.changesOnly u [.queues] ∧ Deeds c u t

theorem Deeds.after {c : Instr} {s t : State} (h : Deeds c s t) : deedsAfter c s t :=
  ⟨s, s.changesOnly_refl _, h⟩

theorem State.reaches_of_mountRefusal {n : Nat} {p : Pack} (found : s.findPack n = some p)
    (passed : s.mountRefusal p = none) :
    s.reaches p ∧ p.state ≠ .mounted ∧ p.state ≠ .withdrawn := by
  unfold State.mountRefusal at passed
  split_ifs at passed with mounted withdrawn held
  exact ⟨State.reaches_of_find found (Bool.eq_false_iff.2 held), mounted, withdrawn⟩

theorem State.bindPack_deeds {c : Instr} {p : Pack} {l : LaneId} (use : stockUse c = .marks)
    (mounts : isMount c = true) (passed : s.reaches p ∧ p.state ≠ .mounted ∧ p.state ≠ .withdrawn)
    (free : (s.lane l).state = .offline) : Deeds c s (s.bindPack p l) := by
  obtain ⟨reached, loose, kept⟩ := passed
  exact (Deed.packMounted mounts s l p reached loose kept free).one.andThen ((Run.startPriming _ l).deeds use)

/-- An ACTIVE entry as SET_DISCOUNT stores it is in range (07 R131). -/
theorem storedTerms_wf (t : DiscountTerms) (range : t.inRange = true) :
    t.entry.wf = true := by
  simp only [DiscountTerms.inRange, Bool.and_eq_true, decide_eq_true_eq, Bool.not_eq_true',
    List.all_eq_true] at range
  obtain ⟨⟨⟨step, floor⟩, some_class⟩, low⟩ := range
  obtain ⟨c, rest, classes⟩ := List.exists_cons_of_ne_nil (l := t.classes) (by simpa using some_class)
  have held : c = 0 ∨ c = 1 ∨ c = 2 ∨ c = 3 := by
    have := low c (by simp [classes])
    omega
  have rate : clampRate t.rate ≤ Config.wholeRate := Nat.min_le_right _ _
  simp only [DiscountTerms.entry, DiscountEntry.wf, rate, floor, step, isEmptySet, classSetOf]
  rcases held with rfl | rfl | rfl | rfl <;> simp [classes]

theorem windowBlock_deeds {β : Type} {c : Instr} {p : Port} {take : Window → β → State → State × Reply}
    {x : β} (each : ∀ w, Deeds c s (take w x s).1) : Deeds c s (windowBlock p take x s).1 := by
  cases p with
  | office => exact Deeds.refl s
  | window w => exact each w

/-- A block that answers, but FETCH_NOTICE and RESTART, is a chain of deeds. -/
theorem blockOf_deeds {c : Instr} {p : Port} {k : RequestKind} {tag : Byte}
    {r : State × Reply} (h : requestOf c = some (p, k, tag)) (hr : blockOf c s = some r)
    (takes : takesNotices c = false) : Deeds c s r.1 := by
  have self : ∀ {c : Instr}, Deeds c s s := Deeds.refl s
  cases c <;> cases h <;> obtain ⟨b, -, rfl⟩ := Option.map_eq_some_iff.1 hr
  case openSession =>
    refine windowBlock_deeds fun w => ?_
    unfold State.openSession
    repeat' split
    case isFalse.isFalse old _ => exact (Deed.opened s w b (not_not.1 old)).one
    all_goals exact self
  case submitJob =>
    refine windowBlock_deeds fun w => ?_
    unfold State.submitJob
    repeat' split
    case h_2.isFalse => exact (Run.placeJob s 0 w _ _ _).deeds
    all_goals exact self
  case supplyLines =>
    refine windowBlock_deeds fun w => State.onJob_keeps (P := Deeds _ s) self fun k j held _ => ?_
    split
    · exact self
    · split
      · exact self
      · have moved := Run.rewriteJob s 0 w k held { j with lines := j.lines ++ b.lines }
        exact (Run.ite (moved.andThen (Run.reportEligible _ 0)) moved).deeds
  case holdJob =>
    refine windowBlock_deeds fun w => State.onJob_keeps (P := Deeds _ s) self fun k j held _ => ?_
    split
    · exact (Run.mapJob s 0 w k _).deeds
    all_goals exact self
  case amendJob =>
    refine windowBlock_deeds fun w => State.onJob_keeps (P := Deeds _ s) self fun k j held _ => ?_
    split
    · split
      · exact self
      · exact (Run.rewriteJob s 0 w k held _).deeds
    all_goals exact self
  case releaseJob =>
    refine windowBlock_deeds fun w => State.onJob_keeps (P := Deeds _ s) self fun k j held _ => ?_
    split
    · exact (Run.requeue s 0 w k).deeds
    · split
      · exact self
      · exact (Run.requeue s 0 w k).deeds
    all_goals exact self
  case withdrawJob =>
    refine windowBlock_deeds fun w => State.onJob_keeps (P := Deeds _ s) self fun k j held _ => ?_
    split
    case h_1 | h_2 | h_3 => exact (Run.withdrawn s 0 w k _ _).deeds
    all_goals exact self
  case voidTicket =>
    refine windowBlock_deeds fun w => ?_
    unfold State.voidTicket State.voidOpen State.voidIssued
    repeat' split
    case h_2 => exact (Deed.dropped s w).one
    case isFalse.isFalse e found _ _ => exact (Deed.voided rfl s w e (List.mem_of_find?_eq_some found) ‹_› ‹_›).one
    all_goals exact self
  case declareBegin =>
    refine windowBlock_deeds fun w => ?_
    unfold State.declareBegin
    repeat' split
    case h_3.isFalse.isFalse => exact (Deed.begun s w b (by omega) ‹_› (Bool.eq_false_iff.2 ‹_›)).one
    case h_4.isFalse => exact (Deed.begunAgain s w b (by omega) ‹_›).one
    all_goals exact self
  case declareItem =>
    refine windowBlock_deeds fun w => ?_
    unfold State.declareItem State.inSequence
    split
    case h_5 =>
      dsimp only
      split
      · exact self
      · split
        · exact self
        · split
          · exact (Deed.dropped s w).one
          · split
            · exact (Deed.dropped s w).one
            · rename_i few fresh
              exact (Deed.item s w _ _ b.amount ‹_› ‹_› (Nat.lt_of_not_le few)
                fun i hi same => fresh (List.any_eq_true.2 ⟨i, hi, by simp [same]⟩)).one
    all_goals exact self
  case declareConfirm =>
    refine windowBlock_deeds fun w => ?_
    unfold State.declareConfirm State.inSequence
    split
    case h_5 =>
      dsimp only
      split
      · exact self
      · split
        · exact (Deed.dropped s w).one
        · exact (Deed.confirmed s w _ _ ‹_›).one
    all_goals exact self
  case fetchNotice | restart => cases takes
  case readJob => exact (s.readJob_unmoved b).symm ▸ self
  case readSession => exact (s.readSession_unmoved b).symm ▸ self
  case readLane => exact (State.readLane_unmoved (s := s) (n := b)).symm ▸ self
  case readPack => exact (s.readPack_unmoved b).symm ▸ self
  case readCensus => exact self
  case readFaults => exact (State.readFaults_unmoved (s := s) (n := b)).symm ▸ self
  case readForm => exact (State.readForm_unmoved (s := s) (n := b)).symm ▸ self
  case declarePack =>
    rw [State.declarePack_eq]
    split
    · exact self
    · exact (Deed.packAdded rfl s b ‹_›).one
  case mountPack =>
    unfold State.mountPack
    split
    · exact self
    · rename_i l _
      split
      · exact self
      · rename_i p found
        split
        · exact self
        · rename_i passed
          split
          · exact (Move.counted s).run.deeds (l := l)
          · exact (s.bindPack_deeds rfl rfl (State.reaches_of_mountRefusal found passed) ‹_›)
          · exact self
  case withdrawPack =>
    unfold State.withdrawPack
    split
    · exact self
    · split
      · unfold State.withdrawFromLane
        repeat' split
        case isFalse => exact (Deed.packReleased rfl rfl s _ _ _ ‹_› (Bool.eq_false_iff.2 ‹_›) (Bool.eq_false_iff.2 ‹_›)).one
        all_goals exact self
      · unfold State.withdrawByNumber
        repeat' split
        case isFalse =>
          exact (Deed.packRetired rfl rfl s _ _ (State.reaches_of_find ‹_› (Bool.eq_false_iff.2 ‹_›)) ‹_› ‹_› ‹_›).one
        all_goals exact self
  case collectPack =>
    unfold State.collectPack
    repeat' split
    case isFalse p found free withdrawn unnamed _ =>
      have reached := State.reaches_of_find found (Bool.eq_false_iff.2 free)
      have number : p.number = b := by simpa using List.find?_some found
      exact (number ▸ Deed.packRemoved rfl s p reached (not_not.1 withdrawn) (by omega) :
        Deed _ _ s (s.removePack b)).one
    all_goals exact self
  case startCensus =>
    unfold State.startCensus
    repeat' split
    case isFalse => exact (Deed.censusMoved rfl s _).one
    all_goals exact self
  case suspendCensus =>
    unfold State.suspendCensus
    split
    · exact (Deed.censusMoved rfl s _).one
    · exact self
  case resumeCensus =>
    unfold State.resumeCensus
    split
    · exact (Deed.censusMoved rfl s _).one
    · exact self
  case stopCensus =>
    unfold State.stopCensus
    split
    case h_1 | h_2 => exact self
    all_goals exact (Deed.censusMoved rfl s _).one
  case clearLane =>
    unfold State.clearLane
    split
    · exact self
    · split
      · exact self
      · split
        · exact self
        · exact (Run.clearTaken s _).deeds
      · exact self
  case purgeLane =>
    unfold State.purgeLane
    split
    · exact self
    · split
      · exact self
      · dsimp only
        exact (Run.purge s _).deeds
  case advanceBlank =>
    unfold State.advanceBlank
    split
    · exact self
    · split
      · exact self
      · split
        · exact (Move.counted s).run.deeds
        · exact ((Run.lane s _ _).andThen (Run.feedAttempt _ _)).deeds
        · exact self
  case ackFault =>
    unfold State.ackFault
    repeat' split
    case isFalse => exact (Deed.acknowledged s _ _ ‹_› (Bool.eq_false_iff.2 ‹_›)).one
    all_goals exact self
  case defineForm =>
    unfold State.defineForm
    split
    · exact self
    · dsimp only
      split
      · exact self
      · rename_i f _ invalid
        have valid : b.layout.valid = true := by simpa using invalid
        split
        · exact (Deed.formPlaced s f _ valid ‹_›).one
        · split
          · exact self
          · exact (Deed.formStored s f _ valid ‹_›).one
  case setDiscount =>
    unfold State.setDiscount State.storeDiscount
    repeat' split
    case h_2 => exact (Deed.discount s _ _ ‹_› (by decide)).one
    case h_4.isTrue =>
      rename_i t _ _ range
      exact (Deed.discount s _ _ ‹_› (storedTerms_wf t range)).one
    all_goals exact self
  case setLimits =>
    unfold State.setLimits
    split
    · exact self
    · exact (Deed.limits rfl s b (Bool.eq_false_iff.2 ‹_›)).one
  case setPermissions =>
    unfold State.setPermissions
    repeat' split
    case isFalse.isTrue => exact (Deed.regranted s _ _).one
    case isFalse.isFalse => exact (Deed.regranted s _ _).one
    all_goals exact self
  case collectCashup =>
    unfold State.collectCashup
    repeat' split
    case isFalse => exact (Deed.collected s _ (not_not.1 ‹_›)).one
    all_goals exact self
  case reopenSession =>
    unfold State.reopenSession
    repeat' split
    case isFalse => exact (Deed.reopened s _ (not_not.1 ‹_›)).one
    all_goals exact self
  case setClock =>
    have moved := State.setClock_frame (s := s) b
    exact (Deed.idle (State.changesOnly_mono moved (by decide))).one
  case storeReinitialise =>
    unfold State.storeReinitialise
    split
    · exact self
    · exact (Deed.reinitialised rfl rfl s).one

theorem State.entryStep_deeds : Deeds .censusEntryStep s s.entryStep := by
  unfold State.entryStep
  dsimp only
  split
  · split
    · exact Deeds.refl s
    · rename_i p found
      have number : p.number = s.census.pack := by simpa using List.find?_some found
      split
      · exact (Deed.censusMoved rfl s _).one
      · split
        · exact Deeds.refl s
        · rename_i m _
          unfold State.afterEntry State.completeCensus
          dsimp only
          split
          · exact (Deed.censusRead rfl s (s.census.readEntry m) rfl).one
          · split
            · exact (Deed.verdict rfl s p _ (number ▸ found)).one.andThen
                (Deed.censusMoved rfl _ _).one
            · split
              · exact (Deed.censusMoved rfl s _).one
              · exact (Deed.censusRead rfl s (s.census.readEntry m).commitBlock rfl).one
  · exact Deeds.refl s

/-- An answer is a deed that moves the port's receiver alone. -/
theorem Deeds.answered {c : Instr} (u : State) (p : Port) (a g : Byte) (r : Reply) :
    Deeds c u (u.answerWith p a g r) :=
  (Deed.idle (State.changesOnly_mono (u.answerWith_frame p a g r) (by decide))).one

theorem Deeds.reachBlock {c : Instr} (p : Port) (k : RequestKind) : Deeds c s (s.reachBlock p k) := by
  rcases s.reachBlock_cases p k with e | ⟨w, -, -, e⟩
  · exact e.symm ▸ Deeds.refl s
  · exact e.symm ▸ (Deed.dropped s w).one

theorem Deeds.idle {c : Instr} {t : State} {a : List Part} (h : s.changesOnly t a)
    (sub : a ⊆ [.phase, .powerFail, .receivers, .scanner, .clock, .runTime] := by decide) :
    Deeds c s t := (Deed.idle (State.changesOnly_mono h sub)).one

theorem State.fetchNotice_deeds {c : Instr} (p : Port) (use : stockUse c = .marks) :
    deedsAfter c s (s.fetchNotice p).1 := by
  unfold State.fetchNotice
  split
  · exact (Deeds.refl s).after
  · rename_i n rest _
    refine ⟨s.setPort p { s.port p with queue := rest }, ?_, ?_⟩
    · exact s.setQueue_frame p rest
    · unfold State.reportFetched
      split
      · refine (Run.slot _ 0 _ _ _ fun o => ?_).deeds use
        unfold Slot.fetched State.job
        split
        · split
          · simp [Slot.empty]
          · exact id
        · exact id
      · exact Deeds.refl _

theorem State.restart_deeds {p : Port} {tag : Byte} {b : Body Unit} :
    deedsAfter (.restart p tag b) s s.restart.1 :=
  ⟨s.restartQueues, s.restartQueues_frame,
    (((Deed.slotsRestarted _).one.andThen (Run.dropJobs 0 s.restartQueues.restartedJobs _).deeds).andThen
      (Deeds.ite (Deeds.refl _) (Deed.censusMoved rfl _ _).one)).andThen (Deed.undeclared _).one⟩

theorem exec_deeds_of_request {c : Instr} {t : State} {p : Port} {k : RequestKind} {tag : Byte}
    (h : requestOf c = some (p, k, tag)) (run : exec c s = .next t) :
    deedsAfter c s t := by
  rcases exec_request (s := s) h with ⟨-, run'⟩ | ⟨-, code, -, run'⟩ | ⟨-, -, -, r, hr, run'⟩ <;>
    rw [run] at run' <;> cases run'
  · exact (Deeds.refl s).after
  · exact (Deeds.answered s p _ _ _).after
  · by_cases takes : takesNotices c = false
    · exact (((Deeds.reachBlock p k).andThen (blockOf_deeds h hr takes)).andThen
        (Deeds.answered _ p _ _ _)).after
    · have reached : s.reachBlock p k = s := by
        refine s.reachBlock_of_not_abandons p ?_
        cases c <;> cases h <;> first | rfl | exact absurd rfl takes
      rw [reached] at hr
      obtain ⟨u, queues, deeds⟩ : deedsAfter c s r.1 := by
        cases c <;> cases h <;> first
          | exact absurd rfl takes
          | obtain ⟨b, -, rfl⟩ := Option.map_eq_some_iff.1 hr
        · exact s.fetchNotice_deeds p rfl
        · exact s.restart_deeds
      exact ⟨u, queues, deeds.andThen (Deeds.answered _ p _ _ _)⟩

/-- Every command but the power ones is a chain of deeds, after the notices it takes. -/
theorem exec_deeds {c : Instr} {t : State} (power : isPower c = false) (run : exec c s = .next t) :
    deedsAfter c s t := by
  cases hr : requestOf c with
  | some r =>
    obtain ⟨p, k, tag⟩ := r
    exact exec_deeds_of_request hr run
  | none =>
    have frame := exec_changesOnly run
    have self := fun s => (Run.refl s : Run 0 s s)
    cases c
    case powerOn | supplyLoss => cases power
    case portByteReceived | gapTimerExpiry | quietTimerExpiry | answerSent
      | powerFailWarningAssert | resetAsserted | officeClockTick | runTimeTick =>
      exact (Deeds.idle (frame) (of_decide_eq_true rfl)).after
    case censusEntryStep =>
      cases run
      exact (Deeds.ite s.entryStep_deeds (Deeds.refl s)).after
    case claimRequest l => cases run; exact (Run.whenRunning s l (Run.takeClaim s l)).deeds.after
    case claimAnswer l => cases run; exact (Run.whenRunning s l (Run.takeAnswer s l)).deeds.after
    case scannerVisit =>
      cases run
      exact (Deeds.ite ((Run.visitSlot s 0 _ _).deeds.andThen
        (Deeds.idle (State.setScanner_frame _ _))) (Deeds.refl s)).after
    case positioned l =>
      cases run
      refine (Run.whenAwaiting s l ?_).deeds.after
      exact (Move.lane s _ rfl fun h => .inl h).run
    case headReady l => cases run; exact (Run.whenAwaiting s l (Run.afterStrobe s l)).deeds.after
    case cutDone l => cases run; exact (Run.whenAwaiting s l (Run.cutCompletion s l)).deeds.after
    case markRecord l r =>
      cases run; exact (Run.whenAwaiting s l (Run.takeRecord s l r)).deeds.after
    case markReadTimeout l =>
      cases run
      exact (Run.whenAwaiting s l ((Run.lane s l _).andThen (Run.failedRead _ l))).deeds.after
    case feedTimeout l => cases run; exact (Run.whenAwaiting s l (Run.laneFault s l _ _)).deeds.after
    case strobeTimeout l =>
      cases run; exact (Run.whenAwaiting s l (Run.laneFault s l _ _)).deeds.after
    case cutTimeout l => cases run; exact (Run.whenAwaiting s l (Run.laneFault s l _ _)).deeds.after
    case cabinetOpening l =>
      cases run
      exact ((Run.lane s l _).andThen (Run.whenRunning _ l
        (Run.ite (Run.observeOpening _ l) (Run.refl _)))).deeds.after
    case cabinetRelock l =>
      cases run
      exact ((Run.lane s l _).andThen (Run.whenRunning _ l
        (Run.ite (Run.relock _ l) (Run.refl _)))).deeds.after
    case powerFailWarningDeassert =>
      cases run
      exact ((Deeds.idle (s.setPowerFail_frame false)).andThen (Deeds.ite
        ((Deeds.foldl _ (fun t l => (Run.resume t l).deeds) allLanes _).andThen
          (Run.reportEligible _ 0).deeds) (Deeds.refl _))).after
    all_goals cases hr

end

end Sys2Proof.Machine
end

section
/-! SUPPORT. The state STORE_REINITIALISE leaves, part by part (11 R196). -/

-- One proof at a time: the check's memory limit holds few threads.
set_option Elab.async false

namespace Sys2Proof.Machine

section
variable (s : State)

/-- After steps 1 to 3: the jobs cancelled, the sessions and lanes emptied. -/
def State.withoutJobs : State := s.cancelJobs.emptySessions.reinitialiseLanes

/-- After steps 4 to 6. -/
def State.withoutStock : State := (s.withoutJobs.emptyPacks.haltCensus .storeReinitialise).emptyForms

/-- After steps 7 to 9. -/
def State.withoutTerms : State :=
  { State.grantAll { s.withoutStock with discounts := emptyDiscounts } with limits := .default }

theorem State.reinitialised_stages : s.reinitialised =
    State.postStore { s.withoutTerms.emptyFaults with storeValid := true, checkAgrees := true } := rfl

/-- Step 10 and what follows touch the fault list and the store's state. -/
theorem State.withoutTerms_frame :
    s.withoutTerms.changesOnly s.reinitialised [.faults, .store, .queues] := by
  rw [State.reinitialised_stages]
  exact State.changesOnly_then (c := [.faults, .store, .queues]) State.emptyFaults_frame
    (State.changesOnly_then (c := [.store, .queues]) (State.setStore_frame true true)
      (State.postOffice_frame _ _ _))

theorem State.withoutStock_frame :
    s.withoutStock.changesOnly s.withoutTerms [.discounts, .grants, .limits, .queues] :=
  State.changesOnly_then (c := [.discounts, .grants, .limits, .queues])
    (State.changesOnly_then (c := [.discounts, .grants, .queues])
      (State.setDiscounts_frame emptyDiscounts) State.grantAll_frame)
    (State.withLimits_frame .default)

theorem State.withoutJobs_frame :
    s.withoutJobs.changesOnly s.withoutStock [.packs, .nextPack, .census, .forms, .queues] :=
  State.changesOnly_then (c := [.packs, .nextPack, .census, .forms, .queues])
    (State.changesOnly_then (c := [.packs, .nextPack, .census, .queues]) State.emptyPacks_frame
      (State.haltCensus_frame _ _))
    State.emptyForms_frame

theorem State.withoutJobs_reinitialised_frame : s.withoutJobs.changesOnly s.reinitialised
    [.packs, .nextPack, .census, .forms, .discounts, .grants, .limits, .faults, .store, .queues] :=
  State.changesOnly_then (State.changesOnly_then (c := [.packs, .nextPack, .census, .forms, .discounts,
    .grants, .limits, .queues]) s.withoutJobs_frame s.withoutStock_frame) s.withoutTerms_frame

theorem State.reinitialise_withoutTerms_frame : s.changesOnly s.withoutTerms
    [.slots, .sessions, .journal, .lanes, .packs, .nextPack, .census, .forms, .discounts, .grants,
      .limits, .queues] :=
  State.changesOnly_then (c := [.slots, .sessions, .journal, .lanes, .packs, .nextPack, .census, .forms,
      .discounts, .grants, .limits, .queues])
    (State.changesOnly_then (c := [.slots, .sessions, .journal, .lanes, .packs, .nextPack, .census,
        .forms, .queues])
      (State.changesOnly_then (c := [.slots, .sessions, .journal, .lanes, .queues])
        (State.changesOnly_then (c := [.slots, .sessions, .journal, .queues]) s.cancelJobs_frame
          State.emptySessions_frame)
        State.reinitialiseLanes_frame)
      s.withoutJobs_frame)
    s.withoutStock_frame

/-! ## Sessions and journal -/

theorem mem_allWindows (w : Window) : w ∈ allWindows := by
  fin_cases w <;> decide

theorem mem_allLanes (l : LaneId) : l ∈ allLanes := by
  fin_cases l <;> decide

theorem State.emptySession_session (w v : Window) :
    (s.emptySession w).session v = if v = w then .none else s.session v := by
  by_cases h : v = w
  · subst h
    unfold State.emptySession
    split <;> simp [State.postSession]
  · unfold State.emptySession
    split <;> simp [State.postSession, State.setSession_session_ne s h]

theorem State.emptySessions_session (w : Window) : s.emptySessions.session w = .none := by
  have all : ∀ (xs : List Window) (t : State), (xs.foldl State.emptySession t).session w =
      if w ∈ xs then .none else t.session w := by
    intro xs
    induction xs with
    | nil => simp
    | cons x xs ih =>
      intro t
      rw [List.foldl_cons, ih, State.emptySession_session]
      by_cases h : w = x <;> by_cases h' : w ∈ xs <;> simp [h, h']
  have emptied : s.emptySessions.session w = (allWindows.foldl State.emptySession s).session w :=
    congrArg (fun v : Vector Session 6 => v[w]) (State.setJournal_frame [] 0 0 .sessions (by decide))
  rw [emptied, all, if_pos (mem_allWindows w)]

theorem State.reinitialised_session (w : Window) : s.reinitialised.session w = .none := by
  have lanes : s.withoutJobs.session w = s.cancelJobs.emptySessions.session w :=
    congrArg (fun v : Vector Session 6 => v[w]) (State.reinitialiseLanes_frame .sessions (by decide))
  have rest : s.reinitialised.session w = s.withoutJobs.session w :=
    congrArg (fun v : Vector Session 6 => v[w]) (s.withoutJobs_reinitialised_frame .sessions (by decide))
  rw [rest, lanes, State.emptySessions_session]

theorem State.reinitialised_journal : s.reinitialised.journal = [] ∧ s.reinitialised.journalInUse = 0 ∧
    s.reinitialised.journalReserved = 0 := by
  obtain ⟨a, b, c⟩ := s.withoutJobs_reinitialised_frame .journal (by decide)
  obtain ⟨x, y, z⟩ := State.reinitialiseLanes_frame (s := s.cancelJobs.emptySessions) .journal (by decide)
  exact ⟨a.trans x, b.trans y, c.trans z⟩

/-! ## Lanes -/

theorem State.reinitialiseLanes_lane (l : LaneId) :
    s.reinitialiseLanes.lane l = (s.lane l).reinitialised := by
  have all : ∀ (xs : List LaneId) (t : State), xs.Nodup →
      (xs.foldl (fun t m => (t.setLane m (t.lane m).reinitialised).postLane m) t).lane l =
      if l ∈ xs then (t.lane l).reinitialised else t.lane l := by
    intro xs
    induction xs with
    | nil => simp
    | cons x xs ih =>
      intro t nodup
      obtain ⟨out, nodup⟩ := List.nodup_cons.1 nodup
      rw [List.foldl_cons, ih _ nodup]
      by_cases h : l = x
      · subst h
        simp [out, State.postLane]
      · simp [h, State.postLane, State.setLane_lane_ne _ h]
  exact (all allLanes s (by decide)).trans (if_pos (mem_allLanes l))

theorem State.reinitialised_lane (l : LaneId) :
    s.reinitialised.lane l = (s.lane l).reinitialised := by
  have rest : s.reinitialised.lane l = s.withoutJobs.lane l :=
    congrArg (fun v : Vector Lane 4 => v[l]) (s.withoutJobs_reinitialised_frame .lanes (by decide))
  have frame := State.changesOnly_then (c := [.slots, .sessions, .journal, .queues])
    s.cancelJobs_frame State.emptySessions_frame
  have before : s.cancelJobs.emptySessions.lane l = s.lane l :=
    congrArg (fun v : Vector Lane 4 => v[l]) (frame .lanes (by decide))
  rw [rest, State.withoutJobs, State.reinitialiseLanes_lane, before]

/-! ## The tables -/

theorem State.reinitialised_packs : s.reinitialised.packs = [] ∧ s.reinitialised.nextPack = 1 := by
  have frame := State.changesOnly_then (c := [.census, .forms, .discounts, .grants, .limits, .faults,
    .store, .queues]) (State.changesOnly_then (c := [.census, .forms, .discounts, .grants, .limits, .queues])
      (State.changesOnly_then (c := [.census, .forms, .queues])
        (State.haltCensus_frame s.withoutJobs.emptyPacks .storeReinitialise) State.emptyForms_frame)
      s.withoutStock_frame) s.withoutTerms_frame
  exact ⟨frame .packs (by decide), frame .nextPack (by decide)⟩

theorem State.reinitialised_form (f : Fin 8) : s.reinitialised.form f = .undefined := by
  have frame := State.changesOnly_then (c := [.discounts, .grants, .limits, .faults, .store, .queues])
    s.withoutStock_frame s.withoutTerms_frame
  have rest : s.reinitialised.forms = s.withoutStock.forms := frame .forms (by decide)
  rw [State.form, rest]
  simp [State.withoutStock, State.emptyForms, State.postForms, State.postOffice]

theorem State.reinitialised_discounts : s.reinitialised.discounts = emptyDiscounts := by
  have frame := State.changesOnly_then (c := [.grants, .limits, .faults, .store, .queues])
    (State.changesOnly_then (c := [.grants, .limits, .queues])
      (State.grantAll_frame (s := { s.withoutStock with discounts := emptyDiscounts }))
      (State.withLimits_frame .default)) s.withoutTerms_frame
  exact frame .discounts (by decide)

theorem State.reinitialised_limits : s.reinitialised.limits = .default :=
  s.withoutTerms_frame .limits (by decide)

theorem State.reinitialised_store : s.reinitialised.storeValid = true ∧
    s.reinitialised.checkAgrees = true := ⟨rfl, rfl⟩

theorem State.regrant_grants (w v : Window) (g : GrantSet) :
    (s.regrant w g).grants[v] = if v = w then g else s.grants[v] := by
  unfold State.regrant
  by_cases h : v = w
  · subst h
    split <;> simp
  · have : w.val ≠ v.val := fun e => h (Fin.ext e.symm)
    split <;> simp [this]

theorem State.grantAll_grants (w : Window) : s.grantAll.grants[w] = .all := by
  have all : ∀ (xs : List Window) (t : State), (xs.foldl (fun t w => t.regrant w .all) t).grants[w] =
      if w ∈ xs then .all else t.grants[w] := by
    intro xs
    induction xs with
    | nil => simp
    | cons x xs ih =>
      intro t
      rw [List.foldl_cons, ih, State.regrant_grants]
      by_cases h : w = x <;> by_cases h' : w ∈ xs <;> simp [h, h']
  exact (all allWindows s).trans (if_pos (mem_allWindows w))

theorem State.reinitialised_grants (w : Window) : s.reinitialised.grants[w] = .all := by
  have rest : s.reinitialised.grants = s.withoutTerms.grants :=
    s.withoutTerms_frame .grants (by decide)
  have granted : s.withoutTerms.grants =
      (State.grantAll { s.withoutStock with discounts := emptyDiscounts }).grants :=
    State.withLimits_frame .default .grants (by decide)
  rw [rest, granted, State.grantAll_grants]

theorem State.emptyFaults_faults : s.emptyFaults.faults =
    (s.faults.filter Report.isStoreLost).map fun r => r.leave .cleared .reinitialise s.stamp := rfl

theorem State.emptyFaults_faultCounter : s.emptyFaults.faultCounter = s.faultCounter := rfl

theorem State.reinitialised_faults : s.reinitialised.faults =
      (s.faults.filter Report.isStoreLost).map (fun r => r.leave .cleared .reinitialise s.stamp) ∧
    s.reinitialised.faultCounter = s.faultCounter := by
  have frame := s.reinitialise_withoutTerms_frame
  obtain ⟨faults, counter⟩ := frame .faults (by decide)
  have stamp : s.withoutTerms.stamp = s.stamp := by
    have clock : s.withoutTerms.clock = s.clock := frame .clock (by decide)
    have time : s.withoutTerms.runTime = s.runTime := frame .runTime (by decide)
    simp [State.stamp, State.clockStamp, clock, time]
  have last := State.changesOnly_then (c := [.store, .queues])
    (State.setStore_frame (s := s.withoutTerms.emptyFaults) true true)
    (State.postOffice_frame _ .storeChange .store)
  obtain ⟨faults', counter'⟩ := last .faults (by decide)
  rw [State.reinitialised_stages]
  refine ⟨faults'.trans ?_, counter'.trans ?_⟩
  · rw [State.emptyFaults_faults, faults, stamp]
  · rw [State.emptyFaults_faultCounter, counter]

theorem State.reinitialised_census : s.reinitialised.census =
    if s.census.state = .idle then s.census else s.census.stopped .storeReinitialise := by
  have frame := State.changesOnly_then (c := [.forms, .discounts, .grants, .limits, .faults, .store,
    .queues]) (State.changesOnly_then (c := [.forms, .discounts, .grants, .limits, .queues])
      (State.emptyForms_frame (s := s.withoutJobs.emptyPacks.haltCensus .storeReinitialise))
      s.withoutStock_frame) s.withoutTerms_frame
  have cleared := State.changesOnly_then
    (c := [.slots, .sessions, .journal, .lanes, .packs, .nextPack, .queues])
    (State.changesOnly_then (c := [.slots, .sessions, .journal, .lanes, .queues])
      (State.changesOnly_then (c := [.slots, .sessions, .journal, .queues]) s.cancelJobs_frame
        State.emptySessions_frame)
      State.reinitialiseLanes_frame) State.emptyPacks_frame
  have before : s.withoutJobs.emptyPacks.census = s.census := cleared .census (by decide)
  have rest : s.reinitialised.census = (s.withoutJobs.emptyPacks.haltCensus .storeReinitialise).census :=
    frame .census (by decide)
  rw [rest, State.haltCensus, before]
  split
  · exact before
  · rfl

end

/-! ## A start with the store VALID -/

section
variable (s : State) (l : LaneId)

theorem Run.powerOnSpoil (r : InFlight) (held : (s.lane l).inflight.isSome = true) :
    Run l s (s.powerOnSpoil l r) := by
  have lane : ((s.changeMark (s.mountedClass l) r.serial .spoiled).unreserve r.window
      r.reserved).lane l = s.lane l :=
    State.changeMark_lane s _ _ _ l
  have marked := Run.mark s l (s.mountedClass l) r.serial .spoiled
  have written := (marked.andThen (Run.unreserve _ l r.window r.reserved)).andThen
    (Move.entry _ r.window (r.spoilEntry (s.mountedClass l) ((s.lane l).pack.getD 0))
      (by rw [lane]; exact held) (by rw [lane]; rfl)).run
  exact ((written.andThen (Run.raiseLane _ l _ _)).andThen
    (Run.lane _ l _ (kept := by intro _ h; simp at h))).andThen
    (Run.feedAttempt _ l)

theorem Run.startMounted : Run l s (s.startMounted l) := by
  unfold State.startMounted
  split
  · exact Run.startPriming s l
  · rename_i r held
    exact Run.ite (Run.powerOnSpoil s l r (by simp [held]))
      (((Run.unreserve s l _ _).andThen (Run.lane _ l _ (kept := by intro _ h; simp at h))).andThen
        (Run.startPriming _ l))

theorem Run.reconcileCabinet : Run l s (s.reconcileCabinet l) := by
  unfold State.reconcileCabinet
  split
  · exact (Move.relocked s).run
  · exact Run.ite (Run.raiseCabinet s l) (Run.refl s)

/-- A lane's start is its sample and a run. -/
theorem State.startLane_run :
    Run l (s.setLane l ((s.lane l).started (s.mounted l))) (s.startLane l) := by
  unfold State.startLane
  dsimp only
  split
  · exact (Run.startMounted _ l).andThen (Run.reconcileCabinet _ l)
  · exact Run.reconcileCabinet _ l

/-- The state a start with the store VALID takes the lanes from. -/
def State.beforeLanes : State :=
  State.startPorts (State.startForms (State.startTill { s with storeValid := true }))

theorem State.startValid_eq : s.startValid = allLanes.foldl State.startLane s.beforeLanes := rfl

end

end Sys2Proof.Machine
end

section
/-! SUPPORT. The fault list's rule, source by source, and what keeps it: a report added, an occurrence
added, and a list whose reports are changed in place. -/

-- One proof at a time: the check's memory limit holds few threads.
set_option Elab.async false

namespace Sys2Proof.Machine

/-! ## The rule of one source's ACTIVE reports -/

/-- A source's reports among a list's that are ACTIVE. -/
def activeIn (list : List Report) (src : FaultSource) : List Report :=
  list.filter fun r => r.isActive && r.source == src

/-- What the ACTIVE reports of a source keep (10 R177, R178, R181). -/
def sourceOk : FaultSource → List Report → Prop
  | .lane _, a => a.length ≤ 2 ∧ (a.map Report.kind).Nodup ∧
      ∀ r ∈ a, r.kind = .cabinetOpen → r.lastOther ≠ none →
        a.length = 2 ∧ ∀ x ∈ a, r.lastOther ≠ some x.kind
  | .controller, a => (a.map Report.kind).Nodup

/-- The fault list's own rule. -/
def faultListOk (list : List Report) : Prop :=
  list.length ≤ Config.faultPlaces ∧ (list.map Report.number).Nodup ∧
    (∀ r ∈ list, 1 ≤ r.number ∧ r.number ≤ 65535 ∧ r.kindFits = true) ∧
    ∀ src, sourceOk src (activeIn list src)

theorem State.faultsHold_iff (s : State) : s.faultsHold ↔
    faultListOk s.faults ∧ 1 ≤ s.faultCounter ∧ s.faultCounter ≤ 65535 := by
  constructor
  · rintro ⟨places, nodup, each, lanes, controller, counter⟩
    refine ⟨⟨places, nodup, each, fun src => ?_⟩, counter⟩
    cases src with
    | lane l => exact lanes l
    | controller => exact controller
  · rintro ⟨⟨places, nodup, each, sources⟩, counter⟩
    exact ⟨places, nodup, each, fun l => sources (.lane l), sources .controller, counter⟩

theorem mem_activeIn {list : List Report} {src : FaultSource} {r : Report} :
    r ∈ activeIn list src ↔ r ∈ list ∧ r.isActive = true ∧ r.source = src := by
  simp [activeIn]

/-- A lane's ACTIVE reports are none, one, or two of distinct kinds. -/
theorem sourceOk_lane_iff {l : LaneId} {a : List Report} : sourceOk (.lane l) a ↔
    a = [] ∨ (∃ r, a = [r] ∧ (r.kind = .cabinetOpen → r.lastOther = none)) ∨
      ∃ r q, a = [r, q] ∧ r.kind ≠ q.kind ∧
        (r.kind = .cabinetOpen → r.lastOther ≠ some .cabinetOpen ∧ r.lastOther ≠ some q.kind) ∧
        (q.kind = .cabinetOpen → q.lastOther ≠ some .cabinetOpen ∧ q.lastOther ≠ some r.kind) := by
  match a with
  | [] => simp [sourceOk]
  | [r] => simp [sourceOk]
  | [r, q] =>
    simp only [sourceOk]
    constructor
    · rintro ⟨-, nodup, folded⟩
      refine .inr (.inr ⟨r, q, rfl, by simpa using nodup, fun cabinet => ?_, fun cabinet => ?_⟩)
      · have := fun h => (folded r (by simp) cabinet h).2
        cases other : r.lastOther with
        | none => simp
        | some k => simpa [other, cabinet] using this (by simp [other])
      · have := fun h => (folded q (by simp) cabinet h).2
        cases other : q.lastOther with
        | none => simp
        | some k => simpa [other, cabinet, and_comm] using this (by simp [other])
    · rintro (h | ⟨x, h, -⟩ | ⟨x, y, h, distinct, first, second⟩)
      · cases h
      · cases h
      · obtain ⟨rfl, rfl⟩ : r = x ∧ q = y := by simpa using h
        refine ⟨by simp, by simpa using distinct, fun x hx cabinet _ => ⟨rfl, fun y hy => ?_⟩⟩
        rcases List.mem_pair.1 hx with rfl | rfl <;> rcases List.mem_pair.1 hy with rfl | rfl
        · exact cabinet ▸ (first cabinet).1
        · exact (first cabinet).2
        · exact (second cabinet).2
        · exact cabinet ▸ (second cabinet).1
  | _ :: _ :: _ :: _ => simp [sourceOk]

/-! ## Reports changed in place -/

/-- What a change of a report leaves: its number, its source, and that it is not ACTIVE. -/
def keepsIdentity (f : Report → Report) : Prop :=
  ∀ r, (f r).number = r.number ∧ (f r).source = r.source ∧ ((f r).isActive = true → r.isActive = true)

theorem activeIn_map {f : Report → Report} (keeps : keepsIdentity f) (list : List Report)
    (src : FaultSource) : activeIn (list.map f) src = ((activeIn list src).map f).filter Report.isActive := by
  unfold activeIn
  induction list with
  | nil => rfl
  | cons r list ih =>
    obtain ⟨-, source, active⟩ := keeps r
    simp only [List.map_cons, List.filter_cons, source]
    by_cases h : r.isActive = true ∧ r.source = src
    · cases still : (f r).isActive <;> simp [h, still, ih]
    · rw [not_and_or] at h
      rcases h with h | h
      · have : (f r).isActive = false := by
          cases still : (f r).isActive
          · rfl
          · exact absurd (active still) h
        simp [h, this, ih]
      · simp [h, ih]

theorem faultListOk.map {list : List Report} {f : Report → Report} (h : faultListOk list)
    (keeps : keepsIdentity f) (fits : ∀ r ∈ list, (f r).kindFits = true)
    (sources : ∀ src, (∀ r ∈ activeIn list src, r.isActive = true ∧ r.source = src) →
      sourceOk src (activeIn list src) →
      sourceOk src (((activeIn list src).map f).filter Report.isActive)) :
    faultListOk (list.map f) := by
  obtain ⟨places, nodup, each, ok⟩ := h
  have numbers : (list.map f).map Report.number = list.map Report.number := by
    simp [List.map_map, Function.comp_def, fun r => (keeps r).1]
  refine ⟨by simpa using places, numbers ▸ nodup, fun r hr => ?_, fun src => ?_⟩
  · obtain ⟨q, hq, rfl⟩ := List.mem_map.1 hr
    rw [(keeps q).1]
    exact ⟨(each q hq).1, (each q hq).2.1, fits q hq⟩
  · rw [activeIn_map keeps]
    exact sources src (fun r hr => (mem_activeIn.1 hr).2) (ok src)

/-- A report's fields that the rule of its source reads. -/
def Report.ruled (r : Report) : FaultKind × Option FaultKind := (r.kind, r.lastOther)

theorem sourceOk_congr {src : FaultSource} {a b : List Report}
    (same : b.map Report.ruled = a.map Report.ruled) (h : sourceOk src a) : sourceOk src b := by
  have kinds : b.map Report.kind = a.map Report.kind := by
    have := congrArg (List.map Prod.fst) same
    simpa [List.map_map, Function.comp_def, Report.ruled] using this
  have length : b.length = a.length := by simpa using congrArg List.length same
  cases src with
  | controller => exact (congrArg List.Nodup kinds).mpr h
  | lane l =>
    obtain ⟨few, nodup, folded⟩ := h
    refine ⟨length ▸ few, kinds ▸ nodup, fun r hr cabinet other => ?_⟩
    obtain ⟨q, hq, e⟩ := List.mem_map.1 (same ▸ List.mem_map_of_mem (f := Report.ruled) hr)
    obtain ⟨kind, last⟩ : q.kind = r.kind ∧ q.lastOther = r.lastOther := by
      simpa [Report.ruled] using e
    obtain ⟨two, apart⟩ := folded q hq (kind ▸ cabinet) (last ▸ other)
    refine ⟨length ▸ two, fun x hx => ?_⟩
    obtain ⟨y, hy, e⟩ := List.mem_map.1 (kinds ▸ List.mem_map_of_mem (f := Report.kind) hx)
    exact last ▸ e ▸ apart y hy

/-- Reports that keep what the rule reads keep the rule. -/
theorem sourceOk_map {src : FaultSource} {a : List Report} {f : Report → Report}
    (active : ∀ r ∈ a, (f r).isActive = true) (same : ∀ r ∈ a, (f r).ruled = r.ruled)
    (h : sourceOk src a) : sourceOk src ((a.map f).filter Report.isActive) := by
  have all : (a.map f).filter Report.isActive = a.map f := by
    rw [List.filter_eq_self]
    intro r hr
    obtain ⟨q, hq, rfl⟩ := List.mem_map.1 hr
    exact active q hq
  rw [all]
  refine sourceOk_congr ?_ h
  rw [List.map_map]
  exact List.map_congr_left same

/-! ## A place made -/

theorem activeIn_cons (r : Report) (list : List Report) (src : FaultSource) :
    (activeIn (r :: list) src).length =
      (activeIn list src).length + if r.isActive = true ∧ r.source = src then 1 else 0 := by
  unfold activeIn
  rw [List.filter_cons]
  by_cases h : r.isActive = true ∧ r.source = src
  · simp [h]
  · rw [if_neg (by simpa using h), if_neg h, Nat.add_zero]

theorem length_active_le (list : List Report) : (list.filter Report.isActive).length ≤
    (activeIn list .controller).length + (activeIn list (.lane 0)).length +
      (activeIn list (.lane 1)).length + (activeIn list (.lane 2)).length +
      (activeIn list (.lane 3)).length := by
  induction list with
  | nil => simp
  | cons r list ih =>
    simp only [activeIn_cons]
    cases active : r.isActive with
    | false => simpa [active] using ih
    | true =>
      rw [List.filter_cons_of_pos (by exact active), List.length_cons]
      have one : r.source = .controller ∨ r.source = .lane 0 ∨ r.source = .lane 1 ∨
          r.source = .lane 2 ∨ r.source = .lane 3 := by
        cases r.source with
        | controller => simp
        | lane l => fin_cases l <;> simp
      rcases one with e | e | e | e | e <;> simp [e] <;> omega

theorem faultListOk.active_le {list : List Report} (h : faultListOk list) :
    (list.filter Report.isActive).length ≤ 10 := by
  obtain ⟨-, -, each, sources⟩ := h
  have lanes : ∀ l, (activeIn list (.lane l)).length ≤ 2 := fun l => (sources (.lane l)).1
  have controller : (activeIn list .controller).length ≤ 2 := by
    have nodup : ((activeIn list .controller).map Report.kind).Nodup := sources .controller
    have sub : (activeIn list .controller).map Report.kind ⊆ [.stockTableMismatch, .storeLost] := by
      intro k hk
      obtain ⟨r, hr, rfl⟩ := List.mem_map.1 hk
      obtain ⟨mem, -, source⟩ := mem_activeIn.1 hr
      simpa [Report.kindFits, source] using (each r mem).2.2
    simpa using (List.subperm_of_subset nodup sub).length_le
  have := length_active_le list
  linarith [lanes 0, lanes 1, lanes 2, lanes 3]

theorem mem_of_agedReport {list : List Report} {r : Report} (h : agedReport list = some r) :
    r ∈ list ∧ r.isActive = false := by
  unfold agedReport at h
  split at h
  · rename_i x found
    cases h
    have state := List.find?_some found
    exact ⟨List.mem_of_find?_eq_some found, by simp_all [Report.isActive]⟩
  · have state := List.find?_some h
    exact ⟨List.mem_of_find?_eq_some h, by simp_all [Report.isActive]⟩

theorem agedReport_eq_none {list : List Report} (h : agedReport list = none) :
    ∀ r ∈ list, r.isActive = true := by
  unfold agedReport at h
  split at h
  · cases h
  · rename_i acknowledged
    intro r hr
    have first := List.find?_eq_none.1 acknowledged r hr
    have second := List.find?_eq_none.1 h r hr
    cases state : r.state <;> simp_all [Report.isActive]

/-- The list with a place made in it (10 R178). -/
def agedList (list : List Report) : List Report :=
  if list.length < Config.faultPlaces then list
  else match agedReport list with
    | some r => list.erase r
    | none => list

theorem State.postReport_faults (s : State) (src : FaultSource) :
    (s.postReport src).faults = s.faults ∧ (s.postReport src).faultCounter = s.faultCounter :=
  State.changesOnly_same (s.postReport_frame src) .faults

theorem State.ageFaults_faults (s : State) :
    s.ageFaults.faults = agedList s.faults ∧ s.ageFaults.faultCounter = s.faultCounter := by
  unfold State.ageFaults agedList
  split
  · exact ⟨rfl, rfl⟩
  · cases agedReport s.faults with
    | some r => exact State.postReport_faults _ _
    | none => exact ⟨rfl, rfl⟩

theorem activeIn_erase {list : List Report} {r : Report} (loose : r.isActive = false)
    (src : FaultSource) : activeIn (list.erase r) src = activeIn list src := by
  unfold activeIn
  induction list with
  | nil => rfl
  | cons q list ih =>
    by_cases same : q = r
    · subst same
      simp [loose]
    · rw [List.erase_cons_tail (by simpa using same)]
      simp [List.filter_cons, ih]

theorem faultListOk.aged {list : List Report} (h : faultListOk list) :
    faultListOk (agedList list) ∧ (agedList list).length < Config.faultPlaces := by
  unfold agedList
  split
  · exact ⟨h, ‹_›⟩
  · rename_i full
    split
    · rename_i r found
      obtain ⟨mem, loose⟩ := mem_of_agedReport found
      obtain ⟨places, nodup, each, sources⟩ := h
      have shorter : (list.erase r).length = list.length - 1 := List.length_erase_of_mem mem
      have held := List.length_pos_of_mem mem
      have sub : (list.erase r).Sublist list := List.erase_sublist
      exact ⟨⟨sub.length_le.trans places, List.Nodup.sublist (sub.map _) nodup,
        fun q hq => each q (sub.subset hq), fun src => (activeIn_erase loose src).symm ▸ sources src⟩, by omega⟩
    · rename_i none
      have all : list.filter Report.isActive = list := List.filter_eq_self.2 (agedReport_eq_none none)
      have few := h.active_le
      rw [all] at few
      simp only [Config.faultPlaces] at full
      omega

/-- A report added at the end, its source's rule holding with it. -/
theorem faultListOk.add {list : List Report} {r : Report} (h : faultListOk list)
    (room : list.length < Config.faultPlaces) (fresh : r.number ∉ list.map Report.number)
    (low : 1 ≤ r.number) (high : r.number ≤ 65535) (fits : r.kindFits = true)
    (active : r.isActive = true) (rule : sourceOk r.source (activeIn list r.source ++ [r])) :
    faultListOk (list ++ [r]) := by
  obtain ⟨places, nodup, each, sources⟩ := h
  refine ⟨by simpa using room, ?_, fun q hq => ?_, fun src => ?_⟩
  · rw [List.map_append, List.nodup_append]
    refine ⟨nodup, by simp, fun a ha b hb same => fresh ?_⟩
    obtain rfl : b = r.number := by simpa using hb
    exact same ▸ ha
  · rcases List.mem_append.1 hq with hq | hq
    · exact each q hq
    · obtain rfl : q = r := by simpa using hq
      exact ⟨low, high, fits⟩
  · by_cases same : r.source = src
    · subst same
      simpa [activeIn, List.filter_append, active] using rule
    · simpa [activeIn, List.filter_append, same] using sources src

theorem activeIn_agedList (list : List Report) (src : FaultSource) :
    activeIn (agedList list) src = activeIn list src := by
  unfold agedList
  split
  · rfl
  · split
    · exact activeIn_erase (mem_of_agedReport ‹_›).2 src
    · rfl

/-! ## The operations on the fault list -/

section
variable {s : State} {l : LaneId}

theorem State.faultsHold_of_same {s t : State} (same : s.same t .faults) (h : s.faultsHold) :
    t.faultsHold := by
  rw [State.faultsHold_iff] at h ⊢
  rw [same.1, same.2]
  exact h

theorem State.changesOnly.faultsHold {s t : State} {a : List Part} (h : s.changesOnly t a)
    (hs : s.faultsHold) (out : .faults ∉ a := by decide) : t.faultsHold :=
  State.faultsHold_of_same (h .faults out) hs

theorem numberAfter_pos (n i : Nat) : 1 ≤ numberAfter n i := by
  unfold numberAfter
  omega

theorem nextNumber_range (n : Nat) : 1 ≤ nextNumber n ∧ nextNumber n ≤ 65535 := by
  unfold nextNumber
  split <;> omega

/-- A report added whose kind its source's rule admits (10 R176 to R178). -/
theorem State.addReport_faultsHold {src : FaultSource} {k : FaultKind} {primary : Option Nat}
    {c : FaultContext} (h : s.faultsHold)
    (fits : src = .controller → k = .stockTableMismatch ∨ k = .storeLost)
    (rule : ∀ r : Report, r.kind = k → r.lastOther = none →
      sourceOk src (activeIn s.faults src ++ [r])) :
    (s.addReport src k primary c).faultsHold := by
  obtain ⟨list, low, high⟩ := s.faultsHold_iff.1 h
  obtain ⟨aged, room⟩ := list.aged
  obtain ⟨i, number, fresh, -⟩ := freeNumber_first (taken := (agedList s.faults).map Report.number)
    (fuel := 65) low high (by simpa using room.trans (by decide)) (by decide)
  refine (State.postReport_frame _ _).faultsHold ?_
  rw [State.faultsHold_iff]
  simp only [s.ageFaults_faults.1, s.ageFaults_faults.2]
  refine ⟨aged.add room ?_ ?_ ?_ ?_ rfl ?_, nextNumber_range _⟩
  · simpa only [number] using fresh
  · simpa only [number] using numberAfter_pos _ _
  · simpa only [number] using numberAfter_le _ _
  · cases src with
    | lane l => simp [Report.kindFits]
    | controller => rcases fits rfl with rfl | rfl <;> simp [Report.kindFits]
  · simpa only [activeIn_agedList] using rule _ rfl rfl

/-- A list whose reports are changed in place, and the change posted. -/
theorem State.mapReports_faultsHold {f : Report → Report} (h : s.faultsHold)
    (list : faultListOk (s.faults.map f)) : (s.mapReports f).faultsHold :=
  (State.faultsHold_iff _).2 ⟨list, ((s.faultsHold_iff).1 h).2⟩

/-- A change of reports that keeps what the rule reads keeps the list's rule. -/
theorem faultListOk.map_ruled {list : List Report} {f : Report → Report} (h : faultListOk list)
    (keeps : ∀ r, (f r).number = r.number ∧ (f r).source = r.source ∧ (f r).state = r.state ∧
      (f r).ruled = r.ruled) : faultListOk (list.map f) := by
  have active : ∀ r, (f r).isActive = r.isActive := fun r => by simp [Report.isActive, (keeps r).2.2.1]
  have kind : ∀ r, (f r).kind = r.kind := fun r => by
    simpa [Report.ruled] using congrArg Prod.fst (keeps r).2.2.2
  refine h.map (fun r => ⟨(keeps r).1, (keeps r).2.1, fun a => active r ▸ a⟩) (fun r hr => ?_)
    fun src each ok => sourceOk_map (fun r hr => ?_) (fun r _ => (keeps r).2.2.2) ok
  · have := (h.2.2.1 r hr).2.2
    simpa [Report.kindFits, (keeps r).2.1, kind r] using this
  · rw [active r]
    exact (each r hr).1

/-- What an occurrence makes of a report (10 R177). -/
def occurred (n : Nat) (other : Option FaultKind) (r : Report) : Report :=
  if r.number = n then
    { r with occurrences := held255 (r.occurrences + 1), lastOther := other.or r.lastOther }
  else r

theorem State.addOccurrence_eq (src : FaultSource) (n : Nat) (other : Option FaultKind) :
    s.addOccurrence src n other = (s.mapReports (occurred n other)).postReport src := rfl

theorem occurred_keeps (n : Nat) (other : Option FaultKind) (r : Report) :
    (occurred n other r).number = r.number ∧ (occurred n other r).source = r.source ∧
      (occurred n other r).state = r.state ∧ (occurred n other r).kind = r.kind := by
  unfold occurred
  split <;> simp

theorem occurred_isActive (n : Nat) (other : Option FaultKind) (r : Report) :
    (occurred n other r).isActive = r.isActive := by
  simp [Report.isActive, (occurred_keeps n other r).2.2.1]

theorem occurred_kindFits (n : Nat) (other : Option FaultKind) (r : Report) :
    (occurred n other r).kindFits = r.kindFits := by
  obtain ⟨-, source, -, kind⟩ := occurred_keeps n other r
  simp [Report.kindFits, source, kind]

theorem occurred_lastOther (n : Nat) (other : Option FaultKind) (r : Report) :
    (occurred n other r).lastOther = r.lastOther ∨ (occurred n other r).lastOther = other := by
  unfold occurred
  split
  · cases other <;> simp
  · exact .inl rfl

theorem State.addOccurrence_faultsHold {src : FaultSource} {n : Nat} (h : s.faultsHold) :
    (s.addOccurrence src n none).faultsHold := by
  rw [State.addOccurrence_eq]
  refine (State.postReport_frame _ _).faultsHold (State.mapReports_faultsHold h ?_)
  refine (s.faultsHold_iff.1 h).1.map_ruled fun r => ?_
  obtain ⟨number, source, state, kind⟩ := occurred_keeps n none r
  refine ⟨number, source, state, ?_⟩
  rcases occurred_lastOther n none r with e | e
  · simp [Report.ruled, kind, e]
  · unfold occurred
    split <;> simp [Report.ruled]

/-- The last other kind of a lane's report set to a kind that neither of its two reports has. -/
theorem State.foldKind_faultsHold {k : FaultKind} {x r q : Report} (h : s.faultsHold)
    (two : activeIn s.faults (.lane l) = [r, q]) (named : x = r ∨ x = q) (hr : r.kind ≠ k)
    (hq : q.kind ≠ k) : (s.addOccurrence (.lane l) x.number (some k)).faultsHold := by
  rw [State.addOccurrence_eq]
  refine (State.postReport_frame _ _).faultsHold (State.mapReports_faultsHold h ?_)
  obtain ⟨list, -⟩ := s.faultsHold_iff.1 h
  have mem : x ∈ activeIn s.faults (.lane l) := by rw [two]; simpa using named
  obtain ⟨held, -, source⟩ := mem_activeIn.1 mem
  have unique : ∀ y ∈ s.faults, y.number = x.number → y = x := fun y hy =>
    List.inj_on_of_nodup_map list.2.1 hy held
  have fields := occurred_keeps x.number (some k)
  refine list.map (fun y => ⟨(fields y).1, (fields y).2.1, fun a => occurred_isActive _ _ y ▸ a⟩)
    (fun y hy => occurred_kindFits _ _ y ▸ (list.2.2.1 y hy).2.2) fun src each ok => ?_
  by_cases same : src = .lane l
  · subst same
    rw [two] at ok ⊢
    have hra : r.isActive = true := (each r (by simp [two])).1
    have hqa : q.isActive = true := (each q (by simp [two])).1
    have mapped : ([r, q].map (occurred x.number (some k))).filter Report.isActive =
        [occurred x.number (some k) r, occurred x.number (some k) q] := by
      simp [occurred_isActive, hra, hqa]
    rw [mapped]
    rw [sourceOk_lane_iff] at ok ⊢
    obtain ⟨distinct, first, second⟩ : r.kind ≠ q.kind ∧
        (r.kind = .cabinetOpen → r.lastOther ≠ some .cabinetOpen ∧ r.lastOther ≠ some q.kind) ∧
        (q.kind = .cabinetOpen → q.lastOther ≠ some .cabinetOpen ∧ q.lastOther ≠ some r.kind) := by
      rcases ok with e | ⟨y, e, -⟩ | ⟨y, z, e, rest⟩
      · cases e
      · cases e
      · obtain ⟨rfl, rfl⟩ : r = y ∧ q = z := by simpa using e
        exact rest
    refine .inr (.inr ⟨_, _, rfl, ?_, ?_, ?_⟩)
    all_goals rw [(fields r).2.2.2, (fields q).2.2.2]
    · exact distinct
    · intro cabinet
      rcases occurred_lastOther x.number (some k) r with e | e <;> rw [e]
      · exact first cabinet
      · exact ⟨fun e => hr (cabinet.trans (Option.some.inj e).symm), fun e => hq (Option.some.inj e).symm⟩
    · intro cabinet
      rcases occurred_lastOther x.number (some k) q with e | e <;> rw [e]
      · exact second cabinet
      · exact ⟨fun e => hq (cabinet.trans (Option.some.inj e).symm), fun e => hr (Option.some.inj e).symm⟩
  · refine sourceOk_map (fun y hy => occurred_isActive _ _ y ▸ (each y hy).1) (fun y hy => ?_) ok
    have other : y.number ≠ x.number := fun e => same
      ((each y hy).2.symm.trans (unique y (mem_activeIn.1 hy).1 e ▸ source))
    rw [occurred, if_neg other]

theorem State.raiseLane_faultsHold (k : FaultKind) (c : FaultContext) (h : s.faultsHold) :
    (s.raiseLane l k c).faultsHold := by
  have ok := (s.faultsHold_iff.1 h).1.2.2.2 (.lane l)
  unfold State.raiseLane
  dsimp only
  split
  · exact State.addOccurrence_faultsHold h
  · rename_i new
    have fresh : ∀ r ∈ activeIn s.faults (.lane l), r.kind ≠ k := fun r hr => by
      simpa using List.find?_eq_none.1 new r hr
    have ok := sourceOk_lane_iff.1 ok
    split
    · rename_i none
      refine State.addReport_faultsHold h (by simp) fun r _ other => ?_
      rw [show activeIn s.faults (.lane l) = [] from none]
      exact sourceOk_lane_iff.2 (.inr (.inl ⟨r, rfl, fun _ => other⟩))
    · rename_i q one
      have one : activeIn s.faults (.lane l) = [q] := one
      refine State.addReport_faultsHold h (by simp) fun r kind other => ?_
      rw [one] at ok fresh ⊢
      refine sourceOk_lane_iff.2 (.inr (.inr ⟨q, r, rfl, ?_, fun cabinet => ?_, fun _ => ?_⟩))
      · exact kind ▸ fresh q (by simp)
      · obtain e | ⟨x, e, folded⟩ | ⟨x, y, e, -⟩ := ok
        · cases e
        · obtain rfl : q = x := by simpa using e
          simp [folded cabinet]
        · cases e
      · simp [other]
    · rename_i r q rest more
      have more : activeIn s.faults (.lane l) = r :: q :: rest := more
      have two : activeIn s.faults (.lane l) = [r, q] := by
        rw [more] at ok ⊢
        obtain e | ⟨x, e, -⟩ | ⟨x, y, e, -⟩ := ok
        · cases e
        · cases e
        · simp_all
      have hr := fresh r (by simp [two])
      have hq := fresh q (by simp [two])
      split
      · exact State.foldKind_faultsHold h two (.inl rfl) hr hq
      · exact State.foldKind_faultsHold h two (.inr rfl) hr hq

theorem State.raiseController_faultsHold (k : FaultKind) (c : FaultContext) (h : s.faultsHold)
    (fits : k = .stockTableMismatch ∨ k = .storeLost) : (s.raiseController k c).faultsHold := by
  unfold State.raiseController
  split
  · exact State.addOccurrence_faultsHold h
  · rename_i new
    refine State.addReport_faultsHold h (fun _ => fits) fun r kind _ => ?_
    have nodup : ((activeIn s.faults .controller).map Report.kind).Nodup :=
      (s.faultsHold_iff.1 h).1.2.2.2 .controller
    change ((activeIn s.faults .controller ++ [r]).map Report.kind).Nodup
    rw [List.map_append, List.nodup_append]
    refine ⟨nodup, by simp, fun a ha b hb same => ?_⟩
    obtain ⟨q, hq, rfl⟩ := List.mem_map.1 ha
    obtain rfl : b = r.kind := by simpa using hb
    obtain ⟨held, active, source⟩ := mem_activeIn.1 hq
    exact List.find?_eq_none.1 new q held (by simp [active, source, same, kind])

/-- A change of a lane's reports that leaves the others as they are. -/
theorem State.mapLaneReports_faultsHold {f : Report → Report} (h : s.faultsHold)
    (keeps : keepsIdentity f) (other : ∀ r, r.source ≠ .lane l → f r = r)
    (rule : ∀ a, (∀ r ∈ a, r.isActive = true ∧ r.source = .lane l) → sourceOk (.lane l) a →
      sourceOk (.lane l) ((a.map f).filter Report.isActive)) : (s.mapReports f).faultsHold := by
  obtain ⟨list, -⟩ := s.faultsHold_iff.1 h
  refine State.mapReports_faultsHold h (list.map keeps (fun r hr => ?_) fun src each ok => ?_)
  · by_cases lane : r.source = .lane l
    · have : (f r).source = .lane l := (keeps r).2.1.trans lane
      simp [Report.kindFits, this]
    · rw [other r lane]
      exact (list.2.2.1 r hr).2.2
  · by_cases same : src = .lane l
    · subst same
      exact rule _ each ok
    · have still : ∀ r ∈ activeIn s.faults src, f r = r := fun r hr =>
        other r fun e => same ((each r hr).2.symm.trans e)
      exact sourceOk_map (fun r hr => (still r hr).symm ▸ (each r hr).1)
        (fun r hr => congrArg Report.ruled (still r hr)) ok

theorem State.promote_faultsHold (h : s.faultsHold) : (s.promote l).faultsHold := by
  unfold State.promote
  split
  · exact h
  · refine State.mapReports_faultsHold h ((s.faultsHold_iff.1 h).1.map_ruled fun r => ?_)
    split <;> simp [Report.ruled]

theorem State.countRefusal_faultsHold (h : s.faultsHold) : (s.countRefusal l).faultsHold := by
  unfold State.countRefusal
  split
  · refine (State.postReport_frame _ _).faultsHold
      (State.mapReports_faultsHold h ((s.faultsHold_iff.1 h).1.map_ruled fun r => ?_))
    split <;> simp [Report.ruled]
  · exact h

theorem Report.relock_of_other {r : Report} {x : Stamp} (h : r.kind ≠ .cabinetOpen) :
    r.relock l x = r := by
  rcases r.relock_cases l x with ⟨e, -⟩ | ⟨-, -, cabinet, -⟩
  · exact e
  · exact absurd cabinet h

/-- A lane's CABINET_OPEN report taken at a relock: it leaves ACTIVE, or takes its last other kind. -/
theorem Report.relock_of_cabinet {r : Report} {x : Stamp} (each : r.isActive = true ∧ r.source = .lane l)
    (cabinet : r.kind = .cabinetOpen) : (r.relock l x).isActive = false ∨
      ((r.relock l x).isActive = true ∧ r.lastOther = some (r.relock l x).kind ∧
        (r.relock l x).lastOther = none) := by
  rcases r.relock_cases l x with ⟨-, not⟩ | ⟨active, -, -, ⟨-, e⟩ | ⟨k, last, e⟩⟩
  · exact absurd ⟨each.1, each.2, cabinet⟩ not
  · exact .inl (by simp [e, Report.leave, Report.isActive])
  · exact .inr (by simp_all [Report.isActive])

/-- A relock keeps the rule of its lane's reports. -/
theorem sourceOk_relock {x : Stamp} {a : List Report}
    (each : ∀ r ∈ a, r.isActive = true ∧ r.source = .lane l) (ok : sourceOk (.lane l) a) :
    sourceOk (.lane l) ((a.map fun r => r.relock l x).filter Report.isActive) := by
  rw [sourceOk_lane_iff] at ok ⊢
  obtain rfl | ⟨r, rfl, folded⟩ | ⟨r, q, rfl, distinct, first, second⟩ := ok
  · exact .inl rfl
  · have active := (each r (by simp)).1
    by_cases cabinet : r.kind = .cabinetOpen
    · rcases Report.relock_of_cabinet (x := x) (each r (by simp)) cabinet with gone | ⟨-, last, -⟩
      · exact .inl (by simp [gone])
      · rw [folded cabinet] at last
        cases last
    · exact .inr (.inl ⟨r, by simp [Report.relock_of_other cabinet, active], folded⟩)
  · have hr := each r (by simp)
    have hq := each q (by simp)
    by_cases rc : r.kind = .cabinetOpen
    · have qo : q.kind ≠ .cabinetOpen := fun e => distinct (rc.trans e.symm)
      have still := Report.relock_of_other (l := l) (x := x) qo
      rcases Report.relock_of_cabinet (x := x) hr rc with gone | ⟨active, last, none⟩
      · exact .inr (.inl ⟨q, by simp [gone, still, hq.1], fun e => absurd e qo⟩)
      · refine .inr (.inr ⟨r.relock l x, q, by simp [active, still, hq.1], fun e => ?_,
          fun _ => by simp [none], fun e => absurd e qo⟩)
        exact (first rc).2 (last.trans (congrArg some e))
    · have still := Report.relock_of_other (l := l) (x := x) rc
      by_cases qc : q.kind = .cabinetOpen
      · rcases Report.relock_of_cabinet (x := x) hq qc with gone | ⟨active, last, none⟩
        · exact .inr (.inl ⟨r, by simp [gone, still, hr.1], fun e => absurd e rc⟩)
        · refine .inr (.inr ⟨r, q.relock l x, by simp [active, still, hr.1], fun e => ?_,
            fun e => absurd e rc, fun _ => by simp [none]⟩)
          exact (second qc).2 (last.trans (congrArg some e.symm))
      · have still' := Report.relock_of_other (l := l) (x := x) qc
        exact .inr (.inr ⟨r, q, by simp [still, still', hr.1, hq.1], distinct, first, second⟩)

/-- A recovery of an ACTIVE report of its lane: a CABINET_OPEN one stands without a last other kind, and
any other leaves ACTIVE. -/
theorem Report.recover_active {r : Report} {how : HowCleared} {x : Stamp}
    (each : r.isActive = true ∧ r.source = .lane l) :
    if r.kind = .cabinetOpen then (r.recover l how x).isActive = true ∧
      (r.recover l how x).lastOther = none
    else (r.recover l how x).isActive = false := by
  obtain ⟨active, source⟩ := each
  by_cases cabinet : r.kind = .cabinetOpen
  · rw [if_pos cabinet]
    unfold Report.recover
    rw [if_pos (by simp [active, source]), if_pos cabinet]
    exact ⟨active, rfl⟩
  · rw [if_neg cabinet]
    unfold Report.recover
    rw [if_pos (by simp [active, source]), if_neg cabinet]
    rfl

/-- A recovery keeps the rule of its lane's reports. -/
theorem sourceOk_recover {how : HowCleared} {x : Stamp} {a : List Report}
    (each : ∀ r ∈ a, r.isActive = true ∧ r.source = .lane l) (ok : sourceOk (.lane l) a) :
    sourceOk (.lane l) ((a.map fun r => r.recover l how x).filter Report.isActive) := by
  have left := fun r hr => Report.recover_active (how := how) (x := x) (each r hr)
  rw [sourceOk_lane_iff] at ok ⊢
  obtain rfl | ⟨r, rfl, folded⟩ | ⟨r, q, rfl, distinct, first, second⟩ := ok
  · exact .inl rfl
  · have hr := left r (by simp)
    by_cases cabinet : r.kind = .cabinetOpen
    · rw [if_pos cabinet] at hr
      exact .inr (.inl ⟨_, by simp [hr.1], fun _ => hr.2⟩)
    · rw [if_neg cabinet] at hr
      exact .inl (by simp [hr])
  · have hr := left r (by simp)
    have hq := left q (by simp)
    by_cases rc : r.kind = .cabinetOpen
    · rw [if_pos rc] at hr
      rw [if_neg fun e => distinct (rc.trans e.symm)] at hq
      exact .inr (.inl ⟨_, by simp [hr.1, hq], fun _ => hr.2⟩)
    · rw [if_neg rc] at hr
      by_cases qc : q.kind = .cabinetOpen
      · rw [if_pos qc] at hq
        exact .inr (.inl ⟨_, by simp [hr, hq.1], fun _ => hq.2⟩)
      · rw [if_neg qc] at hq
        exact .inl (by simp [hr, hq])

theorem State.selfClear_faultsHold (h : s.faultsHold) : (s.selfClear l).faultsHold := by
  unfold State.selfClear
  split
  · refine (State.postReport_frame _ _).faultsHold (State.promote_faultsHold
      (State.mapLaneReports_faultsHold (l := l) h (fun r => ?_) (fun r other => ?_)
        fun a each ok => ?_))
    · rcases r.relock_cases l s.stamp with ⟨e, -⟩ | ⟨_, -, -, ⟨-, e⟩ | ⟨k, -, e⟩⟩ <;>
        rw [e] <;> simp_all [Report.leave]
    · rcases r.relock_cases l s.stamp with ⟨e, -⟩ | ⟨-, source, -⟩
      · exact e
      · exact absurd source other
    · exact sourceOk_relock each ok
  · exact h

theorem State.recoverReports_faultsHold (how : HowCleared) (h : s.faultsHold) :
    (s.recoverReports l how).faultsHold := by
  refine State.mapLaneReports_faultsHold (l := l) h (fun r => ?_) (fun r other => ?_)
    fun a each ok => ?_
  · unfold Report.recover
    split
    · split <;> simp_all [Report.leave]
    · simp
  · simp [Report.recover, other]
  · exact sourceOk_recover each ok

theorem State.clearByWithdrawal_faultsHold (h : s.faultsHold) :
    (s.clearByWithdrawal l).faultsHold := by
  unfold State.clearByWithdrawal
  split
  · exact h
  · refine (State.postOffice_frame _ _ _).faultsHold
      (State.mapLaneReports_faultsHold (l := l) h (fun r => ?_) (fun r other => ?_)
        fun a each ok => ?_)
    · split <;> simp_all [Report.leave]
    · simp [other]
    · have none : ((a.map fun r => if (r.isActive && r.source == .lane l) = true then
          r.leave .cleared .withdraw s.stamp else r).filter Report.isActive) = [] := by
        rw [List.filter_eq_nil_iff]
        intro r hr
        obtain ⟨q, hq, rfl⟩ := List.mem_map.1 hr
        obtain ⟨active, source⟩ := each q hq
        rw [if_pos (by simp [active, source])]
        simp [Report.leave, Report.isActive]
      rw [none]
      exact sourceOk_lane_iff.2 (.inl rfl)

/-- An acknowledgment: the report leaves ACTIVE, and its source's others stand (10 R187). -/
theorem State.acknowledge_faultsHold (n : Nat) {r : Report} (h : s.faultsHold)
    (found : s.faults.find? (fun r => r.number == n) = some r) (loose : r.stillActive = false) :
    (s.mapReports fun q => if q.number = n then q.acknowledge s.stamp else q).faultsHold := by
  obtain ⟨list, -⟩ := s.faultsHold_iff.1 h
  have number : r.number = n := by simpa using List.find?_some found
  have held := List.mem_of_find?_eq_some found
  have unique : ∀ y ∈ s.faults, y.number = n → y = r := fun y hy e =>
    List.inj_on_of_nodup_map list.2.1 hy held (e.trans number.symm)
  have acked : ∀ q : Report, (q.acknowledge s.stamp).number = q.number ∧
      (q.acknowledge s.stamp).source = q.source ∧ (q.acknowledge s.stamp).kind = q.kind ∧
      (q.acknowledge s.stamp).isActive = false := fun q => by
    unfold Report.acknowledge
    split <;> simp_all [Report.leave, Report.isActive]
  refine State.mapReports_faultsHold h (list.map (fun q => ?_) (fun q hq => ?_) fun src each ok => ?_)
  · split
    · exact ⟨(acked q).1, (acked q).2.1, fun a => absurd a (by simp [(acked q).2.2.2])⟩
    · exact ⟨rfl, rfl, id⟩
  · have fits := (list.2.2.1 q hq).2.2
    split
    · simpa [Report.kindFits, (acked q).2.1, (acked q).2.2.1] using fits
    · exact fits
  · cases src with
    | lane l =>
      have still : ∀ q ∈ activeIn s.faults (.lane l),
          (if q.number = n then q.acknowledge s.stamp else q) = q := fun q hq => by
        refine if_neg fun e => ?_
        obtain ⟨active, source⟩ := each q hq
        obtain rfl := unique q (mem_activeIn.1 hq).1 e
        simp [Report.stillActive, active, source] at loose
      exact sourceOk_map (fun q hq => (still q hq).symm ▸ (each q hq).1)
        (fun q hq => congrArg Report.ruled (still q hq)) ok
    | controller =>
      change List.Nodup _
      refine List.Nodup.sublist (List.Sublist.trans (List.Sublist.map _ List.filter_sublist) ?_)
        (show ((activeIn s.faults .controller).map Report.kind).Nodup from ok)
      rw [List.map_map]
      refine (List.map_congr_left fun q _ => ?_).symm ▸ List.Sublist.refl _
      simp only [Function.comp_apply]
      split
      · exact (acked q).2.2.1
      · rfl

theorem Move.faultsHold {t : State} (m : Move l s t) (h : s.faultsHold) : t.faultsHold := by
  cases m with
  | raised k c => exact State.raiseLane_faultsHold k c h
  | relocked => exact State.selfClear_faultsHold h
  | recovered how => exact (State.postReport_frame _ _).faultsHold (State.recoverReports_faultsHold how h)
  | counted => exact State.countRefusal_faultsHold h
  | lane f => exact (s.moveLane_frame l f).faultsHold h
  | told => exact s.reportEligible_frame.faultsHold h
  | slot w k x => exact (s.setSlot_frame w k x).faultsHold h
  | outcome w k o => exact (s.postOutcome_frame w k o).faultsHold h
  | form f x => exact (s.setForm_frame f x).faultsHold h
  | applied f => exact (State.postOffice_frame _ _ _).faultsHold ((s.setForm_frame f _).faultsHold h)
  | mark cls serial new => exact (s.changeMark_frame cls serial new).faultsHold h
  | entry w d => exact (s.writeEntry_frame w d).faultsHold h
  | reserved w n m => exact State.faultsHold_of_same ⟨rfl, rfl⟩ h

theorem State.storeVerdict_faultsHold (p : Pack) (v : Verdict) (h : s.faultsHold) :
    (s.storeVerdict p v).faultsHold := by
  have packs := fun f => (s.updatePack_frame p.number f).faultsHold h
  cases v with
  | none => exact h
  | matched => exact packs _
  | mismatch => exact State.raiseController_faultsHold _ _ (packs _) (.inl rfl)

theorem State.withdrawLane_faultsHold (p : Pack) (m : WithdrawMode) (h : s.faultsHold) :
    (s.withdrawLane l p m).faultsHold := by
  have released := (s.releaseLane_frame l p m).faultsHold h
  exact (State.postLane_frame _ l).faultsHold ((State.postOffice_frame _ _ _).faultsHold
    (State.clearByWithdrawal_faultsHold released))

theorem State.emptyFaults_faultsHold (h : s.faultsHold) : s.emptyFaults.faultsHold := by
  refine (State.postOffice_frame _ _ _).faultsHold ?_
  rw [State.faultsHold_iff] at h ⊢
  obtain ⟨⟨places, nodup, each, -⟩, counter⟩ := h
  have sub : (s.faults.filter Report.isStoreLost).Sublist s.faults := List.filter_sublist
  refine ⟨⟨?_, ?_, fun r hr => ?_, fun src => ?_⟩, counter⟩
  · simpa using sub.length_le.trans places
  · rw [List.map_map]
    exact List.Nodup.sublist (sub.map Report.number) nodup
  · obtain ⟨q, hq, rfl⟩ := List.mem_map.1 hr
    exact each q (sub.subset hq)
  · have none : activeIn ((s.faults.filter Report.isStoreLost).map fun r =>
        r.leave .cleared .reinitialise s.stamp) src = [] := by
      unfold activeIn
      rw [List.filter_eq_nil_iff]
      intro r hr
      obtain ⟨q, -, rfl⟩ := List.mem_map.1 hr
      simp [Report.leave, Report.isActive]
    rw [none]
    cases src <;> simp [sourceOk]

theorem State.reinitialised_faultsHold (h : s.faultsHold) : s.reinitialised.faultsHold :=
  State.faultsHold_of_same (s := s.emptyFaults) s.reinitialised_faults (State.emptyFaults_faultsHold h)

theorem Deed.faultsHold {c : Instr} {a : List Part} {t : State} (d : Deed c a s t)
    (h : s.faultsHold) : t.faultsHold := by
  by_cases touched : Part.faults ∈ a
  swap
  · exact State.faultsHold_of_same (d.frame .faults touched) h
  cases d with
  | move use l m => exact m.faultsHold h
  | packReleased use mounts _ l p m => exact State.withdrawLane_faultsHold p m h
  | verdict use _ p v => exact State.storeVerdict_faultsHold p v h
  | acknowledged _ n r found loose =>
    exact (State.postReport_frame _ _).faultsHold (State.acknowledge_faultsHold n h found loose)
  | reinitialised own use => exact State.reinitialised_faultsHold h
  | _ => exact absurd touched (by decide)

theorem deedsAfter.faultsHold {c : Instr} {t : State} (d : deedsAfter c s t) (h : s.faultsHold) :
    t.faultsHold := by
  obtain ⟨u, queues, deeds⟩ := d
  exact deeds.keeps (fun _ _ _ => Deed.faultsHold) (queues.faultsHold h)

theorem State.startLane_faultsHold (l : LaneId) (h : s.faultsHold) : (s.startLane l).faultsHold :=
  (s.startLane_run l).keeps (fun _ _ => Move.faultsHold) ((s.setLane_frame l _).faultsHold h)

theorem State.startLanes_faultsHold : ∀ (xs : List LaneId) {s : State}, s.faultsHold →
    (xs.foldl State.startLane s).faultsHold
  | [], _, h => h
  | x :: xs, _, h => State.startLanes_faultsHold xs (State.startLane_faultsHold x h)

theorem State.faultsHold_of_empty (empty : s.faults = []) (counter : s.faultCounter = 1) :
    s.faultsHold := by
  rw [State.faultsHold_iff, empty, counter]
  refine ⟨⟨by simp, by simp, by simp, fun src => ?_⟩, by simp, by simp⟩
  cases src <;> simp [sourceOk, activeIn]

theorem exec_powerOn_faultsHold {t : State} (h : s.faultsHold) (run : exec .powerOn s = .next t) :
    t.faultsHold := by
  cases run
  dsimp only
  split
  · refine State.startLanes_faultsHold allLanes ?_
    exact (State.startPorts_frame _).faultsHold ((State.startForms_frame _).faultsHold
      (State.faultsHold_of_same (s := s) ⟨rfl, rfl⟩ h))
  · refine (State.startPorts_frame _).faultsHold ((State.postOffice_frame _ _ _).faultsHold ?_)
    exact State.raiseController_faultsHold _ _ (State.faultsHold_of_empty rfl rfl) (.inr rfl)

theorem exec_faultsHold {c : Instr} {t : State} (h : s.faultsHold) (run : exec c s = .next t) :
    t.faultsHold := by
  by_cases power : isPower c = false
  · exact (exec_deeds power run).faultsHold h
  · cases c
    case powerOn => exact exec_powerOn_faultsHold h run
    case supplyLoss => cases run; exact State.faultsHold_of_same (s := s) ⟨rfl, rfl⟩ h
    all_goals exact absurd rfl power

end

/-- Settles O55: every deed of a command keeps the list by `Deed.faultsHold`, its one hard case being an
occurrence folded into a report and the relock that gives the report that kind. -/
theorem faultListStaysConsistent : Obligations.FaultListStaysConsistent := by
  unfold Obligations.FaultListStaysConsistent
  intro s t
  exact step_keeps (P := State.faultsHold) (fun _ _ h => h) fun c s t hs run => exec_faultsHold hs run

end Sys2Proof.Machine
end

section
/-! SUPPORT. The stock: a mark changed in its pack, what a command's deeds make of a pack (`PackStep`),
and the stock's rule kept by every deed. -/

-- One proof at a time: the check's memory limit holds few threads.
set_option Elab.async false

namespace Sys2Proof.Machine

/-! ## One mark changed -/

theorem MarkCounts.get_set_self (c : MarkCounts) (m : Mark) (n : Nat) : (c.set m n).get m = n := by
  cases m <;> rfl

theorem MarkCounts.get_set_ne (c : MarkCounts) {m k : Mark} (h : k ≠ m) (n : Nat) :
    (c.set m n).get k = c.get k := by
  cases m <;> cases k <;> first | rfl | exact absurd rfl h

theorem Pack.wf_iff (p : Pack) : p.wf = true ↔ p.marks.length = p.count ∧
    ∀ m, p.counters.get m = p.marks.count m := by
  simp only [Pack.wf, Bool.and_eq_true, beq_iff_eq, List.all_eq_true]
  refine and_congr_right fun _ => ⟨fun h m => ?_, fun h m _ => h m⟩
  exact h m (by cases m <;> decide)

theorem markEdge_ne {old new : Mark} (h : markEdge old new = true) : new ≠ old := by
  rintro rfl
  cases new <;> cases h

theorem Pack.markOf_eq_some {p : Pack} {n : Nat} {m : Mark} (h : p.markOf n = some m) :
    p.inRange n = true ∧ n - p.first < p.marks.length ∧ p.marks[n - p.first]? = some m := by
  unfold Pack.markOf at h
  split at h
  · exact ⟨‹_›, (List.getElem?_eq_some_iff.1 h).1, h⟩
  · cases h

/-- A mark change keeps the counters counting the marks (05 R93). -/
theorem Pack.remark_wf {p : Pack} {n : Nat} {old new : Mark} (held : p.markOf n = some old)
    (edge : markEdge old new = true) (wf : p.wf = true) : (p.remark n old new).wf = true := by
  obtain ⟨-, inside, mark⟩ := Pack.markOf_eq_some held
  have ne := markEdge_ne edge
  rw [Pack.wf_iff] at wf ⊢
  obtain ⟨length, counts⟩ := wf
  have here : p.marks[n - p.first] = old := by simpa [List.getElem?_eq_getElem inside] using mark
  have some_old : 0 < p.marks.count old := List.count_pos_iff.2 (here ▸ List.getElem_mem inside)
  refine ⟨by simpa [Pack.remark] using length, fun m => ?_⟩
  change ((p.counters.lower old).raise new).get m = (p.marks.set (n - p.first) new).count m
  rw [List.count_set inside, here, MarkCounts.raise, MarkCounts.lower]
  by_cases hn : m = new
  · subst hn
    rw [MarkCounts.get_set_self, MarkCounts.get_set_ne _ ne, counts]
    simp [ne.symm]
  · rw [MarkCounts.get_set_ne _ hn]
    by_cases ho : m = old
    · subst ho
      rw [MarkCounts.get_set_self, counts]
      simp [ne]
    · rw [MarkCounts.get_set_ne _ ho, counts]
      simp [Ne.symm hn, Ne.symm ho]

theorem Pack.remark_markOf {p : Pack} {n : Nat} {old new : Mark} (held : p.markOf n = some old)
    (r : Nat) : (p.remark n old new).markOf r = if r = n then some new else p.markOf r := by
  obtain ⟨range, inside, -⟩ := Pack.markOf_eq_some held
  have same : (p.remark n old new).inRange r = p.inRange r := rfl
  by_cases here : r = n
  · subst here
    rw [if_pos rfl, Pack.markOf, same, if_pos range]
    simp [Pack.remark, inside]
  · rw [if_neg here, Pack.markOf, Pack.markOf, same]
    split
    · rename_i range'
      have ne : n - p.first ≠ r - p.first := by
        simp only [Pack.inRange, Bool.and_eq_true, decide_eq_true_eq] at range range'
        omega
      simp [Pack.remark, List.getElem?_set_ne ne]
    · rfl

/-! ## What a command makes of a pack -/

/-- How a command may move one mark. -/
def markStep (use : StockUse) (a b : Option Mark) : Prop :=
  b = a ∨
    (use = .marks ∧ a = some .unused ∧ b ∈ [some Mark.issued, some .spoiled, some .advanced,
      some .missing, some .returned]) ∨
    (use = .voids ∧ a = some .issued ∧ b = some .voided)

theorem markStep_trans {use : StockUse} {a b c : Option Mark} (h : markStep use a b)
    (h' : markStep use b c) : markStep use a c := by
  rcases h with rfl | ⟨use', rfl, given⟩ | ⟨use', rfl, rfl⟩
  · exact h'
  · rcases h' with rfl | ⟨-, rfl, -⟩ | ⟨other, -⟩
    · exact .inr (.inl ⟨use', rfl, given⟩)
    · simp at given
    · rw [use'] at other
      cases other
  · rcases h' with rfl | ⟨-, other, -⟩ | ⟨-, other, -⟩
    · exact .inr (.inr ⟨use', rfl, rfl⟩)
    · cases other
    · cases other

/-- A mark that has moved moves no further in the same command. -/
theorem markStep_final {use : StockUse} {a b c : Option Mark} (h : markStep use a b)
    (h' : markStep use b c) (moved : b ≠ a) : c = b := by
  rcases h with rfl | ⟨use', rfl, given⟩ | ⟨use', rfl, rfl⟩
  · exact absurd rfl moved
  · rcases h' with rfl | ⟨-, rfl, -⟩ | ⟨other, -⟩
    · rfl
    · simp at given
    · rw [use'] at other
      cases other
  · rcases h' with rfl | ⟨-, other, -⟩ | ⟨-, other, -⟩
    · rfl
    · cases other
    · cases other

/-- What a command makes of one pack that stays in the table. -/
structure PackStep (use : StockUse) (p q : Pack) : Prop where
  number : q.number = p.number
  cls : q.cls = p.cls
  first : q.first = p.first
  count : q.count = p.count
  excluded : q.excluded = p.excluded
  marks : ∀ n, markStep use (p.markOf n) (q.markOf n)
  sequence : p.sequence ≤ q.sequence
  still : use ≠ .marks → use ≠ .voids → q.marks = p.marks
  moved : q.marks ≠ p.marks → p.sequence < q.sequence ∧ q.verdict = .none
  verdict : use ≠ .counts → q.verdict = p.verdict ∨ q.verdict = .none
  wf : p.wf = true → q.wf = true

theorem PackStep.refl (use : StockUse) (p : Pack) : PackStep use p p :=
  ⟨rfl, rfl, rfl, rfl, rfl, fun _ => .inl rfl, le_refl _, fun _ _ => rfl, fun h => absurd rfl h,
    fun _ => .inl rfl, id⟩

theorem PackStep.trans {use : StockUse} {p q r : Pack} (h : PackStep use p q) (h' : PackStep use q r) :
    PackStep use p r where
  number := h'.number.trans h.number
  cls := h'.cls.trans h.cls
  first := h'.first.trans h.first
  count := h'.count.trans h.count
  excluded := h'.excluded.trans h.excluded
  marks n := markStep_trans (h.marks n) (h'.marks n)
  sequence := h.sequence.trans h'.sequence
  still a b := (h'.still a b).trans (h.still a b)
  moved := by
    intro differ
    by_cases last : r.marks = q.marks
    · obtain ⟨raised, none⟩ := h.moved (last ▸ differ)
      refine ⟨raised.trans_le h'.sequence, ?_⟩
      have marking : use ≠ .counts := by
        rintro rfl
        exact (last ▸ differ) (h.still (by decide) (by decide))
      rcases h'.verdict marking with e | e
      · exact e.trans none
      · exact e
    · obtain ⟨raised, none⟩ := h'.moved last
      exact ⟨h.sequence.trans_lt raised, none⟩
  verdict a := by
    rcases h'.verdict a with e | e
    · rw [e]
      exact h.verdict a
    · exact .inr e
  wf := h'.wf ∘ h.wf

/-- A pack of which nothing that a pack step speaks of has changed. -/
theorem PackStep.of_fields {use : StockUse} {p q : Pack} (number : q.number = p.number)
    (cls : q.cls = p.cls) (first : q.first = p.first) (count : q.count = p.count)
    (excluded : q.excluded = p.excluded) (marks : q.marks = p.marks)
    (counters : q.counters = p.counters) (sequence : q.sequence = p.sequence)
    (verdict : use ≠ .counts → q.verdict = p.verdict) : PackStep use p q where
  number := number
  cls := cls
  first := first
  count := count
  excluded := excluded
  marks n := .inl (by simp [Pack.markOf, Pack.inRange, first, count, marks])
  sequence := sequence.symm.le
  still _ _ := marks
  moved differ := absurd marks differ
  verdict a := .inl (verdict a)
  wf := by
    rw [Pack.wf_iff, Pack.wf_iff, marks, counters, count]
    exact id

theorem PackStep.remark {use : StockUse} {p : Pack} {n : Nat} {old new : Mark}
    (held : p.markOf n = some old) (edge : markEdge old new = true)
    (step : markStep use (some old) (some new)) (marking : use = .marks ∨ use = .voids) :
    PackStep use p (p.remark n old new) where
  number := rfl
  cls := rfl
  first := rfl
  count := rfl
  excluded := rfl
  marks r := by
    rw [Pack.remark_markOf held]
    split
    · subst r
      rwa [held]
    · exact .inl rfl
  sequence := Nat.le_succ _
  still a b := by rcases marking with e | e <;> contradiction
  moved _ := ⟨Nat.lt_succ_self _, rfl⟩
  verdict _ := .inr rfl
  wf := Pack.remark_wf held edge

/-! ## The pack table -/

/-- What a command makes of the pack table: each pack has stepped from one that stood in it, or was added;
and none left but by a removal. -/
def packsStep (use : StockUse) (a b : List Pack) : Prop :=
  (∀ q ∈ b, (∃ p ∈ a, PackStep use p q) ∨ (use = .adds ∧ ∀ p ∈ a, p.number ≠ q.number)) ∧
    (use ≠ .removes → ∀ p ∈ a, ∃ q ∈ b, PackStep use p q)

theorem packsStep_refl (use : StockUse) (a : List Pack) : packsStep use a a :=
  ⟨fun q hq => .inl ⟨q, hq, PackStep.refl use q⟩, fun _ p hp => ⟨p, hp, PackStep.refl use p⟩⟩

theorem packsStep_trans {use : StockUse} {a b c : List Pack} (h : packsStep use a b)
    (h' : packsStep use b c) : packsStep use a c := by
  refine ⟨fun r hr => ?_, fun kept p hp => ?_⟩
  · rcases h'.1 r hr with ⟨q, hq, step'⟩ | ⟨adds, fresh⟩
    · rcases h.1 q hq with ⟨p, hp, step⟩ | ⟨adds, fresh⟩
      · exact .inl ⟨p, hp, step.trans step'⟩
      · exact .inr ⟨adds, fun p hp => step'.number ▸ fresh p hp⟩
    · refine .inr ⟨adds, fun p hp => ?_⟩
      obtain ⟨q, hq, step⟩ := h.2 (by rw [adds]; decide) p hp
      exact step.number ▸ fresh q hq
  · obtain ⟨q, hq, step⟩ := h.2 kept p hp
    obtain ⟨r, hr, step'⟩ := h'.2 kept q hq
    exact ⟨r, hr, step.trans step'⟩

theorem packsStep_map {use : StockUse} {a : List Pack} {f : Pack → Pack}
    (each : ∀ p ∈ a, PackStep use p (f p)) : packsStep use a (a.map f) := by
  refine ⟨fun q hq => ?_, fun _ p hp => ⟨f p, List.mem_map_of_mem hp, each p hp⟩⟩
  obtain ⟨p, hp, rfl⟩ := List.mem_map.1 hq
  exact .inl ⟨p, hp, each p hp⟩

/-- Of a table whose numbers are distinct, a pack that keeps its number has stepped. -/
theorem packsStep_same_number {use : StockUse} {a b : List Pack} (h : packsStep use a b)
    (nodup : (a.map Pack.number).Nodup) {p q : Pack} (hp : p ∈ a) (hq : q ∈ b)
    (same : q.number = p.number) : PackStep use p q := by
  rcases h.1 q hq with ⟨r, hr, step⟩ | ⟨-, fresh⟩
  · obtain rfl : r = p := List.inj_on_of_nodup_map nodup hr hp (step.number.symm.trans same)
    exact step
  · exact absurd same.symm (fresh p hp)

section
variable {s t : State} {use : StockUse}

theorem State.stockHolds_of_same {s t : State} (packs : t.packs = s.packs)
    (next : t.nextPack = s.nextPack) (h : s.stockHolds) : t.stockHolds := by
  unfold State.stockHolds State.entriesUsed at h ⊢
  rw [packs, next]
  exact h

theorem State.changesOnly.stockHolds {s t : State} {a : List Part} (h : s.changesOnly t a)
    (hs : s.stockHolds) (out : .packs ∉ a := by decide) (out' : .nextPack ∉ a := by decide) :
    t.stockHolds :=
  State.stockHolds_of_same (h .packs out) (h .nextPack out') hs

/-- A table whose packs have stepped one by one keeps the stock's rule. -/
theorem State.stockHolds_of_map {f : Pack → Pack} (packs : t.packs = s.packs.map f)
    (next : t.nextPack = s.nextPack) (each : ∀ p ∈ s.packs, PackStep use p (f p))
    (h : s.stockHolds) : t.stockHolds := by
  obtain ⟨places, entries, nodup, apart, good, low, high⟩ := h
  have along : ∀ {α : Type} (g : Pack → α), (∀ p ∈ s.packs, g (f p) = g p) →
      (s.packs.map f).map g = s.packs.map g := fun g e => by
    rw [List.map_map]
    exact List.map_congr_left e
  refine ⟨by simpa [packs] using places, ?_, ?_, ?_, ?_, next ▸ low, next ▸ high⟩
  · rw [State.entriesUsed, packs, along _ fun p hp => (each p hp).count]
    exact entries
  · rw [packs, along _ fun p hp => (each p hp).number]
    exact nodup
  · rw [packs, List.pairwise_map]
    refine apart.imp_of_mem fun {p q} hp hq h => ?_
    rw [Pack.apart, (each p hp).cls, (each q hq).cls, (each p hp).first, (each q hq).first,
      (each p hp).count, (each q hq).count]
    exact h
  · intro q hq
    rw [packs] at hq
    obtain ⟨p, hp, rfl⟩ := List.mem_map.1 hq
    obtain ⟨wf, count, least, most⟩ := good p hp
    rw [(each p hp).count, (each p hp).number]
    exact ⟨(each p hp).wf wf, count, least, most⟩

/-- A table from which packs have been removed keeps the stock's rule. -/
theorem State.stockHolds_of_sublist (packs : t.packs.Sublist s.packs)
    (next : 1 ≤ t.nextPack ∧ t.nextPack ≤ 65535) (h : s.stockHolds) : t.stockHolds := by
  obtain ⟨places, entries, nodup, apart, good, -, -⟩ := h
  exact ⟨packs.length_le.trans places, (List.Sublist.sum_le_sum (packs.map _) (by simp)).trans entries,
    List.Nodup.sublist (packs.map _) nodup, apart.sublist packs, fun p hp => good p (packs.subset hp),
    next⟩

theorem State.packOf_some {cls serial : Nat} {p : Pack} (h : s.packOf cls serial = some p) :
    p ∈ s.packs ∧ p.holds cls serial = true := by
  unfold State.packOf at h
  exact ⟨List.mem_of_find?_eq_some h, by simpa using List.find?_some h⟩

/-- What a mark request does to the table and the census: nothing, or one blank of one pack moved along
an edge (05 R92, R93). -/
theorem State.changeMark_cases (s : State) (cls serial : Nat) (new : Mark) :
    ((s.changeMark cls serial new).packs = s.packs ∧
      (s.changeMark cls serial new).census = s.census) ∨
    ∃ p ∈ s.packs, ∃ old, p.holds cls serial = true ∧ p.markOf serial = some old ∧
      markEdge old new = true ∧
      (s.changeMark cls serial new).packs =
        s.packs.map (fun q => if q.number = p.number then q.remark serial old new else q) ∧
      (s.changeMark cls serial new).census = s.census.told p.number serial := by
  unfold State.changeMark
  split
  · exact .inl ⟨rfl, rfl⟩
  · rename_i p found
    split
    · exact .inl ⟨rfl, rfl⟩
    · rename_i old held
      split
      · rename_i edge
        refine .inr ⟨p, (State.packOf_some found).1, old,
          (State.packOf_some found).2, held, edge, ?_, ?_⟩
        · have frame := State.stockLow_frame
            (s.updatePack p.number fun q => q.remark serial old new) p (p.remark serial old new)
          exact (frame .packs (by decide)).trans (State.post_packs _ _ _)
        · have frame := State.changesOnly_then (c := [.packs, .queues])
            (s.updatePack_frame p.number fun q => q.remark serial old new) (State.stockLow_frame
            (s.updatePack p.number fun q => q.remark serial old new) p (p.remark serial old new))
          exact congrArg (fun c => c.told p.number serial) (frame .census (by decide))
      · exact .inl ⟨rfl, rfl⟩

/-- The marks a command's use of the stock admits along the edges of R92. -/
def StockUse.gives (use : StockUse) (new : Mark) : Prop :=
  (use = .marks ∧ new ∈ [Mark.issued, .spoiled, .advanced, .missing, .returned]) ∨
    (use = .voids ∧ new = .voided)

theorem markStep_of_edge {old new : Mark} (gives : use.gives new) (edge : markEdge old new = true) :
    markStep use (some old) (some new) := by
  rcases gives with ⟨rfl, given⟩ | ⟨rfl, rfl⟩
  · refine .inr (.inl ⟨rfl, ?_, by simpa using given⟩)
    cases old <;> cases new <;> simp_all [markEdge]
  · refine .inr (.inr ⟨rfl, ?_, rfl⟩)
    cases old <;> simp_all [markEdge]

theorem StockUse.marking_of_gives {new : Mark} (h : use.gives new) : use = .marks ∨ use = .voids :=
  h.imp And.left And.left

/-- A pack that has stepped in its marks alone: its state, lane and references stand. -/
def PackMarked (use : StockUse) (p q : Pack) : Prop :=
  PackStep use p q ∧ q.state = p.state ∧ q.lane = p.lane ∧ q.references = p.references

/-- The packs of the table one by one in their places, their marks alone moved. -/
def State.marksMoved (use : StockUse) (s t : State) : Prop :=
  ∃ f : Pack → Pack, t.packs = s.packs.map f ∧ ∀ p ∈ s.packs, PackMarked use p (f p)

theorem PackMarked.refl (p : Pack) : PackMarked use p p := ⟨PackStep.refl use p, rfl, rfl, rfl⟩

theorem State.marksMoved_of_same (h : t.packs = s.packs) : s.marksMoved use t :=
  ⟨id, by simpa using h, fun p _ => PackMarked.refl p⟩

theorem State.marksMoved.andThen {u : State} (h : s.marksMoved use t) (h' : t.marksMoved use u) :
    s.marksMoved use u := by
  obtain ⟨f, packs, each⟩ := h
  obtain ⟨g, packs', each'⟩ := h'
  refine ⟨g ∘ f, by rw [packs', packs, List.map_map], fun p hp => ?_⟩
  obtain ⟨step, state, lane, references⟩ := each p hp
  obtain ⟨step', state', lane', references'⟩ :=
    each' (f p) (packs ▸ List.mem_map_of_mem hp)
  exact ⟨step.trans step', state'.trans state, lane'.trans lane, references'.trans references⟩

theorem State.marksMoved.holds (h : s.marksMoved use t) (next : t.nextPack = s.nextPack)
    (hs : s.stockHolds) : t.stockHolds := by
  obtain ⟨f, packs, each⟩ := h
  exact State.stockHolds_of_map packs next (fun p hp => (each p hp).1) hs

theorem State.marksMoved.packsStep (h : s.marksMoved use t) : packsStep use s.packs t.packs := by
  obtain ⟨f, packs, each⟩ := h
  exact packs ▸ packsStep_map fun p hp => (each p hp).1

/-- A mark request moves marks alone. -/
theorem State.changeMark_marksMoved (cls serial : Nat) {new : Mark} (gives : use.gives new)
    (h : s.stockHolds) : s.marksMoved use (s.changeMark cls serial new) := by
  rcases s.changeMark_cases cls serial new with ⟨packs, -⟩ | ⟨p, hp, old, -, held, edge, packs, -⟩
  · exact State.marksMoved_of_same packs
  · refine ⟨_, packs, fun q hq => ?_⟩
    by_cases same : q.number = p.number
    · obtain rfl : q = p := List.inj_on_of_nodup_map h.2.2.1 hq hp same
      simp only [if_pos]
      exact ⟨PackStep.remark held edge (markStep_of_edge gives edge) (StockUse.marking_of_gives gives),
        rfl, rfl, rfl⟩
    · rw [if_neg same]
      exact PackMarked.refl q

theorem State.changeMark_stockHolds (cls serial : Nat) {new : Mark} (gives : use.gives new)
    (h : s.stockHolds) : (s.changeMark cls serial new).stockHolds :=
  (State.changeMark_marksMoved cls serial gives h).holds
    (s.changeMark_frame cls serial new .nextPack (by decide)) h

/-- Serials marked one after another move marks alone, and keep the stock's rule. -/
theorem State.markUnused_moves (cls : Nat) {new : Mark} (gives : use.gives new) :
    ∀ (serials : List Nat) {s : State}, s.stockHolds →
      s.marksMoved use (s.markUnused cls new serials) ∧ (s.markUnused cls new serials).stockHolds
  | [], _, h => ⟨State.marksMoved_of_same rfl, h⟩
  | n :: serials, s, h => by
    have one : s.marksMoved use (if ((s.packOf cls n).bind fun p => p.markOf n) = some .unused then
        s.changeMark cls n new else s) ∧ (if ((s.packOf cls n).bind fun p => p.markOf n) = some .unused
        then s.changeMark cls n new else s).stockHolds := by
      split
      · exact ⟨State.changeMark_marksMoved cls n gives h, State.changeMark_stockHolds cls n gives h⟩
      · exact ⟨State.marksMoved_of_same rfl, h⟩
    obtain ⟨rest, holds⟩ := State.markUnused_moves cls gives serials one.2
    exact ⟨one.1.andThen rest, holds⟩

theorem State.updatePack_packs (s : State) (n : Nat) (f : Pack → Pack) :
    (s.updatePack n f).packs = s.packs.map fun p => if p.number = n then f p else p :=
  State.post_packs _ _ _

theorem State.writeEntry_packs (s : State) (w : Window) (d : EntryData) :
    (s.writeEntry w d).packs = s.packs.map fun p =>
      if p.number = d.pack then { p with references := p.references + 1 } else p := by
  have posted := State.changesOnly_same (State.postSession_frame
    (State.updatePack { s.setSession w ((s.session w).withEntry d) with
      journal := s.journal ++ [s.entryFor w d], journalInUse := s.journalInUse + 1 } d.pack
      fun p => { p with references := p.references + 1 }) w) .packs
  exact posted.trans (State.updatePack_packs _ _ _)

/-- A pack whose table entry alone has changed: its state, lane, references or verdict. -/
theorem PackStep.entry (p : Pack) (n : Nat) (f : Pack → Pack)
    (fields : PackStep use p (f p)) : PackStep use p (if p.number = n then f p else p) := by
  split
  · exact fields
  · exact PackStep.refl use p

theorem State.updatePack_stock (n : Nat) (f : Pack → Pack) (fields : ∀ p, PackStep use p (f p))
    (h : s.stockHolds) :
    packsStep use s.packs (s.updatePack n f).packs ∧ (s.updatePack n f).stockHolds := by
  have each := fun p (_ : p ∈ s.packs) => PackStep.entry p n f (fields p)
  rw [State.updatePack_packs]
  exact ⟨packsStep_map each, State.stockHolds_of_map (s.updatePack_packs n f)
    (s.updatePack_frame n f .nextPack (by decide)) each h⟩

theorem State.writeEntry_stock (w : Window) (d : EntryData) (h : s.stockHolds) :
    packsStep use s.packs (s.writeEntry w d).packs ∧ (s.writeEntry w d).stockHolds := by
  have each := fun p (_ : p ∈ s.packs) => PackStep.entry (use := use) p d.pack
    (fun p => { p with references := p.references + 1 })
    (PackStep.of_fields rfl rfl rfl rfl rfl rfl rfl rfl fun _ => rfl)
  rw [State.writeEntry_packs]
  exact ⟨packsStep_map each, State.stockHolds_of_map (s.writeEntry_packs w d)
    (s.writeEntry_frame w d .nextPack (by decide)) each h⟩

theorem withdrawnMark_gives {m : WithdrawMode} {new : Mark} (h : withdrawnMark m = some new) :
    StockUse.marks.gives new := by
  cases m <;> cases h <;> exact .inl ⟨rfl, by decide⟩

/-- A mode applied: the pack's state and lane, and then marks alone (05 R103, R104). -/
theorem State.applyMode_moves (p : Pack) (m : WithdrawMode) (h : s.stockHolds) :
    (s.updatePack p.number fun q => { q with state := withdrawnState m, lane := none }).marksMoved
      .marks (s.applyMode p m) ∧ packsStep .marks s.packs (s.applyMode p m).packs ∧
      (s.applyMode p m).stockHolds := by
  obtain ⟨step, holds⟩ := State.updatePack_stock (use := .marks) (s := s) p.number
    (fun q => { q with state := withdrawnState m, lane := none })
    (fun q => PackStep.of_fields rfl rfl rfl rfl rfl rfl rfl rfl fun _ => rfl) h
  unfold State.applyMode
  dsimp only
  split
  · rename_i mark given
    obtain ⟨moved, holds'⟩ := State.markUnused_moves p.cls (withdrawnMark_gives given) (p.toMark m) holds
    exact ⟨moved, packsStep_trans step moved.packsStep, holds'⟩
  · exact ⟨State.marksMoved_of_same rfl, step, holds⟩

/-- What keeps the stock's rule and steps the table as the command may. -/
def State.stockStep (use : StockUse) (s t : State) : Prop :=
  s.stockHolds → t.stockHolds ∧ packsStep use s.packs t.packs

theorem State.changesOnly.stockStep {a : List Part} (h : s.changesOnly t a)
    (out : .packs ∉ a := by decide) (out' : .nextPack ∉ a := by decide) : s.stockStep use t :=
  fun hs => ⟨h.stockHolds hs out out', (h .packs out : t.packs = s.packs) ▸ packsStep_refl use _⟩

theorem State.stockStep.andThen {u : State} (h : s.stockStep use t) (h' : t.stockStep use u) :
    s.stockStep use u := fun hs =>
  let ⟨mid, step⟩ := h hs
  let ⟨last, step'⟩ := h' mid
  ⟨last, packsStep_trans step step'⟩

theorem State.changeMark_stockStep (cls serial : Nat) {new : Mark} (gives : use.gives new) :
    s.stockStep use (s.changeMark cls serial new) := fun h =>
  ⟨State.changeMark_stockHolds cls serial gives h, (State.changeMark_marksMoved cls serial gives h).packsStep⟩

theorem State.updatePack_stockStep (n : Nat) (f : Pack → Pack) (fields : ∀ p, PackStep use p (f p)) :
    s.stockStep use (s.updatePack n f) := fun h => (State.updatePack_stock n f fields h).symm

theorem State.writeEntry_stockStep (w : Window) (d : EntryData) :
    s.stockStep use (s.writeEntry w d) := fun h => (State.writeEntry_stock w d h).symm

theorem State.applyMode_stockStep (p : Pack) (m : WithdrawMode) :
    s.stockStep .marks (s.applyMode p m) := fun h => (State.applyMode_moves p m h).2.symm

theorem Move.stockStep {l : LaneId} (m : Move l s t) : s.stockStep .marks t := by
  cases m with
  | mark cls serial new given =>
    exact State.changeMark_stockStep cls serial (.inl ⟨rfl, by fin_cases given <;> decide⟩)
  | entry w d => exact State.writeEntry_stockStep w d
  | raised k c => exact (s.raiseLane_frame l k c).stockStep
  | relocked => exact (s.selfClear_frame l).stockStep
  | recovered how =>
    exact (s.mapReports_frame _).stockStep.andThen (State.postReport_frame _ _).stockStep
  | counted => exact (s.countRefusal_frame l).stockStep
  | lane f => exact (s.moveLane_frame l f).stockStep
  | told => exact s.reportEligible_frame.stockStep
  | slot w k x => exact (s.setSlot_frame w k x).stockStep
  | outcome w k o => exact (s.postOutcome_frame w k o).stockStep
  | form f x => exact (s.setForm_frame f x).stockStep
  | applied f => exact (s.setForm_frame f _).stockStep.andThen (State.postOffice_frame _ _ _).stockStep
  | reserved w n m => exact fun h => ⟨State.stockHolds_of_same rfl rfl h, packsStep_refl _ _⟩

theorem State.freeEntries_packs (s : State) (w : Window) : (s.freeEntries w).packs =
    s.packs.map fun p => { p with references := p.references - s.entriesNaming w p.number } := by
  unfold State.freeEntries
  dsimp only
  split
  · exact State.post_packs _ _ _
  · rfl

theorem PackBody.excluded_count {b : PackBody} (inside : ∀ r ∈ b.excluded,
    b.first ≤ r ∧ r < b.first + b.count) (nodup : b.excluded.Nodup) :
    (List.range b.count).countP (fun i => b.excluded.contains (b.first + i)) = b.excluded.length := by
  rw [List.countP_eq_length_filter, ← List.length_map (f := (b.first + ·))]
  refine List.Perm.length_eq ((List.perm_ext_iff_of_nodup ?_ nodup).2 fun r => ?_)
  · exact (List.nodup_range.filter _).map fun i j (h : b.first + i = b.first + j) => by omega
  · simp only [List.mem_map, List.mem_filter, List.mem_range, List.contains_iff_mem]
    constructor
    · rintro ⟨i, ⟨-, mem⟩, rfl⟩
      exact mem
    · intro mem
      obtain ⟨low, high⟩ := inside r mem
      exact ⟨r - b.first, ⟨by omega, by rwa [Nat.add_sub_cancel' low]⟩, by omega⟩

/-- A pack as a declaration in range makes it agrees with its marks (05 R93, R99). -/
theorem PackBody.record_wf {b : PackBody} (number : Nat) (inside : ∀ r ∈ b.excluded,
    b.first ≤ r ∧ r < b.first + b.count) (nodup : b.excluded.Nodup) :
    (PackBody.record b number).wf = true := by
  have missing := PackBody.excluded_count inside nodup
  have total := List.length_eq_countP_add_countP
    (fun i => b.excluded.contains (b.first + i)) (l := List.range b.count)
  rw [List.length_range, missing] at total
  rw [Pack.wf_iff]
  refine ⟨by simp [PackBody.record], fun m => ?_⟩
  change MarkCounts.get { MarkCounts.zero with
    unused := b.count - b.excluded.length, missing := b.excluded.length } m = ((List.range b.count).map
    fun i => if b.excluded.contains (b.first + i) then Mark.missing else .unused).count m
  rw [List.count, List.countP_map]
  by_cases missed : m = .missing
  · subst missed
    rw [← missing]
    refine List.countP_congr fun i _ => ?_
    simp only [Function.comp_apply]
    cases b.excluded.contains (b.first + i) <;> simp
  · by_cases unused : m = .unused
    · subst unused
      have rest : b.count - b.excluded.length = (List.range b.count).countP
          (fun i => !b.excluded.contains (b.first + i)) := by
        have : (fun i => decide ¬b.excluded.contains (b.first + i) = true) =
            fun i => !b.excluded.contains (b.first + i) := by
          funext i
          cases b.excluded.contains (b.first + i) <;> rfl
        rw [this] at total
        omega
      refine rest.trans (List.countP_congr fun i _ => ?_)
      simp only [Function.comp_apply]
      cases b.excluded.contains (b.first + i) <;> simp
    · have none : (List.range b.count).countP ((fun x => x == m) ∘ fun i =>
          if b.excluded.contains (b.first + i) then Mark.missing else .unused) = 0 := by
        rw [List.countP_eq_zero]
        intro i _
        simp only [Function.comp_apply]
        split
        · simpa using Ne.symm missed
        · simpa using Ne.symm unused
      rw [none]
      cases m <;> first | rfl | exact absurd rfl missed | exact absurd rfl unused

/-- What a declaration that passes its checks satisfies (05 R97, R98). -/
theorem State.declarePackCode_none {b : PackBody} (passed : s.declarePackCode b = none) :
    1 ≤ b.count ∧ (∀ r ∈ b.excluded, b.first ≤ r ∧ r < b.first + b.count) ∧ b.excluded.Nodup ∧
      (∀ q ∈ s.packs, ¬(q.cls = b.cls ∧ q.first < b.first + b.count ∧ b.first < q.first + q.count)) ∧
      s.packs.length < 16 ∧ s.entriesUsed + b.count ≤ 8192 := by
  unfold State.declarePackCode at passed
  split_ifs at passed with range census shared full
  push Not at range full
  refine ⟨range.2.1, fun r hr => ?_, range.2.2.2.2.2.2.2.2, fun q hq h => shared ⟨q, hq, h⟩,
    full.1, full.2⟩
  have := range.2.2.2.2.2.2.2.1 r hr
  exact this

theorem State.addPack_stockHolds (b : PackBody) (passed : s.declarePackCode b = none)
    (h : s.stockHolds) : (s.addPack b).stockHolds := by
  obtain ⟨counted, inside, nodupEx, free, room, entries⟩ := State.declarePackCode_none passed
  obtain ⟨-, -, nodup, apart, good, low, high⟩ := h
  obtain ⟨i, number, fresh, -⟩ := State.packNumber_first room low high
  have range : 1 ≤ s.packNumber ∧ s.packNumber ≤ 65535 :=
    ⟨number ▸ numberAfter_pos _ _, number ▸ numberAfter_le _ _⟩
  refine ⟨by simpa [Config.packPlaces] using room, ?_, ?_, ?_, ?_, ?_⟩
  · simpa [State.entriesUsed, PackBody.record, Config.blankEntries] using entries
  · rw [State.addPack_packs, List.map_append, List.nodup_append]
    refine ⟨nodup, by simp, fun a ha c hc same => ?_⟩
    obtain ⟨p, hp, rfl⟩ := List.mem_map.1 ha
    obtain rfl : c = s.packNumber := by simpa [PackBody.record] using hc
    exact fresh p hp same
  · rw [State.addPack_packs, List.pairwise_append]
    refine ⟨apart, by simp, fun p hp q hq => ?_⟩
    obtain rfl : q = PackBody.record b s.packNumber := by simpa using hq
    exact free p hp
  · intro p hp
    rw [State.addPack_packs, List.mem_append, List.mem_singleton] at hp
    rcases hp with hp | rfl
    · exact good p hp
    · exact ⟨PackBody.record_wf _ inside nodupEx, counted, range.1, range.2⟩
  · rw [State.addPack_nextPack]
    exact nextNumber_range _

theorem State.addPack_packsStep (b : PackBody) (passed : s.declarePackCode b = none)
    (h : s.stockHolds) : packsStep .adds s.packs (s.addPack b).packs := by
  obtain ⟨-, -, -, -, room, -⟩ := State.declarePackCode_none passed
  obtain ⟨i, -, fresh, -⟩ := State.packNumber_first room h.2.2.2.2.2.1 h.2.2.2.2.2.2
  rw [State.addPack_packs]
  refine ⟨fun q hq => ?_, fun _ p hp => ⟨p, List.mem_append_left _ hp, PackStep.refl _ p⟩⟩
  rcases List.mem_append.1 hq with hq | hq
  · exact .inl ⟨q, hq, PackStep.refl _ q⟩
  · obtain rfl : q = PackBody.record b s.packNumber := by simpa using hq
    exact .inr ⟨rfl, fun p hp => fresh p hp⟩

theorem State.removePack_packs (s : State) (n : Nat) :
    (s.removePack n).packs = s.packs.filter fun p => p.number != n := State.post_packs _ _ _

theorem State.removePack_nextPack (s : State) (n : Nat) :
    (s.removePack n).nextPack = s.nextPack := State.post_nextPack _ _ _

theorem State.stockStep_of_sublist (packs : t.packs.Sublist s.packs)
    (next : 1 ≤ s.nextPack ∧ s.nextPack ≤ 65535 → 1 ≤ t.nextPack ∧ t.nextPack ≤ 65535) :
    s.stockStep .removes t := fun h =>
  ⟨State.stockHolds_of_sublist packs (next h.2.2.2.2.2) h,
    fun q hq => .inl ⟨q, packs.subset hq, PackStep.refl _ q⟩, fun e => absurd rfl e⟩

/-- A release by lane steps the table as its mode does; the lane and the reports are no part of it. -/
theorem State.releaseLane_packs (s : State) (l : LaneId) (p : Pack) (m : WithdrawMode) :
    (s.releaseLane l p m).packs = ((s.moveLane l Lane.stopped).applyMode p m).packs :=
  (State.moveLane_frame _ l _ .packs (by decide) :)

theorem State.withdrawLane_packs (s : State) (l : LaneId) (p : Pack) (m : WithdrawMode) :
    (s.withdrawLane l p m).packs = ((s.moveLane l Lane.stopped).applyMode p m).packs := by
  have frame := State.changesOnly_then (c := [.faults, .queues])
    (State.changesOnly_then (c := [.faults, .queues])
      (State.clearByWithdrawal_frame (s.releaseLane l p m) l) (State.postOffice_frame _ .stockChange .stock))
    (State.postLane_frame _ l)
  exact (frame .packs (by decide)).trans (s.releaseLane_packs l p m)

theorem State.withdrawLane_stockStep (l : LaneId) (p : Pack) (m : WithdrawMode) :
    s.stockStep .marks (s.withdrawLane l p m) := by
  intro h
  obtain ⟨holds, step⟩ := ((s.moveLane_frame l Lane.stopped).stockStep (use := .marks)).andThen
    (State.applyMode_stockStep p m) h
  have packs := s.withdrawLane_packs l p m
  have next : (s.withdrawLane l p m).nextPack = s.nextPack :=
    s.withdrawLane_frame l p m .nextPack (by decide)
  have next' : ((s.moveLane l Lane.stopped).applyMode p m).nextPack = s.nextPack :=
    State.changesOnly_then (c := [.lanes, .packs, .queues, .census]) (s.moveLane_frame l Lane.stopped)
      (State.applyMode_frame _ p m) (by decide) .nextPack (by decide)
  exact ⟨State.stockHolds_of_same packs (next.trans next'.symm) holds, packs ▸ step⟩

theorem Deed.stockStep {c : Instr} {a : List Part} (d : Deed c a s t) : s.stockStep (stockUse c) t := by
  by_cases touched : Part.packs ∈ a
  swap
  · refine State.changesOnly.stockStep d.frame touched ?_
    cases d <;> first | exact absurd (by decide) touched | decide
  cases d with
  | move use l m => exact use ▸ m.stockStep
  | collected _ w =>
    refine State.stockStep.andThen (t := s.freeEntries w) (fun h => ?_)
      (State.setSession_postSession_frame _ w _).stockStep
    have each : ∀ p ∈ s.packs, PackStep (stockUse c) p
        { p with references := p.references - s.entriesNaming w p.number } := fun p _ =>
      PackStep.of_fields rfl rfl rfl rfl rfl rfl rfl rfl fun _ => rfl
    exact ⟨State.stockHolds_of_map (s.freeEntries_packs w)
      (State.freeEntries_frame (s := s) (w := w) .nextPack (by decide)) each h,
      s.freeEntries_packs w ▸ packsStep_map each⟩
  | voided use _ w e =>
    rw [use]
    exact (State.changeMark_stockStep _ _ (.inr ⟨rfl, rfl⟩)).andThen (State.writeEntry_stockStep w _)
  | packAdded use _ b passed => exact fun h => ⟨State.addPack_stockHolds b passed h, by
      rw [use]; exact State.addPack_packsStep b passed h⟩
  | packMounted mounts _ l p =>
    have bound : s.stockStep (stockUse c) (s.updatePack p.number fun q =>
        { q with state := .mounted, lane := some l }) := State.updatePack_stockStep _ _ fun q =>
      PackStep.of_fields rfl rfl rfl rfl rfl rfl rfl rfl fun _ => rfl
    exact bound.andThen (State.moveLane_frame _ l _).stockStep
  | packReleased use mounts _ l p m => exact use ▸ State.withdrawLane_stockStep l p m
  | packRetired use mounts _ p m => exact use ▸ State.applyMode_stockStep p m
  | packRemoved use _ p =>
    exact use ▸ State.stockStep_of_sublist
      ((State.removePack_packs s p.number).symm ▸ List.filter_sublist)
      (fun h => (State.removePack_nextPack s p.number).symm ▸ h)
  | verdict use _ p v =>
    rw [use]
    have kept := fun v => State.updatePack_stockStep (s := s) (use := .counts) p.number
      (fun q => { q with verdict := v }) fun q =>
        PackStep.of_fields rfl rfl rfl rfl rfl rfl rfl rfl fun h => absurd rfl h
    cases v with
    | none => exact (s.changesOnly_refl []).stockStep
    | matched => exact kept _
    | mismatch => exact (kept _).andThen (State.raiseController_frame _ _ _).stockStep
  | reinitialised own use =>
    obtain ⟨packs, next⟩ := s.reinitialised_packs
    rw [use]
    exact State.stockStep_of_sublist (by rw [packs]; exact List.nil_sublist _)
      (fun _ => by rw [next]; decide)
  | _ => exact absurd touched (by decide)

end

end Sys2Proof.Machine
end

section
/-! SUPPORT. The census told of the marks that move in the blocks it has committed (06 R120), through a
command's deeds. -/

-- One proof at a time: the check's memory limit holds few threads.
set_option Elab.async false

namespace Sys2Proof.Machine

/-- A mark of the suspended census's pack, in a block it has committed, differs between two tables. -/
def Census.hit (c : Census) (a b : List Pack) : Prop :=
  c.state = .suspended ∧ ∃ p ∈ a, ∃ q ∈ b, p.number = c.pack ∧ q.number = c.pack ∧
    ∃ n, c.first ≤ n ∧ n ≤ c.last ∧ n < c.first + 64 * c.block ∧ q.markOf n ≠ p.markOf n

/-- The suspended-change flag set. -/
def Census.flagged (c : Census) : Census := { c with suspendedChange := true }

/-- The census of `t` is that of `s`, its flag set exactly where a mark it has committed has moved. -/
def State.censusTold (s t : State) : Prop :=
  (s.census.hit s.packs t.packs → t.census = s.census.flagged) ∧
    (¬s.census.hit s.packs t.packs → t.census = s.census)

/-- No mark of a pack that stays in the table differs. -/
def marksStand (a b : List Pack) : Prop :=
  ∀ p ∈ a, ∀ q ∈ b, q.number = p.number → ∀ n, q.markOf n = p.markOf n

theorem marksStand.no_hit {a b : List Pack} (h : marksStand a b) (c : Census) : ¬c.hit a b := by
  rintro ⟨-, p, hp, q, hq, number, number', n, -, -, -, differ⟩
  exact differ (h p hp q hq (number'.trans number.symm) n)

section
variable {s t u : State} {use : StockUse}

theorem State.censusTold_of_stand (stand : marksStand s.packs t.packs)
    (census : t.census = s.census) : s.censusTold t :=
  ⟨fun h => absurd h (stand.no_hit _), fun _ => census⟩

theorem marksStand_map {a : List Pack} {f : Pack → Pack} (nodup : (a.map Pack.number).Nodup)
    (each : ∀ p ∈ a, (f p).number = p.number ∧ (f p).first = p.first ∧ (f p).count = p.count ∧
      (f p).marks = p.marks) : marksStand a (a.map f) := by
  intro p hp q hq same n
  obtain ⟨r, hr, rfl⟩ := List.mem_map.1 hq
  obtain ⟨number, first, count, marks⟩ := each r hr
  obtain rfl : r = p := List.inj_on_of_nodup_map nodup hr hp (number.symm.trans same)
  simp [Pack.markOf, Pack.inRange, first, count, marks]

theorem marksStand_sublist {a b : List Pack} (nodup : (a.map Pack.number).Nodup)
    (sub : ∀ q ∈ b, q ∈ a) : marksStand a b := by
  intro p hp q hq same n
  obtain rfl : q = p := List.inj_on_of_nodup_map nodup (sub q hq) hp same
  rfl

/-- The marks of a command that neither marks nor voids stand. -/
theorem packsStep.stand {a b : List Pack} (h : packsStep use a b) (nodup : (a.map Pack.number).Nodup)
    (no : use ≠ .marks) (no' : use ≠ .voids) : marksStand a b := by
  intro p hp q hq same n
  have step := packsStep_same_number h nodup hp hq same
  simp [Pack.markOf, Pack.inRange, step.first, step.count, step.still no no']

/-- Hits add up along a command: a mark that has moved once moves no further. -/
theorem Census.hit_trans {c : Census} {x y z : List Pack} (h : packsStep use x y)
    (h' : packsStep use y z) (nodup : (x.map Pack.number).Nodup) (nodup' : (y.map Pack.number).Nodup) :
    c.hit x z ↔ c.hit x y ∨ c.hit y z := by
  constructor
  · rintro ⟨state, p, hp, q, hq, number, number', n, low, high, done, differ⟩
    obtain ⟨r, hr, step⟩ : ∃ r ∈ y, PackStep use r q := by
      rcases h'.1 q hq with found | ⟨adds, fresh⟩
      · exact found
      · obtain ⟨r, hr, step⟩ := h.2 (by rw [adds]; decide) p hp
        exact absurd (step.number.trans (number.trans number'.symm)) (fresh r hr)
    have number'' : r.number = c.pack := step.number.symm.trans number'
    by_cases first : r.markOf n = p.markOf n
    · exact .inr ⟨state, r, hr, q, hq, number'', number', n, low, high, done, first ▸ differ⟩
    · exact .inl ⟨state, p, hp, r, hr, number, number'', n, low, high, done, first⟩
  · rintro (⟨state, p, hp, r, hr, number, number', n, low, high, done, differ⟩ |
      ⟨state, r, hr, q, hq, number, number', n, low, high, done, differ⟩)
    · have step := packsStep_same_number h nodup hp hr (number'.trans number.symm)
      have kept : use ≠ .removes := by
        rintro rfl
        exact differ (h.stand nodup (by decide) (by decide) p hp r hr (number'.trans number.symm) n)
      obtain ⟨q, hq, step'⟩ := h'.2 kept r hr
      refine ⟨state, p, hp, q, hq, number, step'.number.trans number', n, low, high, done, ?_⟩
      rw [markStep_final (step.marks n) (step'.marks n) differ]
      exact differ
    · have step' := packsStep_same_number h' nodup' hr hq (number'.trans number.symm)
      rcases h.1 r hr with ⟨p, hp, step⟩ | ⟨adds, -⟩
      · refine ⟨state, p, hp, q, hq, step.number.symm.trans number, number', n, low, high, done, ?_⟩
        by_cases first : r.markOf n = p.markOf n
        · exact first ▸ differ
        · exact absurd (markStep_final (step.marks n) (step'.marks n) first) differ
      · exact absurd (h'.stand nodup' (by rw [adds]; decide) (by rw [adds]; decide) r hr q hq
          (number'.trans number.symm) n) differ

/-- What steps the table as its command may, keeps the stock's rule, and tells the census. -/
def State.tells (use : StockUse) (s t : State) : Prop :=
  s.stockHolds → t.stockHolds ∧ packsStep use s.packs t.packs ∧ s.censusTold t

theorem State.tells.andThen (h : s.tells use t) (h' : t.tells use u) : s.tells use u := by
  intro hs
  obtain ⟨ht, step, told⟩ := h hs
  obtain ⟨hu, step', told'⟩ := h' ht
  have along : ∀ c, Census.hit c s.packs u.packs ↔ c.hit s.packs t.packs ∨ c.hit t.packs u.packs :=
    fun c => Census.hit_trans step step' hs.2.2.1 ht.2.2.1
  refine ⟨hu, packsStep_trans step step', ?_⟩
  unfold State.censusTold at told told' ⊢
  rw [along]
  by_cases first : s.census.hit s.packs t.packs
  · have flagged := told.1 first
    refine ⟨fun _ => ?_, fun no => absurd (.inl first) no⟩
    by_cases second : t.census.hit t.packs u.packs
    · rw [told'.1 second, flagged]
      rfl
    · rw [told'.2 second, flagged]
  · have same := told.2 first
    rw [same] at told'
    refine ⟨fun h => told'.1 (h.resolve_left first), fun no => told'.2 fun h => no (.inr h)⟩

theorem State.tells_of_stand (step : s.stockStep use t)
    (stand : s.stockHolds → marksStand s.packs t.packs) (census : t.census = s.census) :
    s.tells use t := fun h => ⟨(step h).1, (step h).2, State.censusTold_of_stand (stand h) census⟩

theorem State.changesOnly.tells {a : List Part} (h : s.changesOnly t a)
    (out : .packs ∉ a := by decide) (out' : .nextPack ∉ a := by decide)
    (out'' : .census ∉ a := by decide) : s.tells use t :=
  State.tells_of_stand (h.stockStep out out')
    (fun hs => by rw [(h .packs out : t.packs = s.packs)]; exact marksStand_sublist hs.2.2.1 fun _ => id)
    (h .census out'')

theorem Census.hasCommitted_iff (c : Census) (n : Nat) : c.hasCommitted n = true ↔
    c.first ≤ n ∧ n ≤ c.last ∧ n < c.first + 64 * c.block := by
  simp only [Census.hasCommitted, Bool.and_eq_true, decide_eq_true_eq, and_assoc]
  rfl

/-- A mark request tells the census (05 R93, 06 R120). -/
theorem State.changeMark_tells (s : State) (cls serial : Nat) {new : Mark} (gives : use.gives new) :
    s.tells use (s.changeMark cls serial new) := by
  intro h
  obtain ⟨holds, step⟩ := State.changeMark_stockStep (s := s) cls serial gives h
  refine ⟨holds, step, ?_⟩
  rcases s.changeMark_cases cls serial new with
    ⟨packs, census⟩ | ⟨p, hp, old, -, held, edge, packs, census⟩
  · refine State.censusTold_of_stand ?_ census
    rw [packs]
    exact marksStand_sublist h.2.2.1 fun _ => id
  · have hit : s.census.hit s.packs (s.changeMark cls serial new).packs ↔
        s.census.state = .suspended ∧ s.census.pack = p.number ∧ s.census.hasCommitted serial = true := by
      rw [packs, Census.hasCommitted_iff]
      constructor
      · rintro ⟨state, q, hq, r, hr, number, number', n, low, high, done, differ⟩
        obtain ⟨x, hx, rfl⟩ := List.mem_map.1 hr
        have same : x.number = q.number := by
          split at number' <;> exact number'.trans number.symm
        obtain rfl : x = q := List.inj_on_of_nodup_map h.2.2.1 hx hq same
        by_cases here : x.number = p.number
        · obtain rfl : x = p := List.inj_on_of_nodup_map h.2.2.1 hx hp here
          rw [if_pos rfl, Pack.remark_markOf held] at differ
          have at_ : n = serial := by
            by_contra other
            rw [if_neg other] at differ
            exact differ rfl
          exact ⟨state, number.symm, at_ ▸ ⟨low, high, done⟩⟩
        · rw [if_neg here] at differ
          exact absurd rfl differ
      · rintro ⟨state, number, low, high, done⟩
        refine ⟨state, p, hp, p.remark serial old new, ?_, number.symm, number.symm, serial, low, high,
          done, ?_⟩
        · exact List.mem_map.2 ⟨p, hp, if_pos rfl⟩
        · rw [Pack.remark_markOf held, if_pos rfl, held]
          exact fun e => markEdge_ne edge (Option.some.inj e)
    unfold State.censusTold
    rw [hit, census, Census.told]
    exact ⟨fun h => if_pos h, fun h => if_neg h⟩

theorem State.markUnused_tells (cls : Nat) {new : Mark} (gives : use.gives new) :
    ∀ (serials : List Nat) (s : State), s.tells use (s.markUnused cls new serials)
  | [], s => (s.changesOnly_refl []).tells
  | n :: serials, s => by
    have one : s.tells use (if ((s.packOf cls n).bind fun p => p.markOf n) = some .unused then
        s.changeMark cls n new else s) := by
      split
      · exact s.changeMark_tells cls n gives
      · exact (s.changesOnly_refl []).tells
    exact one.andThen (State.markUnused_tells cls gives serials _)

/-- A pack's record changed, its marks and its number not. -/
theorem State.updatePack_tells (n : Nat) (f : Pack → Pack) (fields : ∀ p, PackStep use p (f p))
    (marks : ∀ p, (f p).marks = p.marks) : s.tells use (s.updatePack n f) := by
  refine State.tells_of_stand (State.updatePack_stockStep n f fields) (fun h => ?_)
    (s.updatePack_frame n f .census (by decide))
  rw [State.updatePack_packs]
  refine marksStand_map h.2.2.1 fun p _ => ?_
  split
  · exact ⟨(fields p).number, (fields p).first, (fields p).count, marks p⟩
  · exact ⟨rfl, rfl, rfl, rfl⟩

theorem State.writeEntry_tells (w : Window) (d : EntryData) : s.tells use (s.writeEntry w d) := by
  refine State.tells_of_stand (State.writeEntry_stockStep w d) (fun h => ?_)
    (s.writeEntry_frame w d .census (by decide))
  rw [State.writeEntry_packs]
  refine marksStand_map h.2.2.1 fun p _ => ?_
  split <;> exact ⟨rfl, rfl, rfl, rfl⟩

theorem State.applyMode_tells (p : Pack) (m : WithdrawMode) : s.tells .marks (s.applyMode p m) := by
  have moved : s.tells .marks (s.updatePack p.number fun q =>
      { q with state := withdrawnState m, lane := none }) := State.updatePack_tells _ _
    (fun q => PackStep.of_fields rfl rfl rfl rfl rfl rfl rfl rfl fun _ => rfl) fun _ => rfl
  unfold State.applyMode
  dsimp only
  split
  · exact moved.andThen (State.markUnused_tells _ (withdrawnMark_gives ‹_›) _ _)
  · exact moved

theorem State.withdrawLane_tells (l : LaneId) (p : Pack) (m : WithdrawMode) :
    s.tells .marks (s.withdrawLane l p m) := by
  intro h
  obtain ⟨-, -, told⟩ := ((s.moveLane_frame l Lane.stopped).tells (use := .marks)).andThen
    (State.applyMode_tells p m) h
  obtain ⟨holds, step⟩ := State.withdrawLane_stockStep (s := s) l p m h
  refine ⟨holds, step, ?_⟩
  have frame := State.changesOnly_then (c := [.faults, .queues])
    (State.changesOnly_then (c := [.faults, .queues])
      (State.clearByWithdrawal_frame (s.releaseLane l p m) l) (State.postOffice_frame _ .stockChange .stock))
    (State.postLane_frame _ l)
  have census : (s.withdrawLane l p m).census = ((s.moveLane l Lane.stopped).applyMode p m).census :=
    (frame .census (by decide)).trans (State.moveLane_frame _ l _ .census (by decide) :)
  unfold State.censusTold at told ⊢
  rw [s.withdrawLane_packs, census]
  exact told

theorem Move.tells {l : LaneId} (m : Move l s t) : s.tells .marks t := by
  cases m with
  | mark cls serial new given =>
    exact s.changeMark_tells cls serial (.inl ⟨rfl, by fin_cases given <;> decide⟩)
  | entry w d => exact State.writeEntry_tells w d
  | raised k c => exact (s.raiseLane_frame l k c).tells
  | relocked => exact (s.selfClear_frame l).tells
  | recovered how => exact (s.mapReports_frame _).tells.andThen (State.postReport_frame _ _).tells
  | counted => exact (s.countRefusal_frame l).tells
  | lane f => exact (s.moveLane_frame l f).tells
  | told => exact s.reportEligible_frame.tells
  | slot w k x => exact (s.setSlot_frame w k x).tells
  | outcome w k o => exact (s.postOutcome_frame w k o).tells
  | form f x => exact (s.setForm_frame f x).tells
  | applied f => exact (s.setForm_frame f _).tells.andThen (State.postOffice_frame _ _ _).tells
  | reserved w n m =>
    exact State.tells_of_stand (fun h => ⟨State.stockHolds_of_same rfl rfl h, packsStep_refl _ _⟩)
      (fun h => marksStand_sublist h.2.2.1 fun _ => id) rfl

/-- A deed of a command that is not the census's own tells the census of the marks it moves. -/
theorem Deed.tells {c : Instr} {a : List Part} (d : Deed c a s t) (other : isCensusCommand c = false) :
    s.tells (stockUse c) t := by
  by_cases touched : Part.packs ∈ a ∨ Part.census ∈ a
  swap
  · rw [not_or] at touched
    refine State.changesOnly.tells d.frame touched.1 ?_ touched.2
    cases d <;> first | exact absurd (by decide) touched.1 | decide
  have step := d.stockStep
  cases d with
  | move use l m => exact use ▸ m.tells
  | collected _ w =>
    have frame := State.changesOnly_then (c := [.sessions, .journal, .packs, .queues])
      (s.freeEntries_frame w) (State.setSession_postSession_frame _ w .none)
    refine State.tells_of_stand step (fun h => ?_) (frame .census (by decide))
    have packs := (State.setSession_postSession_frame (s.freeEntries w) w .none .packs (by decide)).trans
      (s.freeEntries_packs w)
    exact packs ▸ marksStand_map h.2.2.1 fun p _ => ⟨rfl, rfl, rfl, rfl⟩
  | voided use _ w e =>
    rw [use]
    exact (s.changeMark_tells _ _ (.inr ⟨rfl, rfl⟩)).andThen (State.writeEntry_tells w _)
  | packAdded use _ b passed =>
    refine State.tells_of_stand step (fun h => ?_) (s.addPack_frame b .census (by decide))
    rw [use] at step
    exact (step h).2.stand h.2.2.1 (by decide) (by decide)
  | packMounted mounts _ l p =>
    have bound : s.tells (stockUse c) (s.updatePack p.number fun q =>
        { q with state := .mounted, lane := some l }) := State.updatePack_tells _ _
      (fun q => PackStep.of_fields rfl rfl rfl rfl rfl rfl rfl rfl fun _ => rfl) fun _ => rfl
    exact bound.andThen (State.moveLane_frame _ l _).tells
  | packReleased use mounts _ l p m => exact use ▸ State.withdrawLane_tells l p m
  | packRetired use mounts _ p m => exact use ▸ State.applyMode_tells p m
  | packRemoved use _ p =>
    refine State.tells_of_stand step (fun h => ?_) (s.removePack_frame p.number .census (by decide))
    rw [use] at step
    exact (step h).2.stand h.2.2.1 (by decide) (by decide)
  | verdict use _ p v =>
    cases c <;> first | cases use; done | cases other
  | censusMoved own | censusRead own | reinitialised own =>
    rw [other] at own
    cases own
  | _ => exact absurd touched (by decide)

theorem deedsAfter.stockStep {c : Instr} (d : deedsAfter c s t) : s.stockStep (stockUse c) t := by
  obtain ⟨u, queues, deeds⟩ := d
  exact queues.stockStep.andThen (deeds.lift (fun s => (s.changesOnly_refl []).stockStep)
    (fun _ _ _ => State.stockStep.andThen) fun _ _ _ => Deed.stockStep)

theorem deedsAfter.tells {c : Instr} (d : deedsAfter c s t) (other : isCensusCommand c = false) :
    s.tells (stockUse c) t := by
  obtain ⟨u, queues, deeds⟩ := d
  exact queues.tells.andThen (deeds.lift (fun s => (s.changesOnly_refl []).tells)
    (fun _ _ _ => State.tells.andThen) fun _ _ _ d => d.tells other)

theorem State.startLane_stockStep (l : LaneId) : s.stockStep .marks (s.startLane l) :=
  (s.setLane_frame l _).stockStep.andThen ((s.startLane_run l).lift
    (fun s => (s.changesOnly_refl []).stockStep) (fun _ _ _ => State.stockStep.andThen)
    fun _ _ => Move.stockStep)

theorem State.startLanes_stockStep : ∀ (xs : List LaneId) (s : State),
    s.stockStep .marks (xs.foldl State.startLane s)
  | [], s => (s.changesOnly_refl []).stockStep
  | x :: xs, s => (State.startLane_stockStep x).andThen (State.startLanes_stockStep xs _)

theorem State.startTill_frame (s : State) : s.changesOnly (State.startTill { s with storeValid := true })
    [.sessions, .journal, .store] := by
  intro y hy
  cases y
  case sessions | journal | store => simp at hy
  case receivers | queues => exact fun q => by cases q <;> simp [State.startTill, State.port]
  all_goals simp [State.same, State.startTill]

theorem State.beforeLanes_frame (s : State) : s.changesOnly s.beforeLanes
    [.receivers, .queues, .forms, .sessions, .journal, .store] :=
  State.changesOnly_then (c := [.receivers, .queues, .forms, .sessions, .journal, .store])
    (State.changesOnly_then (c := [.queues, .forms, .sessions, .journal, .store]) s.startTill_frame
      (State.startForms_frame _))
    (State.startPorts_frame _)

/-- A command steps the table of packs in one of the ways of `StockUse`. -/
theorem exec_stockStep {c : Instr} (run : exec c s = .next t) : ∃ use, s.stockStep use t := by
  by_cases power : isPower c = false
  · exact ⟨_, (exec_deeds power run).stockStep⟩
  · cases c
    case powerOn =>
      cases run
      dsimp only
      split
      · refine ⟨.marks, ?_⟩
        rw [State.startValid_eq]
        refine State.stockStep.andThen (t := { s.volatileLost with phase := .running })
          (fun h => ⟨State.stockHolds_of_same rfl rfl h, packsStep_refl _ _⟩)
          ((State.beforeLanes_frame _).stockStep.andThen (State.startLanes_stockStep _ _))
      · refine ⟨.removes, ?_⟩
        have frame := State.changesOnly_then (c := [.faults, .queues, .receivers])
          (State.changesOnly_then (c := [.faults, .queues]) (State.raiseController_frame
            (State.disregarded { s.volatileLost with phase := .running }) .storeLost {})
            (State.postOffice_frame _ .storeChange .store))
          (State.startPorts_frame _)
        refine State.stockStep.andThen (t := State.disregarded { s.volatileLost with phase := .running })
          (State.stockStep_of_sublist (List.nil_sublist _) fun _ => ⟨le_refl 1, (by decide : 1 ≤ 65535)⟩) frame.stockStep
    case supplyLoss =>
      cases run
      exact ⟨.marks, fun h => ⟨State.stockHolds_of_same rfl rfl h, packsStep_refl _ _⟩⟩
    all_goals exact absurd rfl power

end

/-- Settles O46: the table steps by `exec_stockStep`, and a command that is not the census's own tells it
of the marks it moves by `deedsAfter.tells`. -/
theorem marksMoveAlongEdges : Obligations.MarksMoveAlongEdges := by
  unfold Obligations.MarksMoveAlongEdges
  intro c s t run hs
  refine ⟨fun other told told_iff => ?_, fun p hp q hq same => ?_⟩
  · have power : isPower c = false := by
      cases c <;> first | rfl | cases other
    obtain ⟨-, -, flag, still⟩ := (exec_deeds power run).tells other hs
    exact ⟨fun h => flag (told_iff.1 h), fun h => still fun x => h (told_iff.2 x)⟩
  · obtain ⟨use, step⟩ := exec_stockStep run
    have step := packsStep_same_number (step hs).2 hs.2.2.1 hp hq same
    refine ⟨step.cls, step.first, step.count, step.excluded, fun n => ?_, step.sequence, step.moved⟩
    rcases step.marks n with e | ⟨-, old, new⟩ | ⟨-, old, new⟩
    · exact .inl e
    · exact .inr (.inl ⟨old, new⟩)
    · exact .inr (.inr ⟨old, new⟩)

end Sys2Proof.Machine
end

section
/-! SUPPORT. The lanes' bindings, the journal's numbering and the packs' references, through every
deed. -/

-- One proof at a time: the check's memory limit holds few threads.
set_option Elab.async false

namespace Sys2Proof.Machine

/-! ## The rules, and what they read -/

/-- A record in flight stands with a pack alone. -/
def State.recordsKept (s : State) : Prop := ∀ l : LaneId, (s.lane l).keptWf = true

/-- The stock's and the journal's rules together (05 R93 to R96, R101, R109; 08 R145 to R147). -/
structure State.accountsHold (s : State) : Prop where
  stock : s.stockHolds
  bindings : s.bindingsHold
  journal : s.journalHolds
  references : s.referencesHold
  records : s.recordsKept

section
variable {s t : State}

theorem Lane.keptWf_iff (x : Lane) : x.keptWf = true ↔ (x.inflight.isSome = true → x.pack.isSome = true) := by
  unfold Lane.keptWf
  cases x.inflight <;> cases x.pack <;> simp

/-- A pack of the table is the one its number finds. -/
theorem State.findPack_of_mem (h : (s.packs.map Pack.number).Nodup) {p : Pack} (hp : p ∈ s.packs) :
    s.findPack p.number = some p := by
  unfold State.findPack
  cases found : s.packs.find? fun q => q.number == p.number with
  | none => exact absurd (List.find?_eq_none.1 found p hp) (by simp)
  | some q =>
    have number : q.number = p.number := by simpa using List.find?_some found
    rw [List.inj_on_of_nodup_map h (List.mem_of_find?_eq_some found) hp number]

theorem State.mem_of_findPack {n : Nat} {p : Pack} (h : s.findPack n = some p) :
    p ∈ s.packs ∧ p.number = n := by
  unfold State.findPack at h
  exact ⟨List.mem_of_find?_eq_some h, by simpa using List.find?_some h⟩

theorem State.findPack_map {f : Pack → Pack} (packs : t.packs = s.packs.map f)
    (number : ∀ p ∈ s.packs, (f p).number = p.number) (n : Nat) :
    t.findPack n = (s.findPack n).map f := by
  unfold State.findPack
  rw [packs, List.find?_map]
  refine congrArg (Option.map f) (List.find?_congr fun p hp => ?_)
  simp only [Function.comp_apply, number p hp]

/-- The bindings read each lane's pack, and each pack's number, state and lane. -/
theorem State.bindingsHold_of_map {f : Pack → Pack} (packs : t.packs = s.packs.map f)
    (each : ∀ p ∈ s.packs, (f p).number = p.number ∧ (f p).state = p.state ∧ (f p).lane = p.lane)
    (lanes : ∀ l, (t.lane l).pack = (s.lane l).pack) (h : s.bindingsHold) : t.bindingsHold := by
  obtain ⟨bound, loose⟩ := h
  refine ⟨fun l n hl => ?_, fun q hq => ?_⟩
  · obtain ⟨p, found, state, lane⟩ := bound l n (lanes l ▸ hl)
    obtain ⟨-, state', lane'⟩ := each p (State.mem_of_findPack found).1
    exact ⟨f p, by rw [State.findPack_map packs (fun p hp => (each p hp).1), found]; rfl,
      state'.trans state, lane'.trans lane⟩
  · rw [packs] at hq
    obtain ⟨p, hp, rfl⟩ := List.mem_map.1 hq
    obtain ⟨-, state, lane⟩ := each p hp
    rw [state, lane]
    exact loose p hp

theorem State.bindingsHold_of_same (packs : t.packs = s.packs)
    (lanes : ∀ l, (t.lane l).pack = (s.lane l).pack) (h : s.bindingsHold) : t.bindingsHold :=
  State.bindingsHold_of_map (f := id) (by simpa using packs) (fun _ _ => ⟨rfl, rfl, rfl⟩) lanes h

/-- The references read the journal, and each pack's number and references. -/
theorem State.referencesHold_of_map {f : Pack → Pack} (packs : t.packs = s.packs.map f)
    (each : ∀ p ∈ s.packs, (f p).number = p.number ∧ (f p).references = p.references)
    (journal : t.journal = s.journal) (h : s.referencesHold) : t.referencesHold := by
  obtain ⟨counted, named⟩ := h
  refine ⟨fun q hq => ?_, fun e he => ?_⟩
  · rw [packs] at hq
    obtain ⟨p, hp, rfl⟩ := List.mem_map.1 hq
    rw [(each p hp).1, (each p hp).2, journal]
    exact counted p hp
  · obtain ⟨p, hp, number⟩ := named e (journal ▸ he)
    exact ⟨f p, packs ▸ List.mem_map_of_mem hp, (each p hp).1.trans number⟩

theorem State.journalHolds_of_same (same : s.same t .journal) (h : s.journalHolds) : t.journalHolds := by
  obtain ⟨journal, inUse, -⟩ := same
  unfold State.journalHolds State.entriesOf at h ⊢
  rw [journal, inUse]
  exact h

/-- What moves no pack, no lane's pack or record and no entry keeps the accounts. -/
theorem State.accountsHold_of_same (packs : t.packs = s.packs) (next : t.nextPack = s.nextPack)
    (journal : s.same t .journal)
    (lanes : ∀ l, (t.lane l).pack = (s.lane l).pack ∧
      ((t.lane l).inflight.isSome = true → (s.lane l).inflight.isSome = true))
    (h : s.accountsHold) : t.accountsHold where
  stock := State.stockHolds_of_same packs next h.stock
  bindings := State.bindingsHold_of_same packs (fun l => (lanes l).1) h.bindings
  journal := State.journalHolds_of_same journal h.journal
  references := State.referencesHold_of_map (f := id) (by simpa using packs)
    (fun _ _ => ⟨rfl, rfl⟩) journal.1 h.references
  records l := by
    have old := (Lane.keptWf_iff _).1 (h.records l)
    rw [Lane.keptWf_iff, (lanes l).1]
    exact fun i => old ((lanes l).2 i)

theorem State.changesOnly.accountsHold {a : List Part} (h : s.changesOnly t a) (hs : s.accountsHold)
    (out : .packs ∉ a := by decide) (out' : .nextPack ∉ a := by decide)
    (journal : .journal ∉ a := by decide) (lanes : .lanes ∉ a := by decide) : t.accountsHold := by
  refine State.accountsHold_of_same (h .packs out) (h .nextPack out') (h .journal journal)
    (fun l => ?_) hs
  have lane : t.lane l = s.lane l := congrArg (fun v : Vector Lane 4 => v[l]) (h .lanes lanes)
  exact ⟨by rw [lane], by rw [lane]; exact id⟩

/-! ## An entry written, and a session's entries freed -/

theorem State.writeEntry_journal (s : State) (w : Window) (d : EntryData) :
    (s.writeEntry w d).journal = s.journal ++ [s.entryFor w d] ∧
      (s.writeEntry w d).journalInUse = s.journalInUse + 1 := by
  have frame := State.changesOnly_then (c := [.packs, .queues])
    (State.updatePack_frame { s.setSession w ((s.session w).withEntry d) with
      journal := s.journal ++ [s.entryFor w d], journalInUse := s.journalInUse + 1 } d.pack
      fun p => { p with references := p.references + 1 }) (State.postSession_frame _ w)
  obtain ⟨journal, inUse, -⟩ := frame .journal (by decide)
  exact ⟨journal, inUse⟩

theorem State.writeEntry_entriesOf (s : State) (w v : Window) (d : EntryData) :
    (s.writeEntry w d).entriesOf v =
      if v = w then s.entriesOf v ++ [s.entryFor w d] else s.entriesOf v := by
  unfold State.entriesOf
  rw [(s.writeEntry_journal w d).1, List.filter_append]
  by_cases h : v = w
  · subst h
    simp [State.entryFor]
  · simp [State.entryFor, h, Ne.symm h]

theorem State.writeEntry_accountsHold (w : Window) (d : EntryData)
    (named : ∃ p ∈ s.packs, p.number = d.pack) (h : s.accountsHold) :
    (s.writeEntry w d).accountsHold := by
  obtain ⟨journal, inUse⟩ := s.writeEntry_journal w d
  have lane : ∀ l, (s.writeEntry w d).lane l = s.lane l := fun l =>
    congrArg (fun v : Vector Lane 4 => v[l]) (s.writeEntry_frame w d .lanes (by decide))
  refine ⟨(State.writeEntry_stock (use := .marks) w d h.stock).2, ?_, ⟨?_, fun v => ?_⟩, ?_, fun l => ?_⟩
  · refine State.bindingsHold_of_map (s.writeEntry_packs w d) (fun p _ => ?_) (fun l => by rw [lane])
      h.bindings
    split <;> exact ⟨rfl, rfl, rfl⟩
  · rw [journal, inUse, h.journal.1]
    simp
  · rw [State.writeEntry_entriesOf]
    split
    · subst v
      rw [List.map_append, h.journal.2 w, List.length_append, List.length_singleton,
        List.range_succ, List.map_append]
      rfl
    · exact h.journal.2 v
  · obtain ⟨counted, each⟩ := h.references
    have number : ∀ p : Pack, (if p.number = d.pack then { p with references := p.references + 1 }
        else p).number = p.number := fun p => by split <;> rfl
    refine ⟨fun q hq => ?_, fun e he => ?_⟩
    · rw [State.writeEntry_packs] at hq
      obtain ⟨p, hp, rfl⟩ := List.mem_map.1 hq
      rw [number, journal, List.filter_append, List.length_append, ← counted p hp]
      by_cases e : p.number = d.pack
      · simp [e, State.entryFor]
      · simp [e, State.entryFor, Ne.symm e]
    · rw [journal, List.mem_append, List.mem_singleton] at he
      obtain ⟨p, hp, pack⟩ : ∃ p ∈ s.packs, p.number = e.data.pack := by
        rcases he with he | rfl
        · exact each e he
        · exact named
      exact ⟨_, by rw [State.writeEntry_packs]; exact List.mem_map_of_mem hp, (number p).trans pack⟩
  · rw [lane]
    exact h.records l

theorem State.freeEntries_journal (s : State) (w : Window) :
    (s.freeEntries w).journal = (s.journal.filter fun e => e.window != w) ∧
      (s.freeEntries w).journalInUse = s.journalInUse - (s.entriesOf w).length := by
  unfold State.freeEntries
  dsimp only
  split
  · exact ⟨State.post_journal _ _ _, State.post_journalInUse _ _ _⟩
  · exact ⟨rfl, rfl⟩

/-- A list's elements are those of a filter and those it leaves out. -/
theorem length_filter_split {α : Type} (p q : α → Bool) (a : List α) :
    (a.filter p).length = (((a.filter q).filter p).length) +
      ((a.filter fun x => !q x).filter p).length := by
  induction a with
  | nil => rfl
  | cons x a ih =>
    cases hp : p x <;> cases hq : q x <;> simp [hp, hq, ih] <;> omega

theorem State.freeEntries_accountsHold (w : Window) (h : s.accountsHold) :
    (s.freeEntries w).accountsHold := by
  obtain ⟨journal, inUse⟩ := s.freeEntries_journal w
  have lane : ∀ l, (s.freeEntries w).lane l = s.lane l := fun l =>
    congrArg (fun v : Vector Lane 4 => v[l]) (State.freeEntries_frame (s := s) (w := w) .lanes (by decide))
  have each : ∀ p ∈ s.packs, PackStep .marks p
      { p with references := p.references - s.entriesNaming w p.number } := fun p _ =>
    PackStep.of_fields rfl rfl rfl rfl rfl rfl rfl rfl fun _ => rfl
  refine ⟨State.stockHolds_of_map (s.freeEntries_packs w)
      (State.freeEntries_frame (s := s) (w := w) .nextPack (by decide)) each h.stock,
    State.bindingsHold_of_map (s.freeEntries_packs w) (fun p _ => ⟨rfl, rfl, rfl⟩)
      (fun l => by rw [lane]) h.bindings, ⟨?_, fun v => ?_⟩, ⟨fun q hq => ?_, fun e he => ?_⟩,
    fun l => by rw [lane]; exact h.records l⟩
  · rw [journal, inUse, h.journal.1]
    have split := length_filter_split (fun _ => true) (fun e => e.window == w) s.journal
    simp only [List.filter_true] at split
    change s.journal.length - (s.journal.filter fun e => e.window == w).length =
      (s.journal.filter fun e => !(e.window == w)).length
    omega
  · have entries : (s.freeEntries w).entriesOf v = if v = w then [] else s.entriesOf v := by
      unfold State.entriesOf
      rw [journal, List.filter_filter]
      split
      · subst v
        simp
      · rename_i other
        refine List.filter_congr fun e _ => ?_
        by_cases he : e.window = v
        · simp [he, other]
        · simp [he]
    rw [entries]
    split
    · rfl
    · exact h.journal.2 v
  · rw [State.freeEntries_packs] at hq
    obtain ⟨p, hp, rfl⟩ := List.mem_map.1 hq
    have split := length_filter_split (fun e : JournalEntry => e.data.pack == p.number)
      (fun e => e.window == w) s.journal
    change p.references - s.entriesNaming w p.number = _
    rw [journal, h.references.1 p hp, split]
    exact Nat.add_sub_cancel_left _ _
  · rw [journal] at he
    obtain ⟨p, hp, number⟩ := h.references.2 e (List.mem_filter.1 he).1
    refine ⟨{ p with references := p.references - s.entriesNaming w p.number }, ?_, number⟩
    rw [State.freeEntries_packs]
    exact List.mem_map.2 ⟨p, hp, rfl⟩

end

/-! ## The deeds -/

section
variable {s t : State} {l : LaneId}

theorem State.changeMark_accountsHold {use : StockUse} (cls serial : Nat) {new : Mark}
    (gives : use.gives new) (h : s.accountsHold) : (s.changeMark cls serial new).accountsHold := by
  obtain ⟨f, packs, each⟩ := State.changeMark_marksMoved cls serial gives h.stock
  have frame := s.changeMark_frame cls serial new
  have lane : ∀ m, (s.changeMark cls serial new).lane m = s.lane m := fun m =>
    congrArg (fun v : Vector Lane 4 => v[m]) (frame .lanes (by decide))
  refine ⟨State.changeMark_stockHolds cls serial gives h.stock,
    State.bindingsHold_of_map packs (fun p hp => ?_) (fun m => by rw [lane]) h.bindings,
    State.journalHolds_of_same (frame .journal (by decide)) h.journal,
    State.referencesHold_of_map packs (fun p hp => ?_) (frame .journal (by decide)).1 h.references,
    fun m => by rw [lane]; exact h.records m⟩
  · obtain ⟨step, state, lane, -⟩ := each p hp
    exact ⟨step.number, state, lane⟩
  · obtain ⟨step, -, -, references⟩ := each p hp
    exact ⟨step.number, references⟩

theorem State.markUnused_accountsHold {use : StockUse} (cls : Nat) {new : Mark}
    (gives : use.gives new) : ∀ (serials : List Nat) {s : State}, s.accountsHold →
      (s.markUnused cls new serials).accountsHold
  | [], _, h => h
  | n :: serials, s, h => by
    refine State.markUnused_accountsHold cls gives serials (s := if ((s.packOf cls n).bind fun p =>
      p.markOf n) = some .unused then s.changeMark cls n new else s) ?_
    split
    · exact State.changeMark_accountsHold cls n gives h
    · exact h

theorem State.moveLane_accountsHold (f : Lane → Lane) (pack : (f (s.lane l)).pack = (s.lane l).pack)
    (kept : (f (s.lane l)).inflight.isSome = true →
      (s.lane l).inflight.isSome = true ∨ (s.lane l).pack.isSome = true) (h : s.accountsHold) :
    (s.moveLane l f).accountsHold := by
  have lane : ∀ m, m ≠ l → (s.moveLane l f).lane m = s.lane m := fun m hm =>
    State.moveLane_lane_ne s l f hm
  refine ⟨(s.moveLane_frame l f).stockHolds h.stock,
    State.bindingsHold_of_same (s.moveLane_frame l f .packs (by decide)) (fun m => ?_) h.bindings,
    State.journalHolds_of_same (s.moveLane_frame l f .journal (by decide)) h.journal,
    State.referencesHold_of_map (f := id) (by simp) (fun _ _ => ⟨rfl, rfl⟩) (by simp) h.references,
    fun m => ?_⟩
  · by_cases e : m = l
    · subst e
      rw [State.moveLane_lane_self, pack]
    · rw [lane m e]
  · by_cases e : m = l
    · subst e
      rw [State.moveLane_lane_self, Lane.keptWf_iff, pack]
      exact fun i => (kept i).elim ((Lane.keptWf_iff _).1 (h.records m)) id
    · rw [lane m e]
      exact h.records m

theorem Move.accountsHold (m : Move l s t) (h : s.accountsHold) : t.accountsHold := by
  cases m with
  | lane f pack kept => exact State.moveLane_accountsHold f pack kept h
  | told =>
    refine State.accountsHold_of_same (s := s) rfl rfl ⟨rfl, rfl, rfl⟩ (fun m => ?_) h
    rw [State.reportEligible_lane, Lane.claiming_pack, Lane.claiming_inflight]
    exact ⟨rfl, id⟩
  | mark cls serial new given =>
    exact State.changeMark_accountsHold (use := .marks) cls serial
      (.inl ⟨rfl, by fin_cases given <;> decide⟩) h
  | entry w d begun named =>
    refine State.writeEntry_accountsHold w d ?_ h
    have held := (Lane.keptWf_iff _).1 (h.records l) begun
    obtain ⟨n, pack⟩ := Option.isSome_iff_exists.1 held
    obtain ⟨p, found, -⟩ := h.bindings.1 l n pack
    obtain ⟨mem, number⟩ := State.mem_of_findPack found
    exact ⟨p, mem, by rw [number, named, pack]; rfl⟩
  | raised k c => exact (s.raiseLane_frame l k c).accountsHold h
  | relocked => exact (s.selfClear_frame l).accountsHold h
  | recovered how => exact (State.postReport_frame _ _).accountsHold ((s.mapReports_frame _).accountsHold h)
  | counted => exact (s.countRefusal_frame l).accountsHold h
  | slot w k x => exact (s.setSlot_frame w k x).accountsHold h
  | outcome w k o => exact (s.postOutcome_frame w k o).accountsHold h
  | form f x => exact (s.setForm_frame f x).accountsHold h
  | applied f => exact (State.postOffice_frame _ _ _).accountsHold ((s.setForm_frame f _).accountsHold h)
  | reserved w n m =>
    refine ⟨State.stockHolds_of_same rfl rfl h.stock,
      State.bindingsHold_of_same rfl (fun _ => rfl) h.bindings, h.journal, h.references, h.records⟩

/-- A pack's record changed, but not its marks, state, lane or references. -/
theorem State.updatePack_accountsHold {use : StockUse} (n : Nat) (f : Pack → Pack)
    (fields : ∀ p, PackMarked use p (f p)) (h : s.accountsHold) : (s.updatePack n f).accountsHold := by
  have frame := s.updatePack_frame n f
  have lane : ∀ m, (s.updatePack n f).lane m = s.lane m := fun m =>
    congrArg (fun v : Vector Lane 4 => v[m]) (frame .lanes (by decide))
  have each : ∀ p, PackMarked use p (if p.number = n then f p else p) := fun p => by
    split
    · exact fields p
    · exact PackMarked.refl p
  exact ⟨(State.updatePack_stock n f (fun p => (fields p).1) h.stock).2,
    State.bindingsHold_of_map (s.updatePack_packs n f)
      (fun p _ => ⟨(each p).1.number, (each p).2.1, (each p).2.2.1⟩) (fun m => by rw [lane]) h.bindings,
    State.journalHolds_of_same (frame .journal (by decide)) h.journal,
    State.referencesHold_of_map (s.updatePack_packs n f)
      (fun p _ => ⟨(each p).1.number, (each p).2.2.2⟩) (frame .journal (by decide)).1 h.references,
    fun m => by rw [lane]; exact h.records m⟩

/-- A pack's state and lane written. -/
theorem PackStep.placed {use : StockUse} (p : Pack) (state : PackState) (lane : Option LaneId) :
    PackStep use p { p with state := state, lane := lane } :=
  PackStep.of_fields rfl rfl rfl rfl rfl rfl rfl rfl fun _ => rfl

/-- What a binding and a release share: one pack's state and lane written, its lane MOUNTED or none. -/
theorem State.place_accounts (p : Pack) (state : PackState) (lane : Option LaneId)
    (fits : lane.isSome = (state == .mounted)) (h : s.accountsHold) :
    (s.updatePack p.number fun q => { q with state := state, lane := lane }).stockHolds ∧
    (s.updatePack p.number fun q => { q with state := state, lane := lane }).journalHolds ∧
    (s.updatePack p.number fun q => { q with state := state, lane := lane }).referencesHold ∧
    (∀ n, (s.updatePack p.number fun q => { q with state := state, lane := lane }).findPack n =
      (s.findPack n).map fun q => if q.number = p.number then { q with state := state, lane := lane }
        else q) ∧
    ∀ q ∈ (s.updatePack p.number fun q => { q with state := state, lane := lane }).packs,
      q.lane.isSome = (q.state == .mounted) := by
  have frame := s.updatePack_frame p.number fun q => { q with state := state, lane := lane }
  have packs := s.updatePack_packs p.number fun q => { q with state := state, lane := lane }
  refine ⟨(State.updatePack_stock (use := .marks) _ _ (fun q => PackStep.placed q _ _) h.stock).2,
    State.journalHolds_of_same (frame .journal (by decide)) h.journal,
    State.referencesHold_of_map packs (fun q _ => ?_) (frame .journal (by decide)).1 h.references,
    fun n => State.findPack_map packs (fun q _ => ?_) n, fun q hq => ?_⟩
  · split <;> exact ⟨rfl, rfl⟩
  · split <;> rfl
  · rw [packs] at hq
    obtain ⟨r, hr, rfl⟩ := List.mem_map.1 hq
    split
    · exact fits
    · exact h.bindings.2 r hr

/-- A pack bound to a lane that another lane does not hold (05 R101). -/
theorem State.bind_accountsHold (p : Pack) (found : s.reaches p) (loose : p.state ≠ .mounted)
    (h : s.accountsHold) : ((s.updatePack p.number fun q =>
      { q with state := .mounted, lane := some l }).moveLane l
        fun x => x.mount p.number p.first).accountsHold := by
  obtain ⟨stock, journal, references, find, loosePacks⟩ :=
    State.place_accounts p .mounted (some l) rfl h
  let t := s.updatePack p.number fun q => { q with state := .mounted, lane := some l }
  have frame : t.changesOnly (t.moveLane l fun x => x.mount p.number p.first) [.lanes, .queues] :=
    t.moveLane_frame l _
  have lane : ∀ m, t.lane m = s.lane m := fun m =>
    congrArg (fun v : Vector Lane 4 => v[m]) (s.updatePack_frame p.number _ .lanes (by decide))
  have packs : (t.moveLane l fun x => x.mount p.number p.first).packs = t.packs :=
    frame .packs (by decide)
  have find' : ∀ n, (t.moveLane l fun x => x.mount p.number p.first).findPack n = t.findPack n :=
    fun n => by unfold State.findPack; rw [packs]
  refine ⟨frame.stockHolds stock, ⟨fun m n bound => ?_, packs ▸ loosePacks⟩,
    State.journalHolds_of_same (frame .journal (by decide)) journal,
    State.referencesHold_of_map (f := id) (by rw [List.map_id]; exact packs)
      (fun _ _ => ⟨rfl, rfl⟩) (frame .journal (by decide)).1 references, fun m => ?_⟩
  · rw [find', find]
    by_cases e : m = l
    · subst e
      rw [State.moveLane_lane_self] at bound
      obtain rfl : p.number = n := Option.some.inj bound
      exact ⟨{ p with state := .mounted, lane := some m }, by rw [found.1]; simp, rfl, rfl⟩
    · rw [State.moveLane_lane_ne _ _ _ e, lane] at bound
      obtain ⟨q, hq, state, laneOf⟩ := h.bindings.1 m n bound
      have other : q.number ≠ p.number := fun same => by
        rw [(State.mem_of_findPack hq).2] at same
        rw [same, found.1] at hq
        exact loose (Option.some.inj hq ▸ state)
      exact ⟨q, by rw [hq]; simp [other], state, laneOf⟩
  · by_cases e : m = l
    · subst e
      rw [State.moveLane_lane_self, Lane.keptWf_iff]
      exact fun _ => rfl
    · rw [State.moveLane_lane_ne _ _ _ e, lane]
      exact h.records m

/-- A pack that no lane holds is withdrawn or parked: its state and lane, then marks alone. -/
theorem State.applyMode_accountsHold (p : Pack) (m : WithdrawMode) (h : s.accountsHold)
    (free : ∀ l n, (s.lane l).pack = some n → n ≠ p.number) : (s.applyMode p m).accountsHold := by
  have placed : (s.updatePack p.number fun q =>
      { q with state := withdrawnState m, lane := none }).accountsHold := by
    obtain ⟨stock, journal, references, find, loosePacks⟩ :=
      State.place_accounts p (withdrawnState m) none (by cases m <;> rfl) h
    have lane : ∀ l, (s.updatePack p.number fun q =>
        { q with state := withdrawnState m, lane := none }).lane l = s.lane l := fun l =>
      congrArg (fun v : Vector Lane 4 => v[l]) (s.updatePack_frame p.number _ .lanes (by decide))
    refine ⟨stock, ⟨fun l n bound => ?_, loosePacks⟩, journal, references,
      fun l => by rw [lane]; exact h.records l⟩
    rw [lane] at bound
    obtain ⟨q, hq, state, laneOf⟩ := h.bindings.1 l n bound
    have other : q.number ≠ p.number := (State.mem_of_findPack hq).2 ▸ free l n bound
    exact ⟨q, by rw [find, hq]; simp [other], state, laneOf⟩
  unfold State.applyMode
  dsimp only
  split
  · exact State.markUnused_accountsHold _ (withdrawnMark_gives ‹_›) _ placed
  · exact placed

theorem State.withdrawLane_lane_self (s : State) (l : LaneId) (p : Pack) (m : WithdrawMode) :
    (s.withdrawLane l p m).lane l = (((s.moveLane l Lane.stopped).applyMode p m).lane l).unmount :=
  (congrArg (fun v : Vector Lane 4 => v[l]) (s.withdrawLane_lanes l p m)).trans
    (State.moveLane_lane_self _ l Lane.unmount)

theorem State.withdrawLane_accountsHold (p : Pack) (m : WithdrawMode) (found : s.mounted l = some p)
    (h : s.accountsHold) : (s.withdrawLane l p m).accountsHold := by
  have frame := s.withdrawLane_frame l p m
  have stock := (State.withdrawLane_stockStep (s := s) l p m h.stock).1
  have stopped := (s.moveLane_frame l Lane.stopped).stockHolds h.stock
  obtain ⟨⟨f, moved, each⟩, -, -⟩ := State.applyMode_moves p m stopped
  obtain ⟨bound, found⟩ : (s.lane l).pack = some p.number ∧ s.findPack p.number = some p := by
    unfold State.mounted at found
    obtain ⟨n, pack, find⟩ := Option.bind_eq_some_iff.1 found
    obtain rfl := (State.mem_of_findPack find).2
    exact ⟨pack, find⟩
  have own : p.lane = some l := by
    obtain ⟨q, hq, -, laneOf⟩ := h.bindings.1 l p.number bound
    exact Option.some.inj (hq.symm.trans found) ▸ laneOf
  have packs : (s.withdrawLane l p m).packs = s.packs.map fun q =>
      f (if q.number = p.number then { q with state := withdrawnState m, lane := none } else q) := by
    rw [State.withdrawLane_packs, moved, State.updatePack_packs, State.moveLane_packs, List.map_map]
    rfl
  have each : ∀ q ∈ s.packs, PackMarked .marks
      (if q.number = p.number then { q with state := withdrawnState m, lane := none } else q)
      (f (if q.number = p.number then { q with state := withdrawnState m, lane := none } else q)) :=
    fun q hq => each _ (by
      rw [State.updatePack_packs, State.moveLane_packs]
      exact List.mem_map.2 ⟨q, hq, rfl⟩)
  have number : ∀ q ∈ s.packs, (f (if q.number = p.number then
      { q with state := withdrawnState m, lane := none } else q)).number = q.number := fun q hq => by
    rw [(each q hq).1.number]
    split <;> rfl
  have journal := frame .journal (by decide)
  have lane_self := s.withdrawLane_lane_self l p m
  have lane_ne : ∀ k, k ≠ l → (s.withdrawLane l p m).lane k = s.lane k := fun k hk =>
    (congrArg (fun v : Vector Lane 4 => v[k]) (s.withdrawLane_lanes l p m)).trans
      (s.releaseLane_lane_ne hk p m)
  refine ⟨stock, ⟨fun k n bound' => ?_, fun q hq => ?_⟩, State.journalHolds_of_same journal h.journal,
    State.referencesHold_of_map packs (fun q hq => ⟨number q hq, ?_⟩) journal.1 h.references,
    fun k => ?_⟩
  · by_cases e : k = l
    · rw [e, lane_self] at bound'
      cases bound'
    · rw [lane_ne k e] at bound'
      obtain ⟨q, hq, state, laneOf⟩ := h.bindings.1 k n bound'
      have other : q.number ≠ p.number := fun same => by
        rw [← (State.mem_of_findPack hq).2, same, found] at hq
        rw [← Option.some.inj hq, own] at laneOf
        exact e (Option.some.inj laneOf).symm
      have marked := each q (State.mem_of_findPack hq).1
      rw [if_neg other] at marked
      refine ⟨f q, ?_, marked.2.1.trans state, marked.2.2.1.trans laneOf⟩
      rw [State.findPack_map packs number, hq, Option.map_some, if_neg other]
  · rw [packs] at hq
    obtain ⟨r, hr, rfl⟩ := List.mem_map.1 hq
    obtain ⟨-, state, laneOf, -⟩ := each r hr
    rw [state, laneOf]
    split
    · cases m <;> rfl
    · exact h.bindings.2 r hr
  · rw [(each q hq).2.2.2]
    split <;> rfl
  · by_cases e : k = l
    · rw [e, lane_self]
      rfl
    · rw [lane_ne k e]
      exact h.records k

theorem State.addPack_accountsHold (b : PackBody) (passed : s.declarePackCode b = none)
    (h : s.accountsHold) : (s.addPack b).accountsHold := by
  obtain ⟨-, -, -, -, room, -⟩ := State.declarePackCode_none passed
  obtain ⟨i, -, fresh, -⟩ := State.packNumber_first room h.stock.2.2.2.2.2.1 h.stock.2.2.2.2.2.2
  have frame := s.addPack_frame b
  have stock := State.addPack_stockHolds b passed h.stock
  have lane : ∀ m, (s.addPack b).lane m = s.lane m := fun m =>
    congrArg (fun v : Vector Lane 4 => v[m]) (frame .lanes (by decide))
  have journal := frame .journal (by decide)
  refine ⟨stock, ⟨fun m n bound => ?_, fun q hq => ?_⟩, State.journalHolds_of_same journal h.journal,
    ⟨fun q hq => ?_, fun e he => ?_⟩, fun m => by rw [lane]; exact h.records m⟩
  · rw [lane] at bound
    obtain ⟨q, hq, state, laneOf⟩ := h.bindings.1 m n bound
    obtain ⟨mem, number⟩ := State.mem_of_findPack hq
    have mem' : q ∈ (s.addPack b).packs := by rw [State.addPack_packs]; exact List.mem_append_left _ mem
    exact ⟨q, number ▸ State.findPack_of_mem stock.2.2.1 mem', state, laneOf⟩
  · rw [State.addPack_packs, List.mem_append, List.mem_singleton] at hq
    rcases hq with hq | rfl
    · exact h.bindings.2 q hq
    · rfl
  · rw [State.addPack_packs, List.mem_append, List.mem_singleton] at hq
    rw [journal.1]
    rcases hq with hq | rfl
    · exact h.references.1 q hq
    · have none : (s.journal.filter fun e => e.data.pack == (PackBody.record b s.packNumber).number) = [] := by
        rw [List.filter_eq_nil_iff]
        intro e he same
        obtain ⟨p, hp, number⟩ := h.references.2 e he
        exact fresh p hp (number.trans (by simpa [PackBody.record] using same))
      rw [none]
      rfl
  · rw [journal.1] at he
    obtain ⟨p, hp, number⟩ := h.references.2 e he
    exact ⟨p, by rw [State.addPack_packs]; exact List.mem_append_left _ hp, number⟩

theorem State.removePack_accountsHold (p : Pack) (found : s.reaches p) (gone : p.state = .withdrawn)
    (unnamed : p.references = 0) (h : s.accountsHold) : (s.removePack p.number).accountsHold := by
  have frame := s.removePack_frame p.number
  have mem := State.mem_of_findPack found.1
  have packs := s.removePack_packs p.number
  have journal := frame .journal (by decide)
  have stock := State.stockHolds_of_sublist (packs.symm ▸ List.filter_sublist)
    ((State.removePack_nextPack s p.number).symm ▸ h.stock.2.2.2.2.2) h.stock
  have lane : ∀ m, (s.removePack p.number).lane m = s.lane m := fun m =>
    congrArg (fun v : Vector Lane 4 => v[m]) (frame .lanes (by decide))
  have kept : ∀ q, q ∈ (s.removePack p.number).packs ↔ q ∈ s.packs ∧ q.number ≠ p.number := by
    intro q
    rw [packs]
    simp
  refine ⟨stock, ⟨fun m n bound => ?_, fun q hq => h.bindings.2 q ((kept q).1 hq).1⟩,
    State.journalHolds_of_same journal h.journal, ⟨fun q hq => ?_, fun e he => ?_⟩,
    fun m => by rw [lane]; exact h.records m⟩
  · rw [lane] at bound
    obtain ⟨q, hq, state, laneOf⟩ := h.bindings.1 m n bound
    obtain ⟨mem', number⟩ := State.mem_of_findPack hq
    have other : q.number ≠ p.number := fun same => by
      rw [← number, same, found.1] at hq
      rw [← Option.some.inj hq, gone] at state
      cases state
    exact ⟨q, number ▸ State.findPack_of_mem stock.2.2.1 ((kept q).2 ⟨mem', other⟩), state, laneOf⟩
  · rw [journal.1]
    exact h.references.1 q ((kept q).1 hq).1
  · rw [journal.1] at he
    obtain ⟨q, hq, number⟩ := h.references.2 e he
    refine ⟨q, (kept q).2 ⟨hq, fun same => ?_⟩, number⟩
    have none := h.references.1 p mem.1
    rw [unnamed, eq_comm, List.length_eq_zero_iff, List.filter_eq_nil_iff] at none
    exact none e he (by simp [← number, same])

/-- An empty table with nothing bound and nothing written keeps every account. -/
theorem State.accountsHold_of_empty (packs : s.packs = []) (next : s.nextPack = 1)
    (journal : s.journal = [] ∧ s.journalInUse = 0) (lanes : ∀ l, (s.lane l).pack = none ∧
      (s.lane l).inflight = none) : s.accountsHold where
  stock := by simp [State.stockHolds, State.entriesUsed, packs, next]
  bindings := by simp [State.bindingsHold, packs, lanes]
  journal := by simp [State.journalHolds, State.entriesOf, journal.1, journal.2]
  references := by simp [State.referencesHold, packs, journal.1]
  records l := by simp [Lane.keptWf, (lanes l).2]

theorem State.reinitialised_accountsHold : s.reinitialised.accountsHold := by
  obtain ⟨packs, next⟩ := s.reinitialised_packs
  obtain ⟨journal, inUse, -⟩ := s.reinitialised_journal
  refine State.accountsHold_of_empty packs next ⟨journal, inUse⟩ fun l => ?_
  rw [State.reinitialised_lane]
  exact ⟨rfl, rfl⟩

theorem Deed.accountsHold {c : Instr} {a : List Part} (d : Deed c a s t) (h : s.accountsHold) :
    t.accountsHold := by
  by_cases touched : Part.packs ∈ a ∨ Part.journal ∈ a ∨ Part.lanes ∈ a
  swap
  · rw [not_or, not_or] at touched
    refine State.changesOnly.accountsHold d.frame h touched.1 ?_ touched.2.1 touched.2.2
    cases d <;> first | exact absurd (by decide) touched.1 | decide
  cases d with
  | move use l m => exact m.accountsHold h
  | collected _ w =>
    exact (State.setSession_postSession_frame _ w _).accountsHold (State.freeEntries_accountsHold w h)
  | voided use _ w e found =>
    have marked := State.changeMark_accountsHold (use := .voids) e.data.cls e.data.serial
      (new := .voided) (.inr ⟨rfl, rfl⟩) h
    refine State.writeEntry_accountsHold w _ ?_ marked
    have entry : e ∈ (s.changeMark e.data.cls e.data.serial .voided).journal := by
      rw [(s.changeMark_frame _ _ _ .journal (by decide)).1]
      exact (List.mem_filter.1 found).1
    exact marked.references.2 e entry
  | packAdded use _ b passed => exact State.addPack_accountsHold b passed h
  | packMounted mounts _ l p found loose => exact State.bind_accountsHold p found loose h
  | packReleased use mounts _ l p m found => exact State.withdrawLane_accountsHold p m found h
  | packRetired use mounts _ p m found loose =>
    refine State.applyMode_accountsHold p m h fun l n bound e => loose ?_
    obtain ⟨q, hq, state, -⟩ := h.bindings.1 l n bound
    rw [e, found.1] at hq
    exact Option.some.inj hq ▸ state
  | packRemoved use _ p found gone unnamed => exact State.removePack_accountsHold p found gone unnamed h
  | verdict use _ p v =>
    have kept := fun v => State.updatePack_accountsHold (use := .counts) p.number
      (fun q => { q with verdict := v }) (fun q => ⟨PackStep.of_fields rfl rfl rfl rfl rfl rfl rfl rfl
        fun h => absurd rfl h, rfl, rfl, rfl⟩) h
    cases v with
    | none => exact h
    | matched => exact kept _
    | mismatch => exact (State.raiseController_frame _ _ _).accountsHold (kept _)
  | reinitialised own use => exact State.reinitialised_accountsHold
  | _ => exact absurd touched (by decide)

theorem deedsAfter.accountsHold {c : Instr} (d : deedsAfter c s t) (h : s.accountsHold) :
    t.accountsHold := by
  obtain ⟨u, queues, deeds⟩ := d
  exact deeds.keeps (fun _ _ _ => Deed.accountsHold) (queues.accountsHold h)

/-! ## Power -/

theorem State.startLane_accountsHold (h : s.accountsHold) : (s.startLane l).accountsHold := by
  refine (s.startLane_run l).keeps (fun _ _ => Move.accountsHold) ?_
  refine State.accountsHold_of_same (s := s) rfl rfl ⟨rfl, rfl, rfl⟩ (fun m => ?_) h
  by_cases e : m = l
  · subst e
    rw [State.setLane_lane_self]
    exact ⟨rfl, id⟩
  · rw [State.setLane_lane_ne s e]
    exact ⟨rfl, id⟩

theorem State.startLanes_accountsHold : ∀ (xs : List LaneId) {s : State}, s.accountsHold →
    (xs.foldl State.startLane s).accountsHold
  | [], _, h => h
  | _ :: xs, _, h => State.startLanes_accountsHold xs (State.startLane_accountsHold h)

theorem State.startTill_accountsHold (h : s.accountsHold) :
    (State.startTill { s with storeValid := true }).accountsHold where
  stock := State.stockHolds_of_same rfl rfl h.stock
  bindings := State.bindingsHold_of_same (s := s) rfl (fun _ => rfl) h.bindings
  journal := by
    obtain ⟨inUse, numbers⟩ := h.journal
    refine ⟨inUse.trans (List.length_map _).symm, fun w => ?_⟩
    have entries : (State.startTill { s with storeValid := true }).entriesOf w =
        (s.entriesOf w).map fun e => { e with beforePowerOn := true } := by
      unfold State.entriesOf State.startTill
      rw [List.filter_map]
      rfl
    rw [entries, List.map_map, List.length_map]
    exact numbers w
  references := by
    obtain ⟨counted, named⟩ := h.references
    refine ⟨fun p hp => ?_, fun e he => ?_⟩
    · have filter : (State.startTill { s with storeValid := true }).journal.filter
          (fun e => e.data.pack == p.number) =
          (s.journal.filter fun e => e.data.pack == p.number).map fun e =>
            { e with beforePowerOn := true } := by
        unfold State.startTill
        rw [List.filter_map]
        rfl
      rw [filter, List.length_map]
      exact counted p hp
    · obtain ⟨x, hx, rfl⟩ := List.mem_map.1 he
      exact named x hx
  records := h.records

theorem State.lost_accountsHold (p : Phase) (a : Bool) (h : s.accountsHold) :
    State.accountsHold { s.volatileLost with phase := p, checkAgrees := a } := by
  refine State.accountsHold_of_same (s := s) rfl rfl ⟨rfl, rfl, rfl⟩ (fun l => ?_) h
  have lane : State.lane { s.volatileLost with phase := p, checkAgrees := a } l = (s.lane l).retained := by
    simp [State.lane, State.volatileLost]
  rw [lane]
  exact ⟨rfl, id⟩

theorem exec_accountsHold {c : Instr} (h : s.accountsHold) (run : exec c s = .next t) :
    t.accountsHold := by
  by_cases power : isPower c = false
  · exact (exec_deeds power run).accountsHold h
  · cases c
    case supplyLoss => cases run; exact State.lost_accountsHold _ _ h
    case powerOn =>
      cases run
      dsimp only
      split
      · rw [State.startValid_eq]
        refine State.startLanes_accountsHold allLanes ?_
        exact (State.startPorts_frame _).accountsHold ((State.startForms_frame _).accountsHold
          (State.startTill_accountsHold (State.lost_accountsHold .running s.checkAgrees h)))
      · have frame := State.changesOnly_then (c := [.faults, .queues, .receivers])
          (State.changesOnly_then (c := [.faults, .queues]) (State.raiseController_frame
            (State.disregarded { s.volatileLost with phase := .running }) .storeLost {})
            (State.postOffice_frame _ .storeChange .store))
          (State.startPorts_frame _)
        refine frame.accountsHold (State.accountsHold_of_empty rfl rfl ⟨rfl, rfl⟩ fun l => ?_)
        simp [State.lane, State.disregarded, State.volatileLost, Lane.startedInvalid, Lane.offline]
    all_goals exact absurd rfl power

end

/-- Settles O47: `State.accountsHold` joins the four rules with what the lanes' rule says of a record in
flight, and every command keeps them together. -/
theorem stockAndJournalStayConsistent : Obligations.StockAndJournalStayConsistent := by
  unfold Obligations.StockAndJournalStayConsistent
  intro s t stock bindings journal references lanes run
  have held : t.accountsHold := step_keeps (P := State.accountsHold)
    (fun _ _ h => ⟨h.stock, h.bindings, h.journal, h.references, h.records⟩)
    (fun c s t hs run => exec_accountsHold hs run) ⟨stock, bindings, journal, references, lanes.2.1⟩ run
  exact ⟨held.stock, held.bindings, held.journal, held.references⟩

end Sys2Proof.Machine
end

section
/-! SUPPORT. The byte layouts of 01 section 1.8: quantities sent low byte first, the kinds and codes on the
link, the notice record and the mark record. -/

-- One proof at a time: the check's memory limit holds few threads.
set_option Elab.async false

namespace Sys2Proof.Machine

/-! ## Quantities sent low byte first -/

@[simp] theorem bytesLow_length : ∀ k n, (bytesLow k n).length = k
  | 0, _ => rfl
  | k + 1, n => congrArg (· + 1) (bytesLow_length k (n / 256))

theorem fromLow_bytesLow : ∀ {k n : Nat}, n < 256 ^ k → fromLow (bytesLow k n) = n
  | 0, n, h => by
    simp only [Nat.pow_zero, Nat.lt_one_iff] at h
    exact h.symm
  | k + 1, n, h => by
    have high : n / 256 < 256 ^ k := Nat.div_lt_of_lt_mul (by rw [Nat.pow_succ] at h; omega)
    rw [bytesLow, fromLow, fromLow_bytesLow high, BitVec.toNat_ofNat]
    omega

theorem bytesLow_fromLow : ∀ bytes : List Byte, bytesLow bytes.length (fromLow bytes) = bytes
  | [] => rfl
  | b :: rest => by
    have low : (b.toNat + 256 * fromLow rest) / 256 = fromLow rest := by omega
    rw [List.length_cons, fromLow, bytesLow, low, bytesLow_fromLow rest]
    congr 1
    apply BitVec.eq_of_toNat_eq
    rw [BitVec.toNat_ofNat]
    omega

theorem fromLow_lt : ∀ bytes : List Byte, fromLow bytes < 256 ^ bytes.length
  | [] => by decide
  | b :: rest => by
    have := fromLow_lt rest
    rw [List.length_cons, fromLow, Nat.pow_succ]
    omega

/-! ## The kinds on the link (01 Table 1.3) -/

theorem RequestKind.mem_all (k : RequestKind) : k ∈ RequestKind.all := by cases k <;> decide

theorem RequestKind.byte_injective {k k' : RequestKind} (h : k.byte = k'.byte) : k = k' :=
  List.inj_on_of_nodup_map (f := RequestKind.byte) (by decide) k.mem_all k'.mem_all h

theorem RequestKind.ofByte_eq_some_iff (b : Byte) (k : RequestKind) :
    RequestKind.ofByte b = some k ↔ k.byte = b := by
  refine ⟨fun h => by simpa using List.find?_some h, fun h => ?_⟩
  subst h
  cases found : RequestKind.ofByte k.byte with
  | none => simpa using List.find?_eq_none.1 found k k.mem_all
  | some k' =>
    have same : k'.byte = k.byte := by simpa using List.find?_some found
    rw [RequestKind.byte_injective same]

@[simp] theorem RequestKind.ofByte_byte (k : RequestKind) : RequestKind.ofByte k.byte = some k :=
  (RequestKind.ofByte_eq_some_iff _ k).2 rfl

/-- No request's kind byte has the top bit set. -/
theorem RequestKind.byte_msb (k : RequestKind) : k.byte.msb = false := by cases k <;> decide

theorem RequestKind.answerKind_byte (k : RequestKind) :
    (answerKind k.byte).toNat = k.byte.toNat + 128 := by cases k <;> decide

/-- The kinds with their bytes, in the order of Table 1.3. -/
def kindTable : List (RequestKind × Byte) := RequestKind.all.map fun k => (k, k.byte)

theorem mem_kindTable (k : RequestKind) (b : Byte) : (k, b) ∈ kindTable ↔ k.byte = b := by
  simp [kindTable, k.mem_all]

/-! ## The result codes (01 Table 1.2, R5) -/

/-- The codes with a fixed value. -/
def commonCodes : List ResultCode :=
  [.ok, .frameRejected, .unknownKind, .wrongPort, .malformed, .storeInvalid, .notPermitted, .none]

theorem ResultCode.mem_codes (c : ResultCode) : c ∈ commonCodes ++ namedCodes := by
  cases c <;> decide

theorem mem_namedCodes (c : ResultCode) : c ∈ namedCodes ↔ c ∉ commonCodes := by
  cases c <;> decide

/-- R5 (01) in one evaluation: a code's value is fixed by the number of names before its own. -/
theorem namedCodes_value : ∀ c ∈ namedCodes, c.value.toNat =
    0x20 + (namedCodes.filter fun d => decide (d.codeName < c.codeName)).length := by
  decide +kernel

theorem ResultCode.value_injective {c d : ResultCode} (h : c.value = d.value) : c = d :=
  List.inj_on_of_nodup_map (f := ResultCode.value) (by decide +kernel) c.mem_codes d.mem_codes h

theorem AnswerFields.bytes_length (f : AnswerFields) : f.bytes.length ≤ 599 := by
  cases f with
  | bare => simp [AnswerFields.bytes]
  | notice n =>
    obtain ⟨k, o, d⟩ := n
    cases d <;> simp [AnswerFields.bytes, Notice.bytes, SlotOutcome.bytes]
  | _ => simp [AnswerFields.bytes, Config.maxBody]

/-- Settles O7: the kinds and the codes are finite tables; an answer's body is its code and at most 599
bytes of fields. -/
theorem codesOnTheLink : Obligations.CodesOnTheLink := by
  unfold Obligations.CodesOnTheLink
  refine ⟨fun table listed k b => ?_, fun b top => ?_, fun common listed => ?_,
    fun c d => ResultCode.value_injective, fun a => ?_⟩
  · have same : table = kindTable := listed
    subst same
    exact ⟨(mem_kindTable k b).symm, (RequestKind.ofByte_eq_some_iff b k).trans (mem_kindTable k b).symm,
      k.answerKind_byte⟩
  · refine List.find?_eq_none.2 fun k _ same => ?_
    rw [beq_iff_eq] at same
    rw [← same, k.byte_msb] at top
    exact Bool.false_ne_true top
  · have same : common = commonCodes := listed
    subst same
    exact ⟨by decide, by decide, fun c =>
      ⟨mem_namedCodes c, fun other => namedCodes_value c ((mem_namedCodes c).2 other)⟩⟩
  · refine ⟨a.reply.fields.bytes, rfl, ?_, fun bare => ?_, fun n notice => ?_⟩
    · have := a.reply.fields.bytes_length
      omega
    · rw [bare, AnswerFields.bytes]
    · rw [notice, AnswerFields.bytes]

/-! ## The notice record (01 Table 1.7) -/

/-- Settles O8: the record is laid out byte by byte, its two wide fields low byte first. -/
theorem noticeRecordLayout : Obligations.NoticeRecordLayout := by
  unfold Obligations.NoticeRecordLayout
  refine ⟨by decide, by decide, by decide, by decide, by decide, by decide, by decide, fun n => ?_⟩
  obtain ⟨kind, object, detail⟩ := n
  cases detail with
  | none => simp [Notice.bytes]
  | some o =>
    have serial : (bytesLow 3 o.serial ++ bytesLow 3 o.value).take 3 = bytesLow 3 o.serial :=
      List.take_left' (bytesLow_length 3 o.serial)
    have value : (bytesLow 3 o.serial ++ bytesLow 3 o.value).drop 3 = bytesLow 3 o.value :=
      List.drop_left' (bytesLow_length 3 o.serial)
    refine ⟨by simp [Notice.bytes, SlotOutcome.bytes], rfl, (nomatch ·), ?_⟩
    intro x given attempts cls low high
    cases given
    refine ⟨rfl, ?_, ?_, ?_⟩
    · show [(BitVec.ofNat 8 o.attempts).toNat, (BitVec.ofNat 8 o.cls).toNat] = _
      rw [BitVec.toNat_ofNat, BitVec.toNat_ofNat, Nat.mod_eq_of_lt (by omega),
        Nat.mod_eq_of_lt (by omega)]
    · show fromLow ((bytesLow 3 o.serial ++ bytesLow 3 o.value).take 3) = _
      rw [serial, fromLow_bytesLow low]
    · show fromLow ((bytesLow 3 o.serial ++ bytesLow 3 o.value).drop 3) = _
      rw [value, fromLow_bytesLow high]

/-! ## The mark record (01 Table 1.10, R20) -/

/-- The four bytes a mark record's check is computed over. -/
def markData (cls serial : Nat) : List Byte := bytesLow 1 cls ++ bytesLow 3 serial

theorem markRecordOf_toList (cls serial : Nat) : (markRecordOf cls serial).toList =
    markData cls serial ++ bytesLow 2 (markCheck (markData cls serial)).toNat := by
  have data : [BitVec.ofNat 8 cls, BitVec.ofNat 8 serial, BitVec.ofNat 8 (serial / 256),
      BitVec.ofNat 8 (serial / 65536)] = markData cls serial := by
    simp [markData, bytesLow, Nat.div_div_eq_div_mul]
  rw [markRecordOf, ← data]
  rfl

/-- The record is its data and its check. -/
theorem eq_markRecordOf_iff (r : Vector Byte 6) (cls serial : Nat) : r = markRecordOf cls serial ↔
    r.toList.take 4 = markData cls serial ∧
      r.toList.drop 4 = bytesLow 2 (markCheck (markData cls serial)).toNat := by
  rw [← Vector.toList_inj, markRecordOf_toList]
  constructor
  · intro h
    rw [h]
    exact ⟨rfl, rfl⟩
  · rintro ⟨data, check⟩
    rw [← List.take_append_drop 4 r.toList, data, check]

/-- Four bytes are the data of a class and a serial exactly where they read as them. -/
theorem eq_markData_iff {data : List Byte} (four : data.length = 4) {cls serial : Nat} (hc : cls ≤ 3)
    (hn : serial ≤ 9999999) : data = markData cls serial ↔
      fromLow (data.take 1) = cls ∧ fromLow (data.drop 1) = serial := by
  constructor
  · rintro rfl
    exact ⟨fromLow_bytesLow (k := 1) (by omega), fromLow_bytesLow (k := 3) (by omega)⟩
  · rintro ⟨rfl, rfl⟩
    have first := bytesLow_fromLow (data.take 1)
    have rest := bytesLow_fromLow (data.drop 1)
    rw [List.length_take, four] at first
    rw [List.length_drop, four] at rest
    exact (List.take_append_drop 1 data).symm.trans (congr (congrArg _ first.symm) rest.symm)

theorem goodRead_eq_some_iff (r : Vector Byte 6) (cls serial : Nat) : goodRead r = some (cls, serial) ↔
    r.toList.drop 4 = bytesLow 2 (markCheck (r.toList.take 4)).toNat ∧ cls ≤ 3 ∧ 1 ≤ serial ∧
      serial ≤ 9999999 ∧ fromLow ((r.toList.take 4).take 1) = cls ∧
      fromLow ((r.toList.take 4).drop 1) = serial := by
  dsimp only [goodRead]
  split
  · rename_i good
    obtain ⟨check, low, first, last⟩ := good
    simp only [Option.some.injEq, Prod.mk.injEq]
    constructor
    · rintro ⟨rfl, rfl⟩
      exact ⟨check, by omega, first, last, rfl, rfl⟩
    · rintro ⟨-, -, -, -, same⟩
      exact same
  · rename_i bad
    refine ⟨(nomatch ·), ?_⟩
    rintro ⟨check, low, first, last, rfl, rfl⟩
    exact absurd ⟨check, by omega, first, last⟩ bad

/-- Settles O9: a record that reads as a class and a serial has their bytes, and so their check. -/
theorem goodMarkRecordsAreTheRecords : Obligations.GoodMarkRecordsAreTheRecords := by
  unfold Obligations.GoodMarkRecordsAreTheRecords
  intro r cls serial
  have four : (r.toList.take 4).length = 4 := by simp
  rw [goodRead_eq_some_iff]
  constructor
  · rintro ⟨check, low, first, last, reads⟩
    have data := (eq_markData_iff four low last).2 reads
    exact ⟨low, first, last, (eq_markRecordOf_iff r cls serial).2 ⟨data, data ▸ check⟩⟩
  · rintro ⟨low, first, last, record⟩
    obtain ⟨data, check⟩ := (eq_markRecordOf_iff r cls serial).1 record
    exact ⟨data.symm ▸ check, low, first, last, (eq_markData_iff four low last).1 data⟩

end Sys2Proof.Machine
end

section
/-! SUPPORT. The receivers (01 Table 1.1, R1 to R3): what one event does, and what a whole frame received
byte by byte comes to. -/

-- One proof at a time: the check's memory limit holds few threads.
set_option Elab.async false

namespace Sys2Proof.Machine

/-! ## A port's receiver and answer written -/

/-- A port with its receiver and answer written, its queue kept. -/
def State.withRx (s : State) (p : Port) (rx : Receiver) (tx : Option Answer) : State :=
  s.setPort p { s.port p with rx := rx, tx := tx }

/-- Nothing but one port's receiver and answer has changed. -/
def State.rxOnly (s : State) (p : Port) (t : State) : Prop :=
  s.changesOnly t [.receivers] ∧ ∀ q, q ≠ p → t.port q = s.port q

section
variable (s : State) (p : Port) (rx : Receiver) (tx : Option Answer)

@[simp] theorem State.withRx_rx : ((s.withRx p rx tx).port p).rx = rx := by simp [State.withRx]

@[simp] theorem State.withRx_tx : ((s.withRx p rx tx).port p).tx = tx := by simp [State.withRx]

theorem State.rxOnly_withRx : s.rxOnly p (s.withRx p rx tx) :=
  ⟨s.setReceiver_frame p rx tx, fun _ h => s.setPort_port_ne h _⟩

theorem State.rxOnly_refl : s.rxOnly p s := ⟨s.changesOnly_refl _, fun _ _ => rfl⟩

theorem State.setPort_setPort (x y : PortState) : (s.setPort p x).setPort p y = s.setPort p y := by
  cases p <;> simp [State.setPort, Vector.set_set]

@[simp] theorem State.withRx_withRx (rx' : Receiver) (tx' : Option Answer) :
    (s.withRx p rx tx).withRx p rx' tx' = s.withRx p rx' tx' := by
  simp only [State.withRx, State.setPort_setPort, State.setPort_port_self]

@[simp] theorem State.withRx_portAnswer (kind tag : Byte) (c : ResultCode) (rx' : Receiver) :
    (s.withRx p rx tx).portAnswer p kind tag c rx' =
      s.withRx p rx' (some ⟨answerKind kind, tag, refusal c⟩) :=
  s.withRx_withRx p rx tx _ _

end

theorem State.portAnswer_eq (s : State) (p : Port) (kind tag : Byte) (c : ResultCode) (rx : Receiver) :
    s.portAnswer p kind tag c rx = s.withRx p rx (some ⟨answerKind kind, tag, refusal c⟩) := rfl

/-! ## One event -/

/-- What each event makes of the part, as `exec` says it. -/
def State.byteTaken (s : State) (p : Port) (b : Byte) (fe : Bool) : State :=
  match (s.port p).rx with
  | .hunting => if b = syncByte ∧ fe = false then s.withRx p (.receiving [b] false) (s.port p).tx else s
  | .receiving frame damaged => s.receiveByte p (frame ++ [b]) (damaged || fe)
  | .draining sent _ => s.withRx p (.draining sent false) (s.port p).tx
  | .starting => s
  | .busy _ => s

def State.gapExpired (s : State) (p : Port) : State :=
  match (s.port p).rx with
  | .receiving _ _ => s.withRx p .hunting (s.port p).tx
  | _ => s

def State.quietExpired (s : State) (p : Port) : State :=
  match (s.port p).rx with
  | .draining true _ => s.withRx p .hunting (s.port p).tx
  | .draining false _ => s.withRx p (.draining false true) (s.port p).tx
  | _ => s

def State.answerGone (s : State) (p : Port) : State :=
  if (s.port p).tx.isSome then s.withRx p (s.port p).rx.afterAnswer none else s

section
variable (s : State) (p : Port) (b : Byte) (fe : Bool)

theorem exec_portByteReceived :
    exec (.portByteReceived p b fe) s = .next (s.byteTaken p b fe) := by
  cases h : (s.port p).rx <;> simp only [exec, execPortByteReceived, State.byteTaken, h] <;> rfl

theorem exec_gapTimerExpiry : exec (.gapTimerExpiry p) s = .next (s.gapExpired p) := by
  cases h : (s.port p).rx <;> simp only [exec, execGapTimerExpiry, State.gapExpired, h] <;> rfl

theorem exec_quietTimerExpiry : exec (.quietTimerExpiry p) s = .next (s.quietExpired p) := by
  cases h : (s.port p).rx with
  | draining sent quiet =>
    cases sent <;> simp only [exec, execQuietTimerExpiry, State.quietExpired, h] <;> rfl
  | _ => simp only [exec, execQuietTimerExpiry, State.quietExpired, h]

theorem exec_answerSent : exec (.answerSent p) s = .next (s.answerGone p) := rfl

/-- A byte appended leaves its port's frame rejected, complete or open, and nothing else changed. -/
theorem State.receiveByte_only (frame : List Byte) (damaged : Bool) :
    s.rxOnly p (s.receiveByte p frame damaged) := by
  unfold State.receiveByte State.completeFrame State.admitFrame
  split_ifs
  · exact s.rxOnly_withRx p _ _
  · exact s.rxOnly_withRx p _ _
  · split
    · exact s.rxOnly_withRx p _ _
    · split_ifs <;> exact s.rxOnly_withRx p _ _
  · exact s.rxOnly_withRx p _ _

theorem State.byteTaken_only : s.rxOnly p (s.byteTaken p b fe) := by
  unfold State.byteTaken
  split
  · split_ifs
    · exact s.rxOnly_withRx p _ _
    · exact s.rxOnly_refl p
  · exact s.receiveByte_only p _ _
  · exact s.rxOnly_withRx p _ _
  · exact s.rxOnly_refl p
  · exact s.rxOnly_refl p

theorem State.gapExpired_only : s.rxOnly p (s.gapExpired p) := by
  unfold State.gapExpired
  split
  · exact s.rxOnly_withRx p _ _
  · exact s.rxOnly_refl p

theorem State.quietExpired_only : s.rxOnly p (s.quietExpired p) := by
  unfold State.quietExpired
  split
  · exact s.rxOnly_withRx p _ _
  · exact s.rxOnly_withRx p _ _
  · exact s.rxOnly_refl p

theorem State.answerGone_only : s.rxOnly p (s.answerGone p) := by
  unfold State.answerGone
  split_ifs
  · exact s.rxOnly_withRx p _ _
  · exact s.rxOnly_refl p

theorem State.gapExpired_rx : ((s.gapExpired p).port p).rx =
    (match (s.port p).rx with | .receiving _ _ => .hunting | r => r) := by
  cases h : (s.port p).rx <;> simp [State.gapExpired, h]

theorem State.quietExpired_rx : ((s.quietExpired p).port p).rx =
    (match (s.port p).rx with
      | .draining true _ => .hunting
      | .draining false _ => .draining false true
      | r => r) := by
  cases h : (s.port p).rx with
  | draining sent quiet => cases sent <;> simp [State.quietExpired, h]
  | _ => simp [State.quietExpired, h]

end

/-- An appended byte that neither overruns the length nor completes the frame. -/
def staysOpen (frame : List Byte) : Prop :=
  ¬(frame.length = 5 ∧ 600 < frameLength frame) ∧ ¬(7 ≤ frame.length ∧ frame.length = frameLength frame + 7)

theorem State.receiveByte_of_staysOpen (s : State) (p : Port) {frame : List Byte} (damaged : Bool)
    (h : staysOpen frame) :
    s.receiveByte p frame damaged = s.withRx p (.receiving frame damaged) (s.port p).tx := by
  unfold State.receiveByte
  rw [if_neg (show ¬(frame.length = 5 ∧ Config.maxBody < frameLength frame) from h.1), if_neg h.2]
  rfl

theorem PortState.attention_iff (x : PortState) :
    x.attention = true ↔ x.rx ≠ .starting ∧ x.queue ≠ [] := by
  simp [PortState.attention]

theorem PortState.clearToSend_iff (x : PortState) :
    x.clearToSend = true ↔ x.rx = .hunting ∨ ∃ f d, x.rx = .receiving f d := by
  cases h : x.rx <;> simp [PortState.clearToSend, h]

/-- Settles O6: each event by the receiver's state. -/
theorem receiverEvents : Obligations.ReceiverEvents := by
  unfold Obligations.ReceiverEvents
  refine ⟨fun x => ⟨x.attention_iff, x.clearToSend_iff⟩, fun s p b fe => ?_⟩
  refine ⟨_, _, _, _, exec_portByteReceived s p b fe, exec_gapTimerExpiry s p,
    exec_quietTimerExpiry s p, exec_answerSent s p, (s.byteTaken_only p b fe).1,
    (s.gapExpired_only p).1, (s.quietExpired_only p).1, (s.answerGone_only p).1,
    fun q other => ⟨(s.byteTaken_only p b fe).2 q other, (s.gapExpired_only p).2 q other,
      (s.quietExpired_only p).2 q other, (s.answerGone_only p).2 q other⟩,
    fun hunting => ?_, fun frame damaged receiving short more => ?_, fun held busy => ?_,
    fun starting => ?_, fun sent quiet draining => ?_, s.gapExpired_rx p, s.quietExpired_rx p,
    fun a sending => ?_, fun idle => ?_⟩
  · simp only [State.byteTaken, hunting]
    by_cases good : b = 0x5A ∧ fe = false
    · rw [if_pos good, if_pos (show b = syncByte ∧ fe = false from good), State.withRx_rx]
    · rw [if_neg good, if_neg (show ¬(b = syncByte ∧ fe = false) from good), hunting]
  · have stays : staysOpen (frame ++ [b]) := by
      simp only [staysOpen, List.length_append, List.length_singleton]
      omega
    simp only [State.byteTaken, receiving, s.receiveByte_of_staysOpen p _ stays, State.withRx_rx]
  · simp [State.byteTaken, busy]
  · simp [State.byteTaken, starting]
  · simp [State.byteTaken, draining]
  · simp only [State.answerGone, sending, Option.isSome_some, if_true, State.withRx_tx,
      State.withRx_rx, true_and]
    cases (s.port p).rx with
    | draining sent quiet => cases quiet <;> rfl
    | _ => rfl
  · simp [State.answerGone, idle]

/-! ## A frame received byte by byte -/

theorem receiveAll_cons {p : Port} {b : Byte} {rest : List Byte} {s : State} :
    receiveAll p (b :: rest) s = receiveAll p rest (s.byteTaken p b false) := by
  rw [receiveAll, exec_portByteReceived]

theorem receiveAll_append (p : Port) : ∀ {xs ys : List Byte} {s t : State},
    receiveAll p xs s = .next t → receiveAll p (xs ++ ys) s = receiveAll p ys t
  | [], _, _, _, h => by cases h; rfl
  | b :: rest, ys, s, t, h => by
    rw [receiveAll_cons] at h
    rw [List.cons_append, receiveAll_cons, receiveAll_append p h]

section
variable {s : State} {p : Port} {frame : List Byte} {n m : Nat}

/-- The first bytes of a frame, received from HUNTING, stand in RECEIVING. -/
theorem receiveAll_take (hunting : (s.port p).rx = .hunting) (sync : frame.head? = some syncByte)
    (inside : m ≤ frame.length) (stays : ∀ i, 2 ≤ i → i ≤ m → staysOpen (frame.take i)) {i : Nat}
    (first : 1 ≤ i) (last : i ≤ m) :
    receiveAll p (frame.take i) s =
      .next (s.withRx p (.receiving (frame.take i) false) (s.port p).tx) := by
  induction i, first using Nat.le_induction with
  | base =>
    cases frame with
    | nil => cases sync
    | cons b rest =>
      cases sync
      simp only [List.take_succ_cons, List.take_zero, receiveAll_cons, receiveAll, State.byteTaken,
        hunting, and_self, if_true]
  | succ i first ih =>
    have stay := stays (i + 1) (by omega) last
    have next : frame.take (i + 1) = frame.take i ++ [frame[i]] := by
      rw [List.take_append_getElem]
    rw [next] at stay ⊢
    rw [receiveAll_append p (ih (by omega)), receiveAll_cons, receiveAll]
    simp only [State.byteTaken, State.withRx_rx, Bool.or_self]
    rw [State.receiveByte_of_staysOpen _ p _ stay, State.withRx_withRx, State.withRx_tx]

theorem staysOpen_take_of_short {i : Nat} (h : i ≤ 4) : staysOpen (frame.take i) := by
  have : (frame.take i).length ≤ i := by simp
  exact ⟨by omega, by omega⟩

/-- The length bytes are read once three bytes are in. -/
theorem frameLength_take {tail : List Byte} (wide : n < 65536) {i : Nat} (h : 3 ≤ i) :
    frameLength ((syncByte :: (bytesLow 2 n ++ tail)).take i) = n := by
  obtain ⟨i, rfl⟩ := Nat.exists_eq_add_of_le' h
  exact fromLow_bytesLow (k := 2) wide

/-- A whole frame of at most 600 body bytes, received from HUNTING, is complete at its last byte. -/
theorem receiveAll_whole {tail : List Byte} (hunting : (s.port p).rx = .hunting) (short : n ≤ 600)
    (whole : frame = syncByte :: (bytesLow 2 n ++ tail)) (size : tail.length = n + 4) :
    ∃ t, receiveAll p frame s = .next (t.completeFrame p frame false) ∧
      t = s.withRx p (.receiving (frame.take (n + 6)) false) (s.port p).tx := by
  have length : frame.length = n + 7 := by
    rw [whole, List.length_cons, List.length_append, bytesLow_length, size]
    omega
  have read : ∀ i, 3 ≤ i → frameLength (frame.take i) = n := fun i h => by
    rw [whole]
    exact frameLength_take (by omega) h
  have stays : ∀ i, 2 ≤ i → i ≤ n + 6 → staysOpen (frame.take i) := fun i _ last => by
    by_cases early : i ≤ 4
    · exact staysOpen_take_of_short early
    · have size : (frame.take i).length = i := by simp [length]; omega
      have := read i (by omega)
      exact ⟨by omega, by omega⟩
  have all : frame = frame.take (n + 6) ++ [frame[n + 6]] := by
    rw [List.take_append_getElem, ← length, List.take_length]
  refine ⟨_, ?_, rfl⟩
  have complete : frameLength frame = n := by
    have := read (n + 7) (by omega)
    rwa [← length, List.take_length] at this
  conv_lhs => rw [all]
  rw [receiveAll_append p (receiveAll_take hunting (by rw [whole]; rfl) (by omega) stays (by omega)
    (Nat.le_refl _)), receiveAll_cons, receiveAll]
  simp only [State.byteTaken, State.withRx_rx, Bool.or_self, ← all]
  unfold State.receiveByte
  rw [if_neg (by omega), if_pos ⟨by omega, by omega⟩]

end

/-! ## The parts of a frame (01 Table 1.6) -/

/-- A frame with these check bytes. -/
def framed (kind tag : Byte) (body check : List Byte) : List Byte :=
  syncByte :: frameCore kind tag body ++ check

section
variable (kind tag : Byte) {body check : List Byte}

theorem frameLength_framed (short : body.length ≤ 600) :
    frameLength (framed kind tag body check) = body.length :=
  fromLow_bytesLow (k := 2) (by omega)

theorem frameBody_framed (short : body.length ≤ 600) :
    frameBody (framed kind tag body check) = body := by
  rw [frameBody, frameLength_framed kind tag short]
  exact List.take_left' rfl

theorem frameAgrees_framed (short : body.length ≤ 600) (two : check.length = 2) :
    frameAgrees (framed kind tag body check) =
      (check == bytesLow 2 (frameCheck (frameCore kind tag body)).toNat) := by
  have core : ((framed kind tag body check).drop 1).take (body.length + 4) = frameCore kind tag body :=
    List.take_left' (by simp [frameCore]; omega)
  have end_ : (framed kind tag body check).drop (body.length + 5) = check :=
    List.drop_left' (l₁ := syncByte :: frameCore kind tag body)
      (by simp [frameCore]; omega)
  rw [frameAgrees, frameLength_framed kind tag short, core, end_,
    List.take_of_length_le (by omega)]

end

section
variable {s : State} {p : Port} {kind tag : Byte} {body check : List Byte}

/-- A whole frame received: complete with its kind, tag and body. -/
theorem receiveAll_framed (hunting : (s.port p).rx = .hunting) (short : body.length ≤ 600)
    (two : check.length = 2) : ∃ rx, receiveAll p (framed kind tag body check) s =
      .next (if check = bytesLow 2 (frameCheck (frameCore kind tag body)).toNat then
          (s.withRx p rx (s.port p).tx).admitFrame p kind tag body
        else s.withRx p (.busy none) (some ⟨answerKind kind, tag, refusal .frameRejected⟩)) := by
  have size : ([kind, tag] ++ body ++ check).length = body.length + 4 := by
    simp [two]
  obtain ⟨t, done, rfl⟩ := receiveAll_whole (frame := framed kind tag body check) hunting short
    (by simp [framed, frameCore]) size
  refine ⟨.receiving ((framed kind tag body check).take (body.length + 6)) false,
    done.trans (congrArg _ ?_)⟩
  unfold State.completeFrame
  rw [frameAgrees_framed kind tag short two, frameBody_framed kind tag short]
  by_cases agrees : check = bytesLow 2 (frameCheck (frameCore kind tag body)).toNat
  · rw [if_pos agrees, if_neg (by simp [agrees])]
    rfl
  · rw [if_neg agrees, if_pos (by simp [agrees]), State.withRx_portAnswer]
    rfl

/-- A good frame is handed to admission's first checks (01 R6). -/
theorem receiveAll_frameBytes (hunting : (s.port p).rx = .hunting) (short : body.length ≤ 600) :
    ∃ rx, receiveAll p (frameBytes kind tag body) s =
      .next ((s.withRx p rx (s.port p).tx).admitFrame p kind tag body) := by
  obtain ⟨rx, done⟩ := receiveAll_framed (kind := kind) (tag := tag) hunting short
    (bytesLow_length 2 (frameCheck (frameCore kind tag body)).toNat)
  exact ⟨rx, done.trans (congrArg _ (if_pos rfl))⟩

end

/-- Settles O4: the frame is complete at its last byte, its check agrees, and it passes the checks made
before its fields are read. -/
theorem goodFrameIsHeldWhole : Obligations.GoodFrameIsHeldWhole := by
  unfold Obligations.GoodFrameIsHeldWhole
  intro s p k tag body hunting short admitted empty
  obtain ⟨rx, done⟩ := receiveAll_frameBytes (kind := k.byte) (tag := tag) hunting short
  have held : (s.withRx p rx (s.port p).tx).admitFrame p k.byte tag body =
      s.withRx p (.busy (some ⟨k, tag, body⟩)) (s.port p).tx := by
    have fits : (k.emptyBody && !body.isEmpty) = false := by
      cases e : k.emptyBody with
      | false => rfl
      | true => simp [empty e]
    simp only [State.admitFrame, RequestKind.ofByte_byte, admitted, fits, Bool.not_true,
      Bool.false_eq_true, if_false]
    exact (s.withRx_withRx p rx _ _ _).trans (by rw [State.withRx_tx])
  exact ⟨_, done.trans (congrArg _ held), s.withRx_rx p _ _, s.withRx_tx p _ _,
    (s.rxOnly_withRx p _ _).2, (s.rxOnly_withRx p _ _).1⟩

/-- The code the Port Unit answers a checked frame with, by its kind. -/
def portCode (kind : Byte) (p : Port) : ResultCode :=
  match RequestKind.ofByte kind with
  | none => .unknownKind
  | some k => if k.admittedFrom p then .malformed else .wrongPort

theorem State.admitFrame_refused (s : State) (p : Port) (kind tag : Byte) (body : List Byte)
    (bad : ∀ k, RequestKind.ofByte kind = some k → k.admittedFrom p = true →
      k.emptyBody = true ∧ body ≠ []) :
    s.admitFrame p kind tag body =
      s.withRx p (.busy none) (some ⟨answerKind kind, tag, refusal (portCode kind p)⟩) := by
  unfold State.admitFrame portCode
  cases named : RequestKind.ofByte kind with
  | none => rfl
  | some k =>
    cases admitted : k.admittedFrom p with
    | false => simp [admitted, State.portAnswer_eq]
    | true =>
      obtain ⟨empty, some_⟩ := bad k named admitted
      simp [admitted, empty, some_, State.portAnswer_eq]

/-- Settles O5: a checked frame by its kind; a frame whose check differs; a length over 600 at the tag
byte; and a damaged frame at its last byte. -/
theorem framesAreRefusedInOrder : Obligations.FramesAreRefusedInOrder := by
  unfold Obligations.FramesAreRefusedInOrder
  intro s p kind tag
  have answered : ∀ {rx : Receiver} {a : Answer} {t : State}, t = s.withRx p rx (some a) →
      (t.port p).rx = rx ∧ (t.port p).tx = some a ∧ (∀ q, q ≠ p → t.port q = s.port q) ∧
        s.changesOnly t [.receivers] := by
    rintro rx a t rfl
    exact ⟨s.withRx_rx p _ _, s.withRx_tx p _ _, (s.rxOnly_withRx p _ _).2, (s.rxOnly_withRx p _ _).1⟩
  refine ⟨fun body c hunting short code bad => ?_, fun body lo hi hunting short differs => ?_,
    fun n hunting long wide => ?_, fun frame b damaged fe receiving six size short hurt => ?_⟩
  · obtain ⟨rx, done⟩ := receiveAll_frameBytes (kind := kind) (tag := tag) hunting short
    refine ⟨_, done, answered ?_⟩
    have same : c = portCode kind p := code
    rw [State.admitFrame_refused _ p kind tag body bad, State.withRx_withRx, same]
  · obtain ⟨rx, done⟩ := receiveAll_framed (kind := kind) (tag := tag) (check := [lo, hi]) hunting
      short rfl
    rw [if_neg differs] at done
    exact ⟨_, done, answered rfl⟩
  · have first : receiveAll p (syncByte :: (bytesLow 2 n ++ [kind])) s =
        .next (s.withRx p (.receiving (syncByte :: (bytesLow 2 n ++ [kind])) false) (s.port p).tx) :=
      receiveAll_take (frame := syncByte :: (bytesLow 2 n ++ [kind])) (i := 4) (m := 4) hunting rfl
        (Nat.le_refl 4) (fun i _ last => staysOpen_take_of_short last) (by decide) (by decide)
    have length : frameLength (syncByte :: (bytesLow 2 n ++ [kind]) ++ [tag]) = n :=
      fromLow_bytesLow (k := 2) wide
    refine ⟨_, ?_, answered (rx := .draining false false)
      (a := ⟨answerKind kind, tag, refusal .frameRejected⟩) rfl⟩
    have split_ : syncByte :: bytesLow 2 n ++ [kind, tag] =
        (syncByte :: (bytesLow 2 n ++ [kind])) ++ [tag] := by simp
    rw [split_, receiveAll_append p first, receiveAll_cons, receiveAll]
    simp only [State.byteTaken, State.withRx_rx]
    unfold State.receiveByte
    rw [if_pos ⟨by simp, by rw [length]; exact long⟩, State.withRx_portAnswer]
    rfl
  · have length : frameLength (frame ++ [b]) = frameLength frame := by
      unfold frameLength
      rw [List.drop_append_of_le_length (by omega),
        List.take_append_of_le_length (by rw [List.length_drop]; omega)]
    have kinds : frameKind (frame ++ [b]) = frameKind frame ∧ frameTag (frame ++ [b]) = frameTag frame := by
      simp only [frameKind, frameTag, List.getD_eq_getElem?_getD]
      rw [List.getElem?_append_left (by omega), List.getElem?_append_left (by omega)]
      exact ⟨rfl, rfl⟩
    have flagged : (damaged || fe) = true := by simpa using hurt
    refine ⟨_, exec_portByteReceived s p b fe, answered (rx := .busy none)
      (a := ⟨answerKind (frameKind frame), frameTag frame, refusal .frameRejected⟩) ?_⟩
    simp only [State.byteTaken, receiving, flagged]
    unfold State.receiveByte State.completeFrame
    rw [length, List.length_append, List.length_singleton, if_neg (by simp [Config.maxBody]; omega),
      if_pos (by omega), if_pos (by simp), kinds.1, kinds.2]
    rfl

end Sys2Proof.Machine
end

section
/-! SUPPORT. Admission by its steps (01 R6), what an admitted request of any kind comes to, and the
identifiers a request gives as numbers. -/

-- One proof at a time: the check's memory limit holds few threads.
set_option Elab.async false

namespace Sys2Proof.Machine

/-! ## Identifiers given as numbers (00 Table 0.5) -/

theorem windowOf_val_add_one (w : Window) : windowOf (w.val + 1) = some w := by
  have := w.isLt
  exact dif_pos ⟨by omega, by omega⟩

theorem windowOf_eq_none {n : Nat} (h : n < 1 ∨ 6 < n) : windowOf n = none := dif_neg (by omega)

theorem laneOf_val_add_one (l : LaneId) : laneOf (l.val + 1) = some l := by
  have := l.isLt
  exact dif_pos ⟨by omega, by omega⟩

theorem laneOf_eq_none {n : Nat} (h : n < 1 ∨ 4 < n) : laneOf n = none := dif_neg (by omega)

theorem formOf_val (f : Fin 8) : formOf f.val = some f := dif_pos f.isLt

theorem formOf_eq_none {n : Nat} (h : 7 < n) : formOf n = none := dif_neg (by omega)

theorem codeOf_val (c : Fin 16) : codeOf c.val = some c := dif_pos c.isLt

theorem codeOf_eq_none {n : Nat} (h : 15 < n) : codeOf n = none := dif_neg (by omega)

/-! ## Admission (01 R6) -/

/-- What admission answers, step by step; `other` where a read names another window. -/
def admissionOf (s : State) (p : Port) (k : RequestKind) (other fits : Bool) : Option ResultCode :=
  if k.admittedFrom p = false ∨ other = true then some .wrongPort
  else if fits = false then some .malformed
  else if k.needsStore = true ∧ s.storeValid = false then some .storeInvalid
  else if lacksGrant s p k = true then some .notPermitted
  else none

theorem State.admission_eq (s : State) (p : Port) (k : RequestKind) (own fits : Bool) :
    s.admission p k own fits = admissionOf s p k (!own) fits := by
  have grants : (match p with
      | .window w => if k.granted s.grants[w] then none else some ResultCode.notPermitted
      | .office => none) = if lacksGrant s p k = true then some .notPermitted else none := by
    cases p with
    | office => rfl
    | window w =>
      cases k with
      | submitJob =>
        show (if s.grants[w].issue then _ else _) = if (!s.grants[w].issue) = true then _ else _
        cases s.grants[w].issue <;> rfl
      | voidTicket =>
        show (if s.grants[w].void then _ else _) = if (!s.grants[w].void) = true then _ else _
        cases s.grants[w].void <;> rfl
      | declareBegin =>
        show (if s.grants[w].declare then _ else _) = if (!s.grants[w].declare) = true then _ else _
        cases s.grants[w].declare <;> rfl
      | _ => rfl
  unfold State.admission admissionOf
  rw [← grants]
  cases k.admittedFrom p <;> cases own <;> cases fits <;> cases k.needsStore <;>
    cases s.storeValid <;> rfl

/-- A request command by what admission finds: refused, or answered by its block. -/
def admittedAs (c : Instr) (s : State) (p : Port) (k : RequestKind) (tag : Byte) : Prop :=
  ((s.port p).rx.takes k tag = false → exec c s = .next s) ∧
  ((s.port p).rx.takes k tag = true →
    (∀ code, admissionOf s p k (namesOtherWindow c) (bodyFits c) = some code →
      exec c s = .next (s.answerWith p k.byte tag (refusal code))) ∧
    (admissionOf s p k (namesOtherWindow c) (bodyFits c) = none →
      ∃ r, blockOf c (s.reachBlock p k) = some r ∧
        exec c s = .next (r.1.answerWith p k.byte tag r.2)))

theorem admissionOf_of_unfit (s : State) (p : Port) (k : RequestKind) :
    admissionOf s p k false false =
      some ((admissionOf s p k false false).getD .malformed) := by
  unfold admissionOf
  cases k.admittedFrom p <;> rfl

theorem admittedAs_of_request {β : Type} {c : Instr} {s : State} {p : Port} {k : RequestKind}
    {tag : Byte} {body : Body β} {own fits : β → Bool} {take : β → State → State × Reply}
    (run : exec c s = .next (s.request p tag k body own fits take))
    (absent : body = none → namesOtherWindow c = false ∧ bodyFits c = false)
    (present : ∀ b, body = some b → namesOtherWindow c = !own b ∧ bodyFits c = fits b)
    (block : ∀ b t, body = some b → blockOf c t = some (take b t)) : admittedAs c s p k tag := by
  refine ⟨fun free => by rw [run]; exact congrArg _ (if_neg (by simp [free])), fun takes => ?_⟩
  rw [run]
  unfold State.request
  rw [if_pos takes]
  cases body with
  | none =>
    obtain ⟨own_, fits_⟩ := absent rfl
    rw [own_, fits_, State.admission_eq, Bool.not_true]
    rw [admissionOf_of_unfit]
    refine ⟨fun code found => ?_, fun found => by cases found⟩
    rw [Option.some.inj found]
    rfl
  | some b =>
    obtain ⟨own_, fits_⟩ := present b rfl
    rw [own_, fits_]
    simp only [State.admission_eq]
    cases admissionOf s p k (!own b) (fits b) with
    | some code' =>
      refine ⟨fun code found => ?_, fun found => by cases found⟩
      rw [Option.some.inj found]
    | none => exact ⟨fun _ found => (nomatch found), fun _ => ⟨_, block b _ rfl, rfl⟩⟩

/-- Every request command, by its discard, its admission and its block. -/
theorem exec_admittedAs {c : Instr} {s : State} {p : Port} {k : RequestKind} {tag : Byte}
    (h : requestOf c = some (p, k, tag)) : admittedAs c s p k tag := by
  cases c with
  | readJob q g body =>
    cases h
    exact admittedAs_of_request rfl (by rintro rfl; cases p <;> exact ⟨rfl, rfl⟩)
      (by rintro b rfl; cases p <;> exact ⟨rfl, rfl⟩) (by rintro b t rfl; rfl)
  | readSession q g body =>
    cases h
    exact admittedAs_of_request rfl (by rintro rfl; cases p <;> exact ⟨rfl, rfl⟩)
      (by rintro b rfl; cases p <;> exact ⟨rfl, rfl⟩) (by rintro b t rfl; rfl)
  | _ =>
    cases h <;>
      exact admittedAs_of_request rfl (by rintro rfl; exact ⟨rfl, rfl⟩)
        (by rintro b rfl; exact ⟨rfl, rfl⟩) (by rintro b t rfl; rfl)

/-- Settles O10: admission's answer is the first step of R6 that fails. -/
theorem admissionInOrder : Obligations.AdmissionInOrder := by
  unfold Obligations.AdmissionInOrder
  intro c s p k tag request
  obtain ⟨free, taken⟩ := exec_admittedAs (s := s) request
  refine ⟨free, fun code takes refused => ?_⟩
  exact ⟨_, (taken takes).1 code refused, State.answered_answerWith _ _ _ (s.same_refl .receivers) _,
    s.answerWith_frame p _ _ _⟩

/-! ## An admitted request -/

section
variable (c : Instr) {s t : State} {p : Port} {k : RequestKind} {tag : Byte} {r : State × Reply}
  {reply : Reply} {parts all : List Part}

theorem exec_of_admits (request : requestOf c = some (p, k, tag)) (admits : s.admits p k tag)
    (own : namesOtherWindow c = false) (fits : bodyFits c = true)
    (block : blockOf c (s.reachBlock p k) = some r) :
    exec c s = .next (r.1.answerWith p k.byte tag r.2) := by
  obtain ⟨takes, passed⟩ := admits
  rw [State.admission_eq] at passed
  obtain ⟨r', block', run⟩ :=
    ((exec_admittedAs request).2 takes).2 (by rw [own, fits]; exact passed)
  rw [block] at block'
  cases block'
  exact run

/-- Of a kind that abandons no declaration. -/
theorem exec_plain (admits : s.admits p k tag) (block : blockOf c s = some r)
    (request : requestOf c = some (p, k, tag) := by rfl) (still : k.abandons = false := by rfl)
    (own : namesOtherWindow c = false := by rfl) (fits : bodyFits c = true := by rfl) :
    exec c s = .next (r.1.answerWith p k.byte tag r.2) :=
  exec_of_admits c request admits own fits (by rwa [State.reachBlock_of_not_abandons s p still])

/-- A block that changes the parts `parts` leaves its port answered and, the receivers apart, changes
nothing more. -/
theorem State.answered_moved (frame : s.changesOnly t parts) (reply : Reply)
    (out : .receivers ∉ parts := by decide) (sub : parts ++ [.receivers] ⊆ all := by decide) :
    s.answered (t.answerWith p k.byte tag reply) p k tag reply ∧
      s.changesOnly (t.answerWith p k.byte tag reply) all :=
  ⟨State.answered_answerWith p k tag (State.changesOnly_same frame .receivers out) reply,
    State.changesOnly_then frame (t.answerWith_frame p _ _ _) sub⟩

/-- A block that changes nothing leaves its port answered. -/
theorem State.answered_same (reply : Reply) :
    s.answered (s.answerWith p k.byte tag reply) p k tag reply ∧
      s.changesOnly (s.answerWith p k.byte tag reply) [.receivers] :=
  State.answered_moved (parts := []) (s.changesOnly_refl _) reply

/-- A request answered by a block that changes nothing. -/
theorem exec_unmoved {c : Instr} (run : exec c s = .next (s.answerWith p k.byte tag reply)) :
    ∃ t, exec c s = .next t ∧ s.answered t p k tag reply ∧ s.changesOnly t [.receivers] :=
  ⟨_, run, State.answered_same reply⟩

end

/-! ## SET_PERMISSIONS (01 R9, R10) -/

/-- The window is told where its set differs. -/
theorem State.regrant_queuesAfter (s : State) (w : Window) (g : GrantSet) :
    s.queuesAfter (s.regrant w g) fun x => if g = s.grants[w] then x
      else x.post (.window w) ⟨.permissions, .ownPermissions, none⟩ := by
  intro q
  dsimp only
  rw [State.regrant_queue]
  by_cases same : g = s.grants[w]
  · rw [if_neg fun h => h.2 same, if_pos same]
  · rw [if_neg same, State.post_queue]
    exact if_congr (and_iff_left same) rfl rfl

theorem State.setPermissions_refused (s : State) {b : PermissionsBody}
    (h : b.window < 1 ∨ 6 < b.window ∨ b.remove.meets b.add = true) :
    s.setPermissions b = (s, refusal .badArgument) := by
  unfold State.setPermissions
  cases found : windowOf b.window with
  | none => rfl
  | some w =>
    have inside : ¬(b.window < 1 ∨ 6 < b.window) := fun out => by
      rw [windowOf_eq_none out] at found
      cases found
    exact if_pos (by tauto)

/-- The grants a taken SET_PERMISSIONS leaves its window. -/
def State.grantsAfter (s : State) (w : Window) (b : PermissionsBody) : GrantSet :=
  if (s.session w).state ≠ .none ∧ b.add ≠ .empty then s.grants[w].without b.remove
  else (s.grants[w].without b.remove).union b.add

theorem State.setPermissions_taken (s : State) {w : Window} {b : PermissionsBody}
    (named : b.window = w.val + 1) (apart : b.remove.meets b.add = false) :
    s.setPermissions b = (s.regrant w (s.grantsAfter w b),
      ⟨if (s.session w).state ≠ .none ∧ b.add ≠ .empty then .windowInSession else .ok,
        .grants (s.grantsAfter w b)⟩) := by
  unfold State.setPermissions State.grantsAfter
  rw [named, windowOf_val_add_one]
  dsimp only
  rw [if_neg (by simp [apart])]
  split_ifs <;> rfl

/-- Settles O17: the grants left, and who is told, by `State.grantsAfter`. -/
theorem setPermissionsAppliesGrants : Obligations.SetPermissionsAppliesGrants := by
  unfold Obligations.SetPermissionsAppliesGrants
  intro s p tag b admits
  refine ⟨fun refused => ?_, fun w named apart => ?_⟩
  · exact exec_unmoved (exec_plain (.setPermissions p tag (some b)) admits (congrArg some (s.setPermissions_refused refused)))
  · have run := exec_plain (.setPermissions p tag (some b)) admits
      (congrArg some (s.setPermissions_taken named apart))
    obtain ⟨answered, frame⟩ := State.answered_moved (p := p) (k := .setPermissions) (tag := tag)
      (all := [.receivers, .queues, .grants]) (s.regrant_frame w (s.grantsAfter w b))
      ⟨if (s.session w).state ≠ .none ∧ b.add ≠ .empty then .windowInSession else .ok,
        .grants (s.grantsAfter w b)⟩
    have grants : ∀ {r : Reply}, ((s.regrant w (s.grantsAfter w b)).answerWith p
        RequestKind.setPermissions.byte tag r).grants = (s.regrant w (s.grantsAfter w b)).grants :=
      State.setPort_grants _ _ _
    refine ⟨_, s.grantsAfter w b, run, ?_, fun v other => ?_, fun open_ => ?_, fun session adds => ?_,
      fun q => ?_, frame⟩
    · rw [grants, State.regrant_grants, if_pos rfl]
    · rw [grants, State.regrant_grants, if_neg other]
    · have free : ¬((s.session w).state ≠ .none ∧ b.add ≠ .empty) := by tauto
      rw [if_neg free] at answered
      exact ⟨if_neg free, by rwa [if_neg free]⟩
    · have held : (s.session w).state ≠ .none ∧ b.add ≠ .empty := ⟨session, adds⟩
      rw [if_pos held] at answered
      exact ⟨if_pos held, by rwa [if_pos held]⟩
    · rw [State.answerWith_queue]
      exact s.regrant_queuesAfter w _ q

end Sys2Proof.Machine
end

section
/-! SUPPORT. The form table (02): what makes a definition valid, and DEFINE_FORM; the jobs of the table as
a list; and the state after reset. -/

-- One proof at a time: the check's memory limit holds few threads.
set_option Elab.async false

namespace Sys2Proof

/-! ## A definition's lines -/

theorem distinct_iff_nodup : ∀ lines : List Nat, distinct lines = true ↔ lines.Nodup
  | [] => by simp [distinct]
  | x :: rest => by simp [distinct, List.nodup_cons, distinct_iff_nodup rest]

namespace FormDef
variable (d : FormDef)

/-- What is stored of a definition differs at most in the gap start, and there only without a gap. -/
theorem stored_gap : d.stored.gapLength = d.gapLength ∧
    (d.gapLength ≠ 0 → d.stored.gapStart = d.gapStart) := by
  unfold stored
  split_ifs with none
  · exact ⟨rfl, fun some => absurd none some⟩
  · exact ⟨rfl, fun _ => rfl⟩

theorem stored_fields : d.stored.lineCount = d.lineCount ∧ d.stored.counterfoil = d.counterfoil ∧
    d.stored.bodyStamps = d.bodyStamps ∧ d.stored.counterfoilStamps = d.counterfoilStamps ∧
    d.stored.stamps = d.stamps ∧ d.stored.cls = d.cls ∧ d.stored.bodyEnd = d.bodyEnd := by
  unfold stored
  split_ifs <;> exact ⟨rfl, rfl, rfl, rfl, rfl, rfl, rfl⟩

theorem isGap_iff (i : Nat) : d.isGap i = true ↔ d.gapStart ≤ i ∧ i < d.gapStart + d.gapLength := by
  simp [isGap]

theorem stored_isGap (i : Nat) : d.stored.isGap i = d.isGap i := by
  obtain ⟨length, start⟩ := d.stored_gap
  rw [Bool.eq_iff_iff, isGap_iff, isGap_iff, length]
  by_cases none : d.gapLength = 0
  · omega
  · rw [start none]

theorem stored_bodyCapacity : d.stored.bodyCapacity = d.bodyCapacity := by
  obtain ⟨-, -, body, -, -, -, last⟩ := d.stored_fields
  simp only [bodyCapacity, body, last, stored_isGap]

/-- What is stored is stored as it is. -/
theorem stored_stored : d.stored.stored = d.stored := by
  unfold stored
  split_ifs <;> rfl

theorem stored_bodyContentLines : Machine.bodyContentLines d.stored = Machine.bodyContentLines d := by
  obtain ⟨-, -, body, -, -, -, last⟩ := d.stored_fields
  simp only [Machine.bodyContentLines, body, last, stored_isGap]

theorem length_bodyContentLines : (Machine.bodyContentLines d).length = d.bodyCapacity := rfl

/-! ## A valid definition (02 R22, R23) -/

theorem inRange_iff : d.inRange = true ↔
    d.cls ≤ 3 ∧ 8 ≤ d.lineCount ∧ d.lineCount ≤ 48 ∧ d.gapLength ≤ 8 ∧ d.repeatCount ≤ 8 ∧
      d.ready ≤ 32 ∧ (d.counterfoil = none → d.repeatCount = 0 ∧ d.counterfoilStamps = []) := by
  cases h : d.counterfoil <;> simp [inRange, h, and_assoc]

/-- How the counterfoil fits (02 R23). -/
def foilFits : Bool :=
  match d.counterfoil with
  | none => true
  | some c =>
    c < d.lineCount && 1 < c &&
    (d.gapLength == 0 || d.gapStart + d.gapLength ≤ c) &&
    d.bodyStamps.all (fun i => i < c) && d.counterfoilStamps.all (fun i => c ≤ i)

theorem fitsTogether_eq : d.fitsTogether = (d.stamps.all (fun i => i < d.lineCount) && d.foilFits &&
    (d.gapLength == 0 || d.gapStart + d.gapLength ≤ d.lineCount) && distinct d.stamps &&
    d.stamps.all (fun i => !d.isGap i) && d.bodyCapacity ≤ 32) := rfl

theorem foilFits_iff : d.foilFits = true ↔
    ∀ c, d.counterfoil = some c → c < d.lineCount ∧ 1 < c ∧
      (d.gapLength ≠ 0 → d.gapStart + d.gapLength ≤ c) ∧
      (∀ i ∈ d.bodyStamps, i < c) ∧ ∀ i ∈ d.counterfoilStamps, c ≤ i := by
  unfold foilFits
  cases d.counterfoil with
  | none => simp
  | some c =>
    simp only [Bool.and_eq_true, Bool.or_eq_true, decide_eq_true_eq, beq_iff_eq, List.all_eq_true,
      Option.some.injEq, forall_eq', and_assoc, or_iff_not_imp_left, ne_eq]

theorem fitsTogether_iff : d.fitsTogether = true ↔
    (∀ i ∈ d.stamps, i < d.lineCount) ∧
      (d.gapLength ≠ 0 → d.gapStart + d.gapLength - 1 < d.lineCount) ∧
      (∀ c, d.counterfoil = some c → c < d.lineCount ∧ 1 < c ∧
        (d.gapLength ≠ 0 → d.gapStart + d.gapLength ≤ c) ∧
        (∀ i ∈ d.bodyStamps, i < c) ∧ ∀ i ∈ d.counterfoilStamps, c ≤ i) ∧
      d.stamps.Nodup ∧
      (∀ i ∈ d.stamps, ¬(d.gapStart ≤ i ∧ i < d.gapStart + d.gapLength)) ∧
      (Machine.bodyContentLines d).length ≤ 32 := by
  have gap : (d.gapLength == 0 || decide (d.gapStart + d.gapLength ≤ d.lineCount)) = true ↔
      (d.gapLength ≠ 0 → d.gapStart + d.gapLength - 1 < d.lineCount) := by
    rw [Bool.or_eq_true, beq_iff_eq, decide_eq_true_eq]
    omega
  have clear : d.stamps.all (fun i => !d.isGap i) = true ↔
      ∀ i ∈ d.stamps, ¬(d.gapStart ≤ i ∧ i < d.gapStart + d.gapLength) := by
    simp only [List.all_eq_true, Bool.not_eq_true', ← isGap_iff, Bool.not_eq_true]
  have inside : d.stamps.all (fun i => decide (i < d.lineCount)) = true ↔
      ∀ i ∈ d.stamps, i < d.lineCount := by simp
  rw [fitsTogether_eq]
  simp only [Bool.and_eq_true, inside, foilFits_iff, gap, distinct_iff_nodup, clear,
    decide_eq_true_eq, length_bodyContentLines]
  tauto

/-- Only the gap decides where a definition and what is stored of it fit differently. -/
theorem stored_fitsTogether_iff : d.stored.fitsTogether = true ↔ d.fitsTogether = true := by
  obtain ⟨lines, foil, body, foilStamps, stamps, -, -⟩ := d.stored_fields
  obtain ⟨length, start⟩ := d.stored_gap
  rw [fitsTogether_iff, fitsTogether_iff, lines, foil, body, foilStamps, stamps, length,
    stored_bodyContentLines]
  by_cases none : d.gapLength = 0
  · simp [none]
  · rw [start none]

end FormDef

/-- Settles O18: R22 is `inRange`, R23 `fitsTogether`, and the stored gap start counts in neither. -/
theorem definitionIsValidExactly : Obligations.DefinitionIsValidExactly := by
  unfold Obligations.DefinitionIsValidExactly
  intro d
  rw [FormDef.valid, Bool.and_eq_true, FormDef.stored_fitsTogether_iff, FormDef.inRange_iff,
    FormDef.fitsTogether_iff]

namespace Machine

/-! ## The jobs of the table -/

theorem mem_allSlots (k : SlotId) : k ∈ allSlots := by
  revert k
  decide

theorem State.mem_jobs {s : State} {w : Window} {k : SlotId} {j : Job} :
    (w, k, j) ∈ s.jobs ↔ s.job w k = some j := by
  simp [State.jobs, mem_allWindows, mem_allSlots]

theorem Job.isActive_iff (j : Job) :
    j.isActive = true ↔ j.state ∈ [JobState.queued, .held, .printing, .retryWait] := by
  cases h : j.state <;> simp [Job.isActive, h]

theorem foldl_max_spec : ∀ (xs : List Nat) (low : Nat), low ≤ xs.foldl max low ∧
    (∀ x ∈ xs, x ≤ xs.foldl max low) ∧ (xs.foldl max low = low ∨ xs.foldl max low ∈ xs)
  | [], low => by simp
  | x :: rest, low => by
    obtain ⟨above, each, reached⟩ := foldl_max_spec rest (max low x)
    rw [List.foldl_cons]
    refine ⟨by omega, fun y hy => ?_, ?_⟩
    · cases hy with
      | head => omega
      | tail _ hy => exact each y hy
    · rcases reached with same | inside
      · rw [same]
        rcases le_total low x with h | h
        · exact .inr (by rw [max_eq_right h]; exact List.mem_cons_self)
        · exact .inl (max_eq_left h)
      · exact .inr (List.mem_cons_of_mem x inside)

/-! ## DEFINE_FORM (02 R22 to R26) -/

/-- A job that waits for the coming generation of a form. -/
def State.waitsFor (s : State) (f : Fin 8) (j : Job) : Bool :=
  j.isActive && j.form == f && j.generation == some (nextGeneration (s.form f).generation)

theorem State.waitsFor_iff (s : State) (f : Fin 8) (j : Job) : s.waitsFor f j = true ↔
    j.state ∈ [JobState.queued, .held, .printing, .retryWait] ∧ j.form = f ∧
      j.generation = some (nextGeneration (s.form f).generation) := by
  rw [State.waitsFor, Bool.and_eq_true, Bool.and_eq_true, Job.isActive_iff, beq_iff_eq, beq_iff_eq,
    and_assoc]

theorem State.largestWaiting_eq (s : State) (f : Fin 8) : s.largestWaiting f =
    ((s.jobs.filter fun x => s.waitsFor f x.2.2).map fun x => x.2.2.declared).foldl max 0 := rfl

/-- The largest declared count is that of a waiting job, or 0 where none waits (02 R26). -/
theorem State.largestWaiting_spec (s : State) (f : Fin 8) :
    (∀ w k j, s.job w k = some j → s.waitsFor f j = true → j.declared ≤ s.largestWaiting f) ∧
      ((∃ w k j, s.job w k = some j ∧ s.waitsFor f j = true ∧ j.declared = s.largestWaiting f) ∨
        (∀ w k j, s.job w k = some j → s.waitsFor f j = false) ∧ s.largestWaiting f = 0) := by
  obtain ⟨-, each, reached⟩ := foldl_max_spec
    ((s.jobs.filter fun x => s.waitsFor f x.2.2).map fun x => x.2.2.declared) 0
  rw [← State.largestWaiting_eq] at each reached
  have listed : ∀ w k j, s.job w k = some j → s.waitsFor f j = true →
      j.declared ∈ (s.jobs.filter fun x => s.waitsFor f x.2.2).map fun x => x.2.2.declared :=
    fun w k j hj waits =>
      List.mem_map_of_mem (f := fun x : Window × SlotId × Job => x.2.2.declared)
        (List.mem_filter.2 ⟨State.mem_jobs.2 hj, waits⟩)
  refine ⟨fun w k j hj waits => each _ (listed w k j hj waits), ?_⟩
  by_cases some_ : ∃ w k j, s.job w k = some j ∧ s.waitsFor f j = true
  · obtain ⟨w, k, j, hj, waits⟩ := some_
    rcases reached with zero | inside
    · have low := each _ (listed w k j hj waits)
      exact .inl ⟨w, k, j, hj, waits, by omega⟩
    · obtain ⟨⟨v, i, x⟩, mem, same⟩ := List.mem_map.1 inside
      obtain ⟨mem, waits⟩ := List.mem_filter.1 mem
      exact .inl ⟨v, i, x, State.mem_jobs.1 mem, waits, same⟩
  · push Not at some_
    have none : (s.jobs.filter fun x => s.waitsFor f x.2.2) = [] := by
      rw [List.filter_eq_nil_iff]
      rintro ⟨v, i, x⟩ mem
      exact some_ v i x (State.mem_jobs.1 mem)
    refine .inr ⟨fun w k j hj => by simpa using some_ w k j hj, ?_⟩
    rw [State.largestWaiting_eq, none]
    rfl

theorem State.pendingBound_iff (s : State) (f : Fin 8) (d : FormDef) : s.pendingBound f d = true ↔
    0 < (s.form f).waitingCount ∧ ∃ old, (s.form f).pending = some old ∧
      (d.cls ≠ old.cls ∨ d.bodyCapacity < s.largestWaiting f) := by
  unfold State.pendingBound
  cases (s.form f).pending with
  | none => simp
  | some old => simp [or_iff_not_imp_left]

section
variable {s : State} {b : FormBody} {f : Fin 8}

theorem State.defineForm_unknown (h : 7 < b.form) : s.defineForm b = (s, refusal .badArgument) := by
  unfold State.defineForm
  rw [formOf_eq_none h]

theorem State.defineForm_invalid (named : b.form = f.val) (bad : b.layout.valid = false) :
    s.defineForm b = (s, refusal .badForm) := by
  unfold State.defineForm
  rw [named, formOf_val]
  exact if_pos (by simp [bad])

/-- A valid definition, by the use count and what the waiting jobs were checked against. -/
theorem State.defineForm_valid (named : b.form = f.val) (good : b.layout.valid = true) :
    s.defineForm b =
      if (s.form f).useCount = 0 then
        ((s.setForm f { s.form f with
            current := some b.layout.stored
            generation := nextGeneration (s.form f).generation }).postForms,
          accepted (.placed false (nextGeneration (s.form f).generation)))
      else if s.pendingBound f b.layout.stored then (s, refusal .pendingBound)
      else ((s.setForm f { s.form f with pending := some b.layout.stored }).postForms,
        accepted (.placed true (nextGeneration (s.form f).generation))) := by
  unfold State.defineForm
  rw [named, formOf_val]
  exact if_neg (by simp [good])

/-- A form's record replaced, with FORMS_CHANGE, as a request leaves it. -/
theorem State.setForm_answered (s : State) (p : Port) (tag : Byte) (f : Fin 8) (x : FormRecord)
    (reply : Reply) (t : State)
    (ht : t = ((s.setForm f x).postForms).answerWith p RequestKind.defineForm.byte tag reply) :
    s.answered t p .defineForm tag reply ∧ t.form f = x ∧ s.otherForms t f ∧
      s.queuesAfter t State.postForms ∧ s.changesOnly t [.receivers, .queues, .forms] := by
  subst ht
  have frame : s.changesOnly (s.setForm f x).postForms [.forms, .queues] :=
    State.changesOnly_then (s.setForm_frame f x) (State.postOffice_frame _ _ _)
  obtain ⟨answered, moved⟩ := State.answered_moved (p := p) (k := .defineForm) (tag := tag)
    (all := [.receivers, .queues, .forms]) frame reply
  refine ⟨answered, ?_, fun g other => ?_, fun q => ?_, moved⟩
  · simp [State.answerWith, State.postForms, State.postOffice]
  · simp [State.answerWith, State.postForms, State.postOffice, State.setForm_form_ne s other]
  · rw [State.answerWith_queue]
    cases q with
    | office => simp [State.postForms, State.postOffice_queue]
    | window w => simp [State.postForms, State.postOffice_queue_window]

end

/-- Settles O19: a valid definition's three cases by `State.defineForm_valid`. -/
theorem defineFormPlacesTheDefinition : Obligations.DefineFormPlacesTheDefinition := by
  unfold Obligations.DefineFormPlacesTheDefinition
  intro s p tag b admits
  have run : ∀ {r}, s.defineForm b = r →
      exec (.defineForm p tag (some b)) s =
        .next (r.1.answerWith p RequestKind.defineForm.byte tag r.2) :=
    fun same => exec_plain (.defineForm p tag (some b)) admits (congrArg some same)
  refine ⟨fun out => exec_unmoved (run (State.defineForm_unknown out)), ?_⟩
  rintro f _ _ named rfl rfl
  refine ⟨fun waits rule => ?_, fun bad => exec_unmoved (run (State.defineForm_invalid named bad)),
    fun good unused => ?_, fun good used free => ?_, fun good used waiting bound => ?_⟩
  · have same : ∀ j, waits j ↔ s.waitsFor f j = true := fun j =>
      (rule j).trans (s.waitsFor_iff f j).symm
    simp only [same, Bool.not_eq_true]
    exact s.largestWaiting_spec f
  · have placed := State.defineForm_valid (s := s) named good
    rw [if_pos unused] at placed
    exact ⟨_, run placed, State.setForm_answered s p tag f _ _ _ rfl⟩
  · have placed := State.defineForm_valid (s := s) named good
    have unbound : ¬ s.pendingBound f b.layout.stored = true := by
      rw [State.pendingBound_iff]
      rintro ⟨waiting, old, pending, broken⟩
      obtain ⟨cls, room⟩ := free.resolve_left (by omega) old pending
      rw [b.layout.stored_fields.2.2.2.2.2.1] at broken
      exact broken.elim (fun differs => differs cls) (by omega)
    rw [if_neg (by omega), if_neg unbound] at placed
    exact ⟨_, run placed, State.setForm_answered s p tag f _ _ _ rfl⟩
  · have refused := State.defineForm_valid (s := s) named good
    have held : s.pendingBound f b.layout.stored = true := by
      rw [State.pendingBound_iff, b.layout.stored_fields.2.2.2.2.2.1]
      exact ⟨waiting, bound⟩
    rw [if_neg (by omega), if_pos held] at refused
    exact exec_unmoved (run refused)

/-! ## The state after reset -/

theorem reset_port (p : Port) :
    State.reset.port p = ⟨.hunting, none, [⟨.controllerStart, .controller, none⟩]⟩ := by
  cases p with
  | office => rfl
  | window w => revert w; decide

theorem reset_slot (w : Window) (k : SlotId) : State.reset.slot w k = ⟨false, none⟩ := by
  revert w k
  decide

theorem reset_lane (l : LaneId) : State.reset.lane l = .offline := by
  revert l
  decide

theorem reset_job (w : Window) (k : SlotId) : State.reset.job w k = none :=
  congrArg Slot.job (reset_slot w k)

/-- Settles O3: every table stands empty or at its default, and so meets its rule. -/
theorem resetLeavesThePartStarted : Obligations.ResetLeavesThePartStarted := by
  unfold Obligations.ResetLeavesThePartStarted
  refine ⟨fun p => ?_, reset_slot, rfl, fun l => ?_, by decide, by decide, rfl, rfl, rfl, rfl, rfl, rfl,
    rfl, rfl, rfl, by decide +kernel, by decide +kernel, by decide +kernel, by decide +kernel,
    by decide +kernel, ⟨fun l n hn => ?_, by decide⟩, ⟨by decide, by decide⟩, by decide +kernel,
    by decide +kernel, by decide +kernel,
    ⟨fun _ l => ?_, fun l => ?_, fun stopped => absurd rfl stopped⟩, fun _ f => ?_,
    ⟨by decide, by decide, fun l r hr => ?_, by decide +kernel, fun _ =>
      ⟨by decide +kernel, fun w k j hj => ?_, fun l => ?_⟩⟩⟩
  · rw [reset_port]
    exact ⟨rfl, by decide, by decide⟩
  · rw [reset_lane]
    exact ⟨rfl, rfl, rfl, rfl⟩
  · rw [reset_lane] at hn
    cases hn
  · rw [reset_lane]
    decide
  · rw [reset_lane]
    decide
  · refine ⟨?_, ?_, ?_, ?_, fun w k j hj => ?_⟩
    · revert f; decide +kernel
    · revert f; decide +kernel
    · revert f; decide +kernel
    · revert f; decide +kernel
    · rw [reset_job] at hj
      cases hj
  · rw [reset_lane] at hr
    cases hr
  · rw [reset_job] at hj
    cases hj
  · rw [reset_lane]
    exact ⟨by decide, by decide, fun x hx => absurd (show x ∈ [] from hx) List.not_mem_nil⟩

end Machine

end Sys2Proof
end

section
/-! SUPPORT. The reads (02 R30; 03 R51; 04 R71; 05 R113; 06 R128; 08 R144; 10 R188): what each answers, and
the lowest UNUSED serial of a pack. -/

-- One proof at a time: the check's memory limit holds few threads.
set_option Elab.async false

namespace Sys2Proof.Machine

/-! ## The lowest UNUSED serial -/

/-- The lowest serial not below `low` that holds UNUSED, in a list whose first mark is that of `start`. -/
theorem firstUnused_eq_some_iff (low : Nat) : ∀ (marks : List Mark) (start e : Nat),
    firstUnused low start marks = some e ↔
      (start ≤ e ∧ marks[e - start]? = some .unused) ∧ low ≤ e ∧
        ∀ n, low ≤ n → n < e → ¬(start ≤ n ∧ marks[n - start]? = some .unused)
  | [], start, e => by simp [firstUnused]
  | m :: rest, start, e => by
    have later : ∀ n, (start ≤ n ∧ (m :: rest)[n - start]? = some Mark.unused) ↔
        (n = start ∧ m = .unused) ∨ (start + 1 ≤ n ∧ rest[n - (start + 1)]? = some .unused) := by
      intro n
      rcases Nat.lt_trichotomy n start with h | rfl | h
      · omega
      · simp
      · obtain ⟨i, rfl⟩ := Nat.exists_eq_add_of_le h
        have first : start + 1 + i - start = i + 1 := by omega
        simp only [Nat.succ_eq_add_one, first, List.getElem?_cons_succ, Nat.add_sub_cancel_left]
        constructor
        · rintro ⟨-, found⟩
          exact .inr ⟨by omega, found⟩
        · rintro (⟨same, -⟩ | ⟨-, found⟩)
          · omega
          · exact ⟨by omega, found⟩
    simp only [later]
    rw [firstUnused]
    split_ifs with here
    · constructor
      · intro same
        cases same
        exact ⟨.inl ⟨rfl, here.1⟩, here.2, fun n _ below => by omega⟩
      · rintro ⟨found, -, none⟩
        have first := none start here.2
        by_contra other
        have above : start < e := by
          rcases found with ⟨same, -⟩ | ⟨above, -⟩
          · exact absurd (congrArg some same.symm) other
          · omega
        exact first above (.inl ⟨rfl, here.1⟩)
    · rw [firstUnused_eq_some_iff low rest (start + 1) e]
      constructor
      · rintro ⟨found, above, none⟩
        refine ⟨.inr found, above, fun n reach below => ?_⟩
        rintro (⟨rfl, unused⟩ | rest)
        · exact here ⟨unused, reach⟩
        · exact none n reach below rest
      · rintro ⟨found | found, above, none⟩
        · exact absurd ⟨found.2, found.1 ▸ above⟩ here
        · exact ⟨found, above, fun n reach below rest => none n reach below (.inr rest)⟩

/-- A pack's mark at a serial, by its list of marks (05 R93). -/
theorem Pack.markOf_unused_iff {p : Pack} (wf : p.wf = true) (e : Nat) :
    p.markOf e = some .unused ↔ p.first ≤ e ∧ p.marks[e - p.first]? = some .unused := by
  have size : p.marks.length = p.count := (p.wf_iff.1 wf).1
  unfold Pack.markOf Pack.inRange
  simp only [Bool.and_eq_true, decide_eq_true_eq]
  split_ifs with inside
  · simp [inside.1]
  · refine ⟨fun h => (nomatch h), fun ⟨low, found⟩ => ?_⟩
    obtain ⟨short, -⟩ := List.getElem?_eq_some_iff.1 found
    exact absurd ⟨low, by omega⟩ inside

theorem Pack.lowestUnused_eq_some_iff {p : Pack} (wf : p.wf = true) (low e : Nat) :
    p.lowestUnused low = some e ↔ p.markOf e = some .unused ∧ low ≤ e ∧
      ∀ n, low ≤ n → n < e → p.markOf n ≠ some .unused := by
  simp only [Pack.lowestUnused, firstUnused_eq_some_iff, ne_eq, Pack.markOf_unused_iff wf]

/-- From the pack's first serial on, no bound below matters. -/
theorem Pack.lowestUnused_first_iff {p : Pack} (wf : p.wf = true) (e : Nat) :
    p.lowestUnused p.first = some e ↔ p.markOf e = some .unused ∧
      ∀ n, n < e → p.markOf n ≠ some .unused := by
  rw [Pack.lowestUnused_eq_some_iff wf]
  constructor
  · rintro ⟨found, -, none⟩
    refine ⟨found, fun n below unused => ?_⟩
    exact none n ((Pack.markOf_unused_iff wf n).1 unused).1 below unused
  · rintro ⟨found, none⟩
    exact ⟨found, ((Pack.markOf_unused_iff wf e).1 found).1, fun n _ => none n⟩

/-- The record of a lane's pack keeps its counts where the stock's rules hold. -/
theorem State.wf_of_findPack {s : State} {n : Nat} {k : Pack} (h : s.stockHolds)
    (found : s.findPack n = some k) : k.wf = true := by
  obtain ⟨-, -, -, -, each, -⟩ := h
  exact (each k (State.mem_of_findPack found).1).1

theorem State.findPack_of_mounted {s : State} {l : LaneId} {k : Pack} (h : s.mounted l = some k) :
    ∃ n, (s.lane l).pack = some n ∧ s.findPack n = some k := Option.bind_eq_some_iff.1 h

/-- The expected serial of a lane with a pack (04 R68). -/
theorem State.expected_eq_some_iff {s : State} {l : LaneId} {k : Pack} (h : s.stockHolds)
    (mounted : s.mounted l = some k) (e : Nat) : s.expected l = some e ↔
      k.markOf e = some .unused ∧ (s.lane l).position ≤ e ∧
        ∀ n, (s.lane l).position ≤ n → n < e → k.markOf n ≠ some .unused := by
  obtain ⟨n, -, found⟩ := State.findPack_of_mounted mounted
  have same : s.expected l = k.lowestUnused (s.lane l).position := by
    rw [State.expected, mounted]
    rfl
  rw [same, Pack.lowestUnused_eq_some_iff (State.wf_of_findPack h found)]

/-! ## What each read answers -/

section
variable (s : State) (p : Port) (tag : Byte)

theorem ownsWindow_of_own {w : Window} (own : ∀ v, p = .window v → v = w) :
    ownsWindow p (w.val + 1) = true := by
  cases p with
  | office => rfl
  | window v =>
    cases own v rfl
    simp [ownsWindow, windowOf_val_add_one]

theorem namesOtherWindow_readJob (b : ReadJobBody) :
    namesOtherWindow (.readJob p tag (some b)) = !ownsWindow p b.window := by
  cases p <;> rfl

theorem namesOtherWindow_readSession (b : ReadSessionBody) :
    namesOtherWindow (.readSession p tag (some b)) = !ownsWindow p b.window := by
  cases p <;> rfl

theorem State.readJob_present (w : Window) (k : SlotId) :
    s.readJob ⟨w.val + 1, some (k.val + 1)⟩ =
      (s, accepted (.job (s.slot w k).unread ((s.job w k).map (s.jobView w k)))) := by
  unfold State.readJob
  rw [windowOf_val_add_one, Option.bind_some, slotOf_val_add_one]

theorem State.readJob_absent {w j : Nat} (h : w < 1 ∨ 6 < w ∨ j < 1 ∨ 8 < j) :
    s.readJob ⟨w, some j⟩ = (s, refusal .badArgument) := by
  unfold State.readJob
  by_cases out : w < 1 ∨ 6 < w
  · rw [windowOf_eq_none out]
  · rw [Option.bind_some, slotOf_eq_none (by omega)]
    cases windowOf w <;> rfl

theorem State.readSession_present (w : Window) (first : Option Nat) :
    s.readSession ⟨w.val + 1, some first⟩ = (s, accepted (.session (s.sessionView w first))) := by
  unfold State.readSession
  rw [windowOf_val_add_one]
  rfl

theorem State.readSession_absent {w : Nat} {first : Option Nat} (h : w < 1 ∨ 6 < w) :
    s.readSession ⟨w, some first⟩ = (s, refusal .badArgument) := by
  unfold State.readSession
  rw [windowOf_eq_none h]

/-- What READ_LANE shows of a lane (04 R71). -/
def State.laneView (l : LaneId) : LaneView :=
  (s.lane l).view (s.mounted l) (s.expected l) ((s.activeReports l).map (·.number))

theorem State.readLane_present (l : LaneId) :
    s.readLane (l.val + 1) = (s, accepted (.lane (s.laneView l))) := by
  unfold State.readLane
  rw [laneOf_val_add_one]
  rfl

theorem State.readLane_absent {l : Nat} (h : l < 1 ∨ 4 < l) :
    s.readLane l = (s, refusal .badArgument) := by
  unfold State.readLane
  rw [laneOf_eq_none h]

theorem State.readForm_present (f : Fin 8) : s.readForm f.val = (s, accepted (.form (s.form f)
    ((s.form f).current.map FormDef.counts) ((s.form f).pending.map FormDef.counts))) := by
  unfold State.readForm
  rw [formOf_val]

theorem State.readForm_absent {f : Nat} (h : 7 < f) : s.readForm f = (s, refusal .badArgument) := by
  unfold State.readForm
  rw [formOf_eq_none h]

/-- The four lanes' pairs of report numbers (10 R188). -/
def State.reportPairs : Vector (Nat × Nat) 4 :=
  #v[s.reportPair 0, s.reportPair 1, s.reportPair 2, s.reportPair 3]

theorem State.reportPairs_get (l : LaneId) : s.reportPairs[l] = s.reportPair l := by
  fin_cases l <;> rfl

theorem State.readFaults_present {n : Nat} (h : n < 64) : s.readFaults n =
    (s, accepted (.faults s.faults.length (s.faults.filter Report.isActive).length s.faultCounter
      s.reportPairs ((s.faults.drop n).take 8))) :=
  if_neg (by simp only [Config.faultPlaces]; omega)

theorem State.readFaults_absent {n : Nat} (h : 63 < n) : s.readFaults n = (s, refusal .badArgument) :=
  if_pos (by simp only [Config.faultPlaces]; omega)

theorem State.packSummaries_spec :
    s.packSummaries.Perm (s.packs.map fun k => ⟨k.number, k.cls, k.state, k.lane⟩) ∧
      s.packSummaries.Pairwise fun a b => a.number ≤ b.number := by
  refine ⟨List.perm_insertionSort _ _, ?_⟩
  have : Std.Total fun a b : PackSummary => a.number ≤ b.number :=
    ⟨fun a b => le_total a.number b.number⟩
  have : IsTrans PackSummary fun a b => a.number ≤ b.number :=
    ⟨fun a b c => le_trans (a := a.number)⟩
  exact List.pairwise_insertionSort _ _

theorem State.readPack_all : s.readPack ⟨0, none⟩ =
    (s, accepted (.packTable s.packSummaries s.entriesUsed s.entriesFree s.nextPack)) := rfl

theorem State.readPack_absent {n : Nat} {serial : Option Nat} (n0 : n ≠ 0)
    (none : s.findPack n = none) : s.readPack ⟨n, serial⟩ = (s, refusal .noPack) := by
  unfold State.readPack
  rw [if_neg n0, none]

theorem State.readPack_present {n : Nat} {k : Pack} {serial : Option Nat} (n0 : n ≠ 0)
    (found : s.findPack n = some k) : s.readPack ⟨n, serial⟩ = (s, k.readReply serial) := by
  unfold State.readPack
  rw [if_neg n0, found]

theorem Pack.givenUnused_eq (k : Pack) : k.givenUnused = (k.lowestUnused k.first).getD 0 := by
  rw [Pack.givenUnused, givenOrZero, Option.map_id_fun, id_eq]

theorem Pack.readReply_serial (k : Pack) (r : Nat) : k.readReply (some r) =
    if k.first ≤ r ∧ r < k.first + k.count then
      accepted (.packRecord k.view k.givenUnused (k.markOf r))
    else refusal .badArgument := by
  unfold Pack.readReply Pack.inRange
  simp only [Bool.and_eq_true, decide_eq_true_eq]

/-! ## The fields by their records -/

/-- READ_LANE's fields of the record, of the pack, of the head, of the job and of the ticket. -/
theorem State.laneView_fields (l : LaneId) :
    ((s.laneView l).packNumber, (s.laneView l).packClass, (s.laneView l).remaining) =
      (match s.mounted l with
        | some k => (k.number, k.cls, k.counters.unused)
        | none => (0, 0, 0)) ∧
    (s.laneView l).expected = (s.expected l).getD 0 ∧
    ((s.laneView l).head, (s.laneView l).headSerial) = (match (s.lane l).head with
      | .notPositioned => (.notPositioned, 0)
      | .unverified => (.unverified, 0)
      | .verified e => (.verified, e)) ∧
    ((s.laneView l).jobWindow, (s.laneView l).jobSlot) = (match (s.lane l).job with
      | some (w, k) => (w.val + 1, k.val + 1)
      | none => (0, 0)) ∧
    ((s.laneView l).inflight, (s.laneView l).inflightSerial, (s.laneView l).begun) =
      (match (s.lane l).inflight with
        | some r => (true, r.serial, r.begun)
        | none => (false, 0, false)) := by
  refine ⟨?_, ?_, ?_, ?_, ?_⟩
  · simp only [State.laneView, Lane.view]
    cases s.mounted l <;> rfl
  · simp only [State.laneView, Lane.view]
    cases s.expected l <;> rfl
  · simp only [State.laneView, Lane.view]
    cases (s.lane l).head <;> rfl
  · simp only [State.laneView, Lane.view]
    cases (s.lane l).job <;> rfl
  · simp only [State.laneView, Lane.view]
    cases (s.lane l).inflight <;> rfl

/-- READ_CENSUS's fields, by the census state (06 R128). -/
theorem State.censusFields_spec (c : Census) (h : c = s.census) :
    (c.state = .idle → s.censusFields = .censusIdle) ∧
    (c.state ∈ [CensusState.running, .suspending, .suspended] →
      s.censusFields = .censusProgress (c.progress s.censusSequence)) ∧
    (∀ r, c.state = .done → c.result = some r →
      s.censusFields = .censusDone r ((s.findPack r.pack).map Pack.sequence)) ∧
    (c.state = .stopped →
      s.censusFields = .censusStopped c.pack c.first c.last c.mode c.stopCause) := by
  subst h
  refine ⟨fun state => ?_, fun mem => ?_, fun r state result => ?_, fun state => ?_⟩
  · simp only [State.censusFields, state]
  · simp only [List.mem_cons, List.not_mem_nil, or_false] at mem
    rcases mem with state | state | state <;> simp only [State.censusFields, state]
  · simp only [State.censusFields, state, result]
  · simp only [State.censusFields, state]

end

/-- Settles O23: every read's block leaves the state as it is, and its answer's fields are the
records'. -/
theorem readsAnswerAndChangeNothing : Obligations.ReadsAnswerAndChangeNothing := by
  unfold Obligations.ReadsAnswerAndChangeNothing
  intro s p tag
  have same := fun {k : RequestKind} (reply : Reply) =>
    State.answered_same (s := s) (p := p) (k := k) (tag := tag) reply
  refine ⟨fun w k admits own => ?_, fun w first admits own => ?_, fun l admits => ?_, fun f admits => ?_,
    fun n admits low => ?_, fun admits c hc => ?_, fun admits => ⟨?_, ?_, ?_⟩, fun c k absent admits => ?_⟩
  · exact exec_unmoved (exec_plain (.readJob p tag (some ⟨w.val + 1, some (k.val + 1)⟩)) admits
      (congrArg some (s.readJob_present w k))
      (own := by rw [namesOtherWindow_readJob, ownsWindow_of_own p own]; rfl))
  · have run := exec_plain (.readSession p tag (some ⟨w.val + 1, some first⟩)) admits
      (congrArg some (s.readSession_present w first))
      (own := by rw [namesOtherWindow_readSession, ownsWindow_of_own p own]; rfl)
    refine ⟨_, _, run, (same _).1, (same _).2, rfl, rfl, rfl, rfl, rfl, rfl, rfl, ?_⟩
    cases first <;> rfl
  · have run := exec_plain (.readLane p tag (some (l.val + 1))) admits
      (congrArg some (s.readLane_present l))
    obtain ⟨pack, expected, head, job, ticket⟩ := s.laneView_fields l
    exact ⟨_, _, run, (same _).1, (same _).2, rfl, rfl, pack, rfl, expected, head, job, rfl, ticket,
      rfl, rfl, rfl, rfl, rfl, fun h k e mounted => State.expected_eq_some_iff h mounted e⟩
  · exact exec_unmoved (exec_plain (.readForm p tag (some f.val)) admits
      (congrArg some (s.readForm_present f)))
  · have run := exec_plain (.readFaults p tag (some n)) admits
      (congrArg some (s.readFaults_present low))
    exact ⟨_, s.reportPairs, run, (same _).1, (same _).2, fun l => s.reportPairs_get l⟩
  · have run := exec_plain (.readCensus p tag (some ())) admits rfl
    exact ⟨_, s.censusFields, run, (same _).1, (same _).2, by
      subst hc
      exact s.censusFields_spec _ rfl⟩
  · have run := exec_plain (.readPack p tag (some ⟨0, none⟩)) admits
      (congrArg some s.readPack_all)
    exact ⟨_, s.packSummaries, run, (same _).1, (same _).2, s.packSummaries_spec⟩
  · intro n serial n0 none
    exact exec_unmoved (exec_plain (.readPack p tag (some ⟨n, serial⟩)) admits
      (congrArg some (s.readPack_absent n0 none)))
  · rintro n k _ n0 found rfl
    have run := exec_plain (.readPack p tag (some ⟨n, none⟩)) admits
      (congrArg some (s.readPack_present n0 found))
    rw [← k.givenUnused_eq]
    refine ⟨_, run, (same _).1, (same _).2, fun h e =>
      Pack.lowestUnused_first_iff (State.wf_of_findPack h found) e, fun r => ?_⟩
    have run := exec_plain (.readPack p tag (some ⟨n, some r⟩)) admits
      (congrArg some (s.readPack_present n0 found))
    rw [k.readReply_serial] at run
    exact exec_unmoved run
  · rcases absent with ⟨rfl, w, j, rfl, own, out⟩ | ⟨rfl, w, first, rfl, rfl, out⟩ |
      ⟨rfl, l, rfl, out⟩ | ⟨rfl, f, rfl, out⟩ | ⟨rfl, n, rfl, out⟩
    · refine exec_unmoved (exec_plain (.readJob p tag (some ⟨w, some j⟩)) admits
        (congrArg some (s.readJob_absent out)) (own := ?_))
      rw [namesOtherWindow_readJob]
      cases p with
      | office => rfl
      | window v => simp [ownsWindow, own v rfl, windowOf_val_add_one]
    · exact exec_unmoved (exec_plain (.readSession .office tag (some ⟨w, some first⟩)) admits
        (congrArg some (s.readSession_absent out)))
    · exact exec_unmoved (exec_plain (.readLane p tag (some l)) admits
        (congrArg some (s.readLane_absent out)))
    · exact exec_unmoved (exec_plain (.readForm p tag (some f)) admits
        (congrArg some (s.readForm_absent out)))
    · exact exec_unmoved (exec_plain (.readFaults p tag (some n)) admits
        (congrArg some (s.readFaults_absent out)))

end Sys2Proof.Machine
end

section
/-! SUPPORT. The line composer (02 R33 to R37; 07 R135): decimal digits and stamp texts, one line by its
kind, and a whole ticket. -/

-- One proof at a time: the check's memory limit holds few threads.
set_option Elab.async false

namespace Sys2Proof.Machine

/-! ## Decimal digits -/

theorem digit_toNat {d : Nat} (h : d < 10) : (digit d).toNat = 0x30 + d := by
  rw [digit, BitVec.toNat_ofNat, Nat.mod_eq_of_lt (by omega)]

/-- The number a text of digits gives, `m` standing before it. -/
def valueOf (m : Nat) (t : Text) : Nat := t.foldl (fun m x => 10 * m + (x.toNat - 0x30)) m

theorem valueOf_append_digit (m : Nat) (t : Text) {d : Nat} (h : d < 10) :
    valueOf m (t ++ [digit d]) = 10 * valueOf m t + d := by
  rw [valueOf, List.foldl_append, List.foldl_cons, List.foldl_nil, digit_toNat h,
    Nat.add_sub_cancel_left]
  rfl

/-- A character is a decimal digit. -/
def isDigit (x : Byte) : Prop := 0x30 ≤ x.toNat ∧ x.toNat ≤ 0x39

theorem isDigit_digit {d : Nat} (h : d < 10) : isDigit (digit d) := by
  rw [isDigit, digit_toNat h]
  omega

theorem fixedDigits_spec : ∀ k n, (fixedDigits k n).length = k ∧ (∀ x ∈ fixedDigits k n, isDigit x) ∧
    valueOf 0 (fixedDigits k n) = n % 10 ^ k
  | 0, n => ⟨rfl, by simp [fixedDigits], (Nat.mod_one n).symm⟩
  | k + 1, n => by
    obtain ⟨size, each, value⟩ := fixedDigits_spec k (n / 10)
    have last : n % 10 < 10 := Nat.mod_lt n (by decide)
    refine ⟨by rw [fixedDigits, List.length_append, size, List.length_singleton], fun x hx => ?_, ?_⟩
    · rw [fixedDigits, List.mem_append, List.mem_singleton] at hx
      rcases hx with hx | rfl
      · exact each x hx
      · exact isDigit_digit last
    · rw [fixedDigits, valueOf_append_digit _ _ last, value, Nat.pow_succ', Nat.mod_mul]
      omega

theorem fixedDigits_two (n : Nat) : fixedDigits 2 n = [digit (n / 10 % 10), digit (n % 10)] := rfl

/-- A text of digits for `n` with no leading zero. -/
def digitsOf (t : Text) (n : Nat) : Prop :=
  t ≠ [] ∧ (∀ x ∈ t, isDigit x) ∧ (n ≠ 0 → t.head? ≠ some 0x30) ∧ (1 < t.length → n ≠ 0) ∧
    valueOf 0 t = n

theorem digitsOf.spells {t : Text} {n : Nat} (h : digitsOf t n) : Text.spells t n := by
  obtain ⟨some_, each, head, long, value⟩ := h
  exact ⟨some_, each, fun more => head (long more), value⟩

theorem digitsOf_digit {n : Nat} (h : n < 10) : digitsOf [digit n] n := by
  refine ⟨by simp, fun x hx => ?_, fun n0 same => ?_, fun long => absurd long (by simp), ?_⟩
  · rw [List.mem_singleton.1 hx]
    exact isDigit_digit h
  · have zero := congrArg (Option.map BitVec.toNat) same
    simp only [List.head?_cons, Option.map_some, digit_toNat h, Option.some.injEq] at zero
    exact n0 (Nat.add_left_cancel (n := 0x30) zero)
  · exact (valueOf_append_digit 0 [] h).trans (by simp [valueOf])

/-- The digits put before `tail` spell `n`, and are as many as its size asks. -/
theorem decimalOnto_eq : ∀ (fuel n : Nat) (tail : Text), n < 10 ^ fuel → fuel ≠ 0 →
    ∃ digits, decimalOnto fuel n tail = digits ++ tail ∧ digitsOf digits n ∧ digits.length ≤ fuel
  | 0, _, _, _, h => absurd rfl h
  | fuel + 1, n, tail, small, _ => by
    rw [decimalOnto]
    split_ifs with one
    · exact ⟨[digit n], rfl, digitsOf_digit one, by simp⟩
    · have fuel0 : fuel ≠ 0 := by
        rintro rfl
        omega
      have less : n / 10 < 10 ^ fuel := Nat.div_lt_of_lt_mul (by rwa [Nat.pow_succ'] at small)
      obtain ⟨digits, same, ⟨some_, each, head, -, value⟩, size⟩ :=
        decimalOnto_eq fuel (n / 10) (digit (n % 10) :: tail) less fuel0
      have last : n % 10 < 10 := Nat.mod_lt n (by decide)
      refine ⟨digits ++ [digit (n % 10)], by rw [same]; simp, ⟨by simp, fun x hx => ?_, fun _ => ?_,
        fun _ => by omega, ?_⟩, by simpa using size⟩
      · rw [List.mem_append, List.mem_singleton] at hx
        rcases hx with hx | rfl
        · exact each x hx
        · exact isDigit_digit last
      · rw [List.head?_append_of_ne_nil _ some_]
        exact head (by omega)
      · rw [valueOf_append_digit _ _ last, value]
        omega

theorem decimalOnto_succ (fuel n : Nat) (tail : Text) : decimalOnto (fuel + 1) n tail =
    if n < 10 then digit n :: tail else decimalOnto fuel (n / 10) (digit (n % 10) :: tail) := rfl

/-- More fuel than the digits need changes nothing. -/
theorem decimalOnto_fuel : ∀ {fuel n : Nat} (tail : Text), n < 10 ^ fuel → fuel ≠ 0 →
    decimalOnto (fuel + 1) n tail = decimalOnto fuel n tail
  | 0, _, _, _, h => absurd rfl h
  | fuel + 1, n, tail, small, _ => by
    rw [decimalOnto_succ (fuel + 1) n tail, decimalOnto_succ fuel n tail]
    split_ifs with one
    · rfl
    · have fuel0 : fuel ≠ 0 := by
        rintro rfl
        omega
      exact decimalOnto_fuel _ (Nat.div_lt_of_lt_mul (by rwa [Nat.pow_succ'] at small)) fuel0

theorem decimal_spec {n k : Nat} (small : n < 10 ^ k) (k0 : k ≠ 0) (k10 : k ≤ 10) :
    Text.spells (decimal n) n ∧ (decimal n).length ≤ k ∧ 1 ≤ (decimal n).length := by
  have enough : ∀ i, decimalOnto (k + i) n [] = decimalOnto k n [] := by
    intro i
    induction i with
    | zero => rfl
    | succ i ih =>
      have wide : n < 10 ^ (k + i) :=
        Nat.lt_of_lt_of_le small (Nat.pow_le_pow_right (by decide) (by omega))
      exact (decimalOnto_fuel [] wide (by omega)).trans ih
  obtain ⟨digits, same, spelt, size⟩ := decimalOnto_eq k n [] small k0
  have whole : decimal n = digits := by
    rw [decimal, ← Nat.add_sub_cancel' k10, enough, same, List.append_nil]
  rw [whole]
  exact ⟨spelt.spells, size, List.length_pos_iff.2 spelt.1⟩

/-! ## Lines as printed -/

theorem padLine_length (t : Text) : (padLine t).length = 40 := by
  simp only [padLine, List.length_append, List.length_take, List.length_replicate, Config.lineWidth]
  omega

theorem padLine_of_short {t : Text} (h : t.length ≤ 40) :
    padLine t = t ++ List.replicate (40 - t.length) 0x20 := by
  rw [padLine, List.take_of_length_le (show t.length ≤ Config.lineWidth from h)]
  rfl

theorem contentLine_length (t : Text) : (contentLine t).length = 40 := padLine_length _

theorem contentLine_of_short {t : Text} (h : t.length ≤ 40) :
    contentLine t = t.map printable ++ List.replicate (40 - t.length) 0x20 := by
  rw [contentLine, padLine_of_short (by simpa using h), List.length_map]

/-! ## One line (02 R33 to R36) -/

/-- The line of content index `n`: the job's, or blank. -/
def lineAt (lines : List Text) (n : Nat) : Text := (lines[n]?.map contentLine).getD blankLine

theorem lineAt_length (lines : List Text) (n : Nat) : (lineAt lines n).length = 40 := by
  unfold lineAt
  cases lines[n]? with
  | none => exact List.length_replicate
  | some t => exact contentLine_length t

namespace Composer
variable (c : Composer) (d : FormDef) (lines : List Text) (i : Nat)

theorem content_eq : c.content lines = ({ c with
    index := c.index + 1
    lostLine := c.lostLine || (lines.length ≤ c.index && c.index < c.declared) },
    lineAt lines c.index) := by
  unfold content lineAt
  cases h : lines[c.index]? with
  | some t =>
    obtain ⟨inside, -⟩ := List.getElem?_eq_some_iff.1 h
    have : ¬ lines.length ≤ c.index := by omega
    simp [this]
  | none =>
    have out : lines.length ≤ c.index := List.getElem?_eq_none_iff.1 h
    by_cases met : c.declared ≤ c.index
    · have : ¬ c.index < c.declared := by omega
      simp [met, this]
    · have : c.index < c.declared := by omega
      simp [met, this, out]

/-- The line's kind, by the stamps, the gap and the part of the ticket it stands in. -/
theorem classified_serial (h : i ∈ d.serialBody.toList ++ d.serialCounterfoil.toList) :
    c.classified d lines i = (c, padLine c.serialText) :=
  if_pos (by simpa [Option.mem_toList, Option.mem_def] using h)

theorem classified_time (hs : i ∉ d.serialBody.toList ++ d.serialCounterfoil.toList)
    (h : i ∈ d.timeBody.toList ++ d.timeCounterfoil.toList) :
    c.classified d lines i = (c, padLine c.timeText) :=
  (if_neg (by simpa [Option.mem_toList, Option.mem_def] using hs)).trans
    (if_pos (by simpa [Option.mem_toList, Option.mem_def] using h))

theorem classified_price (hs : i ∉ d.serialBody.toList ++ d.serialCounterfoil.toList)
    (ht : i ∉ d.timeBody.toList ++ d.timeCounterfoil.toList)
    (h : i ∈ d.priceBody.toList ++ d.priceCounterfoil.toList) :
    c.classified d lines i = (c, padLine c.priceText) :=
  (if_neg (by simpa [Option.mem_toList, Option.mem_def] using hs)).trans
    ((if_neg (by simpa [Option.mem_toList, Option.mem_def] using ht)).trans
      (if_pos (by simpa [Option.mem_toList, Option.mem_def] using h)))

theorem mem_stamps_iff : i ∈ d.stamps ↔ i ∈ d.serialBody.toList ++ d.serialCounterfoil.toList ∨
    i ∈ d.timeBody.toList ++ d.timeCounterfoil.toList ∨
    i ∈ d.priceBody.toList ++ d.priceCounterfoil.toList := by
  simp only [FormDef.stamps, FormDef.bodyStamps, FormDef.counterfoilStamps, List.mem_append]
  tauto

theorem classified_plain (h : i ∉ d.stamps) : c.classified d lines i =
    if d.isGap i then (c, blankLine)
    else if i < d.bodyEnd then c.content lines
    else if d.repeatCount ≤ c.index then (c, blankLine)
    else c.content lines := by
  simp only [mem_stamps_iff, not_or] at h
  obtain ⟨hs, ht, hp⟩ := h
  exact (if_neg (by simpa [Option.mem_toList, Option.mem_def] using hs)).trans
    ((if_neg (by simpa [Option.mem_toList, Option.mem_def] using ht)).trans
      (if_neg (by simpa [Option.mem_toList, Option.mem_def] using hp)))

/-- A stamp's line changes nothing of the composer. -/
theorem classified_stamp (h : i ∈ d.stamps) : ∃ t, c.classified d lines i = (c, padLine t) := by
  rw [mem_stamps_iff] at h
  by_cases hs : i ∈ d.serialBody.toList ++ d.serialCounterfoil.toList
  · exact ⟨_, c.classified_serial d lines i hs⟩
  · by_cases ht : i ∈ d.timeBody.toList ++ d.timeCounterfoil.toList
    · exact ⟨_, c.classified_time d lines i hs ht⟩
    · exact ⟨_, c.classified_price d lines i hs ht (by tauto)⟩

/-- A line leaves the composer as it is, or is a content line. -/
theorem classified_cases : (∃ t, t.length = 40 ∧ c.classified d lines i = (c, t)) ∨
    c.classified d lines i = c.content lines := by
  by_cases stamp : i ∈ d.stamps
  · obtain ⟨t, same⟩ := c.classified_stamp d lines i stamp
    exact .inl ⟨_, padLine_length t, same⟩
  · rw [c.classified_plain d lines i stamp]
    split_ifs
    · exact .inl ⟨_, List.length_replicate, rfl⟩
    · exact .inr rfl
    · exact .inl ⟨_, List.length_replicate, rfl⟩
    · exact .inr rfl

/-- The composer as line `i` finds it: its index 0 at the counterfoil start. -/
theorem atLine_eq : c.atLine d i =
    { c with index := if d.counterfoil = some i then 0 else c.index } := by
  unfold atLine
  split_ifs <;> rfl

theorem afterLine_eq : c.afterLine d i =
    { c with state := if i + 1 = d.lineCount then .complete else c.state } := by
  unfold afterLine
  split_ifs <;> rfl

variable {c d} in
theorem compose_eq (h : c.copy = some d) : c.compose lines i =
    (((c.atLine d i).classified d lines i).1.afterLine d i,
      ((c.atLine d i).classified d lines i).2) := by
  unfold compose
  rw [h]

/-- A line that leaves the composer as it is: its text, and the index and the mark kept. -/
theorem compose_of_kept {c : Composer} {d : FormDef} {lines : List Text} {i n : Nat} {t : Text}
    (copy : c.copy = some d) (index : n = (if d.counterfoil = some i then 0 else c.index))
    (kind : (c.atLine d i).classified d lines i = (c.atLine d i, t)) :
    (c.compose lines i).2 = t ∧ (c.compose lines i).1.index = n ∧
      (c.compose lines i).1.lostLine = c.lostLine := by
  rw [compose_eq lines i copy, kind, afterLine_eq, atLine_eq, index]
  exact ⟨rfl, rfl, rfl⟩

theorem compose_of_content {c : Composer} {d : FormDef} {lines : List Text} {i n : Nat}
    (copy : c.copy = some d) (index : n = (if d.counterfoil = some i then 0 else c.index))
    (kind : (c.atLine d i).classified d lines i = (c.atLine d i).content lines) :
    (c.compose lines i).2 = lineAt lines n ∧ (c.compose lines i).1.index = n + 1 ∧
      (c.compose lines i).1.lostLine =
        (c.lostLine || (decide (lines.length ≤ n) && decide (n < c.declared))) := by
  rw [compose_eq lines i copy, kind, content_eq, afterLine_eq, atLine_eq, index]
  exact ⟨rfl, rfl, rfl⟩

/-- What no line changes, and the state after one. -/
theorem compose_rest {c : Composer} {d : FormDef} (lines : List Text) (i : Nat)
    (copy : c.copy = some d) : (c.compose lines i).1.copy = some d ∧
      (c.compose lines i).1.declared = c.declared ∧
      (c.compose lines i).1.state = (if i + 1 = d.lineCount then .complete else c.state) ∧
      (c.compose lines i).2.length = 40 := by
  rw [compose_eq lines i copy, afterLine_eq]
  rcases (c.atLine d i).classified_cases d lines i with ⟨t, wide, same⟩ | same
  · rw [same, atLine_eq]
    exact ⟨copy, rfl, rfl, wide⟩
  · rw [same, content_eq, atLine_eq]
    exact ⟨copy, rfl, rfl, lineAt_length _ _⟩

end Composer

/-! ## Stamp texts (02 R37; 07 R135) -/

theorem serialStamp_spec {cls serial : Nat} (hn : serial ≤ 9999999) :
    (serialStamp cls serial).length = 9 ∧
    ((serialStamp cls serial).take 2) = [BitVec.ofNat 8 (0x30 + cls), 0x2F] ∧
    (∀ x ∈ (serialStamp cls serial).drop 2, 0x30 ≤ x.toNat ∧ x.toNat ≤ 0x39) ∧
    ((serialStamp cls serial).drop 2).foldl (fun n x => 10 * n + (x.toNat - 0x30)) 0 = serial := by
  obtain ⟨size, each, value⟩ := fixedDigits_spec 7 serial
  refine ⟨by simp [serialStamp, size], rfl, each, value.trans (Nat.mod_eq_of_lt (by omega))⟩

theorem timeStamp_spec {c : ClockStamp} (h : c.second ≤ 86399) :
    8 ≤ (timeStamp c).length ∧ (timeStamp c).length ≤ 12 ∧
    ∃ day h h' m m', timeStamp c = 0x44 :: day ++ [0x20, h, h', 0x3A, m, m'] ∧
      Text.spells day c.day.toNat ∧
      h.toNat = 0x30 + c.second / 3600 / 10 ∧ h'.toNat = 0x30 + c.second / 3600 % 10 ∧
      m.toNat = 0x30 + c.second % 3600 / 60 / 10 ∧
      m'.toNat = 0x30 + c.second % 3600 / 60 % 10 := by
  have wide : c.day.toNat < 10 ^ 5 := by
    have := c.day.isLt
    omega
  obtain ⟨spelt, most, least⟩ := decimal_spec wide (by decide) (by decide)
  have whole : timeStamp c = 0x44 :: decimal c.day.toNat ++ [0x20, digit (c.second / 3600 / 10 % 10),
      digit (c.second / 3600 % 10), 0x3A, digit (c.second % 3600 / 60 / 10 % 10),
      digit (c.second % 3600 / 60 % 10)] := by
    simp [timeStamp, fixedDigits_two]
  have size : (timeStamp c).length = (decimal c.day.toNat).length + 7 := by
    rw [whole]
    simp
  refine ⟨by omega, by omega, _, _, _, _, _, whole, spelt, ?_, ?_, ?_, ?_⟩ <;>
    rw [digit_toNat (by omega)] <;> omega

theorem priceText_spec (mark : Byte) {value : Nat} (h : value ≤ 899991) :
    (priceText mark value).length = 13 ∧
    ∃ pounds d d', priceText mark value =
        mark :: List.replicate (9 - pounds.length) 0x20 ++ pounds ++ [0x2E, d, d'] ∧
      Text.spells pounds (value / 100) ∧ d.toNat = 0x30 + value % 100 / 10 ∧
      d'.toNat = 0x30 + value % 10 := by
  obtain ⟨spelt, most, least⟩ := decimal_spec (n := value / 100) (k := 4) (by omega) (by decide)
    (by decide)
  have whole : priceText mark value = mark ::
      List.replicate (9 - (decimal (value / 100)).length) 0x20 ++ decimal (value / 100) ++
        [0x2E, digit (value % 100 / 10 % 10), digit (value % 100 % 10)] := by
    have room : 12 - (moneyText value).length = 9 - (decimal (value / 100)).length := by
      simp [moneyText, fixedDigits_two]
    rw [priceText, rightAlign12, room]
    simp [moneyText, fixedDigits_two]
  refine ⟨?_, _, _, _, whole, spelt, ?_, ?_⟩
  · rw [whole]
    simp
    omega
  · rw [digit_toNat (by omega)]
    omega
  · rw [digit_toNat (by omega)]
    omega

theorem contentLine_get {t : Text} (h : t.length ≤ 40) : (contentLine t).length = 40 ∧
    (∀ (i : Nat) (x : Byte), t[i]? = some x → (contentLine t)[i]? =
      some (if 0x20 ≤ x.toNat ∧ x.toNat ≤ 0x7E then x else 0x3F)) ∧
    ∀ i, t.length ≤ i → i < 40 → (contentLine t)[i]? = some 0x20 := by
  refine ⟨contentLine_length t, fun i x found => ?_, fun i past inside => ?_⟩
  · obtain ⟨within, -⟩ := List.getElem?_eq_some_iff.1 found
    rw [contentLine_of_short h, List.getElem?_append_left (by simpa using within),
      List.getElem?_map, found]
    rfl
  · rw [contentLine_of_short h, List.getElem?_append_right (by simpa using past), List.length_map,
      List.getElem?_replicate, if_pos (by omega)]

/-- Settles O21: a line by the cases of `Composer.classified`, and each text digit by digit. -/
theorem linesAndStampTexts : Obligations.LinesAndStampTexts := by
  unfold Obligations.LinesAndStampTexts
  refine ⟨fun c d lines i n copy index => ⟨fun hs => ?_, fun hs ht => ?_, fun hs ht hp => ?_,
      fun plain gap => ?_, fun plain gap past spent => ?_, fun plain gap due => ?_,
      (Composer.compose_rest lines i copy).2.2.1⟩,
    fun cls serial _ => serialStamp_spec, fun c => timeStamp_spec, fun mark value => priceText_spec mark,
    fun t => padLine_of_short, fun t => contentLine_get⟩
  · have kept := Composer.compose_of_kept copy index ((c.atLine d i).classified_serial d lines i hs)
    rwa [Composer.atLine_eq] at kept
  · have kept := Composer.compose_of_kept copy index ((c.atLine d i).classified_time d lines i hs ht)
    rwa [Composer.atLine_eq] at kept
  · have kept :=
      Composer.compose_of_kept copy index ((c.atLine d i).classified_price d lines i hs ht hp)
    rwa [Composer.atLine_eq] at kept
  · exact Composer.compose_of_kept copy index
      (((c.atLine d i).classified_plain d lines i plain).trans (if_pos gap))
  · have late : ¬ i < d.bodyEnd := by omega
    have kind := (c.atLine d i).classified_plain d lines i plain
    rw [if_neg (by simp [gap]), if_neg late, if_pos (by rw [Composer.atLine_eq, ← index]; exact spent)]
      at kind
    exact Composer.compose_of_kept copy index kind
  · have kind := (c.atLine d i).classified_plain d lines i plain
    rw [if_neg (by simp [gap])] at kind
    have content : (c.atLine d i).classified d lines i = (c.atLine d i).content lines := by
      rw [kind]
      split_ifs with early spent
      · rfl
      · rw [Composer.atLine_eq, ← index] at spent
        dsimp only at spent
        omega
      · rfl
    obtain ⟨text, next, lost⟩ := Composer.compose_of_content copy index content
    refine ⟨next, fun x found => ?_, fun past => ?_⟩
    · obtain ⟨inside, -⟩ := List.getElem?_eq_some_iff.1 found
      have : ¬ lines.length ≤ n := by omega
      exact ⟨text.trans (by simp [lineAt, found]), lost.trans (by simp [this])⟩
    · exact ⟨text.trans (by simp [lineAt, List.getElem?_eq_none past, blankLine, Config.lineWidth]),
        lost.trans (by simp [past])⟩

/-! ## A whole ticket (02 R33 to R36) -/

/-- A body line that is neither a gap line nor a stamp's (02 R24). -/
def isBodyContent (d : FormDef) (i : Nat) : Bool := !d.isGap i && !d.bodyStamps.contains i

/-- The body content lines among the first `n` lines. -/
def contentBefore (d : FormDef) (n : Nat) : List Nat := (List.range n).filter (isBodyContent d)

theorem contentBefore_succ (d : FormDef) (n : Nat) : contentBefore d (n + 1) =
    contentBefore d n ++ if isBodyContent d n then [n] else [] := by
  rw [contentBefore, List.range_succ, List.filter_append]
  congr 1
  cases h : isBodyContent d n <;> simp [h]

/-- What every line of a ticket keeps. -/
structure TicketGoes (d : FormDef) (lines : List Text) (total n : Nat) (r : Composer × List Text) :
    Prop where
  copy : r.1.copy = some d
  declared : r.1.declared = total
  state : r.1.state = if n = d.lineCount then .complete else .composing
  size : r.2.length = n
  wide : ∀ x ∈ r.2, x.length = 40
  /-- No line is lost where all are supplied. -/
  honest : r.1.lostLine = true → lines.length < total

/-- What the body's lines keep besides: the content index, the mark, and the lines printed. -/
structure BodyGoes (d : FormDef) (lines : List Text) (total n : Nat) (r : Composer × List Text) :
    Prop where
  index : r.1.index = (contentBefore d n).length
  lost : lines.length < (contentBefore d n).length → lines.length < total → r.1.lostLine = true
  printed : (contentBefore d n).map (fun i => r.2[i]?) =
    (List.range (contentBefore d n).length).map fun k => some (lineAt lines k)

section
variable {d : FormDef} {lines : List Text} {total n : Nat} {r : Composer × List Text}

/-- A line by the mark it leaves. -/
theorem Composer.compose_lostLine {c : Composer} (copy : c.copy = some d) (i : Nat) :
    ((c.compose lines i).1.lostLine = true → c.lostLine = true ∨ lines.length < c.declared) ∧
      (c.lostLine = true → (c.compose lines i).1.lostLine = true) := by
  rw [compose_eq lines i copy, afterLine_eq]
  rcases (c.atLine d i).classified_cases d lines i with ⟨t, -, same⟩ | same
  · rw [same, atLine_eq]
    exact ⟨.inl, id⟩
  · rw [same, content_eq, atLine_eq]
    simp only [Bool.or_eq_true, Bool.and_eq_true, decide_eq_true_eq]
    exact ⟨Or.imp_right fun h => by omega, .inl⟩

theorem TicketGoes.next (so : TicketGoes d lines total n r) (h : n < d.lineCount) :
    TicketGoes d lines total (n + 1) ((r.1.compose lines n).1, r.2 ++ [(r.1.compose lines n).2]) := by
  obtain ⟨copy, kept, state, width⟩ := Composer.compose_rest lines n so.copy
  refine ⟨copy, kept.trans so.declared, ?_, by simp [so.size], fun x hx => ?_, fun lost => ?_⟩
  · rw [state, so.state, if_neg (show n ≠ d.lineCount by omega)]
  · rw [List.mem_append, List.mem_singleton] at hx
    rcases hx with hx | rfl
    · exact so.wide x hx
    · exact width
  · rcases (Composer.compose_lostLine so.copy n).1 lost with before | short
    · exact so.honest before
    · exact so.declared ▸ short

/-- In the body a line is a stamp or a gap, which keep the composer, or the next content line. -/
theorem classified_body {c : Composer} {i : Nat} (body : i < d.bodyEnd)
    (apart : ∀ i ∈ d.counterfoilStamps, d.bodyEnd ≤ i) :
    if isBodyContent d i then (c.atLine d i).classified d lines i = (c.atLine d i).content lines
    else ∃ t, (c.atLine d i).classified d lines i = (c.atLine d i, t) := by
  split_ifs with content
  · simp only [isBodyContent, Bool.and_eq_true, Bool.not_eq_true', List.contains_eq_mem,
      decide_eq_false_iff_not] at content
    have plain : i ∉ d.stamps := by
      rw [FormDef.stamps, List.mem_append, not_or]
      exact ⟨content.2, fun foil => absurd (apart i foil) (by omega)⟩
    rw [(c.atLine d i).classified_plain d lines i plain, if_neg (by simp [content.1]), if_pos body]
  · by_cases stamp : i ∈ d.stamps
    · obtain ⟨t, same⟩ := (c.atLine d i).classified_stamp d lines i stamp
      exact ⟨_, same⟩
    · have gap : d.isGap i = true := by
        have other : i ∉ d.bodyStamps := fun h => stamp (List.mem_append_left _ h)
        simpa [isBodyContent, other] using content
      exact ⟨_, ((c.atLine d i).classified_plain d lines i stamp).trans (if_pos gap)⟩

/-- One more line leaves the lines printed before it where they stand. -/
theorem printed_append (size : r.2.length = n) (t : Text) :
    (contentBefore d n).map (fun i => (r.2 ++ [t])[i]?) =
      (contentBefore d n).map fun i => r.2[i]? := by
  refine List.map_congr_left fun i hi => ?_
  have before : i < n := List.mem_range.1 (List.mem_filter.1 hi).1
  exact List.getElem?_append_left (by omega)

theorem BodyGoes.next (so : BodyGoes d lines total n r) (goes : TicketGoes d lines total n r)
    (body : n < d.bodyEnd) (apart : ∀ i ∈ d.counterfoilStamps, d.bodyEnd ≤ i) :
    BodyGoes d lines total (n + 1) ((r.1.compose lines n).1, r.2 ++ [(r.1.compose lines n).2]) := by
  have before : d.counterfoil ≠ some n := fun at_ => by
    rw [FormDef.bodyEnd, at_] at body
    exact Nat.lt_irrefl n body
  have index : (contentBefore d n).length = (if d.counterfoil = some n then 0 else r.1.index) := by
    rw [if_neg before, so.index]
  have kind := classified_body (c := r.1) (lines := lines) body apart
  have kept := printed_append (d := d) goes.size (r.1.compose lines n).2
  cases content : isBodyContent d n with
  | false =>
    rw [content] at kind
    obtain ⟨t, kind⟩ := kind
    obtain ⟨-, stays, lost⟩ := Composer.compose_of_kept goes.copy index kind
    have same : contentBefore d (n + 1) = contentBefore d n := by
      rw [contentBefore_succ, content]
      exact List.append_nil _
    exact ⟨by rw [same]; exact stays, by rw [same]; exact fun h h' => lost.trans (so.lost h h'),
      by rw [same]; exact kept.trans so.printed⟩
  | true =>
    rw [content] at kind
    obtain ⟨text, stays, lost⟩ := Composer.compose_of_content goes.copy index kind
    have more : contentBefore d (n + 1) = contentBefore d n ++ [n] := by
      rw [contentBefore_succ, content]
      rfl
    have size : (contentBefore d (n + 1)).length = (contentBefore d n).length + 1 := by
      rw [more, List.length_append, List.length_singleton]
    refine ⟨by rw [size]; exact stays, fun h h' => ?_, ?_⟩
    · rw [size] at h
      rw [lost, goes.declared]
      by_cases earlier : lines.length < (contentBefore d n).length
      · simp [so.lost earlier h']
      · have here : lines.length = (contentBefore d n).length := by omega
        simp [← here, h']
    · have last : (r.2 ++ [(r.1.compose lines n).2])[n]? =
          some (lineAt lines (contentBefore d n).length) := by
        rw [List.getElem?_append_right (by rw [goes.size]), goes.size, Nat.sub_self, text]
        rfl
      rw [size, List.range_succ, List.map_append, more, List.map_append, kept, so.printed]
      exact congrArg _ (congrArg (fun x => [x]) last)

/-- After the body the mark stands, and so do the lines printed. -/
structure BodyDone (d : FormDef) (lines : List Text) (total : Nat) (r : Composer × List Text) :
    Prop where
  lost : lines.length < (bodyContentLines d).length → lines.length < total → r.1.lostLine = true
  printed : (bodyContentLines d).map (fun i => r.2[i]?) =
    (List.range (bodyContentLines d).length).map fun k => some (lineAt lines k)

theorem BodyDone.next (so : BodyDone d lines total r) (goes : TicketGoes d lines total n r)
    (past : d.bodyEnd ≤ n) :
    BodyDone d lines total ((r.1.compose lines n).1, r.2 ++ [(r.1.compose lines n).2]) := by
  refine ⟨fun h h' => (Composer.compose_lostLine goes.copy n).2 (so.lost h h'), ?_⟩
  rw [← so.printed]
  refine List.map_congr_left fun i hi => ?_
  have before : i < d.bodyEnd := List.mem_range.1 (List.mem_filter.1 hi).1
  exact List.getElem?_append_left (by rw [goes.size]; omega)

variable (serialText timeText priceText : Text)

theorem ticketGoes (some_ : 0 < d.lineCount) : ∀ n, n ≤ d.lineCount → TicketGoes d lines total n
    ((Composer.begin d serialText timeText priceText total).ticket lines n)
  | 0, _ => ⟨rfl, rfl, (if_neg (by omega)).symm, rfl, by simp [Composer.ticket], (nomatch ·)⟩
  | n + 1, h => (ticketGoes some_ n (by omega)).next h

theorem bodyGoes (apart : ∀ i ∈ d.counterfoilStamps, d.bodyEnd ≤ i) (inside : d.bodyEnd ≤ d.lineCount)
    (some_ : 0 < d.lineCount) : ∀ n, n ≤ d.bodyEnd → BodyGoes d lines total n
      ((Composer.begin d serialText timeText priceText total).ticket lines n)
  | 0, _ => ⟨rfl, fun h => absurd h (by simp [contentBefore]), rfl⟩
  | n + 1, h => (bodyGoes apart inside some_ n (by omega)).next
      (ticketGoes serialText timeText priceText some_ n (by omega)) h apart

theorem bodyDone (apart : ∀ i ∈ d.counterfoilStamps, d.bodyEnd ≤ i) (inside : d.bodyEnd ≤ d.lineCount)
    (some_ : 0 < d.lineCount) {n : Nat} (past : d.bodyEnd ≤ n) (last : n ≤ d.lineCount) :
    BodyDone d lines total
      ((Composer.begin d serialText timeText priceText total).ticket lines n) := by
  induction n, past using Nat.le_induction with
  | base =>
    have so := bodyGoes (lines := lines) (total := total) serialText timeText priceText apart inside
      some_ d.bodyEnd (Nat.le_refl _)
    exact ⟨so.lost, so.printed⟩
  | succ n past ih =>
    exact (ih (by omega)).next (ticketGoes serialText timeText priceText some_ n (by omega)) past

/-- A content line for each line of the job, and blanks after them. -/
theorem map_lineAt (lines : List Text) {size : Nat} (h : lines.length ≤ size) :
    (List.range size).map (fun k => some (lineAt lines k)) =
      lines.map (fun x => some (contentLine x)) ++
        List.replicate (size - lines.length) (some (List.replicate 40 0x20)) := by
  refine List.ext_getElem? fun k => ?_
  by_cases within : k < lines.length
  · have range : (List.range size)[k]? = some k := List.getElem?_range (by omega)
    rw [List.getElem?_append_left (by simpa using within), List.getElem?_map, List.getElem?_map, range,
      List.getElem?_eq_getElem within]
    simp [lineAt, within]
  · rw [List.getElem?_append_right (by simpa using within), List.length_map, List.getElem?_map,
      List.getElem?_replicate]
    by_cases reach : k < size
    · rw [List.getElem?_range reach, if_pos (by omega)]
      simp [lineAt, within, blankLine, Config.lineWidth]
    · rw [List.getElem?_eq_none (by simpa using reach), if_neg (by omega)]
      rfl

end

/-- A valid definition's body stands before its counterfoil. -/
theorem valid_body {d : FormDef} (valid : d.valid = true) : 0 < d.stored.lineCount ∧
    d.stored.bodyEnd ≤ d.stored.lineCount ∧ ∀ i ∈ d.stored.counterfoilStamps, d.stored.bodyEnd ≤ i := by
  rw [FormDef.valid, Bool.and_eq_true, FormDef.stored_fitsTogether_iff] at valid
  obtain ⟨range, fits⟩ := valid
  obtain ⟨-, most, -, -, -, -, foilless⟩ := d.inRange_iff.1 range
  obtain ⟨-, -, foil, -⟩ := d.fitsTogether_iff.1 fits
  obtain ⟨lines, -, -, stamps, -, -, last⟩ := d.stored_fields
  rw [lines, last, stamps, FormDef.bodyEnd]
  cases at_ : d.counterfoil with
  | none => exact ⟨by omega, Nat.le_refl _, by simp [(foilless at_).2]⟩
  | some c =>
    obtain ⟨low, -, -, -, high⟩ := foil c at_
    exact ⟨by omega, Nat.le_of_lt low, high⟩

/-- Settles O20: the lines one by one, the body's first and then the counterfoil's. -/
theorem ticketPrintsTheContentInOrder : Obligations.TicketPrintsTheContentInOrder := by
  unfold Obligations.TicketPrintsTheContentInOrder
  intro d serialText timeText priceText declared lines valid fits supplied
  obtain ⟨some_, inside, apart⟩ := valid_body valid
  have goes := ticketGoes (lines := lines) (total := declared) serialText timeText priceText some_
    d.stored.lineCount (Nat.le_refl _)
  have done := bodyDone (lines := lines) (total := declared) serialText timeText priceText apart inside
    some_ inside (Nat.le_refl _)
  have capacity : (bodyContentLines d.stored).length = d.bodyCapacity := by
    rw [FormDef.length_bodyContentLines, FormDef.stored_bodyCapacity]
  rw [d.stored_fields.1] at goes done
  refine ⟨_, _, rfl, by rw [goes.state, d.stored_fields.1, if_pos rfl], goes.size, goes.wide, ?_,
    fun all => ?_⟩
  · rw [Bool.eq_iff_iff, decide_eq_true_eq]
    exact ⟨goes.honest, fun short => done.lost (by omega) short⟩
  · rw [done.printed, capacity, map_lineAt lines (by omega), all]

end Sys2Proof.Machine
end

section
/-! SUPPORT. What an answer leaves of the state it answers from; the census requests and the entry step
(06). -/

-- One proof at a time: the check's memory limit holds few threads.
set_option Elab.async false

namespace Sys2Proof.Machine

/-! ## An answered state -/

section
variable (s t : State) (p : Port) (a g : Byte) (r : Reply)

@[simp] theorem State.answerWith_session (w : Window) :
    (s.answerWith p a g r).session w = s.session w := State.setPort_session s p _ w

@[simp] theorem State.answerWith_lane (l : LaneId) :
    (s.answerWith p a g r).lane l = s.lane l := State.setPort_lane s p _ l

@[simp] theorem State.answerWith_form (f : Fin 8) :
    (s.answerWith p a g r).form f = s.form f := State.setPort_form s p _ f

@[simp] theorem State.answerWith_job (w : Window) (k : SlotId) :
    (s.answerWith p a g r).job w k = s.job w k := State.setPort_job s p _ w k

@[simp] theorem State.answerWith_census : (s.answerWith p a g r).census = s.census :=
  State.setPort_census s p _

@[simp] theorem State.answerWith_packs : (s.answerWith p a g r).packs = s.packs :=
  State.setPort_packs s p _

@[simp] theorem State.answerWith_findPack (n : Nat) :
    (s.answerWith p a g r).findPack n = s.findPack n := by simp [State.findPack]

@[simp] theorem State.answerWith_faults : (s.answerWith p a g r).faults = s.faults :=
  State.setPort_faults s p _

@[simp] theorem State.answerWith_journal : (s.answerWith p a g r).journal = s.journal :=
  State.setPort_journal s p _

@[simp] theorem State.answerWith_journalInUse :
    (s.answerWith p a g r).journalInUse = s.journalInUse := State.setPort_journalInUse s p _

@[simp] theorem State.answerWith_journalReserved :
    (s.answerWith p a g r).journalReserved = s.journalReserved := State.setPort_journalReserved s p _

@[simp] theorem State.answerWith_discounts : (s.answerWith p a g r).discounts = s.discounts :=
  State.setPort_discounts s p _

@[simp] theorem State.answerWith_limits : (s.answerWith p a g r).limits = s.limits :=
  State.setPort_limits s p _

@[simp] theorem State.answerWith_clock : (s.answerWith p a g r).clock = s.clock :=
  State.setPort_clock s p _

variable {s t}

theorem State.queuesAfter_answerWith {posts : State → State} (h : s.queuesAfter t posts) :
    s.queuesAfter (t.answerWith p a g r) posts := fun q => by
  rw [State.answerWith_queue]
  exact h q

/-- A notice posted to the office stands in its queue as if nothing else had changed. -/
theorem State.queuesAfter_postOffice (queues : s.same t .queues) (k : NoticeKind)
    (o : NoticeObject) : s.queuesAfter (t.postOffice k o) fun x => x.postOffice k o := fun q => by
  cases q with
  | office => rw [State.postOffice_queue, State.postOffice_queue, queues]
  | window w => rw [State.postOffice_queue_window, State.postOffice_queue_window, queues]

theorem State.queuesAfter_postSession (queues : s.same t .queues) (w : Window) :
    s.queuesAfter (t.postSession w) fun x => x.postSession w := fun q => by
  simp only [State.postSession_queue, queues q]

end

/-! ## The census requests (06 R117, R118, R123, R126, R127) -/

section
variable (s : State) (p : Port) (tag : Byte)

/-- A census changed with CENSUS_CHANGE, as a request leaves it. -/
theorem State.moveCensus_answered (k : RequestKind) (reply : Reply) (c : Census) :
    s.answered ((s.moveCensus c).answerWith p k.byte tag reply) p k tag reply ∧
      ((s.moveCensus c).answerWith p k.byte tag reply).census = c ∧
      s.queuesAfter ((s.moveCensus c).answerWith p k.byte tag reply) State.postCensus ∧
      s.changesOnly ((s.moveCensus c).answerWith p k.byte tag reply)
        [.receivers, .queues, .census] := by
  obtain ⟨answered, moved⟩ := State.answered_moved (p := p) (k := k) (tag := tag)
    (all := [.receivers, .queues, .census]) (s.moveCensus_frame c) reply
  refine ⟨answered, ?_, ?_, moved⟩
  · rw [State.answerWith_census]
    exact State.post_census _ _ _
  · exact State.queuesAfter_answerWith p _ _ _
      (State.queuesAfter_postOffice (s.setCensus_frame c .queues (by decide)) _ _)

theorem blockCount_eq {first last : Nat} (h : first ≤ last) :
    blockCount first last = (last - first) / 64 + 1 := by
  simp only [blockCount, Config.censusBlock]
  omega

theorem Census.isBusy_iff (c : Census) :
    c.isBusy = true ↔ c.state ∈ [CensusState.running, .suspending, .suspended] := by
  cases h : c.state <;> simp [Census.isBusy, h]

theorem Pack.badRange_iff (k : Pack) (first last : Nat) : k.badRange first last = true ↔
    ¬(first ≤ last ∧ k.first ≤ first ∧ last < k.first + k.count) := by
  simp only [Pack.badRange, Pack.inRange, Bool.or_eq_true, decide_eq_true_eq, Bool.not_eq_true',
    Bool.and_eq_false_iff, decide_eq_false_iff_not]
  omega

/-- The code START_CENSUS is refused with, if any (06 R117). -/
def State.censusCode (s : State) (b : CensusBody) : Option ResultCode :=
  if b.mode = none ∨ b.search = some none then some .badArgument
  else if s.census.state ∈ [CensusState.running, .suspending, .suspended] then some .censusBusy
  else match s.findPack b.pack with
    | none => some .noPack
    | some k =>
      if b.first ≤ b.last ∧ k.first ≤ b.first ∧ b.last < k.first + k.count then none
      else some .badRange

theorem State.startCensus_of_censusCode {b : CensusBody} {code : ResultCode}
    (h : s.censusCode b = some code) : s.startCensus b = (s, refusal code) := by
  unfold State.censusCode at h
  unfold State.startCensus
  simp only [Census.isBusy_iff, Pack.badRange_iff]
  cases mode : b.mode with
  | none =>
    rw [if_pos (.inl mode)] at h
    cases h
    rfl
  | some m =>
    have named : (b.mode = none ∨ b.search = some none) ↔ b.search = some none := by simp [mode]
    simp only [named] at h
    dsimp only
    split_ifs at h ⊢ with bad busy
    · cases h
      rfl
    · cases h
      rfl
    · cases found : s.findPack b.pack with
      | none =>
        rw [found] at h
        cases h
        rfl
      | some k =>
        rw [found] at h
        dsimp only at h ⊢
        split_ifs at h ⊢ with fits
        · cases h
          rfl

theorem State.startCensus_taken {b : CensusBody} {m : CensusMode} {k : Pack} (mode : b.mode = some m)
    (search : b.search ≠ some none)
    (free : s.census.state ∉ [CensusState.running, .suspending, .suspended])
    (found : s.findPack b.pack = some k) (order : b.first ≤ b.last) (low : k.first ≤ b.first)
    (high : b.last < k.first + k.count) : s.startCensus b =
      (s.moveCensus (Census.started b m k.sequence),
        accepted (.censusStarted ((b.last - b.first) / 64 + 1) k.sequence)) := by
  unfold State.startCensus
  rw [mode]
  dsimp only
  rw [if_neg search, if_neg fun busy => free ((Census.isBusy_iff _).1 busy), found]
  dsimp only
  rw [if_neg fun bad => (Pack.badRange_iff k _ _).1 bad ⟨order, low, high⟩, blockCount_eq order]

end

/-- Settles O48: each request by the unit's state, its record left as the model's constructors say. -/
theorem censusRequests : Obligations.CensusRequests := by
  unfold Obligations.CensusRequests
  intro s p tag
  refine ⟨fun admits b => ⟨fun code refused => ?_, fun m k mode search free found order low high => ?_⟩,
    fun admits => ⟨fun running => ?_, fun other => ?_⟩,
    fun admits => ⟨fun k suspended found => ?_, fun other => ?_⟩,
    fun admits => ⟨fun idle => ?_, fun stopped => ?_, fun some_ more => ?_⟩⟩
  · have held : s.censusCode b = some code := refused
    exact exec_unmoved (exec_plain (.startCensus p tag (some b)) admits
      (congrArg some (s.startCensus_of_censusCode held)))
  · have run := exec_plain (.startCensus p tag (some b)) admits
      (congrArg some (s.startCensus_taken mode search free found order low high))
    exact ⟨_, run, s.moveCensus_answered p tag .startCensus _ _⟩
  · have run := exec_plain (.suspendCensus p tag (some ())) admits
      (congrArg some (show s.suspendCensus = _ from if_pos running))
    exact ⟨_, run, s.moveCensus_answered p tag .suspendCensus _ _⟩
  · exact exec_unmoved (exec_plain (.suspendCensus p tag (some ())) admits
      (congrArg some (show s.suspendCensus = _ from if_neg other)))
  · have taken : s.resumeCensus =
        (s.moveCensus { s.census with state := .running, startSequence := k.sequence },
          accepted (.censusResumed s.census.block s.census.position k.sequence)) := by
      have sequence : s.censusSequence.getD s.census.startSequence = k.sequence := by
        rw [State.censusSequence, found]
        rfl
      unfold State.resumeCensus
      rw [if_pos suspended, sequence]
    have run := exec_plain (.resumeCensus p tag (some ())) admits (congrArg some taken)
    exact ⟨_, run, s.moveCensus_answered p tag .resumeCensus _ _⟩
  · exact exec_unmoved (exec_plain (.resumeCensus p tag (some ())) admits
      (congrArg some (show s.resumeCensus = _ from if_neg other)))
  · have refused : s.stopCensus = (s, refusal .noCensus) := by
      unfold State.stopCensus
      rw [idle]
    exact exec_unmoved (exec_plain (.stopCensus p tag (some ())) admits (congrArg some refused))
  · have bare : s.stopCensus = (s, accepted .bare) := by
      unfold State.stopCensus
      rw [stopped]
    exact exec_unmoved (exec_plain (.stopCensus p tag (some ())) admits (congrArg some bare))
  · have taken : s.stopCensus = (s.moveCensus (s.census.stopped .office), accepted .bare) := by
      unfold State.stopCensus
      cases h : s.census.state with
      | idle => exact absurd h some_
      | stopped => exact absurd h more
      | _ => rfl
    have run := exec_plain (.stopCensus p tag (some ())) admits (congrArg some taken)
    exact ⟨_, run, s.moveCensus_answered p tag .stopCensus _ _⟩

end Sys2Proof.Machine
end

section
/-! SUPPORT. The census's entry step (06 R119 to R125), by its place in the block and in the range. -/

-- One proof at a time: the check's memory limit holds few threads.
set_option Elab.async false

namespace Sys2Proof.Machine

/-! ## A controller fault (10 R178) -/

/-- A controller fault raised stands ACTIVE. -/
theorem State.raiseController_active (s : State) (k : FaultKind) (c : FaultContext) :
    ∃ x ∈ (s.raiseController k c).activeOf .controller, x.kind = k := by
  unfold State.raiseController
  cases found : s.faults.find? fun r => r.isActive && r.source == .controller && r.kind == k with
  | some r =>
    have mem : r ∈ s.faults := List.mem_of_find?_eq_some found
    have fits : r.isActive = true ∧ r.source = .controller ∧ r.kind = k := by
      simpa [and_assoc] using List.find?_some found
    refine ⟨{ r with occurrences := held255 (r.occurrences + 1), lastOther := r.lastOther }, ?_,
      fits.2.2⟩
    refine List.mem_filter.2 ⟨?_, by simpa [Report.isActive] using fits.imp_right And.left⟩
    dsimp only
    rw [State.addOccurrence, (State.postReport_faults _ _).1]
    exact List.mem_map.2 ⟨r, mem, by rw [if_pos rfl]; rfl⟩
  | none =>
    refine ⟨⟨freeNumber (s.ageFaults.faults.map (·.number)) 65 s.ageFaults.faultCounter, .controller, k,
      s.stamp, none, .active, 1, none, none, c, 0, none⟩, ?_, rfl⟩
    refine List.mem_filter.2 ⟨?_, rfl⟩
    dsimp only
    rw [State.addReport, (State.postReport_faults _ _).1]
    exact List.mem_append_right _ (List.mem_singleton.2 rfl)

/-! ## The verdict kept (06 R122; 05 R111) -/

theorem State.findPack_updatePack (s : State) {n : Nat} {f : Pack → Pack}
    (number : ∀ p, (f p).number = p.number) (m : Nat) :
    (s.updatePack n f).findPack m = (s.findPack m).map fun p => if p.number = n then f p else p := by
  refine State.findPack_map (s := s) (f := fun p => if p.number = n then f p else p) ?_ ?_ m
  · rw [State.updatePack_packs]
  · intro p _
    split_ifs
    · exact number p
    · rfl

section
variable (s : State) (k : Pack) (v : Verdict)

/-- The packs after a verdict is kept. -/
theorem State.storeVerdict_packs : (s.storeVerdict k v).packs =
    if v = .none then s.packs
    else s.packs.map fun p => if p.number = k.number then { p with verdict := v } else p := by
  cases v with
  | none => rfl
  | matched => exact s.updatePack_packs k.number _
  | mismatch =>
    refine (State.raiseController_frame _ _ _ .packs (by decide)).trans ?_
    exact s.updatePack_packs k.number _

theorem State.storeVerdict_findPack (m : Nat) : (s.storeVerdict k v).findPack m =
    (s.findPack m).map fun p => if v ≠ .none ∧ p.number = k.number then { p with verdict := v } else p := by
  refine State.findPack_map
    (f := fun p => if v ≠ .none ∧ p.number = k.number then { p with verdict := v } else p) ?_ ?_ m
  · rw [State.storeVerdict_packs]
    by_cases none : v = .none
    · simp [none]
    · simp [none]
  · intro p _
    split_ifs <;> rfl

theorem State.storeVerdict_tells : v ≠ .none →
    ⟨.stockChange, .stock, none⟩ ∈ ((s.storeVerdict k v).port .office).queue := by
  intro some_
  have posted : ∀ f, ⟨.stockChange, .stock, none⟩ ∈ ((s.updatePack k.number f).port .office).queue := by
    intro f
    rw [State.updatePack, State.postStock, State.postOffice_queue]
    exact mem_coalesce_self _ _
  cases v with
  | none => exact absurd rfl some_
  | matched => exact posted _
  | mismatch =>
    exact ((s.updatePack k.number _).raiseController_grow _ _ .office).2 _ ⟨rfl, rfl⟩ (posted _)

theorem State.storeVerdict_faults : v ≠ .mismatch → (s.storeVerdict k v).faults = s.faults := by
  intro other
  cases v with
  | none => rfl
  | matched => exact (s.updatePack_frame k.number _ .faults (by decide)).1
  | mismatch => exact absurd rfl other

theorem State.storeVerdict_active : v = .mismatch →
    ∃ x ∈ (s.storeVerdict k v).activeOf .controller, x.kind = .stockTableMismatch := by
  rintro rfl
  exact State.raiseController_active _ _ _

end

theorem Census.verdict_eq (c : Census) (k : Pack) : c.verdict k =
    if c.first = k.first ∧ c.last + 1 = k.first + k.count ∧ c.changed k.sequence = false then
      if c.committed = k.counters then .matched else .mismatch
    else .none := by
  unfold Census.verdict Census.coversPack
  simp only [Bool.and_eq_true, beq_iff_eq, Bool.not_eq_true', and_assoc]

/-! ## The step's cases -/

section
variable {s : State} {k : Pack} {m : Mark}

theorem exec_censusEntryStep (h : s.phase = .running) :
    exec .censusEntryStep s = .next s.entryStep := congrArg _ (if_pos h)

theorem State.entryStep_idle (h : s.census.state ∉ [CensusState.running, .suspending]) :
    s.entryStep = s := if_neg (by simpa using h)

theorem State.entryStep_yields (found : s.findPack s.census.pack = some k)
    (yields : s.census.yields = true) :
    s.entryStep = s.moveCensus (s.census.abandonBlock.suspendedAt k.sequence) := by
  have state : s.census.state = .suspending := by
    simp only [Census.yields, Bool.and_eq_true, beq_iff_eq] at yields
    exact yields.1.1
  unfold State.entryStep
  rw [if_pos (.inr state), found]
  exact if_pos yields

theorem State.entryStep_reads (scans : s.census.state ∈ [CensusState.running, .suspending])
    (found : s.findPack s.census.pack = some k) (mark : k.markOf s.census.position = some m)
    (goes : ¬ s.census.yields = true) : s.entryStep =
      s.afterEntry k (s.census.readEntry m) (s.census.position == s.census.blockLast) := by
  unfold State.entryStep
  rw [if_pos (by simpa using scans), found]
  dsimp only
  rw [if_neg goes, mark]

theorem State.moveCensus_census (c : Census) : (s.moveCensus c).census = c := State.post_census _ _ _

theorem State.moveCensus_tells (c : Census) :
    s.queuesAfter (s.moveCensus c) State.postCensus ∧
      ⟨.censusChange, .census, none⟩ ∈ ((s.moveCensus c).port .office).queue := by
  refine ⟨State.queuesAfter_postOffice (s.setCensus_frame c .queues (by decide)) _ _, ?_⟩
  rw [State.moveCensus, State.postCensus, State.postOffice_queue]
  exact mem_coalesce_self _ _

end

/-- Settles O49: the step reads an entry unless it yields; at the block's end the block is committed,
and at the range's the census completed. -/
theorem censusEntryStepByItsPlace : Obligations.CensusEntryStepByItsPlace := by
  unfold Obligations.CensusEntryStepByItsPlace
  rintro s _ k m yields _ _ _ running rfl found mark rfl rfl rule rfl
  have run := exec_censusEntryStep running
  have yields_iff : s.census.yields = true ↔ yields := by
    rw [rule]
    simp [Census.yields, and_assoc]
  rw [← yields_iff]
  have read := fun scans => State.entryStep_reads (m := m) scans found mark
  refine ⟨fun idle => ?_, fun scans goes inside => ?_, fun runs end_ more => ?_,
    fun suspends goes end_ more => ?_, fun yields => ?_, fun scans goes end_ last => ?_⟩
  · rw [run, State.entryStep_idle idle]
  · refine ⟨_, run, ?_⟩
    have on : (s.census.position == s.census.blockLast) = false := beq_eq_false_iff_ne.2 inside
    rw [read scans goes, on]
    exact ⟨rfl, s.setCensus_frame _⟩
  · refine ⟨_, run, ?_⟩
    have on : (s.census.position == s.census.blockLast) = true := beq_iff_eq.2 end_
    have goes : ¬ s.census.yields = true := by simp [Census.yields, runs]
    rw [read (by simp [runs]) goes, on]
    have step : s.afterEntry k (s.census.readEntry m) true =
        { s with census := (s.census.readEntry m).commitBlock } := by
      refine (if_neg (by simp)).trans ((if_neg ?_).trans (if_neg ?_))
      · exact Nat.not_lt.2 more
      · exact fun h => by cases runs.symm.trans h
    rw [step]
    exact ⟨rfl, s.setCensus_frame _⟩
  · refine ⟨_, run, ?_⟩
    have on : (s.census.position == s.census.blockLast) = true := beq_iff_eq.2 end_
    rw [read (by simp [suspends]) goes, on]
    have step : s.afterEntry k (s.census.readEntry m) true =
        s.moveCensus ((s.census.readEntry m).commitBlock.suspendedAt k.sequence) := by
      refine (if_neg (by simp)).trans ((if_neg ?_).trans (if_pos suspends))
      exact Nat.not_lt.2 more
    rw [step, State.moveCensus_census]
    refine ⟨?_, (s.moveCensus_tells _).1, s.moveCensus_frame _⟩
    simp [Census.suspendedAt, Census.commitBlock, Census.readEntry, bne, beq_eq_decide]
  · refine ⟨_, _, run, rfl, ?_⟩
    rw [State.entryStep_yields found yields, State.moveCensus_census]
    refine ⟨?_, (State.moveCensus_tells _).1, s.moveCensus_frame _⟩
    have low : s.census.blockFirst = s.census.first + 64 * s.census.block := rfl
    unfold Census.abandonBlock
    rw [low]
    split_ifs <;> simp [Census.suspendedAt, bne, beq_eq_decide]
  · have on : (s.census.position == s.census.blockLast) = true := beq_iff_eq.2 end_
    have number : k.number = s.census.pack := (State.mem_of_findPack found).2
    have step : s.entryStep = s.completeCensus k (s.census.readEntry m).commitBlock := by
      rw [read scans goes, on]
      refine (if_neg (by simp)).trans (if_pos ?_)
      show s.census.last < s.census.position + 1
      omega
    rw [step] at run
    have packs : ∀ (u : State) (c : Census), (u.moveCensus c).packs = u.packs :=
      fun _ _ => State.post_packs _ _ _
    have faults : ∀ (u : State) (c : Census), (u.moveCensus c).faults = u.faults :=
      fun _ _ => State.post_faults _ _ _
    have active : ∀ (u : State) (c : Census), (u.moveCensus c).activeOf .controller =
        u.activeOf .controller := fun u c => by rw [State.activeOf, faults]; rfl
    have finds : ∀ (u : State) (c : Census) n, (u.moveCensus c).findPack n = u.findPack n :=
      fun u c n => by rw [State.findPack, packs]; rfl
    refine ⟨_, (s.census.readEntry m).commitBlock.resultFor k, run, ?_, ?_, rfl, rfl, rfl, rfl, rfl, rfl,
      rfl, rfl, rfl, ?_, ?_, fun none => ?_, fun some_ => ⟨?_, ?_⟩, fun other => ?_, fun mismatch => ?_,
      fun n other => ?_, (State.moveCensus_tells _).2, ?_⟩
    · exact congrArg Census.state (State.moveCensus_census _)
    · exact congrArg Census.result (State.moveCensus_census _)
    · simp [Census.resultFor, Census.changed, Census.commitBlock, Census.readEntry, bne, beq_eq_decide]
    · exact Census.verdict_eq _ k
    · exact (packs _ _).trans ((s.storeVerdict_packs k _).trans (if_pos none))
    · rw [State.completeCensus, finds, State.storeVerdict_findPack, found]
      exact congrArg some (if_pos ⟨some_, rfl⟩)
    · exact (State.moveCensus_grow _ _ .office).2 _ ⟨rfl, rfl⟩ (s.storeVerdict_tells k _ some_)
    · exact (faults _ _).trans (s.storeVerdict_faults k _ other)
    · rw [State.completeCensus, active]
      exact s.storeVerdict_active k _ mismatch
    · rw [State.completeCensus, finds, State.storeVerdict_findPack]
      cases here : s.findPack n with
      | none => rfl
      | some q =>
        have apart : q.number ≠ k.number := by rwa [(State.mem_of_findPack here).2, number]
        exact congrArg some (if_neg fun h => apart h.2)
    · exact State.changesOnly_mono (s.completeCensus_frame k _)

end Sys2Proof.Machine
end

section
/-! SUPPORT. Prices and discounts (07), sessions opened, collected and reopened (08, 09), and the clocks and
limits (11). -/

-- One proof at a time: the check's memory limit holds few threads.
set_option Elab.async false

namespace Sys2Proof

theorem DiscountTerms.inRange_iff (x : DiscountTerms) : x.inRange = true ↔
    x.step ∈ [1, 5, 10] ∧ x.floor ≤ 99999 ∧ x.classes ≠ [] ∧ ∀ c ∈ x.classes, c ≤ 3 := by
  simp only [DiscountTerms.inRange, Bool.and_eq_true, decide_eq_true_eq,
    List.all_eq_true, Bool.or_eq_true, Bool.not_eq_true', List.isEmpty_eq_false_iff, beq_iff_eq,
    List.mem_cons, List.not_mem_nil, or_false, and_assoc, or_assoc, ne_eq]
  exact Iff.rfl

namespace Machine

/-! ## The price of a job (07 R133, R134) -/

section
variable {e : DiscountEntry} {base quantity : Nat}

theorem reducedFare_le (rate : Nat) : reducedFare base rate ≤ base :=
  Nat.div_le_of_le_mul (by
    rw [Nat.mul_comm Config.wholeRate]
    exact Nat.mul_le_mul_left base (Nat.sub_le _ _))

theorem unitFare_bounds : min e.floor base ≤ unitFare e base ∧ unitFare e base ≤ base :=
  ⟨le_max_right _ _, max_le ((Nat.sub_le _ _).trans (reducedFare_le _)) (min_le_right _ _)⟩

end

/-! ## SET_DISCOUNT (07 R131) -/

section
variable (s : State) (p : Port) (tag : Byte)

theorem classSetOf_get (classes : List Nat) (c : Fin 4) :
    (classSetOf classes)[c] = decide (c.val ∈ classes) := by
  fin_cases c <;> simp [classSetOf]

/-- The code SET_DISCOUNT is refused with, if any, where the body has its layout. -/
def discountCode (b : DiscountBody) : Option ResultCode :=
  if 15 < b.code then some .badArgument
  else if b.code = 0 then some .fixedEntry
  else match b.state, b.terms with
    | none, _ => some .badArgument
    | some .active, some x =>
      if x.step ∉ [1, 5, 10] ∨ 99999 < x.floor ∨ x.classes = [] ∨ (∃ c ∈ x.classes, 3 < c)
      then some .badArgument else none
    | _, _ => none

theorem State.setDiscount_of_code {b : DiscountBody} {code : ResultCode}
    (h : discountCode b = some code) : s.setDiscount b = (s, refusal code) := by
  unfold discountCode at h
  unfold State.setDiscount
  split_ifs at h with out zero
  · rw [codeOf_eq_none out]
    cases h
    rfl
  · rw [zero, show codeOf 0 = some 0 from rfl]
    cases h
    rfl
  · have named : codeOf b.code = some ⟨b.code, by omega⟩ := dif_pos (by omega)
    have other : (⟨b.code, by omega⟩ : Fin 16) ≠ 0 := fun same => zero (congrArg Fin.val same)
    rw [named]
    dsimp only
    rw [if_neg other]
    rcases b with ⟨n, state, terms⟩
    rcases state with _ | state
    · cases h
      rfl
    · cases state with
      | unused => cases h
      | active =>
        cases terms with
        | none => cases h
        | some x =>
          dsimp only at h ⊢
          split_ifs at h with bad
          cases h
          refine if_neg fun good => ?_
          obtain ⟨step, floor, some_, each⟩ := x.inRange_iff.1 good
          rcases bad with bad | bad | bad | ⟨c, hc, bad⟩
          · exact bad step
          · omega
          · exact some_ bad
          · have := each c hc
            omega

variable {s} in
/-- An entry stored, as a request leaves it. -/
theorem State.storeDiscount_taken {b : DiscountBody} {code : Fin 16} {e : DiscountEntry}
    {clamped : Bool} (admits : s.admits p .setDiscount tag) (fits : b.fits = true)
    (block : s.setDiscount b = s.storeDiscount code e clamped) :
    ∃ t, exec (.setDiscount p tag (some b)) s = .next t ∧
      s.answered t p .setDiscount tag (accepted (.discount s.discounts[code] e clamped)) ∧
      t.discounts[code] = e ∧ (∀ i : Fin 16, i ≠ code → t.discounts[i] = s.discounts[i]) ∧
      s.changesOnly t [.receivers, .discounts] := by
  have run := exec_plain (.setDiscount p tag (some b)) admits (congrArg some block) (fits := fits)
  have frame := s.setDiscounts_frame (s.discounts.set code e)
  obtain ⟨answered, moved⟩ := State.answered_moved (p := p) (k := .setDiscount) (tag := tag)
    (all := [.receivers, .discounts]) frame (accepted (.discount s.discounts[code] e clamped))
  refine ⟨_, run, answered, ?_, fun i other => ?_, moved⟩
  · simp [State.storeDiscount]
  · simp only [State.answerWith_discounts, State.storeDiscount]
    exact Vector.getElem_set_ne _ _ fun same => other (Fin.ext same.symm)

theorem State.setDiscount_stored {code : Fin 16} (other : code ≠ 0) (state : DiscountState)
    (x : DiscountTerms) (good : state = .active → x.inRange = true) :
    s.setDiscount ⟨code.val, some state, some x⟩ = match state with
      | .unused => s.storeDiscount code .unused false
      | .active => s.storeDiscount code x.entry (Config.wholeRate < x.rate) := by
  unfold State.setDiscount
  rw [codeOf_val]
  dsimp only
  rw [if_neg other]
  cases state with
  | unused => rfl
  | active => exact if_pos (good rfl)

end

/-- Settles O50: the stages bound the unit fare by `unitFare_bounds`; SET_DISCOUNT by its code and by
the entry it stores. -/
theorem pricesAndDiscounts : Obligations.PricesAndDiscounts := by
  unfold Obligations.PricesAndDiscounts
  refine ⟨?_, fun s p tag admits => ⟨fun b code fits refused => ?_, fun code other =>
    ⟨fun x step floor some_ each => ?_, fun terms => ?_⟩⟩⟩
  · rintro e base quantity _ _ rate step rfl rfl
    obtain ⟨low, high⟩ := unitFare_bounds (e := e) (base := base)
    refine ⟨reducedFare_le e.rate, Nat.sub_le _ _, Nat.dvd_sub_mod _, rfl, rfl,
      Nat.mul_le_mul_right quantity low, Nat.mul_le_mul_right quantity high, fun most few => ?_⟩
    exact Nat.mul_le_mul (high.trans most) few
  · have held : discountCode b = some code := refused
    exact exec_unmoved (exec_plain (.setDiscount p tag (some b)) admits
      (congrArg some (s.setDiscount_of_code held)) (fits := fits))
  · obtain ⟨t, run, answered, stored, others, moved⟩ := State.storeDiscount_taken
      (b := ⟨code.val, some .active, some x⟩) p tag admits rfl
      (s.setDiscount_stored other .active x fun _ => x.inRange_iff.2 ⟨step, floor, some_, each⟩)
    exact ⟨t, x.entry, run, rfl, rfl, rfl, rfl, classSetOf_get x.classes, answered, stored, others,
      moved⟩
  · have block : s.setDiscount ⟨code.val, some .unused, terms⟩ = s.storeDiscount code .unused false := by
      unfold State.setDiscount
      rw [codeOf_val]
      dsimp only
      rw [if_neg other]
    obtain ⟨t, run, answered, stored, others, moved⟩ := State.storeDiscount_taken
      (b := ⟨code.val, some .unused, terms⟩) p tag admits rfl block
    exact ⟨t, .unused, run, rfl, answered, stored, others, moved⟩

/-! ## A window's request that abandons a declaration -/

section
variable (c : Instr) {s : State} {w : Window} {k : RequestKind} {tag : Byte} {r : State × Reply}

theorem exec_abandoning (admits : s.admits (.window w) k tag)
    (block : blockOf c (s.dropDeclaration w) = some r) (fits : bodyFits c = true := by rfl)
    (request : requestOf c = some (.window w, k, tag) := by rfl)
    (abandons : k.abandons = true := by rfl) (own : namesOtherWindow c = false := by rfl) :
    exec c s = .next (r.1.answerWith (.window w) k.byte tag r.2) :=
  exec_of_admits c request admits own fits (by simpa [State.reachBlock, abandons] using block)

/-- A request refused by its block with its declaration dropped. -/
theorem exec_refusedAt {c : Instr} {s : State} {w : Window} {k : RequestKind} {tag : Byte}
    {reply : Reply} (run : exec c s =
      .next ((s.dropDeclaration w).answerWith (.window w) k.byte tag reply)) :
    ∃ t, exec c s = .next t ∧ s.answered t (.window w) k tag reply ∧ s.refusedAt t (.window w) :=
  ⟨_, run, State.answered_answerWith _ _ _ (State.changesOnly_same (s.dropDeclaration_frame w)
    .receivers) _, s.refusedAt_dropDeclaration w _ _ _⟩

end

/-! ## Sessions (08 R142; 09 R170, R172) -/

section
variable (s : State) (p : Port) (tag : Byte) (w : Window)

theorem State.dropDeclaration_session_self :
    (s.dropDeclaration w).session w = { s.session w with inProgress := none } :=
  s.setSession_session_self w _

/-- A session written with SESSION_CHANGE, as a request leaves it. -/
theorem State.setSession_answered {s : State} {p : Port} {tag : Byte} {w : Window} (u t : State)
    (k : RequestKind) (reply : Reply) (x : Session) (parts : List Part) (frame : s.changesOnly u parts)
    (out : .receivers ∉ parts) (others : s.otherSessions u w)
    (ht : t = ((u.setSession w x).postSession w).answerWith p k.byte tag reply) :
    s.answered t p k tag reply ∧ t.session w = x ∧ s.otherSessions t w ∧
      (u.queuesAfter t fun y => y.postSession w) ∧
      s.changesOnly t (parts ++ [.sessions, .queues, .receivers]) := by
  subst ht
  have set := State.changesOnly_then (c := [.sessions, .queues]) (u.setSession_frame w x)
    (State.postSession_frame _ w)
  have whole : s.changesOnly ((u.setSession w x).postSession w) (parts ++ [.sessions, .queues]) :=
    State.changesOnly_then frame set (List.Subset.refl _)
  have free : Part.receivers ∉ parts ++ [.sessions, .queues] := by simp [out]
  refine ⟨State.answered_answerWith _ _ _ (whole .receivers free) _, ?_, fun v other => ?_, ?_,
    State.changesOnly_then whole (State.answerWith_frame _ _ _ _ _) (by simp)⟩
  · simp [State.postSession]
  · simp [State.postSession, State.setSession_session_ne u other, others v other]
  · exact State.queuesAfter_answerWith p _ _ _
      (State.queuesAfter_postSession (u.setSession_frame w x .queues (by decide)) w)

/-- Of a window's session, by number. -/
theorem windowOf_of_code {n : Nat} (inside : ¬(n < 1 ∨ 6 < n)) :
    windowOf n = some (Fin.ofNat 6 (n - 1)) := by
  have same : n - 1 < 6 := by omega
  rw [windowOf, dif_pos (by omega)]
  congr 1
  exact Fin.ext (Nat.mod_eq_of_lt same).symm

/-- The code a COLLECT_CASHUP or REOPEN_SESSION is refused with, if any. -/
def State.declaredCode (n : Nat) : Option ResultCode :=
  if n < 1 ∨ 6 < n then some .badArgument
  else if (s.session (Fin.ofNat 6 (n - 1))).state ≠ .declared then some .notDeclared
  else none

theorem State.collectCashup_of_code {n : Nat} {code : ResultCode} (h : s.declaredCode n = some code) :
    s.collectCashup n = (s, refusal code) := by
  unfold State.declaredCode at h
  unfold State.collectCashup
  split_ifs at h with out other
  · rw [windowOf_eq_none out]
    cases h
    rfl
  · rw [windowOf_of_code out]
    cases h
    exact if_pos other

theorem State.reopenSession_of_code {n : Nat} {code : ResultCode} (h : s.declaredCode n = some code) :
    s.reopenSession n = (s, refusal code) := by
  unfold State.declaredCode at h
  unfold State.reopenSession
  split_ifs at h with out other
  · rw [windowOf_eq_none out]
    cases h
    rfl
  · rw [windowOf_of_code out]
    cases h
    exact if_pos other

variable {w} in
theorem State.collectCashup_taken (declared : (s.session w).state = .declared) :
    s.collectCashup (w.val + 1) = (((s.freeEntries w).setSession w .none).postSession w,
      accepted (.collected (s.collected w))) := by
  unfold State.collectCashup
  rw [windowOf_val_add_one]
  exact if_neg (not_not.2 declared)

variable {w} in
theorem State.reopenSession_taken (declared : (s.session w).state = .declared) :
    s.reopenSession (w.val + 1) = ((s.setSession w (s.session w).reopened).postSession w,
      accepted (.reopened (s.session w).reopened.reopens)) := by
  unfold State.reopenSession
  rw [windowOf_val_add_one]
  exact if_neg (not_not.2 declared)

/-- A pack is named as often as entries name it, and only then (09 R170). -/
theorem State.mem_perPack (n m : Nat) : (n, m) ∈ s.perPack w ↔
    0 < m ∧ m = ((s.entriesOf w).filter fun e => e.data.pack == n).length := by
  simp only [State.perPack, List.mem_map, List.mem_dedup, Prod.mk.injEq, State.entriesNaming]
  constructor
  · rintro ⟨_, ⟨e, he, rfl⟩, rfl, rfl⟩
    exact ⟨List.length_pos_of_mem (List.mem_filter.2 ⟨he, by simp⟩), rfl⟩
  · rintro ⟨some_, rfl⟩
    obtain ⟨e, he⟩ := List.exists_mem_of_length_pos some_
    obtain ⟨mem, same⟩ := List.mem_filter.1 he
    exact ⟨n, ⟨e, mem, by simpa using same⟩, rfl, rfl⟩

theorem State.freeEntries_reserved : (s.freeEntries w).journalReserved = s.journalReserved := by
  unfold State.freeEntries
  dsimp only
  split
  · exact State.post_journalReserved _ _ _
  · rfl

theorem State.freeEntries_findPack (n : Nat) : (s.freeEntries w).findPack n =
    (s.findPack n).map fun k => { k with references := k.references - s.entriesNaming w n } := by
  have mapped := State.findPack_map (s := s) (t := s.freeEntries w)
    (f := fun k => { k with references := k.references - s.entriesNaming w k.number })
    (s.freeEntries_packs w) (fun _ _ => rfl) n
  rw [mapped]
  cases found : s.findPack n with
  | none => rfl
  | some k => rw [Option.map_some, Option.map_some, (State.mem_of_findPack found).2]

theorem State.anyNamed_iff : (s.packs.any fun k => 0 < s.entriesNaming w k.number) = true ↔
    ∃ k ∈ s.packs, ∃ e ∈ s.entriesOf w, e.data.pack = k.number := by
  simp only [List.any_eq_true, decide_eq_true_eq, State.entriesNaming, List.length_pos_iff_exists_mem,
    List.mem_filter, beq_iff_eq]

theorem State.freeEntries_queuesAfter : s.queuesAfter (s.freeEntries w) fun x =>
    if ∃ k ∈ s.packs, ∃ e ∈ s.entriesOf w, e.data.pack = k.number then x.postStock else x := by
  intro q
  unfold State.freeEntries
  by_cases named : ∃ k ∈ s.packs, ∃ e ∈ s.entriesOf w, e.data.pack = k.number
  · dsimp only
    rw [if_pos ((s.anyNamed_iff w).2 named), if_pos named]
    cases q with
    | office => rw [State.postStock, State.postStock, State.postOffice_queue, State.postOffice_queue]; rfl
    | window v => rw [State.postStock, State.postStock, State.postOffice_queue_window, State.postOffice_queue_window]; rfl
  · dsimp only
    rw [if_neg fun h => named ((s.anyNamed_iff w).1 h), if_neg named]
    cases q <;> rfl

end

/-- SESSION_CHANGE posted after what `f` posts. -/
theorem State.queuesAfter_thenSession {s u t : State} {w : Window} {f : State → State}
    (first : s.queuesAfter u f) (last : u.queuesAfter t fun x => x.postSession w) :
    s.queuesAfter t fun x => (f x).postSession w := fun q => by
  rw [last q, State.postSession_queue, State.postSession_queue, first q]

/-- The code an OPEN_SESSION is refused with, if any. -/
def State.openCode (s : State) (w : Window) (b : OpenBody) : Option ResultCode :=
  if (s.session w).state ≠ .none then some .sessionExists
  else if b.clerk = 0 ∨ 1000000 < b.float then some .badArgument else none

theorem State.openSession_of_code {s : State} {w : Window} {b : OpenBody} {code : ResultCode}
    (h : s.openCode w b = some code) :
    (s.dropDeclaration w).openSession w b = (s.dropDeclaration w, refusal code) := by
  unfold State.openSession
  rw [s.dropDeclaration_session_self w]
  unfold State.openCode at h
  split_ifs at h with exists_ bad
  · cases h
    exact if_pos exists_
  · cases h
    rw [if_neg exists_]
    exact if_pos bad

theorem State.openSession_taken {s : State} {w : Window} {b : OpenBody}
    (none_ : (s.session w).state = .none) (clerk : b.clerk ≠ 0) (float : b.float ≤ 1000000) :
    (s.dropDeclaration w).openSession w b =
      (((s.dropDeclaration w).setSession w
        (Session.openedWith b (s.dropDeclaration w).clockStamp)).postSession w,
        accepted (.opened (s.dropDeclaration w).clockStamp)) := by
  unfold State.openSession
  rw [s.dropDeclaration_session_self w, if_neg (not_not.2 none_)]
  exact if_neg fun bad => bad.elim clerk (Nat.not_lt.2 float)

/-- Settles O51: each of the three writes one session; a collection frees its entries first. -/
theorem sessionsOpenCollectAndReopen : Obligations.SessionsOpenCollectAndReopen := by
  unfold Obligations.SessionsOpenCollectAndReopen
  intro s p tag w
  refine ⟨?_, fun admits => ⟨fun n code refused => ?_, fun declared => ?_⟩,
    fun admits => ⟨fun n code refused => ?_, fun declared => ?_⟩⟩
  · rintro rfl admits b
    have drop := s.dropDeclaration_frame w
    refine ⟨fun code refused => ?_, fun none_ clerk float => ?_⟩
    · have held : s.openCode w b = some code := refused
      exact exec_refusedAt (exec_abandoning (.openSession (.window w) tag (some b)) admits
        (congrArg some (State.openSession_of_code held)))
    · have run := exec_abandoning (.openSession (.window w) tag (some b)) admits
        (congrArg some (State.openSession_taken none_ clerk float))
      have stamp : (s.dropDeclaration w).clockStamp = ⟨s.clock.day, s.clock.second⟩ := rfl
      rw [stamp] at run
      have others : s.otherSessions (s.dropDeclaration w) w := fun v other =>
        s.setSession_session_ne other _
      obtain ⟨answered, self, rest, told, moved⟩ := State.setSession_answered (p := .window w)
        (tag := tag) (s.dropDeclaration w) _ .openSession _ _ [.sessions] drop (by decide) others rfl
      exact ⟨_, run, answered, self, rest,
        State.queuesAfter_thenSession (f := id) (drop .queues (by decide)) told,
        State.changesOnly_mono moved⟩
  · have held : s.declaredCode n = some code := refused
    exact exec_unmoved (exec_plain (.collectCashup p tag (some n)) admits
      (congrArg some (s.collectCashup_of_code held)))
  · have run := exec_plain (.collectCashup p tag (some (w.val + 1))) admits
      (congrArg some (s.collectCashup_taken declared))
    obtain ⟨answered, self, rest, told, moved⟩ := State.setSession_answered (p := p) (tag := tag)
      (s.freeEntries w) _ .collectCashup (accepted (.collected (s.collected w))) .none
      [.journal, .packs, .queues] (s.freeEntries_frame w) (by decide)
      (fun v _ => congrArg (fun x => x[v]) (s.freeEntries_frame w .sessions (by decide))) rfl
    obtain ⟨journal, inUse⟩ := s.freeEntries_journal w
    refine ⟨_, s.collected w, run, answered, rfl, rfl, rfl, rfl, rfl, s.mem_perPack w, self, rest,
      ?_, ?_, ?_, fun n => ?_,
      State.queuesAfter_thenSession (s.freeEntries_queuesAfter w) told, State.changesOnly_mono moved⟩
    · simpa [State.postSession] using journal
    · simpa [State.postSession] using inUse
    · simpa [State.postSession] using s.freeEntries_reserved w
    · simpa [State.postSession, State.findPack, State.entriesNaming] using s.freeEntries_findPack w n
  · have held : s.declaredCode n = some code := refused
    exact exec_unmoved (exec_plain (.reopenSession p tag (some n)) admits
      (congrArg some (s.reopenSession_of_code held)))
  · have run := exec_plain (.reopenSession p tag (some (w.val + 1))) admits
      (congrArg some (s.reopenSession_taken declared))
    obtain ⟨answered, self, rest, told, moved⟩ := State.setSession_answered (p := p) (tag := tag)
      s _ .reopenSession (accepted (.reopened (s.session w).reopened.reopens)) _ []
      (s.changesOnly_refl _) (by decide) (fun _ _ => rfl) rfl
    exact ⟨_, (s.session w).reopened.reopens, run, rfl, answered, self, rest, told,
      State.changesOnly_mono moved⟩

/-! ## The clocks (11 R190 to R192) -/

theorem Part.not_mem_of_contains {a : List Part} {x : Part} (h : a.contains x = false) : x ∉ a :=
  fun mem => Bool.false_ne_true (h.symm.trans (List.contains_iff_mem.2 mem))

/-- The parts a command reaches hold the run time only at its tick. -/
theorem runTime_untouched {c : Instr} (power : isPower c = false) (other : c ≠ .runTimeTick) :
    Part.runTime ∉ touches c := by
  cases c with
  | powerOn => cases power
  | supplyLoss => cases power
  | runTimeTick => exact absurd rfl other
  | _ => exact Part.not_mem_of_contains rfl

/-- The parts a command reaches hold the office clock only at its tick and at SET_CLOCK. -/
theorem clock_untouched {c : Instr} (power : isPower c = false) (tick : c ≠ .officeClockTick)
    (set : ∀ p g b, c ≠ .setClock p g b) : Part.clock ∉ touches c := by
  cases c with
  | powerOn => cases power
  | supplyLoss => cases power
  | officeClockTick => exact absurd rfl tick
  | setClock p g b => exact absurd rfl (set p g b)
  | _ => exact Part.not_mem_of_contains rfl

theorem OfficeClock.advance_eq (c : OfficeClock) : c.advance =
    if c.second < 86399 then ⟨c.day, c.second + 1, c.isSet⟩ else ⟨c.day + 1, 0, c.isSet⟩ := by
  unfold OfficeClock.advance
  split_ifs
  · omega
  · rfl
  · rfl
  · omega

/-! ## SET_LIMITS (11 R197) -/

/-- A list of named values applied one by one, no name twice: the named place holds its own value, and
a place not named stands. -/
theorem foldl_named {β κ α γ : Type} (f : β → κ × α → β) (get : β → γ) (g : α → γ) (k : κ)
    (same : ∀ b n, get (f b (k, n)) = g n) (other : ∀ b x, x.1 ≠ k → get (f b x) = get b)
    (a : List (κ × α)) (nodup : (a.map Prod.fst).Nodup) (b : β) :
    (∀ n, (k, n) ∈ a → get (a.foldl f b) = g n) ∧
      ((∀ x ∈ a, x.1 ≠ k) → get (a.foldl f b) = get b) := by
  have stands : ∀ (a : List (κ × α)) (b : β), (∀ x ∈ a, x.1 ≠ k) → get (a.foldl f b) = get b := by
    intro a
    induction a with
    | nil => exact fun b _ => rfl
    | cons x a ih =>
      intro b none_
      rw [List.foldl_cons, ih _ fun y hy => none_ y (List.mem_cons_of_mem _ hy),
        other b x (none_ x List.mem_cons_self)]
  refine ⟨?_, stands a b⟩
  induction a generalizing b with
  | nil => exact fun n hn => (nomatch hn)
  | cons x a ih =>
    intro n hn
    rw [List.map_cons, List.nodup_cons] at nodup
    rw [List.foldl_cons]
    rcases List.mem_cons.1 hn with rfl | later
    · rw [stands a _ fun y hy named => nodup.1 (List.mem_map.2 ⟨y, hy, named⟩), same]
    · exact ih nodup.2 _ n later

theorem clampWait_eq (n : Nat) : clampWait n =
    if n = 0 then 0 else if n < 5 then 5 else if 600 < n then 600 else n := by
  unfold clampWait
  split_ifs <;> omega

theorem clampWait_ne_iff (n : Nat) : clampWait n ≠ n ↔ n ≠ 0 ∧ (n < 5 ∨ 600 < n) := by
  rw [clampWait_eq]
  split_ifs <;> omega

section
variable (l : Limits) (b : LimitsBody)

theorem windowOf_eq_none_iff {n : Nat} : windowOf n = none ↔ n < 1 ∨ 6 < n := by
  unfold windowOf
  split_ifs <;> simp <;> omega

/-- A window found has the number asked for. -/
theorem windowOf_number {n : Nat} {w : Window} (found : windowOf n = some w) : n = w.val + 1 := by
  unfold windowOf at found
  split_ifs at found
  have same : n - 1 = w.val := congrArg Fin.val (Option.some.inj found)
  omega

theorem setWait_named (v : Vector Nat 6) (w : Window) (n : Nat) :
    (setWait v (w.val + 1, n))[w] = clampWait n := by
  unfold setWait
  rw [windowOf_val_add_one]
  exact Vector.getElem_set_self _

theorem setWait_other (v : Vector Nat 6) (w : Window) (x : Nat × Nat) (other : x.1 ≠ w.val + 1) :
    (setWait v x)[w] = v[w] := by
  unfold setWait
  split
  · next u named =>
    refine Vector.getElem_set_ne _ _ fun same => other ?_
    have number := windowOf_number named
    omega
  · rfl

theorem setTolerance_named (v : PerTender Nat) (t : Tender) (n : Nat) :
    (setTolerance v (some t, n)).get t = clampTolerance n := by
  cases t <;> rfl

theorem setTolerance_other (v : PerTender Nat) (t : Tender) (x : Named Tender × Nat)
    (other : x.1 ≠ some t) : (setTolerance v x).get t = v.get t := by
  obtain ⟨_ | u, n⟩ := x
  · rfl
  · cases u <;> cases t <;> first | rfl | exact absurd rfl other

theorem badWindows_iff (waits : List (Nat × Nat)) : badWindows waits = true ↔
    (∃ x ∈ waits, x.1 < 1 ∨ 6 < x.1) ∨ ¬(waits.map Prod.fst).Nodup := by
  simp only [badWindows, Bool.or_eq_true, List.any_eq_true, Bool.not_eq_true', decide_eq_false_iff_not,
    Option.isNone_iff_eq_none, windowOf_eq_none_iff]

theorem badTenders_iff (tolerances : List (Named Tender × Nat)) : badTenders tolerances = true ↔
    (∃ x ∈ tolerances, x.1 = none) ∨ ¬(tolerances.map Prod.fst).Nodup := by
  simp only [badTenders, Bool.or_eq_true, List.any_eq_true, Bool.not_eq_true',
    decide_eq_false_iff_not, Option.isNone_iff_eq_none]

theorem limitsRefused_iff : b.refused = true ↔
    ((∃ x ∈ b.waits.getD [], x.1 < 1 ∨ 6 < x.1) ∨ ¬((b.waits.getD []).map Prod.fst).Nodup) ∨
    ((∃ x ∈ b.tolerances.getD [], x.1 = none) ∨ ¬((b.tolerances.getD []).map Prod.fst).Nodup) ∨
    ∃ m, b.currencyMark = some m ∧ m.toNat < 0x20 := by
  rw [LimitsBody.refused, Bool.or_eq_true, Bool.or_eq_true, badWindows_iff, badTenders_iff, or_assoc]
  refine or_congr_right (or_congr_right ?_)
  cases b.currencyMark <;> simp

theorem limitsClamped_iff : b.clamped = true ↔
    (∃ x ∈ b.waits.getD [], x.2 ≠ 0 ∧ (x.2 < 5 ∨ 600 < x.2)) ∨
    (∃ n, b.voidWindow = some n ∧ 900 < n) ∨ (∃ n, b.stockLow = some n ∧ 255 < n) ∨
    ∃ x ∈ b.tolerances.getD [], 10000 < x.2 := by
  have low : ∀ n k : Nat, min n k ≠ n ↔ k < n := fun n k => by omega
  simp only [LimitsBody.clamped, Bool.or_eq_true, List.any_eq_true, bne_iff_ne, clampWait_ne_iff,
    clampVoidWindow, clampStockLow, clampTolerance, low, or_assoc]
  refine or_congr_right (or_congr ?_ (or_congr_left ?_))
  · cases b.voidWindow <;> simp
  · cases b.stockLow <;> simp

end

theorem State.setLimits_limits (s : State) {b : LimitsBody} (passes : ¬b.refused = true) :
    (s.setLimits b).1.limits = s.limits.with b := by
  unfold State.setLimits
  rw [if_neg passes]
  dsimp only
  split
  · rfl
  · exact State.post_limits _ _ _

/-- Settles O56: a tick counts one; SET_CLOCK sets the clock and SET_LIMITS stores each part given
after clamping. -/
theorem clocksAndLimits : Obligations.ClocksAndLimits := by
  unfold Obligations.ClocksAndLimits
  intro s
  refine ⟨fun running => ?_, fun still => ?_, fun c t power run => ?_, fun p tag => ⟨fun admits =>
    ⟨?_, fun day second => ⟨fun late => ?_, fun inside => ?_⟩⟩, ?_⟩⟩
  · have clock : exec .officeClockTick s = .next { s with clock := s.clock.advance } :=
      congrArg Host.Outcome.next (if_pos running)
    have runTime : exec .runTimeTick s = .next { s with runTime := s.runTime + 1 } :=
      congrArg Host.Outcome.next (if_pos running)
    exact ⟨_, _, clock, runTime, s.clock.advance_eq, s.withClock_frame _, rfl, s.setRunTime_frame _⟩
  · exact ⟨congrArg Host.Outcome.next (if_neg still), congrArg Host.Outcome.next (if_neg still)⟩
  · exact ⟨fun other => exec_same run .runTime (runTime_untouched power other),
      fun tick set => exec_same run .clock (clock_untouched power tick set)⟩
  · exact exec_unmoved (exec_plain (.setClock p tag (some none)) admits rfl)
  · exact exec_unmoved (exec_plain (.setClock p tag (some (some ⟨day, second⟩))) admits
      (congrArg some (if_pos late)))
  · have run := exec_plain (.setClock p tag (some (some ⟨day, second⟩))) admits
      (congrArg some (if_neg (Nat.not_lt.2 inside)))
    obtain ⟨answered, moved⟩ := State.answered_moved (p := p) (k := .setClock) (tag := tag)
      (all := [.receivers, .clock]) (s.withClock_frame ⟨day, second, true⟩)
      (accepted (.clock ⟨s.clock.day, s.clock.second⟩ ⟨day, second⟩ true s.runTime s.storeValid))
    exact ⟨_, run, answered, State.answerWith_clock _ _ _ _ _, moved⟩
  · rintro admits b waits tolerances rfl rfl
    refine ⟨fun bad => ?_, fun windows once tenders onceEach mark => ?_⟩
    · have refused : b.refused = true := (limitsRefused_iff b).2 (by simpa only [or_assoc] using bad)
      exact exec_unmoved (exec_plain (.setLimits p tag (some b)) admits
        (congrArg some (if_pos refused)))
    · have passes : ¬b.refused = true := fun bad => by
        rcases (limitsRefused_iff b).1 bad with (⟨x, hx, out⟩ | twice) | (⟨x, hx, out⟩ | twice) | ⟨m, hm, out⟩
        · have := windows x hx
          omega
        · exact twice once
        · exact tenders x hx out
        · exact twice onceEach
        · exact Nat.not_lt.2 (mark m hm) out
      have run := exec_plain (.setLimits p tag (some b)) admits (congrArg some (if_neg passes))
      have waitOf := fun w : Window => foldl_named setWait (fun v => v[w]) clampWait (w.val + 1)
        (fun v n => setWait_named v w n) (fun v x other => setWait_other v w x other)
        (b.waits.getD []) once s.limits.waits
      have toleranceOf := fun tn : Tender => foldl_named setTolerance (fun v => v.get tn)
        clampTolerance (some tn) (fun v n => setTolerance_named v tn n)
        (fun v x other => setTolerance_other v tn x other)
        (b.tolerances.getD []) onceEach s.limits.tolerances
      have frame := s.setLimits_frame b
      have whole : s.setLimits b = _ := if_neg passes
      rw [whole] at frame
      obtain ⟨answered, moved⟩ := State.answered_moved (p := p) (k := .setLimits) (tag := tag)
        (all := [.receivers, .queues, .limits]) frame
        (accepted (.limits (s.limits.with b) b.clamped))
      have limits := s.setLimits_limits passes
      rw [whole] at limits
      refine ⟨_, b.clamped, run, ?_⟩
      rw [State.answerWith_limits, limits]
      refine ⟨answered, fun w => ⟨fun n hn => ?_, (waitOf w).2⟩, rfl, rfl, toleranceOf, rfl,
        limitsClamped_iff b, ?_, moved⟩
      · rw [← clampWait_eq]
        exact (waitOf w).1 n hn
      · refine State.queuesAfter_answerWith p _ _ _ fun q => ?_
        by_cases stands : s.limits.with b = s.limits
        · dsimp only
          rw [if_pos stands, if_pos stands]
          exact (s.withLimits_frame _ .queues (by decide)) q
        · dsimp only
          rw [if_neg stands, if_neg stands]
          exact State.queuesAfter_postOffice (s.withLimits_frame _ .queues (by decide)) _ _ q

end Machine
end Sys2Proof
end

section
/-! SUPPORT. The Job Table's shared operations (02 R28, R29; 03 R52, R54; 08 R149), each by what it leaves
in a slot, a form, a session and a lane. -/

-- One proof at a time: the check's memory limit holds few threads.
set_option Elab.async false

namespace Sys2Proof.Machine

/-! ## What a frame leaves of a record -/

section
variable {s t : State} {a : List Part}

theorem State.changesOnly.session (h : s.changesOnly t a) (w : Window)
    (out : .sessions ∉ a := by decide) : t.session w = s.session w :=
  congrArg (fun x => x[w]) (h .sessions out)

theorem State.changesOnly.form (h : s.changesOnly t a) (f : Fin 8)
    (out : .forms ∉ a := by decide) : t.form f = s.form f :=
  congrArg (fun x => x[f]) (h .forms out)

theorem State.changesOnly.slot (h : s.changesOnly t a) (w : Window) (k : SlotId)
    (out : .slots ∉ a := by decide) : t.slot w k = s.slot w k :=
  congrArg (fun x : Vector (Vector Slot 8) 6 => x[w][k]) (h .slots out)

theorem State.changesOnly.job (h : s.changesOnly t a) (w : Window) (k : SlotId)
    (out : .slots ∉ a := by decide) : t.job w k = s.job w k :=
  congrArg Slot.job (h.slot w k out)

theorem State.changesOnly.lane (h : s.changesOnly t a) (l : LaneId)
    (out : .lanes ∉ a := by decide) : t.lane l = s.lane l :=
  congrArg (fun x => x[l]) (h .lanes out)

theorem State.changesOnly.findPack (h : s.changesOnly t a) (n : Nat)
    (out : .packs ∉ a := by decide) : t.findPack n = s.findPack n :=
  congrArg (List.find? fun p : Pack => p.number == n) (h .packs out)

theorem State.changesOnly.journalReserved (h : s.changesOnly t a)
    (out : .journal ∉ a := by decide) : t.journalReserved = s.journalReserved := (h .journal out).2.2

end

/-! ## Eligibility (03 R52) -/

section
variable {s t : State} {j : Job} {l : LaneId}

/-- Eligibility reads a form's generation and current definition, and the pack under a lane. -/
theorem State.eligible_congr (generation : ∀ f, (t.form f).generation = (s.form f).generation)
    (current : ∀ f, (t.form f).current = (s.form f).current)
    (packs : t.packs = s.packs) (under : ∀ l, (t.lane l).pack = (s.lane l).pack) :
    t.eligible j l = s.eligible j l := by
  have found : t.findPack = s.findPack := by
    funext n
    rw [State.findPack, State.findPack, packs]
  unfold State.eligible
  rw [generation, current, under, found]

theorem State.eligibleSomewhere_congr (generation : ∀ f, (t.form f).generation = (s.form f).generation)
    (current : ∀ f, (t.form f).current = (s.form f).current)
    (packs : t.packs = s.packs) (under : ∀ l, (t.lane l).pack = (s.lane l).pack) :
    t.eligibleSomewhere j = s.eligibleSomewhere j :=
  congrArg (fun f => allLanes.any f)
    (funext fun _ => State.eligible_congr generation current packs under)

/-- What changes no form, pack or lane changes no job's eligibility. -/
theorem State.changesOnly.eligibleSomewhere {a : List Part} (h : s.changesOnly t a)
    (forms : .forms ∉ a := by decide) (packs : .packs ∉ a := by decide)
    (lanes : .lanes ∉ a := by decide) : t.eligibleSomewhere j = s.eligibleSomewhere j :=
  State.eligibleSomewhere_congr (fun f => congrArg FormRecord.generation (h.form f forms))
    (fun f => congrArg FormRecord.current (h.form f forms)) (h .packs packs)
    (fun l => congrArg Lane.pack (h.lane l lanes))

theorem State.eligibleSomewhere_iff : s.eligibleSomewhere j = true ↔ ∃ l, s.eligible j l = true := by
  simp [State.eligibleSomewhere, mem_allLanes]

theorem State.not_eligibleSomewhere_of_not_queued (h : j.state ≠ .queued) :
    s.eligibleSomewhere j = false := by
  rw [← Bool.not_eq_true, State.eligibleSomewhere_iff]
  rintro ⟨l, eligible⟩
  rw [State.not_eligible_of_not_queued h l] at eligible
  cases eligible

end

/-! ## The report of an eligible job (03 R54) -/

section
variable (s : State) (w : Window) (k : SlotId)

/-- Reporting where told, and only there. -/
theorem State.lanesTold_ite (told : Bool) :
    s.lanesTold (if told then s.reportEligible else s) told := fun l => by
  cases told
  · rfl
  · exact s.reportEligible_lane l

theorem State.reportJob_of_job {j : Job} (h : s.job w k = some j) :
    s.reportJob w k = if s.eligibleSomewhere j then s.reportEligible else s := by
  unfold State.reportJob
  rw [h]

theorem State.reportJob_told {j : Job} (h : s.job w k = some j) :
    s.lanesTold (s.reportJob w k) (s.eligibleSomewhere j) := by
  rw [s.reportJob_of_job w k h]
  exact s.lanesTold_ite _

/-- What a report reaches in a lane: nothing, or a claim request sent. -/
theorem State.lanesTold.cases {s t : State} {told : Bool} (h : s.lanesTold t told) (l : LaneId) :
    t.lane l = s.lane l ∨ t.lane l = (s.lane l).claiming s.powerFail := by
  rw [h l]
  cases told
  · exact .inl rfl
  · exact .inr rfl

/-- Told before or after operations that leave the lanes and the warning. -/
theorem State.lanesTold.before {s u t : State} {told : Bool} {a : List Part} (h : s.changesOnly u a)
    (after : u.lanesTold t told) (lanes : .lanes ∉ a := by decide)
    (warning : .powerFail ∉ a := by decide) : s.lanesTold t told := fun l => by
  rw [after l, h.lane l lanes, h .powerFail warning]

theorem State.lanesTold.after {s u t : State} {told : Bool} {a : List Part} (h : s.lanesTold u told)
    (rest : u.changesOnly t a) (lanes : .lanes ∉ a := by decide) : s.lanesTold t told := fun l => by
  rw [rest.lane l lanes, h l]

end

/-! ## A form's count lowered (02 R28, R29) -/

theorem nextGeneration_ne (g : Nat) : nextGeneration g ≠ g := by
  unfold nextGeneration
  split_ifs <;> omega

section
variable (s : State) (f : Fin 8)

@[simp] theorem State.setForm_setForm (x y : FormRecord) : (s.setForm f x).setForm f y = s.setForm f y := by
  simp [State.setForm]

@[simp] theorem State.setForm_same : s.setForm f (s.form f) = s := by
  simp [State.setForm, State.form]

theorem State.applyPending_of_not_due {x : FormRecord} (h : s.form f = x) (due : x.applyDue = false) :
    s.applyPending f = s := by
  unfold State.applyPending
  rw [h, due]
  rfl

/-- The count of the current generation falls, and no pending definition is due. -/
theorem State.unbind_current (h : 1 < (s.form f).useCount ∨ (s.form f).pending = none) :
    s.unbind f (some (s.form f).generation) =
      s.setForm f { s.form f with useCount := (s.form f).useCount - 1 } := by
  have lowered : (s.form f).lowered (s.form f).generation =
      { s.form f with useCount := (s.form f).useCount - 1 } := if_pos rfl
  have due : ({ s.form f with useCount := (s.form f).useCount - 1 } : FormRecord).applyDue = false := by
    rcases h with more | none_
    · have left : (s.form f).useCount - 1 ≠ 0 := by omega
      simp [FormRecord.applyDue, left]
    · simp [FormRecord.applyDue, none_]
  unfold State.unbind
  dsimp only
  rw [if_pos rfl, lowered]
  exact State.applyPending_of_not_due _ f (State.setForm_form_self s f _) due

/-- The count of the coming generation falls. -/
theorem State.unbind_coming : s.unbind f (some (nextGeneration (s.form f).generation)) =
    s.setForm f { s.form f with waitingCount := (s.form f).waitingCount - 1 } := by
  have other := nextGeneration_ne (s.form f).generation
  have lowered : (s.form f).lowered (nextGeneration (s.form f).generation) =
      { s.form f with waitingCount := (s.form f).waitingCount - 1 } :=
    (if_neg other).trans (if_pos rfl)
  unfold State.unbind
  dsimp only
  rw [if_neg other, lowered]

/-- A job that has lost its binding lowers no count. -/
theorem State.unbind_unbound {g : Option Nat} (current : g ≠ some (s.form f).generation)
    (coming : g ≠ some (nextGeneration (s.form f).generation)) : s.unbind f g = s := by
  cases g with
  | none => rfl
  | some g =>
    have notCurrent : g ≠ (s.form f).generation := fun e => current (congrArg some e)
    have lowered : (s.form f).lowered g = s.form f :=
      (if_neg notCurrent).trans (if_neg fun e => coming (congrArg some e))
    unfold State.unbind
    dsimp only
    rw [if_neg notCurrent, lowered, State.setForm_same]

/-- The form's pending definition become current, with its FORMS_CHANGE. -/
def State.formApplied (d : FormDef) : State :=
  (s.setForm f ⟨some d, none, nextGeneration (s.form f).generation, (s.form f).waitingCount, 0⟩).postForms

/-- The last use falls with a pending definition: it becomes current, and the lanes are told where one
of the form's jobs is eligible. -/
theorem State.unbind_applied {d : FormDef} (last : (s.form f).useCount = 1)
    (pending : (s.form f).pending = some d) :
    ∃ told : Bool, (told = true ↔ ∃ v i x, (s.formApplied f d).job v i = some x ∧ x.form = f ∧
        (s.formApplied f d).eligibleSomewhere x = true) ∧
      s.unbind f (some (s.form f).generation) =
        if told then (s.formApplied f d).reportEligible else s.formApplied f d := by
  have lowered : (s.form f).lowered (s.form f).generation =
      { s.form f with useCount := 0 } := (if_pos rfl).trans (by rw [last])
  refine ⟨(s.formApplied f d).jobs.any fun x =>
    x.2.2.form == f && (s.formApplied f d).eligibleSomewhere x.2.2, ?_, ?_⟩
  · rw [List.any_eq_true]
    constructor
    · rintro ⟨⟨v, i, x⟩, mem, both⟩
      obtain ⟨form, eligible⟩ := Bool.and_eq_true_iff.1 both
      exact ⟨v, i, x, State.mem_jobs.1 mem, eq_of_beq form, eligible⟩
    · rintro ⟨v, i, x, job, form, eligible⟩
      exact ⟨(v, i, x), State.mem_jobs.2 job, Bool.and_eq_true_iff.2 ⟨beq_iff_eq.2 form, eligible⟩⟩
  · unfold State.unbind State.applyPending
    dsimp only
    rw [if_pos rfl, lowered, State.setForm_form_self]
    rw [if_pos (by simp [FormRecord.applyDue, pending]), State.setForm_setForm]
    simp only [FormRecord.applied, pending]
    rfl

/-- A count lowered writes one form, and where its pending definition is applied, FORMS_CHANGE and the
report of its jobs follow. -/
theorem State.unbind_cases (g : Option Nat) : ∃ x, s.unbind f g = s.setForm f x ∨
    ∃ told : Bool, s.unbind f g =
      if told then (s.setForm f x).postForms.reportEligible else (s.setForm f x).postForms := by
  cases g with
  | none => exact ⟨s.form f, .inl (s.setForm_same f).symm⟩
  | some g =>
    unfold State.unbind
    dsimp only
    split_ifs
    · unfold State.applyPending
      split_ifs
      · dsimp only
        rw [State.setForm_setForm]
        exact ⟨_, .inr ⟨_, rfl⟩⟩
      · exact ⟨_, .inl rfl⟩
    · exact ⟨_, .inl rfl⟩

theorem State.unbind_otherForms (g : Option Nat) : s.otherForms (s.unbind f g) f := by
  intro h other
  obtain ⟨x, written | ⟨told, applied⟩⟩ := s.unbind_cases f g
  · rw [written, s.setForm_form_ne other]
  · rw [applied]
    have posted : (s.setForm f x).postForms.form h = s.form h :=
      (State.post_form _ _ _ _).trans (s.setForm_form_ne other x)
    cases told
    · exact posted
    · exact posted

/-- A count lowered reaches a lane with a claim request at most. -/
theorem State.unbind_told (g : Option Nat) : ∃ told, s.lanesTold (s.unbind f g) told := by
  obtain ⟨x, written | ⟨told, applied⟩⟩ := s.unbind_cases f g
  · exact ⟨false, fun l => by rw [written]; rfl⟩
  · refine ⟨told, ?_⟩
    rw [applied]
    exact State.lanesTold.before (State.changesOnly_then (c := [.forms, .queues])
      (s.setForm_frame f x) (State.postOffice_frame _ _ _)) (State.lanesTold_ite _ told)

/-! ## A job's reservation released (08 R149) -/

variable (w : Window) (k : SlotId)

theorem State.unreserve_session (n : Nat) : (s.unreserve w n).session w =
    { s.session w with reserved := (s.session w).reserved - n } := s.setSession_session_self w _

theorem State.unreserve_otherSessions (n : Nat) : s.otherSessions (s.unreserve w n) w :=
  fun _ other => s.setSession_session_ne other _

theorem State.releaseJob_of_job {j : Job} (h : s.job w k = some j) : s.releaseJob w k =
    (s.unreserve w j.reserved).mapJob w k fun j => { j with reserved := 0 } := by
  unfold State.releaseJob
  rw [h]

end

end Sys2Proof.Machine
end

section
/-! SUPPORT. The requests of a window on its jobs (03 R42 to R49), by their refusals and by what a taken one
leaves. -/

-- One proof at a time: the check's memory limit holds few threads.
set_option Elab.async false

namespace Sys2Proof.Machine

/-! ## Refusals of a request on a slot (03 Table 3.3) -/

section
variable {s : State} {w : Window} {n : Nat} {k : SlotId} {j : Job} {code : ResultCode}
  {take : SlotId → Job → State → State × Reply} {own : SlotId → Job → Option ResultCode}

/-- The code a request on a slot is refused with, its own checks given by `own`. -/
def State.slotCode (s : State) (w : Window) (n : Nat) (own : SlotId → Job → Option ResultCode) :
    Option ResultCode :=
  match slotOf n with
  | none => some .badArgument
  | some k =>
    match s.job w k with
    | none => some .noJob
    | some j => if j.isActive then own k j else some .jobEnded

theorem State.onJob_of_slotCode (h : s.slotCode w n own = some code)
    (refuses : ∀ k j, s.job w k = some j → own k j = some code → take k j s = (s, refusal code)) :
    s.onJob w n take = (s, refusal code) := by
  unfold State.slotCode at h
  cases named : slotOf n with
  | none =>
    rw [named] at h
    cases h
    exact State.onJob_of_slotOf_none named
  | some k =>
    rw [named] at h
    dsimp only at h
    cases held : s.job w k with
    | none =>
      rw [held] at h
      cases h
      exact State.onJob_of_job_none named held
    | some j =>
      rw [held] at h
      dsimp only at h
      cases active : j.isActive with
      | false =>
        rw [active] at h
        cases h
        exact State.onJob_of_ended named held active
      | true =>
        rw [active] at h
        rw [State.onJob_of_active named held active]
        exact refuses k j held h

theorem State.slotCode_out (out : n < 1 ∨ 8 < n) : s.slotCode w n own = some .badArgument := by
  rw [State.slotCode, slotOf_eq_none out]

theorem State.slotCode_in (inside : ¬(n < 1 ∨ 8 < n)) : s.slotCode w n own =
    match s.job w (Fin.ofNat 8 (n - 1)) with
    | none => some .noJob
    | some j => if j.isActive then own (Fin.ofNat 8 (n - 1)) j else some .jobEnded := by
  rw [State.slotCode, slotOf_eq_some inside]

theorem State.slotCode_of_job (held : s.job w k = some j) : s.slotCode w (k.val + 1) own =
    if j.isActive then own k j else some .jobEnded := by
  rw [State.slotCode, slotOf_val_add_one]
  dsimp only
  rw [held]

end

/-! ## The checks of a job's parts (03 R42) -/

theorem isEmptySet_iff (v : Vector Bool 4) : isEmptySet v = true ↔ v = .replicate 4 false := by
  revert v
  decide

section
variable (lanes : LaneSet) (priority : Named Priority) (tender : Named Tender) (declared supplied : Nat)

/-- The check of lanes, priority and tender, then of the line counts (03 R42 step 3). -/
theorem argumentRefusal_eq : argumentRefusal lanes priority tender declared supplied =
    if lanes = .replicate 4 false ∨ priority = none ∨ tender = none then some .badArgument
    else if 32 < declared ∨ declared < supplied then some .tooManyLines else none := by
  unfold argumentRefusal
  simp only [Bool.or_eq_true, decide_eq_true_eq, isEmptySet_iff, Option.isNone_iff_eq_none, or_assoc]
  exact ite_congr rfl (fun _ => rfl) fun _ => rfl

end

section
variable (s : State)

theorem State.discountEntry_of_code (code : Fin 16) : s.discountEntry code.val = s.discounts[code] := by
  unfold State.discountEntry
  rw [codeOf_val]

/-- The price and the room of a job against its definition (03 R42 steps 5 to 7). -/
def boundCode (e : DiscountEntry) (f : FareFields) (declared : Nat) (d : FormDef) : Option ResultCode :=
  if 99999 < f.baseFare ∨ f.quantity < 1 ∨ 9 < f.quantity then some .badFare
  else if 15 < f.discount ∨ e.state ≠ .active ∨ e.classes.holds d.cls = false then some .badDiscount
  else if d.bodyCapacity < declared then some .tooManyLines else none

theorem State.boundRefusal_eq (f : FareFields) (declared : Nat) (d : FormDef) :
    s.boundRefusal f declared d = boundCode s.discounts[Fin.ofNat 16 f.discount] f declared d := by
  have price : s.priceRefusal f d.cls =
      if 99999 < f.baseFare ∨ f.quantity < 1 ∨ 9 < f.quantity then some .badFare
      else if 15 < f.discount ∨ s.discounts[Fin.ofNat 16 f.discount].state ≠ .active ∨
        s.discounts[Fin.ofNat 16 f.discount].classes.holds d.cls = false then some .badDiscount
      else none := by
    unfold State.priceRefusal
    by_cases out : 15 < f.discount
    · rw [codeOf_eq_none out]
      simp only [ite_or, if_pos out]
      rfl
    · have named : f.discount = (Fin.ofNat 16 f.discount).val :=
        (Nat.mod_eq_of_lt (by omega : f.discount < 16)).symm
      have entry : s.discountEntry f.discount = s.discounts[Fin.ofNat 16 f.discount] := by
        conv_lhs => rw [named]
        exact s.discountEntry_of_code _
      have found : codeOf f.discount = some (Fin.ofNat 16 f.discount) := by
        conv_lhs => rw [named]
        exact codeOf_val _
      rw [entry, found]
      generalize s.discounts[Fin.ofNat 16 f.discount] = e
      simp only [ite_or, if_neg out, Option.isNone_some, Bool.not_eq_true']
      rfl
  unfold State.boundRefusal boundCode
  rw [price]
  split_ifs <;> rfl

end

/-! ## The state of a dropped declaration -/

section
variable (s : State) (w : Window)

@[simp] theorem State.dropDeclaration_job (v : Window) (k : SlotId) :
    (s.dropDeclaration w).job v k = s.job v k := rfl

@[simp] theorem State.dropDeclaration_slot (v : Window) (k : SlotId) :
    (s.dropDeclaration w).slot v k = s.slot v k := rfl

@[simp] theorem State.dropDeclaration_form (f : Fin 8) :
    (s.dropDeclaration w).form f = s.form f := rfl

@[simp] theorem State.dropDeclaration_eligibleSomewhere (j : Job) :
    (s.dropDeclaration w).eligibleSomewhere j = s.eligibleSomewhere j :=
  (s.dropDeclaration_frame w).eligibleSomewhere

theorem State.dropDeclaration_otherSessions : s.otherSessions (s.dropDeclaration w) w :=
  fun _ other => s.setSession_session_ne other _

end

/-! ## RELEASE_JOB (03 R47, R48) -/

section
variable {s : State} {w : Window} {n : Nat} {k : SlotId} {j : Job} {code : ResultCode}

/-- RELEASE_JOB's own refusals. -/
def State.releaseCode (s : State) (w : Window) (k : SlotId) (j : Job) : Option ResultCode :=
  match j.state with
  | .held => none
  | .retryWait => if (s.slot w k).unread then some .outcomeUnread else none
  | .queued | .printing => some .notHeld
  | .done | .failed | .expired | .cancelled => some .jobEnded

theorem State.releaseRequest_of_code (h : s.slotCode w n (s.releaseCode w) = some code) :
    s.releaseRequest w n = (s, refusal code) := by
  refine State.onJob_of_slotCode h fun k j _ own => ?_
  unfold State.releaseCode at own
  cases state : j.state <;> simp only [state] at own ⊢
  case held => cases own
  case retryWait =>
    split_ifs at own ⊢
    cases own
    rfl
  all_goals
    cases own
    rfl

theorem State.releaseRequest_taken (held : s.job w k = some j)
    (free : j.state = .held ∨ (j.state = .retryWait ∧ (s.slot w k).unread = false)) :
    s.releaseRequest w (k.val + 1) = (s.requeue w k, accepted .bare) := by
  have active : j.isActive = true := by
    rcases free with state | ⟨state, -⟩ <;> simp [Job.isActive, state]
  rw [State.releaseRequest, State.onJob_of_active (slotOf_val_add_one k) held active]
  rcases free with state | ⟨state, read⟩
  · simp only [state]
  · simp only [state, read]
    rfl

/-- A job rewritten in its slot and reported where it is eligible. -/
theorem State.requeue_leaves (held : s.job w k = some j) :
    (s.requeue w k).slot w k = ⟨(s.slot w k).unread, some { j with state := .queued }⟩ ∧
      s.otherSlots (s.requeue w k) w k ∧
      s.lanesTold (s.requeue w k) (s.eligibleSomewhere { j with state := .queued }) ∧
      s.changesOnly (s.requeue w k) [.slots, .lanes] := by
  have mapped := s.mapJob_slot_self w k (fun j => { j with state := .queued }) held
  have frame := s.mapJob_frame w k fun j => { j with state := .queued }
  have reported := State.reportJob_frame (s.mapJob w k fun j => { j with state := .queued }) w k
  refine ⟨(reported.slot w k).trans mapped, fun v i other => (reported.slot v i).trans
    (s.mapJob_otherSlots w k _ v i other), ?_, State.changesOnly_then frame reported⟩
  rw [← frame.eligibleSomewhere]
  exact State.lanesTold.before frame (State.reportJob_told _ w k (congrArg Slot.job mapped))

end

/-! ## WITHDRAW_JOB (03 R49) -/

section
variable {s : State} {w : Window} {n : Nat} {k : SlotId} {j : Job} {code : ResultCode}

/-- WITHDRAW_JOB's own refusals. -/
def Job.withdrawCode (j : Job) : Option ResultCode :=
  match j.state with
  | .queued | .held | .retryWait => none
  | .printing => some .tooLate
  | .done | .failed | .expired | .cancelled => some .jobEnded

theorem State.withdrawJob_of_code (h : s.slotCode w n (fun _ j => j.withdrawCode) = some code) :
    s.withdrawJob w n = (s, refusal code) := by
  refine State.onJob_of_slotCode h fun k j _ own => ?_
  unfold Job.withdrawCode at own
  cases state : j.state <;> simp only [state] at own ⊢ <;> cases own <;> rfl

theorem State.withdrawJob_taken (held : s.job w k = some j)
    (free : j.state = .queued ∨ j.state = .held ∨ j.state = .retryWait) :
    s.withdrawJob w (k.val + 1) =
      (((s.releaseJob w k).emptySlot w k).unbind j.form j.generation, ⟨.withdrawn, .bare⟩) := by
  have active : j.isActive = true := by
    rcases free with state | state | state <;> simp [Job.isActive, state]
  rw [State.withdrawJob, State.onJob_of_active (slotOf_val_add_one k) held active]
  rcases free with state | state | state <;> simp only [state]

theorem State.emptied_leaves (held : s.job w k = some j) (u : State)
    (hu : u = (s.releaseJob w k).emptySlot w k) :
    u.slot w k = ⟨(s.slot w k).unread, none⟩ ∧ s.otherSlots u w k ∧
      u.session w = { s.session w with reserved := (s.session w).reserved - j.reserved } ∧
      s.otherSessions u w ∧ u.journalReserved = s.journalReserved - j.reserved ∧
      u.journal = s.journal ∧ s.changesOnly u [.sessions, .journal, .slots] := by
  subst hu
  have frame : s.changesOnly ((s.releaseJob w k).emptySlot w k) [.sessions, .journal, .slots] :=
    State.changesOnly_then (s.releaseJob_frame w k) (State.setSlot_frame _ w k _)
  rw [s.releaseJob_of_job w k held] at frame ⊢
  have freed := s.unreserve_frame w j.reserved
  have mapped := State.mapJob_slot_self (s.unreserve w j.reserved) w k (fun j => { j with reserved := 0 })
    ((freed.job w k).trans held)
  refine ⟨?_, fun v i other => ?_, s.unreserve_session w j.reserved,
    s.unreserve_otherSessions w j.reserved, rfl, rfl, frame⟩
  · rw [State.emptySlot, State.setSlot_slot_self, mapped, freed.slot]
  · rw [State.emptySlot, State.setSlot_slot_ne _ other,
      State.mapJob_otherSlots _ w k _ v i other, freed.slot]

end

/-- Settles O27: each state of the slot refuses by `State.slotCode`; a release rewrites the slot and
reports, a withdrawal empties it and lowers the form's count. -/
theorem releaseAndWithdrawByTheSlotsState : Obligations.ReleaseAndWithdrawByTheSlotsState := by
  unfold Obligations.ReleaseAndWithdrawByTheSlotsState
  refine ⟨?_, fun s w tag k j held => ⟨fun admits free => ?_, fun admits code refused => ?_,
    fun admits free => ?_, fun admits code refused => ?_⟩⟩
  · intro s w tag n c rk which admits code refused
    have either : ∀ own, s.slotCode w n own = some code := fun own => by
      split_ifs at refused with out empty
      · rw [State.slotCode_out out]
        exact refused
      · rw [State.slotCode_in out, empty]
        exact refused
    rcases which with ⟨rfl, rfl⟩ | ⟨rfl, rfl⟩
    · exact exec_refusedAt (exec_abandoning (.releaseJob (.window w) tag (some n)) admits
        (congrArg some (State.releaseRequest_of_code (either _))))
    · exact exec_refusedAt (exec_abandoning (.withdrawJob (.window w) tag (some n)) admits
        (congrArg some (State.withdrawJob_of_code (either _))))
  · have run := exec_abandoning (.releaseJob (.window w) tag (some (k.val + 1))) admits
      (congrArg some (State.releaseRequest_taken (s := s.dropDeclaration w) held free))
    have drop := s.dropDeclaration_frame w
    obtain ⟨self, others, told, moved⟩ := State.requeue_leaves (s := s.dropDeclaration w) held
    rw [s.dropDeclaration_eligibleSomewhere w] at told
    have whole := State.changesOnly_then (c := [.sessions, .slots, .lanes]) drop moved
    obtain ⟨answered, all⟩ := State.answered_moved (p := .window w) (k := .releaseJob) (tag := tag)
      (all := [.receivers, .slots, .sessions, .lanes]) whole (accepted .bare)
    have answer := State.answerWith_frame ((s.dropDeclaration w).requeue w k) (.window w)
      RequestKind.releaseJob.byte tag (accepted .bare)
    exact ⟨_, run, answered, (answer.slot w k).trans self,
      fun v i other => (answer.slot v i).trans (others v i other),
      (answer .sessions (by decide)).trans (moved .sessions (by decide)),
      State.lanesTold.before drop (told.after answer), all⟩
  · have given : s.slotCode w (k.val + 1) (s.releaseCode w) = some code := by
      rw [State.slotCode_of_job held]
      have own : s.releaseCode w k j = some code := refused
      split_ifs with active
      · exact own
      · unfold State.releaseCode at own
        cases state : j.state <;> simp_all [Job.isActive]
    exact exec_refusedAt (exec_abandoning (.releaseJob (.window w) tag (some (k.val + 1))) admits
      (congrArg some (State.releaseRequest_of_code given)))
  · have run := exec_abandoning (.withdrawJob (.window w) tag (some (k.val + 1))) admits
      (congrArg some (State.withdrawJob_taken (s := s.dropDeclaration w) held free))
    obtain ⟨u, hu⟩ : ∃ u, u = ((s.dropDeclaration w).releaseJob w k).emptySlot w k := ⟨_, rfl⟩
    rw [← hu] at run
    obtain ⟨self, others, session, sessions, reserved, journal, emptied⟩ :=
      State.emptied_leaves (s := s.dropDeclaration w) held u hu
    have whole := State.changesOnly_then (c := [.sessions, .journal, .slots])
      (s.dropDeclaration_frame w) emptied
    have lowered := u.unbind_frame j.form j.generation
    obtain ⟨answered, all⟩ := State.answered_moved (p := .window w) (k := .withdrawJob) (tag := tag)
      (all := [.receivers, .queues, .slots, .sessions, .journal, .forms, .lanes])
      (State.changesOnly_then (c := [.sessions, .journal, .slots, .forms, .queues, .lanes]) whole
        lowered) ⟨.withdrawn, .bare⟩
    have answer := State.answerWith_frame (u.unbind j.form j.generation) (.window w)
      RequestKind.withdrawJob.byte tag ⟨.withdrawn, .bare⟩
    have rest := State.changesOnly_then (c := [.receivers, .forms, .queues, .lanes]) lowered answer
    have form := whole.form j.form
    have queues := fun q => (whole .queues (by decide)) q
    obtain ⟨told, tells⟩ := u.unbind_told j.form j.generation
    refine ⟨_, run, answered, (rest.slot w k).trans self,
      fun v i other => (rest.slot v i).trans (others v i other), ?_,
      fun v other => (rest.session v).trans ((sessions v other).trans
        (s.dropDeclaration_otherSessions w v other)),
      rest.journalReserved.trans reserved, (rest .journal (by decide)).1.trans journal,
      fun f other => ?_, ?_, ?_, ?_, ?_, all⟩
    · rw [rest.session, session, s.dropDeclaration_session_self w]
    · rw [answer.form, u.unbind_otherForms j.form j.generation f other, whole.form]
    · rintro g current rfl kept
      rw [← form] at kept
      rw [current, ← form, State.unbind_current u j.form kept]
      exact ⟨by simp, fun q => by simp [State.answerWith_queue, queues]⟩
    · rintro g d current rfl last pending
      rw [← form] at last pending
      obtain ⟨told, -, applied⟩ := u.unbind_applied j.form last pending
      rw [current, ← form, applied]
      have reported : (u.formApplied j.form d).changesOnly
          (if told then (u.formApplied j.form d).reportEligible else u.formApplied j.form d) [.lanes] :=
        State.changesOnly_ite (State.reportEligible_frame _) (State.changesOnly_refl _ _)
      refine ⟨?_, State.queuesAfter_answerWith _ _ _ _ fun q => ?_⟩
      · rw [State.answerWith_form, reported.form]
        exact (State.post_form _ _ _ _).trans (State.setForm_form_self _ _ _)
      · rw [(reported .queues (by decide)) q]
        exact State.queuesAfter_postOffice (State.same_trans (whole .queues (by decide))
          (u.setForm_frame j.form _ .queues (by decide))) _ _ q
    · intro coming
      rw [← form] at coming ⊢
      rw [coming, State.unbind_coming]
      exact ⟨by simp, fun q => by simp [State.answerWith_queue, queues]⟩
    · intro l
      rw [answer.lane]
      exact (State.lanesTold.before whole tells).cases l
  · have given : s.slotCode w (k.val + 1) (fun _ j => j.withdrawCode) = some code := by
      rw [State.slotCode_of_job held]
      have own : j.withdrawCode = some code := refused
      split_ifs with active
      · exact own
      · unfold Job.withdrawCode at own
        cases state : j.state <;> simp_all [Job.isActive]
    exact exec_refusedAt (exec_abandoning (.withdrawJob (.window w) tag (some (k.val + 1))) admits
      (congrArg some (State.withdrawJob_of_code given)))

/-! ## SUPPLY_LINES (03 R44) -/

section
variable {s : State} {w : Window} {n : Nat} {k : SlotId} {j : Job} {code : ResultCode}

/-- SUPPLY_LINES's own refusals. -/
def suppliedCode (b : SupplyBody) (j : Job) : Option ResultCode :=
  if b.start ≠ j.lines.length then some .outOfOrder
  else if j.declared < b.start + b.lines.length then some .tooManyLines else none

theorem State.supplyLines_of_code {b : SupplyBody}
    (h : s.slotCode w b.slot (fun _ j => suppliedCode b j) = some code) :
    s.supplyLines w b = (s, refusal code) := by
  refine State.onJob_of_slotCode h fun k j _ own => ?_
  unfold suppliedCode at own
  split_ifs at own with order room
  · cases own
    exact if_pos order
  · cases own
    dsimp only
    rw [if_neg order, if_pos room]

/-- The lines appended, and the lanes told where they make the job eligible. -/
def State.supplied (s : State) (w : Window) (k : SlotId) (j j' : Job) : State :=
  if !s.eligibleSomewhere j && s.eligibleSomewhere j' then (s.mapJob w k fun _ => j').reportEligible
  else s.mapJob w k fun _ => j'

theorem State.supplyLines_taken {start : Nat} {lines : List Text} (held : s.job w k = some j)
    (active : j.isActive = true) (order : start = j.lines.length)
    (room : start + lines.length ≤ j.declared) :
    s.supplyLines w ⟨k.val + 1, start, lines⟩ =
      (s.supplied w k j { j with lines := j.lines ++ lines },
        accepted (.supplied (j.lines.length + lines.length))) := by
  have rewritten := s.mapJob_frame w k fun _ => { j with lines := j.lines ++ lines }
  unfold State.supplyLines
  rw [State.onJob_of_active (slotOf_val_add_one k) held active]
  dsimp only
  rw [if_neg (not_not.2 order), if_neg (Nat.not_lt.2 room), rewritten.eligibleSomewhere,
    List.length_append]
  rfl

theorem State.supplied_leaves {j' : Job} (held : s.job w k = some j) :
    (s.supplied w k j j').slot w k = ⟨(s.slot w k).unread, some j'⟩ ∧
      s.otherSlots (s.supplied w k j j') w k ∧
      s.lanesTold (s.supplied w k j j') (!s.eligibleSomewhere j && s.eligibleSomewhere j') ∧
      s.changesOnly (s.supplied w k j j') [.slots, .lanes] := by
  have mapped := s.mapJob_slot_self w k (fun _ => j') held
  have frame := s.mapJob_frame w k fun _ => j'
  have told := (s.mapJob w k fun _ => j').lanesTold_ite
    (!s.eligibleSomewhere j && s.eligibleSomewhere j')
  have reported : (s.mapJob w k fun _ => j').changesOnly (s.supplied w k j j') [.lanes] :=
    State.changesOnly_ite (State.reportEligible_frame _) (State.changesOnly_refl _ _)
  exact ⟨(reported.slot w k).trans mapped, fun v i other => (reported.slot v i).trans
    (s.mapJob_otherSlots w k _ v i other), State.lanesTold.before frame told,
    State.changesOnly_then frame reported⟩

end

/-! ## AMEND_JOB (03 R46) -/

section
variable {s : State} {w : Window} {n : Nat} {k : SlotId} {j : Job} {code : ResultCode}

/-- AMEND_JOB's refusals by the job's state. -/
def Job.amendCode (j : Job) : Option ResultCode :=
  match j.state with
  | .queued | .retryWait => some .notHeld
  | .printing => some .tooLate
  | .done | .failed | .expired | .cancelled => some .jobEnded
  | .held => none

theorem State.amendJob_of_code {b : AmendBody}
    (h : s.slotCode w b.slot (fun _ j => j.amendCode) = some code) :
    s.amendJob w b = (s, refusal code) := by
  refine State.onJob_of_slotCode h fun k j _ own => ?_
  unfold Job.amendCode at own
  cases state : j.state <;> simp only [state] at own ⊢ <;> cases own <;> rfl

theorem State.amendJob_of_held {b : AmendBody} (slot : b.slot = k.val + 1)
    (held : s.job w k = some j) (state : j.state = .held) :
    s.amendJob w b = match s.amendRefusal b j with
      | some c => (s, refusal c)
      | none => (s.mapJob w k fun _ => s.amendedJob w b j,
          accepted (.amended (s.amendedJob w b j).unitFare (s.amendedJob w b j).value
            (s.amendDowngrades w b j)
            (j.generation == some (nextGeneration (s.form j.form).generation)))) := by
  have active : j.isActive = true := by simp [Job.isActive, state]
  unfold State.amendJob
  rw [slot, State.onJob_of_active (slotOf_val_add_one k) held active]
  dsimp only
  rw [state] <;> rfl

/-- The first check of an amendment that fails, by the fields as they will stand. -/
theorem State.amendRefusal_eq (b : AmendBody) (f : FareFields) (c : Content)
    (fare : f = b.fare.getD ⟨j.baseFare, j.discount, j.quantity, some j.tender⟩)
    (content : c = b.content.getD ⟨j.declared, j.lines⟩) : s.amendRefusal b j =
      if b.lanes.getD j.lanes = .replicate 4 false ∨ b.priority = some none ∨ f.tender = none then
        some .badArgument
      else if 32 < c.declared ∨ c.declared < c.lines.length then some .tooManyLines
      else match (s.form j.form).bound j.generation with
        | none => some .formUnknown
        | some d => boundCode s.discounts[Fin.ofNat 16 f.discount] f c.declared d := by
  have fareAfter : AmendBody.fareAfter b j = f := fare.symm
  have contentAfter : AmendBody.contentAfter b j = c := content.symm
  have priorityAfter : AmendBody.priorityAfter b j = none ↔ b.priority = some none := by
    unfold AmendBody.priorityAfter
    rcases b.priority with _ | _ | p <;> simp
  unfold State.amendRefusal
  dsimp only
  rw [fareAfter, contentAfter, argumentRefusal_eq]
  simp only [priorityAfter]
  unfold AmendBody.lanesAfter
  split_ifs
  · rfl
  · rfl
  · cases (s.form j.form).bound j.generation with
    | none => rfl
    | some d => exact s.boundRefusal_eq f c.declared d

end

theorem Job.isActive_eq_false_iff (j : Job) : j.isActive = false ↔
    j.state ∈ [JobState.done, .failed, .expired, .cancelled] := by
  cases h : j.state <;> simp [Job.isActive, h]

section
variable {s : State} {w : Window} {k : SlotId} {j : Job} {tag : Byte}

/-- A refused amendment of a HELD job. -/
theorem State.amendJob_of_refusal {b : AmendBody} {code : ResultCode} (slot : b.slot = k.val + 1)
    (held : s.job w k = some j) (state : j.state = .held) (bad : s.amendRefusal b j = some code) :
    s.amendJob w b = (s, refusal code) := by
  rw [State.amendJob_of_held slot held state, bad]

/-- A taken amendment: the parts given stand in the job, its unit fare and value computed again. -/
theorem State.amendedJob_eq {b : AmendBody} {f : FareFields} {c : Content} {pr : Priority} {tn : Tender}
    {code : Fin 16} {down : Bool}
    (fare : f = b.fare.getD ⟨j.baseFare, j.discount, j.quantity, some j.tender⟩)
    (content : c = b.content.getD ⟨j.declared, j.lines⟩)
    (priority : some pr = b.priority.getD (some j.priority)) (tender : f.tender = some tn)
    (discount : f.discount = code.val)
    (hdown : down = (pr == .urgent && j.priority == .normal && !s.grants[w].urgent)) :
    s.amendDowngrades w b j = down ∧ s.amendedJob w b j = { j with
      lanes := b.lanes.getD j.lanes
      priority := if down then .normal else pr
      baseFare := f.baseFare
      discount := code.val
      quantity := f.quantity
      tender := tn
      unitFare := unitFare s.discounts[code] f.baseFare
      value := unitFare s.discounts[code] f.baseFare * f.quantity
      declared := c.declared
      lines := c.lines } := by
  have fareAfter : AmendBody.fareAfter b j = f := fare.symm
  have contentAfter : AmendBody.contentAfter b j = c := content.symm
  have priorityAfter : AmendBody.priorityAfter b j = some pr := priority.symm
  have downgrades : s.amendDowngrades w b j = down := by
    rw [State.amendDowngrades, priorityAfter, State.downgrades, hdown]
    cases pr <;> cases j.priority <;> rfl
  refine ⟨downgrades, ?_⟩
  unfold State.amendedJob
  dsimp only
  rw [downgrades, fareAfter, contentAfter, priorityAfter, discount, s.discountEntry_of_code, tender]
  rfl

theorem State.amendRefusal_of_fits {b : AmendBody} {f : FareFields} {c : Content} {d : FormDef}
    {tn : Tender} {pr : Priority} {code : Fin 16}
    (fare : f = b.fare.getD ⟨j.baseFare, j.discount, j.quantity, some j.tender⟩)
    (content : c = b.content.getD ⟨j.declared, j.lines⟩)
    (priority : some pr = b.priority.getD (some j.priority))
    (lanes : isEmptySet (b.lanes.getD j.lanes) = false) (tender : f.tender = some tn)
    (declared : c.declared ≤ 32) (lines : c.lines.length ≤ c.declared)
    (bound : (s.form j.form).bound j.generation = some d) (base : f.baseFare ≤ 99999)
    (low : 1 ≤ f.quantity) (high : f.quantity ≤ 9) (discount : f.discount = code.val)
    (active : s.discounts[code].state = .active)
    (holds : s.discounts[code].classes.holds d.cls = true) (room : c.declared ≤ d.bodyCapacity) :
    s.amendRefusal b j = none := by
  have named : Fin.ofNat 16 f.discount = code := by
    rw [discount]
    exact Fin.ext (Nat.mod_eq_of_lt code.isLt)
  have given : b.priority ≠ some none := by
    intro e
    rw [e] at priority
    cases priority
  have some_ : b.lanes.getD j.lanes ≠ .replicate 4 false := fun e => by
    rw [(isEmptySet_iff _).2 e] at lanes
    cases lanes
  rw [State.amendRefusal_eq b f c fare content, bound, if_neg (by simp [given, some_, tender]),
    if_neg (by omega)]
  dsimp only
  simp only [named]
  unfold boundCode
  rw [if_neg (by omega), if_neg (by simp only [active, holds, discount]; have := code.isLt; simp; omega),
    if_neg (by omega)]

/-- A job rewritten in its slot alone by a request that abandons a declaration. -/
theorem exec_rewrites {c : Instr} {q : RequestKind} {reply : Reply} {j' : Job}
    (held : s.job w k = some j) (run : exec c s =
      .next (((s.dropDeclaration w).mapJob w k fun _ => j').answerWith (.window w) q.byte tag reply)) :
    ∃ t, exec c s = .next t ∧ s.answered t (.window w) q tag reply ∧
      t.slot w k = ⟨(s.slot w k).unread, some j'⟩ ∧ s.otherSlots t w k ∧
      t.sessions = (s.dropDeclaration w).sessions ∧
      s.changesOnly t [.receivers, .slots, .sessions] := by
  have mapped := (s.dropDeclaration w).mapJob_frame w k fun _ => j'
  obtain ⟨answered, all⟩ := State.answered_moved (p := .window w) (k := q) (tag := tag)
    (all := [.receivers, .slots, .sessions])
    (State.changesOnly_then (c := [.slots, .sessions]) (s.dropDeclaration_frame w) mapped) reply
  have answer := State.answerWith_frame ((s.dropDeclaration w).mapJob w k fun _ => j') (.window w)
    q.byte tag reply
  exact ⟨_, run, answered,
    (answer.slot w k).trans ((s.dropDeclaration w).mapJob_slot_self w k (fun _ => j') held),
    fun v i other => (answer.slot v i).trans
      ((s.dropDeclaration w).mapJob_otherSlots w k (fun _ => j') v i other),
    (answer .sessions (by decide)).trans (mapped .sessions (by decide)), all⟩

end

/-- Settles O25: refusals by the slot's state and by the fields as they will stand; the lines appended,
and the parts given amended, in the slot alone. -/
theorem supplyAndAmendChangeTheJob : Obligations.SupplyAndAmendChangeTheJob := by
  unfold Obligations.SupplyAndAmendChangeTheJob
  refine ⟨fun s w tag => ⟨fun b admits fits code refused => ?_, fun b admits fits code refused => ?_,
    ?_⟩, fun s w tag k j held => ⟨?_, ?_⟩⟩
  · have given : s.slotCode w b.slot (fun _ j => suppliedCode b j) = some code := by
      split_ifs at refused with out
      · rw [State.slotCode_out out]
        exact refused
      · rw [State.slotCode_in out]
        cases job : s.job w (Fin.ofNat 8 (b.slot - 1)) with
        | none =>
          rw [job] at refused
          exact refused
        | some j =>
          rw [job] at refused
          dsimp only at refused ⊢
          cases active : j.isActive with
          | false => rwa [if_pos (j.isActive_eq_false_iff.1 active)] at refused
          | true =>
            have running : ¬j.state ∈ [JobState.done, .failed, .expired, .cancelled] := fun ended => by
              rw [j.isActive_eq_false_iff.2 ended] at active
              cases active
            rwa [if_neg running] at refused
    exact exec_refusedAt (exec_abandoning (.supplyLines (.window w) tag (some b)) admits
      (congrArg some (State.supplyLines_of_code given)) (fits := fits))
  · have given : s.slotCode w b.slot (fun _ j => j.amendCode) = some code := by
      split_ifs at refused with out
      · rw [State.slotCode_out out]
        exact refused
      · rw [State.slotCode_in out]
        cases job : s.job w (Fin.ofNat 8 (b.slot - 1)) with
        | none =>
          rw [job] at refused
          exact refused
        | some j =>
          rw [job] at refused
          dsimp only [Option.map_some] at refused ⊢
          cases state : j.state <;> rw [state] at refused <;> simp_all [Job.isActive, Job.amendCode]
    exact exec_refusedAt (exec_abandoning (.amendJob (.window w) tag (some b)) admits
      (congrArg some (State.amendJob_of_code given)) (fits := fits))
  · rintro b k j f c e admits fits slot held state fare content rfl code refused
    have bad : (s.dropDeclaration w).amendRefusal b j = some code := by
      rw [State.amendRefusal_eq b f c fare content]
      exact refused
    exact exec_refusedAt (exec_abandoning (.amendJob (.window w) tag (some b)) admits
      (congrArg some (State.amendJob_of_refusal (s := s.dropDeclaration w) slot held state bad))
      (fits := fits))
  · intro start lines admits fits active order room
    have run := exec_abandoning (.supplyLines (.window w) tag (some ⟨k.val + 1, start, lines⟩)) admits
      (congrArg some (State.supplyLines_taken (s := s.dropDeclaration w) held active order room))
      (fits := fits)
    obtain ⟨self, others, told, moved⟩ := State.supplied_leaves (s := s.dropDeclaration w)
      (j' := { j with lines := j.lines ++ lines }) held
    rw [s.dropDeclaration_eligibleSomewhere, s.dropDeclaration_eligibleSomewhere] at told
    have drop := s.dropDeclaration_frame w
    obtain ⟨answered, all⟩ := State.answered_moved (p := .window w) (k := .supplyLines) (tag := tag)
      (all := [.receivers, .slots, .sessions, .lanes])
      (State.changesOnly_then (c := [.slots, .sessions, .lanes]) drop moved)
      (accepted (.supplied (j.lines.length + lines.length)))
    have answer := State.answerWith_frame ((s.dropDeclaration w).supplied w k j
      { j with lines := j.lines ++ lines }) (.window w) RequestKind.supplyLines.byte tag
      (accepted (.supplied (j.lines.length + lines.length)))
    exact ⟨_, _, rfl, run, answered, (answer.slot w k).trans self,
      fun v i other => (answer.slot v i).trans (others v i other),
      (answer .sessions (by decide)).trans (moved .sessions (by decide)),
      State.lanesTold.before drop (told.after answer), all⟩
  · intro fare lanes priority content f x pr c tn d code admits fits state bound hf hx hpr hc some_
      tender declared lines base low high discount active holds room
    subst hx
    have passes := State.amendRefusal_of_fits (s := s.dropDeclaration w) (j := j)
      (b := ⟨k.val + 1, fare, lanes, priority, content⟩) hf hc hpr some_ tender declared lines bound base
      low high discount active holds room
    obtain ⟨down, amended⟩ := State.amendedJob_eq (s := s.dropDeclaration w) (w := w) (j := j)
      (b := ⟨k.val + 1, fare, lanes, priority, content⟩) hf hc hpr tender discount rfl
    have block := State.amendJob_of_held (s := s.dropDeclaration w)
      (b := ⟨k.val + 1, fare, lanes, priority, content⟩) rfl held state
    rw [passes, down, amended] at block
    have whole : bodyFits (.amendJob (.window w) tag
        (some ⟨k.val + 1, fare, lanes, priority, content⟩)) = true := by
      cases content with
      | none => rfl
      | some y => exact fits y rfl
    obtain ⟨t, run, answered, self, others, sessions, all⟩ := exec_rewrites held
      (exec_abandoning (.amendJob (.window w) tag
        (some ⟨k.val + 1, fare, lanes, priority, content⟩)) admits (congrArg some block) (fits := whole))
    exact ⟨t, _, _, rfl, rfl, run, answered, self, others, sessions, all⟩

end Sys2Proof.Machine
end

section
/-! SUPPORT. SUBMIT_JOB (03 R42, R43), by its refusals in order and by the job it places. -/

-- One proof at a time: the check's memory limit holds few threads.
set_option Elab.async false

namespace Sys2Proof.Machine

section
variable {s : State} {w : Window}

theorem allSlots_ascending : allSlots.Pairwise (· < ·) := by decide

theorem State.freeSlot_eq_none_iff : s.freeSlot w = none ↔ ∀ k, s.job w k ≠ none := by
  simp [State.freeSlot, mem_allSlots, Option.ne_none_iff_isSome]

/-- The lowest-numbered EMPTY slot (03 R43). -/
theorem State.freeSlot_eq_some {k : SlotId} (empty : s.job w k = none)
    (below : ∀ i, i < k → s.job w i ≠ none) : s.freeSlot w = some k := by
  cases found : s.freeSlot w with
  | none => exact absurd empty (State.freeSlot_eq_none_iff.1 found k)
  | some i =>
    obtain ⟨free, before, after, split, earlier⟩ := List.find?_eq_some_iff_append.1 found
    have mem : k ∈ before ++ i :: after := split ▸ mem_allSlots k
    rcases List.mem_append.1 mem with first | rest
    · have taken := earlier k first
      simp [empty] at taken
    · rcases List.mem_cons.1 rest with rfl | later
      · rfl
      · have ascending := split ▸ allSlots_ascending
        have lower : i < k := List.rel_of_pairwise_cons (List.pairwise_append.1 ascending).2.1 later
        exact absurd (Option.isNone_iff_eq_none.1 free) (below i lower)

theorem formOf_of_not_lt {n : Nat} (inside : ¬7 < n) : formOf n = some (Fin.ofNat 8 n) := by
  have same : Fin.ofNat 8 n = ⟨n, by omega⟩ := Fin.ext (Nat.mod_eq_of_lt (by omega))
  rw [same]
  exact dif_pos (by omega)

/-- Steps 4 to 8 of R42 (03), on a form that is there. -/
def State.bindCode (s : State) (b : SubmitBody) : Option ResultCode :=
  match (s.form (Fin.ofNat 8 b.form)).current,
      (s.form (Fin.ofNat 8 b.form)).pending.or (s.form (Fin.ofNat 8 b.form)).current with
  | some _, some d =>
    match boundCode s.discounts[Fin.ofNat 16 b.fare.discount] b.fare b.content.declared d with
    | some code => some code
    | none => if 4096 < s.journalInUse + s.journalReserved + 3 then some .journalFull else none
  | _, _ => some .formUnknown

/-- The first of SUBMIT_JOB's checks that fails (03 R42). -/
def State.submitCode (s : State) (w : Window) (b : SubmitBody) : Option ResultCode :=
  match (s.session w).state with
  | .none => some .noSession
  | .declaring | .declared => some .sessionDeclaring
  | .opened =>
    if ∀ k, s.job w k ≠ none then some .noSlot
    else if b.lanes = .replicate 4 false ∨ b.priority = none ∨ b.fare.tender = none then
      some .badArgument
    else if 32 < b.content.declared ∨ b.content.declared < b.content.lines.length then
      some .tooManyLines
    else if 7 < b.form then some .formUnknown
    else s.bindCode b

/-- The binding of step 4 is to the pending definition where there is one (02 R27). -/
theorem State.binding_of_forms {n : Nat} (inside : ¬7 < n) {d : FormDef}
    (current : (s.form (Fin.ofNat 8 n)).current ≠ none)
    (bound : (s.form (Fin.ofNat 8 n)).pending.or (s.form (Fin.ofNat 8 n)).current = some d) :
    ∃ g, s.binding n = some g ∧ g.layout = d := by
  unfold State.binding
  rw [formOf_of_not_lt inside]
  dsimp only
  cases now : (s.form (Fin.ofNat 8 n)).current with
  | none => exact absurd now current
  | some d' =>
    cases next : (s.form (Fin.ofNat 8 n)).pending with
    | none =>
      rw [now, next] at bound
      cases bound
      exact ⟨_, rfl, rfl⟩
    | some d'' =>
      rw [now, next] at bound
      cases bound
      exact ⟨_, rfl, rfl⟩

/-- What SUBMIT_JOB answers once its slot and arguments are found good. -/
def State.submitBound (s : State) (w : Window) (k : SlotId) (b : SubmitBody) : State × Reply :=
  match s.binding b.form with
  | none => (s, refusal .formUnknown)
  | some g =>
    match s.boundRefusal b.fare b.content.declared g.layout with
    | some c => (s, refusal c)
    | none =>
      if s.journalFree < Config.jobReservation then (s, refusal .journalFull)
      else s.placeJob w k b g

theorem State.submitJob_opened {b : SubmitBody} (opened : (s.session w).state = .opened) :
    s.submitJob w b = match s.freeSlot w with
      | none => (s, refusal .noSlot)
      | some k => match b.argumentRefusal with
        | some c => (s, refusal c)
        | none => s.submitBound w k b := by
  unfold State.submitJob
  rw [opened]
  rfl

theorem State.submitBound_of_code {k : SlotId} {b : SubmitBody} {code : ResultCode} (inside : ¬7 < b.form)
    (h : s.bindCode b = some code) : s.submitBound w k b = (s, refusal code) := by
  unfold State.bindCode at h
  unfold State.submitBound
  cases now : (s.form (Fin.ofNat 8 b.form)).current with
  | none =>
    rw [now] at h
    cases h
    have unknown : s.binding b.form = none := by
      unfold State.binding
      rw [formOf_of_not_lt inside]
      dsimp only
      rw [now]
    rw [unknown]
  | some d' =>
    have current : (s.form (Fin.ofNat 8 b.form)).current ≠ none := fun e => by
      rw [now] at e
      cases e
    obtain ⟨d, bound⟩ : ∃ d, (s.form (Fin.ofNat 8 b.form)).pending.or
        (s.form (Fin.ofNat 8 b.form)).current = some d := by
      rw [now]
      cases (s.form (Fin.ofNat 8 b.form)).pending with
      | none => exact ⟨d', rfl⟩
      | some d => exact ⟨d, rfl⟩
    obtain ⟨g, binding, layout⟩ := State.binding_of_forms inside current bound
    rw [bound, now] at h
    rw [binding]
    dsimp only at h ⊢
    rw [s.boundRefusal_eq, layout]
    cases refused : boundCode s.discounts[Fin.ofNat 16 b.fare.discount] b.fare b.content.declared d with
    | some c =>
      rw [refused] at h
      cases h
      rfl
    | none =>
      rw [refused] at h
      dsimp only at h ⊢
      split_ifs at h with full
      cases h
      refine if_pos ?_
      unfold State.journalFree Config.journalSize Config.jobReservation
      omega

theorem State.submitJob_of_code {b : SubmitBody} {code : ResultCode}
    (h : s.submitCode w b = some code) : s.submitJob w b = (s, refusal code) := by
  unfold State.submitCode at h
  cases state : (s.session w).state with
  | none =>
    rw [state] at h
    cases h
    unfold State.submitJob
    rw [state]
  | declaring | declared =>
    rw [state] at h
    cases h
    unfold State.submitJob
    rw [state]
  | opened =>
    rw [state] at h
    dsimp only at h
    rw [State.submitJob_opened state]
    have arguments : b.argumentRefusal = _ := argumentRefusal_eq b.lanes b.priority b.fare.tender
      b.content.declared b.content.lines.length
    split_ifs at h with full bad lines unknown
    · cases h
      rw [State.freeSlot_eq_none_iff.2 full]
    all_goals
      have some_ : s.freeSlot w ≠ none := fun e => full (State.freeSlot_eq_none_iff.1 e)
      obtain ⟨k, free⟩ := Option.ne_none_iff_exists'.1 some_
      rw [free, arguments]
    · cases h
      rw [if_pos bad]
    · cases h
      rw [if_neg bad, if_pos lines]
    · cases h
      rw [if_neg bad, if_neg lines]
      have none_ : formOf b.form = none := dif_neg (by omega)
      dsimp only
      rw [State.submitBound, State.binding, none_]
    · rw [if_neg bad, if_neg lines]
      dsimp only
      rw [State.submitBound_of_code unknown h]

/-- A SUBMIT_JOB that passes every check. -/
theorem State.submitJob_taken {b : SubmitBody} {k : SlotId} {f : Fin 8} {d : FormDef} {coming : Bool}
    {code : Fin 16} (opened : (s.session w).state = .opened) (empty : s.job w k = none)
    (below : ∀ i, i < k → s.job w i ≠ none) (arguments : b.argumentRefusal = none)
    (form : b.form = f.val) (current : (s.form f).current ≠ none)
    (bound : if coming then (s.form f).pending = some d
      else (s.form f).pending = none ∧ (s.form f).current = some d)
    (fits : boundCode s.discounts[code] b.fare b.content.declared d = none)
    (discount : b.fare.discount = code.val)
    (room : s.journalInUse + s.journalReserved + 3 ≤ 4096) :
    s.submitJob w b = s.placeJob w k b
      ⟨f, if coming then nextGeneration (s.form f).generation else (s.form f).generation, d, coming⟩ := by
  have binding : s.binding b.form = some
      ⟨f, if coming then nextGeneration (s.form f).generation else (s.form f).generation, d, coming⟩ := by
    unfold State.binding
    rw [form, formOf_val]
    dsimp only
    cases coming with
    | true =>
      obtain ⟨d', now⟩ := Option.ne_none_iff_exists'.1 current
      rw [show (s.form f).pending = some d from bound, now]
      rfl
    | false =>
      obtain ⟨none_, now⟩ : (s.form f).pending = none ∧ (s.form f).current = some d := bound
      rw [none_, now]
      rfl
  have named : Fin.ofNat 16 b.fare.discount = code := by
    rw [discount]
    exact Fin.ext (Nat.mod_eq_of_lt code.isLt)
  rw [State.submitJob_opened opened, State.freeSlot_eq_some empty below]
  dsimp only
  rw [arguments]
  dsimp only
  rw [State.submitBound, binding]
  dsimp only
  rw [s.boundRefusal_eq]
  simp only [named]
  rw [fits]
  dsimp only
  refine if_neg ?_
  unfold State.journalFree Config.journalSize Config.jobReservation
  omega

/-- The state a placed job leaves, its answer apart. -/
def State.placed (s : State) (w : Window) (k : SlotId) (j : Job) (coming : Bool) : State :=
  let t := (s.setForm j.form ((s.form j.form).raised coming)).reserve w 3
  t.setSlot w k { t.slot w k with job := some j }

theorem State.placed_leaves (k : SlotId) (j : Job) (coming : Bool) (t : State)
    (ht : t = (s.placed w k j coming).reportJob w k) :
    t.slot w k = ⟨(s.slot w k).unread, some j⟩ ∧ s.otherSlots t w k ∧
      t.form j.form = (s.form j.form).raised coming ∧ s.otherForms t j.form ∧
      t.session w = { s.session w with reserved := (s.session w).reserved + 3 } ∧
      s.otherSessions t w ∧ t.journalReserved = s.journalReserved + 3 ∧
      t.journalInUse = s.journalInUse ∧ t.journal = s.journal ∧
      s.lanesTold t (s.eligibleSomewhere j) ∧
      s.changesOnly t [.slots, .forms, .sessions, .journal, .lanes] := by
  subst ht
  have raised := s.setForm_frame j.form ((s.form j.form).raised coming)
  have reserved := State.reserve_frame (s.setForm j.form ((s.form j.form).raised coming)) w 3
  have placed : s.changesOnly (s.placed w k j coming) [.slots, .forms, .sessions, .journal] :=
    State.changesOnly_then (c := [.slots, .forms, .sessions, .journal])
      (State.changesOnly_then (c := [.forms, .sessions, .journal]) raised reserved)
      (State.setSlot_frame _ w k _)
  have reported := (s.placed w k j coming).reportJob_frame w k
  have self : (s.placed w k j coming).slot w k = ⟨(s.slot w k).unread, some j⟩ :=
    State.setSlot_slot_self _ w k _
  have form : (s.placed w k j coming).form j.form = (s.form j.form).raised coming :=
    s.setForm_form_self j.form _
  have forms : s.otherForms (s.placed w k j coming) j.form := fun g other => s.setForm_form_ne other _
  have read : ∀ f, ((s.placed w k j coming).form f).generation = (s.form f).generation ∧
      ((s.placed w k j coming).form f).current = (s.form f).current := fun f => by
    by_cases same : f = j.form
    · rw [same, form]
      cases coming <;> exact ⟨rfl, rfl⟩
    · rw [forms f same]
      exact ⟨rfl, rfl⟩
  have eligible : (s.placed w k j coming).eligibleSomewhere j = s.eligibleSomewhere j :=
    State.eligibleSomewhere_congr (fun f => (read f).1) (fun f => (read f).2)
      (placed .packs (by decide)) fun l => congrArg Lane.pack (placed.lane l)
  refine ⟨(reported.slot w k).trans self, fun v i other => (reported.slot v i).trans
    (State.setSlot_slot_ne _ other _), (reported.form _).trans form,
    fun g other => (reported.form g).trans (forms g other),
    (reported.session w).trans (State.setSession_session_self _ w _),
    fun v other => (reported.session v).trans (State.setSession_session_ne _ other _),
    reported.journalReserved, (reported .journal (by decide)).2.1, (reported .journal (by decide)).1,
    ?_, State.changesOnly_then placed reported⟩
  rw [← eligible]
  exact State.lanesTold.before placed (State.reportJob_told _ w k (congrArg Slot.job self))

end

/-- Steps 4 to 8 in one list of checks. -/
theorem State.bindCode_eq (s : State) (b : SubmitBody) : s.bindCode b =
    match (s.form (Fin.ofNat 8 b.form)).current,
      (s.form (Fin.ofNat 8 b.form)).pending.or (s.form (Fin.ofNat 8 b.form)).current with
    | some _, some d =>
      if 99999 < b.fare.baseFare ∨ b.fare.quantity < 1 ∨ 9 < b.fare.quantity then some .badFare
      else if 15 < b.fare.discount ∨ (s.discounts[Fin.ofNat 16 b.fare.discount]).state ≠ .active ∨
        (s.discounts[Fin.ofNat 16 b.fare.discount]).classes.holds d.cls = false then some .badDiscount
      else if d.bodyCapacity < b.content.declared then some .tooManyLines
      else if 4096 < s.journalInUse + s.journalReserved + 3 then some .journalFull
      else none
    | _, _ => some .formUnknown := by
  unfold State.bindCode
  cases (s.form (Fin.ofNat 8 b.form)).current with
  | none => rfl
  | some d' =>
    cases (s.form (Fin.ofNat 8 b.form)).pending.or (some d') with
    | none => rfl
    | some d =>
      dsimp only
      unfold boundCode
      split_ifs <;> rfl

/-- Settles O24: a refusal is the first check of `State.submitCode` that fails; a passing one places the
job by `State.placed_leaves`. -/
theorem submitPlacesTheJob : Obligations.SubmitPlacesTheJob := by
  unfold Obligations.SubmitPlacesTheJob
  refine ⟨?_, ?_⟩
  · rintro s w tag b f e admits fits rfl rfl code refused
    have given : (s.dropDeclaration w).submitCode w b = some code := by
      rw [← refused]
      unfold State.submitCode
      rw [s.dropDeclaration_session_self w]
      cases (s.session w).state with
      | opened =>
        refine ite_congr rfl (fun _ => rfl) fun _ => ite_congr rfl (fun _ => rfl) fun _ =>
          ite_congr rfl (fun _ => rfl) fun _ => ite_congr rfl (fun _ => rfl) fun _ => ?_
        exact s.bindCode_eq b
      | _ => rfl
    exact exec_refusedAt (exec_abandoning (.submitJob (.window w) tag (some b)) admits
      (congrArg some (State.submitJob_of_code given)) (fits := fits))
  · intro s w tag b k f d coming code pr tn j admits fits opened empty below some_ priority tender
      declared lines form current bound base low high discount active holds room journal hj
    have drop := s.dropDeclaration_frame w
    have given : b.argumentRefusal = none := by
      have named : b.lanes ≠ .replicate 4 false := fun e => by
        rw [(isEmptySet_iff _).2 e] at some_
        cases some_
      rw [SubmitBody.argumentRefusal, argumentRefusal_eq, if_neg (by simp [named, priority, tender]),
        if_neg (by omega)]
    have priced : boundCode s.discounts[code] b.fare b.content.declared d = none := by
      unfold boundCode
      rw [if_neg (by omega), if_neg (by simp only [active, holds, discount]; have := code.isLt; simp; omega),
        if_neg (by omega)]
    have opened' : ((s.dropDeclaration w).session w).state = .opened := by
      rw [s.dropDeclaration_session_self w]
      exact opened
    have taken := State.submitJob_taken (s := s.dropDeclaration w) opened' empty below given form current
      bound priced discount journal
    have degraded : (s.dropDeclaration w).downgrades w b.priority =
        (pr == .urgent && !s.grants[w].urgent) := by
      rw [priority]
      cases pr <;> rfl
    have job : (s.dropDeclaration w).newJob w b ⟨f, if coming then nextGeneration (s.form f).generation
        else (s.form f).generation, d, coming⟩ = j := by
      have urgency : (if (pr == .urgent && !s.grants[w].urgent) = true then .normal else pr) =
          if s.grants[w].urgent = true then pr else .normal := by
        cases pr <;> cases s.grants[w].urgent <;> rfl
      unfold State.newJob
      dsimp only
      rw [degraded, priority, tender, discount, State.discountEntry_of_code, hj]
      rw [Option.getD_some, urgency]
      rfl
    have block : (s.dropDeclaration w).submitJob w b =
        (((s.dropDeclaration w).placed w k j coming).reportJob w k,
          accepted (.submitted k j.unitFare j.value (pr == .urgent && !s.grants[w].urgent) coming)) := by
      have formOf_ : f = j.form := by rw [hj]
      rw [taken, State.placeJob]
      dsimp only
      rw [s.dropDeclaration_form, job, degraded, formOf_]
      rfl
    have run := exec_abandoning (.submitJob (.window w) tag (some b)) admits (congrArg some block)
      (fits := fits)
    obtain ⟨self, slots, form', forms, session, sessions, reserved, inUse, entries, told, moved⟩ :=
      State.placed_leaves (s := s.dropDeclaration w) (w := w) k j coming _ rfl
    have named : j.form = f := by rw [hj]
    rw [s.dropDeclaration_eligibleSomewhere] at told
    rw [named] at form' forms
    obtain ⟨answered, all⟩ := State.answered_moved (p := .window w) (k := .submitJob) (tag := tag)
      (all := [.receivers, .slots, .forms, .sessions, .journal, .lanes])
      (State.changesOnly_then (c := [.slots, .forms, .sessions, .journal, .lanes]) drop moved)
      (accepted (.submitted k j.unitFare j.value (pr == .urgent && !s.grants[w].urgent) coming))
    have answer := State.answerWith_frame (((s.dropDeclaration w).placed w k j coming).reportJob w k)
      (.window w) RequestKind.submitJob.byte tag
      (accepted (.submitted k j.unitFare j.value (pr == .urgent && !s.grants[w].urgent) coming))
    refine ⟨_, run, answered, (answer.slot w k).trans self,
      fun v i other => (answer.slot v i).trans (slots v i other), ?_,
      fun g other => (answer.form g).trans (forms g other), ?_,
      fun v other => (answer.session v).trans ((sessions v other).trans
        (s.dropDeclaration_otherSessions w v other)), answer.journalReserved.trans reserved,
      (answer .journal (by decide)).2.1.trans inUse, (answer .journal (by decide)).1.trans entries,
      State.lanesTold.before drop (told.after answer), all⟩
    · rw [answer.form, form']
      cases coming <;> rfl
    · rw [answer.session, session, s.dropDeclaration_session_self w]

end Sys2Proof.Machine
end

section
/-! SUPPORT. The declaration sequence and the cash-up result (09 R161 to R168), and the requests that abandon a
declaration (09 R166). -/

-- One proof at a time: the check's memory limit holds few threads.
set_option Elab.async false

namespace Sys2Proof.Machine

/-! ## What a request on a job leaves of its session (09 R166) -/

/-- A block refuses and leaves the state, or answers OK or WITHDRAWN and moves nothing of a session but
this window's reservations. -/
def State.worksFor (s : State) (w : Window) (r : State × Reply) : Prop :=
  r.1 = s ∨ (r.2.code ∈ [ResultCode.ok, .withdrawn] ∧ s.otherSessions r.1 w ∧
    ∃ n, r.1.session w = { s.session w with reserved := n })

section
variable {s : State} {w : Window}

theorem State.worksFor_refused (r : Reply) : s.worksFor w (s, r) := .inl rfl

theorem State.worksFor_of_frame {t : State} {r : Reply} {a : List Part} (h : s.changesOnly t a)
    (code : r.code ∈ [ResultCode.ok, .withdrawn]) (out : .sessions ∉ a := by decide) :
    s.worksFor w (t, r) :=
  .inr ⟨code, fun v _ => h.session v out, (s.session w).reserved, h.session w out⟩

theorem State.worksFor_onJob {n : Nat} {take : SlotId → Job → State → State × Reply}
    (h : ∀ k j, s.job w k = some j → s.worksFor w (take k j s)) : s.worksFor w (s.onJob w n take) := by
  unfold State.onJob
  split
  · exact s.worksFor_refused _
  · split
    · exact s.worksFor_refused _
    · next held =>
      split
      · exact h _ _ held
      · exact s.worksFor_refused _

theorem State.submitJob_worksFor (b : SubmitBody) : s.worksFor w (s.submitJob w b) := by
  unfold State.submitJob
  repeat' split
  case h_2.isFalse =>
    next k _ _ _ _ g _ _ _ _ =>
    obtain ⟨-, -, -, -, session, sessions, -⟩ :=
      s.placed_leaves (w := w) k (s.newJob w b g) g.coming _ rfl
    exact .inr ⟨List.mem_cons_self, sessions, _, session⟩
  all_goals exact s.worksFor_refused _

theorem State.supplyLines_worksFor (b : SupplyBody) : s.worksFor w (s.supplyLines w b) := by
  refine State.worksFor_onJob fun k j _ => ?_
  split_ifs
  · exact s.worksFor_refused _
  · exact s.worksFor_refused _
  · exact State.worksFor_of_frame (a := [.slots, .lanes]) (State.changesOnly_ite
      (State.changesOnly_then (s.mapJob_frame w k _) (State.reportEligible_frame _))
      (State.changesOnly_mono (s.mapJob_frame w k _))) List.mem_cons_self

theorem State.holdJob_worksFor (n : Nat) : s.worksFor w (s.holdJob w n) := by
  refine State.worksFor_onJob fun k j _ => ?_
  split
  case h_1 => exact State.worksFor_of_frame (s.mapJob_frame w k _) List.mem_cons_self
  all_goals exact s.worksFor_refused _

theorem State.releaseRequest_worksFor (n : Nat) : s.worksFor w (s.releaseRequest w n) := by
  refine State.worksFor_onJob fun k j _ => ?_
  repeat' split
  case h_1 => exact State.worksFor_of_frame (s.requeue_frame w k) List.mem_cons_self
  case h_2.isFalse => exact State.worksFor_of_frame (s.requeue_frame w k) List.mem_cons_self
  all_goals exact s.worksFor_refused _

theorem State.amendJob_worksFor (b : AmendBody) : s.worksFor w (s.amendJob w b) := by
  refine State.worksFor_onJob fun k j _ => ?_
  split
  case h_1 =>
    split
    · exact s.worksFor_refused _
    · exact State.worksFor_of_frame (s.mapJob_frame w k _) List.mem_cons_self
  all_goals exact s.worksFor_refused _

theorem State.withdrawJob_worksFor (n : Nat) : s.worksFor w (s.withdrawJob w n) := by
  refine State.worksFor_onJob fun k j held => ?_
  split
  case h_4 | h_5 | h_6 | h_7 | h_8 => exact s.worksFor_refused _
  all_goals
    obtain ⟨-, -, session, sessions, -⟩ := State.emptied_leaves held _ rfl
    have lowered := State.unbind_frame ((s.releaseJob w k).emptySlot w k) j.form j.generation
    exact .inr ⟨List.mem_cons_of_mem _ List.mem_cons_self, fun v other => (lowered.session v).trans (sessions v other), _,
      (lowered.session w).trans session⟩

end

section
variable {s : State} {w : Window} {tag : Byte} {k : RequestKind}

/-- A session written with no notice, as a request leaves it. -/
theorem exec_writesSession {c : Instr} {x : Session} {reply : Reply}
    (run : exec c s = .next ((s.setSession w x).answerWith (.window w) k.byte tag reply)) :
    ∃ t, exec c s = .next t ∧ s.answered t (.window w) k tag reply ∧ t.session w = x ∧
      s.otherSessions t w ∧ s.changesOnly t [.receivers, .sessions] := by
  obtain ⟨answered, moved⟩ := State.answered_moved (p := .window w) (k := k) (tag := tag)
    (all := [.receivers, .sessions]) (s.setSession_frame w x) reply
  have answer := State.answerWith_frame (s.setSession w x) (.window w) k.byte tag reply
  exact ⟨_, run, answered, (answer.session w).trans (s.setSession_session_self w x),
    fun v other => (answer.session v).trans (s.setSession_session_ne other x), moved⟩

/-- A session written with SESSION_CHANGE, as a request leaves it. -/
theorem exec_tellsSession {c : Instr} {x : Session} {reply : Reply} (run : exec c s =
      .next (((s.setSession w x).postSession w).answerWith (.window w) k.byte tag reply)) :
    ∃ t, exec c s = .next t ∧ s.answered t (.window w) k tag reply ∧ t.session w = x ∧
      s.otherSessions t w ∧ (s.queuesAfter t fun y => y.postSession w) ∧
      s.changesOnly t [.receivers, .queues, .sessions] := by
  obtain ⟨answered, self, rest, told, moved⟩ := State.setSession_answered (p := .window w)
    (tag := tag) s _ k reply x [] (s.changesOnly_refl _) (by decide) (fun _ _ => rfl) rfl
  exact ⟨_, run, answered, self, rest, told, State.changesOnly_mono moved⟩

/-! ## DECLARE_BEGIN (09 R161, R162) -/

theorem State.hasActiveJob_iff : s.hasActiveJob w = true ↔ ∃ k : SlotId, ∃ j ∈ s.job w k,
    j.state ∈ [JobState.queued, .held, .printing, .retryWait] := by
  simp only [State.hasActiveJob, List.any_eq_true]
  constructor
  · rintro ⟨k, -, active⟩
    cases held : s.job w k with
    | none => simp [held] at active
    | some j =>
      rw [held] at active
      exact ⟨k, j, held, j.isActive_iff.1 active⟩
  · rintro ⟨k, j, held, active⟩
    refine ⟨k, mem_allSlots k, ?_⟩
    rw [show s.job w k = some j from held]
    exact j.isActive_iff.2 active

/-- The first of DECLARE_BEGIN's checks that fails. -/
def State.beginCode (s : State) (w : Window) (n : Nat) : Option ResultCode :=
  if (s.session w).state = .none then some .noSession
  else if (s.session w).state = .declared then some .alreadyDeclared
  else if n < 1 ∨ 4 < n then some .badArgument
  else if (s.session w).state = .opened ∧ s.hasActiveJob w = true then some .jobsOutstanding
  else none

theorem State.declareBegin_of_code {n : Nat} {code : ResultCode} (h : s.beginCode w n = some code) :
    s.declareBegin w n = (s, refusal code) := by
  unfold State.beginCode at h
  unfold State.declareBegin
  cases state : (s.session w).state with
  | none | declared =>
    rw [state] at h
    cases h
    rfl
  | opened =>
    rw [state] at h
    rw [if_neg (by decide), if_neg (by decide)] at h
    split_ifs at h with out active
    · cases h
      exact if_pos out
    · cases h
      exact (if_neg out).trans (if_pos active.2)
  | declaring =>
    rw [state] at h
    rw [if_neg (by decide), if_neg (by decide)] at h
    split_ifs at h with out active
    · cases h
      exact if_pos out
    · exact absurd active.1 (by decide)

theorem State.declareBegin_restarted {n : Nat} (inside : ¬(n < 1 ∨ 4 < n))
    (declaring : (s.session w).state = .declaring) :
    s.declareBegin w n = (s.beginSequence w n, accepted (.declaring n)) := by
  unfold State.declareBegin
  rw [declaring]
  exact if_neg inside

theorem State.declareBegin_started {n : Nat} (inside : ¬(n < 1 ∨ 4 < n))
    (opened : (s.session w).state = .opened) (ended : ¬s.hasActiveJob w = true) :
    s.declareBegin w n = ((s.beginSequence w n).postSession w, accepted (.declaring n)) := by
  unfold State.declareBegin
  rw [opened]
  exact (if_neg inside).trans (if_neg ended)

/-! ## Requests of the sequence (09 Table 9.3) -/

/-- What a request of the sequence is refused with where no declaration is in progress. -/
def Session.sequenceCode (x : Session) : Option ResultCode :=
  match x.state, x.inProgress with
  | .none, _ => some .noSession
  | .opened, _ => some .noDeclaration
  | .declaring, Option.none => some .noDeclaration
  | .declaring, some _ => Option.none
  | .declared, _ => some .alreadyDeclared

theorem State.inSequence_of_code {take : DeclarationInProgress → State → State × Reply}
    {code : ResultCode} (h : (s.session w).sequenceCode = some code) :
    s.inSequence w take = (s, refusal code) := by
  unfold Session.sequenceCode at h
  unfold State.inSequence
  split at h <;> simp_all

theorem State.inSequence_of_declaring {take : DeclarationInProgress → State → State × Reply}
    {d : DeclarationInProgress} (declaring : (s.session w).state = .declaring)
    (progress : (s.session w).inProgress = some d) : s.inSequence w take = take d s := by
  unfold State.inSequence
  rw [declaring, progress]

end

/-! ## The cash-up result (07 R138 to R140; 09 R167, R168) -/

section
variable {α : Type}

theorem perTender_get (f : Tender → α) (t : Tender) : (perTender f).get t = f t := by
  cases t <;> rfl

/-- The amount of a tender an item names, no tender named twice. -/
theorem DeclarationInProgress.amount_of_item {d : DeclarationInProgress} {t : Tender} {n : Nat}
    (once : (d.items.map Prod.fst).Nodup) (item : (t, n) ∈ d.items) : d.amount t = ⟨n, true⟩ := by
  unfold DeclarationInProgress.amount
  cases found : d.items.find? fun i => i.1 == t with
  | none =>
    have other := List.find?_eq_none.1 found (t, n) item
    simp at other
  | some i =>
    have named : i.1 = t := by simpa using List.find?_some found
    have same : i = (t, n) := List.inj_on_of_nodup_map once (List.mem_of_find?_eq_some found) item named
    rw [same]

theorem DeclarationInProgress.amount_of_no_item {d : DeclarationInProgress} {t : Tender}
    (none_ : ∀ i ∈ d.items, i.1 ≠ t) : d.amount t = ⟨0, false⟩ := by
  unfold DeclarationInProgress.amount
  rw [List.find?_eq_none.2 fun i hi => by simpa using none_ i hi]

/-- The figures of one tender, by the session's flag and the variance against the tolerance. -/
theorem tenderResult_figures (expected declared tolerance : Nat) (sat : Bool) (v : Int)
    (hv : v = (declared : Int) - (expected : Int)) (r : TenderResult)
    (hr : r = tenderResult expected declared tolerance sat) :
    r.expected = expected ∧ r.declared = declared ∧ r.tolerance = tolerance ∧
      (sat = true → r.variance = none ∧ r.flag = false) ∧
      (sat = false → v.natAbs ≤ tolerance → r.variance = some (v, .within) ∧ r.flag = false) ∧
      (sat = false → (tolerance : Int) < v → r.variance = some (v, .over) ∧ r.flag = true) ∧
      (sat = false → v < -(tolerance : Int) → r.variance = some (v, .short) ∧ r.flag = true) := by
  have value : Machine.variance declared expected = v := hv.symm
  subst hr
  unfold tenderResult
  rw [value]
  cases sat with
  | true => exact ⟨rfl, rfl, rfl, fun _ => ⟨rfl, rfl⟩, (nomatch ·), (nomatch ·), (nomatch ·)⟩
  | false =>
    refine ⟨rfl, rfl, rfl, (nomatch ·), fun _ near => ?_, fun _ above => ?_, fun _ below => ?_⟩
    · have cls : classify v tolerance = .within := if_pos near
      simp [cls]
    · have cls : classify v tolerance = .over := (if_neg (by omega)).trans (if_pos (by omega))
      simp [cls]
    · have cls : classify v tolerance = .short := (if_neg (by omega)).trans (if_neg (by omega))
      simp [cls]

theorem resultState_unreconcilable_iff (sat : Bool) (x : PerTender TenderResult) (voids spoils : Bool) :
    resultState sat x voids spoils = .unreconcilable ↔ sat = true := by
  unfold resultState
  split_ifs <;> simp_all

theorem resultState_balanced_iff (sat : Bool) (x : PerTender TenderResult) (voids spoils : Bool) :
    resultState sat x voids spoils = .balanced ↔
      sat = false ∧ voids = false ∧ spoils = false ∧ ∀ t, (x.get t).flag = false := by
  have flags : (∀ t, (x.get t).flag = false) ↔ x.cash.flag = false ∧ x.card.flag = false ∧
      x.warrant.flag = false ∧ x.voucher.flag = false :=
    ⟨fun h => ⟨h .cash, h .card, h .warrant, h .voucher⟩, fun ⟨a, b, c, d⟩ t => by
      cases t <;> assumption⟩
  rw [flags]
  unfold resultState
  cases sat <;> cases voids <;> cases spoils <;> simp [and_assoc]

end

section
variable {s : State} {w : Window} {tag : Byte} {d : DeclarationInProgress}

/-- DECLARE_ITEM in a declaration in progress. -/
def State.takeItem (s : State) (w : Window) (b : ItemBody) (d : DeclarationInProgress) : State × Reply :=
  match b.tender with
  | none => (s, refusal .badArgument)
  | some t =>
    if 99999999 < b.amount then (s, refusal .badArgument)
    else if d.expected ≤ d.items.length then s.abandonSequence w
    else if d.items.any fun i => i.1 == t then s.abandonSequence w
    else (s.appendItem w d t b.amount, accepted (.items (d.items.length + 1) d.expected))

theorem State.declareItem_eq (b : ItemBody) (declaring : (s.session w).state = .declaring)
    (progress : (s.session w).inProgress = some d) : s.declareItem w b = s.takeItem w b d :=
  (State.inSequence_of_declaring declaring progress).trans rfl

theorem State.takeItem_bad {b : ItemBody} (bad : b.tender = none ∨ 99999999 < b.amount) :
    s.takeItem w b d = (s, refusal .badArgument) := by
  unfold State.takeItem
  cases tender : b.tender with
  | none => rfl
  | some t =>
    rw [tender] at bad
    exact if_pos (bad.resolve_left (by simp))

theorem State.takeItem_abandons {b : ItemBody} {tn : Tender} (tender : b.tender = some tn)
    (fits : b.amount ≤ 99999999) (tooMany : d.expected ≤ d.items.length ∨ ∃ i ∈ d.items, i.1 = tn) :
    s.takeItem w b d = s.abandonSequence w := by
  unfold State.takeItem
  rw [tender]
  refine (if_neg (Nat.not_lt.2 fits)).trans ?_
  by_cases full : d.expected ≤ d.items.length
  · exact if_pos full
  · exact (if_neg full).trans (if_pos (by simpa using tooMany.resolve_left full))

theorem State.takeItem_appends {b : ItemBody} {tn : Tender} (tender : b.tender = some tn)
    (fits : b.amount ≤ 99999999) (room : d.items.length < d.expected) (new : ∀ i ∈ d.items, i.1 ≠ tn) :
    s.takeItem w b d =
      (s.appendItem w d tn b.amount, accepted (.items (d.items.length + 1) d.expected)) := by
  unfold State.takeItem
  rw [tender]
  exact (if_neg (Nat.not_lt.2 fits)).trans ((if_neg (Nat.not_le.2 room)).trans
    (if_neg (by simpa using fun n mem => new (tn, n) mem rfl)))

/-- DECLARE_CONFIRM in a declaration in progress. -/
def State.takeConfirm (s : State) (w : Window) (b : ConfirmBody) (d : DeclarationInProgress) :
    State × Reply :=
  if 4096 < b.voids ∨ 4096 < b.spoils then (s, refusal .badArgument)
  else if d.items.length < d.expected then s.abandonSequence w
  else s.confirm w d b

theorem State.declareConfirm_eq (b : ConfirmBody) (declaring : (s.session w).state = .declaring)
    (progress : (s.session w).inProgress = some d) : s.declareConfirm w b = s.takeConfirm w b d :=
  (State.inSequence_of_declaring declaring progress).trans rfl

/-- The sequence abandoned by its own request. -/
theorem exec_abandons {c : Instr} {k : RequestKind} (run : exec c s =
      .next ((s.abandonSequence w).1.answerWith (.window w) k.byte tag (s.abandonSequence w).2)) :
    ∃ t, exec c s = .next t ∧ s.answered t (.window w) k tag (refusal .declarationAbandoned) ∧
      t.session w = { s.session w with inProgress := none } ∧ s.otherSessions t w ∧
      s.changesOnly t [.receivers, .sessions] := exec_writesSession run

end

section
variable (x : Session) (d : Declaration) (tolerances : PerTender Nat) (at_ : Stamp)

theorem Session.expectedAmount_eq (t : Tender) : x.expectedAmount t =
    if t = .cash then min (x.issued.get .cash - x.voided.get .cash + x.float) 2147483647
    else x.issued.get t - x.voided.get t := rfl

/-- The figures of a tender in a confirmation's result. -/
theorem Session.cashUp_tenders (t : Tender) : ((x.cashUp d tolerances at_).tenders).get t =
    tenderResult (x.expectedAmount t) (d.amounts.get t).amount (tolerances.get t) x.saturatedAfter :=
  perTender_get _ t

theorem Session.cashUp_voidsDiffer_iff :
    (x.cashUp d tolerances at_).voidsDiffer = true ↔ d.voids ≠ x.voidedCount := bne_iff_ne

theorem Session.cashUp_spoilsDiffer_iff :
    (x.cashUp d tolerances at_).spoilsDiffer = true ↔ d.spoils ≠ x.spoiledCount := bne_iff_ne

theorem Session.cashUp_balanced_iff : (x.cashUp d tolerances at_).state = .balanced ↔
    x.saturatedAfter = false ∧ d.voids = x.voidedCount ∧ d.spoils = x.spoiledCount ∧
      ∀ t, ((x.cashUp d tolerances at_).tenders.get t).flag = false := by
  refine (resultState_balanced_iff _ _ _ _).trans ?_
  rw [bne_eq_false_iff_eq, bne_eq_false_iff_eq]
  rfl

end

/-! ## The requests that abandon a declaration (09 R166) -/

/-- What a request that abandons a declaration leaves, whatever it is answered. -/
def State.abandonedBy (s t : State) (w : Window) (k : RequestKind) (a : Reply) : Prop :=
  (t.session w).inProgress = none ∧ s.otherSessions t w ∧
    (k ≠ .openSession → (t.session w).state = (s.session w).state) ∧
    (k = .openSession → (s.session w).state ≠ .none → a = refusal .sessionExists) ∧
    (k = .submitJob → (s.session w).state = .declaring → a = refusal .sessionDeclaring) ∧
    (a.code ∉ [ResultCode.ok, .withdrawn] →
      t.session w = { s.session w with inProgress := none } ∧
        s.changesOnly t [.receivers, .sessions])

section
variable {s : State} {w : Window} {tag : Byte} {k : RequestKind} {r : State × Reply}

theorem State.refused_abandonedBy
    (opens : k = .openSession → (s.session w).state ≠ .none → r.2 = refusal .sessionExists)
    (submits : k = .submitJob → (s.session w).state = .declaring → r.2 = refusal .sessionDeclaring)
    (refused : r.1 = s.dropDeclaration w) :
    s.abandonedBy (r.1.answerWith (.window w) k.byte tag r.2) w k r.2 := by
  have answer := State.answerWith_frame (s.dropDeclaration w) (.window w) k.byte tag r.2
  have self := s.dropDeclaration_session_self w
  unfold State.abandonedBy
  rw [refused, answer.session, self]
  exact ⟨rfl, fun v other => (answer.session v).trans (s.dropDeclaration_otherSessions w v other),
    fun _ => rfl, opens, submits, fun _ => ⟨rfl, State.changesOnly_then (s.dropDeclaration_frame w) answer⟩⟩

theorem State.worked_abandonedBy (job : k ≠ .openSession)
    (submits : k = .submitJob → (s.session w).state = .declaring → r.2 = refusal .sessionDeclaring)
    (works : (s.dropDeclaration w).worksFor w r) :
    s.abandonedBy (r.1.answerWith (.window w) k.byte tag r.2) w k r.2 := by
  rcases works with refused | ⟨code, others, n, session⟩
  · exact State.refused_abandonedBy (fun h => absurd h job) submits refused
  · have answer := State.answerWith_frame r.1 (.window w) k.byte tag r.2
    unfold State.abandonedBy
    rw [answer.session, session, s.dropDeclaration_session_self w]
    exact ⟨rfl, fun v other => (answer.session v).trans ((others v other).trans
      (s.dropDeclaration_otherSessions w v other)), fun _ => rfl, fun h => absurd h job, submits,
      fun h => absurd code h⟩

theorem State.opened_abandonedBy (b : OpenBody) (hr : r = (s.dropDeclaration w).openSession w b) :
    s.abandonedBy (r.1.answerWith (.window w) RequestKind.openSession.byte tag r.2) w .openSession r.2 := by
  subst hr
  cases refused : s.openCode w b with
  | some code =>
    have block := State.openSession_of_code refused
    rw [block]
    refine State.refused_abandonedBy (r := (s.dropDeclaration w, refusal code)) (fun _ exists_ => ?_)
      (nomatch ·) rfl
    unfold State.openCode at refused
    rw [if_pos exists_] at refused
    cases refused
    rfl
  | none =>
    unfold State.openCode at refused
    split_ifs at refused with exists_ bad
    have free : (s.session w).state = .none := not_not.1 exists_
    rw [State.openSession_taken free (fun h => bad (.inl h)) (Nat.not_lt.1 fun h => bad (.inr h))]
    obtain ⟨-, self, others, -⟩ := State.setSession_answered (p := .window w) (tag := tag)
      (s.dropDeclaration w) _ .openSession (accepted (.opened (s.dropDeclaration w).clockStamp))
      (Session.openedWith b (s.dropDeclaration w).clockStamp) [.sessions] (s.dropDeclaration_frame w)
      (by decide) (s.dropDeclaration_otherSessions w) rfl
    exact ⟨congrArg Session.inProgress self, others, fun h => absurd rfl h, fun _ h => absurd free h,
      (nomatch ·), fun h => absurd List.mem_cons_self h⟩

theorem State.submitJob_declaring (b : SubmitBody) (declaring : (s.session w).state = .declaring) :
    (s.dropDeclaration w).submitJob w b = (s.dropDeclaration w, refusal .sessionDeclaring) := by
  unfold State.submitJob
  rw [s.dropDeclaration_session_self w, declaring]

/-- The block of a request that abandons a declaration. -/
theorem blockOf_abandonedBy {c : Instr} (request : requestOf c = some (.window w, k, tag))
    (member : k ∈ [RequestKind.openSession, .submitJob, .supplyLines, .holdJob, .amendJob, .releaseJob,
      .withdrawJob]) (hr : blockOf c (s.dropDeclaration w) = some r) :
    s.abandonedBy (r.1.answerWith (.window w) k.byte tag r.2) w k r.2 := by
  cases c with
  | openSession p g body =>
    cases request
    obtain ⟨b, rfl, rfl⟩ := Option.map_eq_some_iff.1 hr
    exact State.opened_abandonedBy b rfl
  | submitJob p g body =>
    cases request
    obtain ⟨b, rfl, rfl⟩ := Option.map_eq_some_iff.1 hr
    exact State.worked_abandonedBy (by decide)
      (fun _ declaring => congrArg Prod.snd (State.submitJob_declaring b declaring))
      (State.submitJob_worksFor b)
  | supplyLines p g body =>
    cases request
    obtain ⟨b, rfl, rfl⟩ := Option.map_eq_some_iff.1 hr
    exact State.worked_abandonedBy (by decide) (nomatch ·) (State.supplyLines_worksFor b)
  | holdJob p g body =>
    cases request
    obtain ⟨b, rfl, rfl⟩ := Option.map_eq_some_iff.1 hr
    exact State.worked_abandonedBy (by decide) (nomatch ·) (State.holdJob_worksFor b)
  | amendJob p g body =>
    cases request
    obtain ⟨b, rfl, rfl⟩ := Option.map_eq_some_iff.1 hr
    exact State.worked_abandonedBy (by decide) (nomatch ·) (State.amendJob_worksFor b)
  | releaseJob p g body =>
    cases request
    obtain ⟨b, rfl, rfl⟩ := Option.map_eq_some_iff.1 hr
    exact State.worked_abandonedBy (by decide) (nomatch ·) (State.releaseRequest_worksFor b)
  | withdrawJob p g body =>
    cases request
    obtain ⟨b, rfl, rfl⟩ := Option.map_eq_some_iff.1 hr
    exact State.worked_abandonedBy (by decide) (nomatch ·) (State.withdrawJob_worksFor b)
  | _ => cases request <;> exact absurd member (by decide)

theorem blockOf_isSome_of_fits {c : Instr} (s : State) (request : requestOf c = some (.window w, k, tag))
    (member : k ∈ [RequestKind.openSession, .submitJob, .supplyLines, .holdJob, .amendJob, .releaseJob,
      .withdrawJob]) (fits : bodyFits c = true) :
    k.abandons = true ∧ namesOtherWindow c = false ∧ ∃ r, blockOf c s = some r := by
  cases c with
  | openSession p g body | submitJob p g body | supplyLines p g body | holdJob p g body
  | amendJob p g body | releaseJob p g body | withdrawJob p g body =>
    cases request
    cases body with
    | none => cases fits
    | some b => exact ⟨rfl, rfl, _, rfl⟩
  | _ => cases request <;> exact absurd member (by decide)

end

/-- Settles O53: a request on a job works for its session by `State.worksFor`; each request of the
sequence by the session's state and by the declaration in progress. -/
theorem declarationSequenceAndResult : Obligations.DeclarationSequenceAndResult := by
  unfold Obligations.DeclarationSequenceAndResult
  rintro s w tag x rfl
  refine ⟨?_, fun admits n => ⟨fun code refused => ?_, fun low high free => ?_⟩, ?_,
    fun d declaring progress => ⟨fun admits b => ⟨fun bad => ?_, fun tn tender fits =>
      ⟨fun tooMany => ?_, fun room new => ?_⟩⟩, fun admits b => ⟨fun bad => ?_, fun voids spoils few => ?_,
      ?_⟩⟩⟩
  · intro c k request member admits fits
    obtain ⟨abandons, own, r, block⟩ := blockOf_isSome_of_fits (s.dropDeclaration w) request member fits
    have run := exec_abandoning c admits block fits request abandons own
    have kept : s.same r.1 .receivers := State.same_trans
      (s.dropDeclaration_frame w .receivers (by decide))
      (blockOf_frame request block .receivers (by cases k <;> decide))
    exact ⟨_, r.2, run, State.answered_answerWith _ _ _ kept _, blockOf_abandonedBy request member block⟩
  · have held : s.beginCode w n = some code := by
      rw [← refused]
      unfold State.beginCode
      simp only [State.hasActiveJob_iff]
    exact exec_unmoved (exec_plain (.declareBegin (.window w) tag (some n)) admits
      (congrArg some (State.declareBegin_of_code held)))
  · have inside : ¬(n < 1 ∨ 4 < n) := by omega
    rcases free with declaring | ⟨opened, ended⟩
    · obtain ⟨t, run, answered, self, others, moved⟩ := exec_writesSession
        (exec_plain (.declareBegin (.window w) tag (some n)) admits
          (congrArg some (State.declareBegin_restarted inside declaring)))
      refine ⟨t, run, answered, self, others, fun q => ?_, State.changesOnly_mono moved⟩
      dsimp only
      rw [if_neg (by rw [declaring]; decide)]
      exact moved .queues (by decide) q
    · have none_ : ¬s.hasActiveJob w = true := fun active => by
        obtain ⟨k, j, held, state⟩ := State.hasActiveJob_iff.1 active
        have tooMany := ended k j held
        cases st : j.state <;> simp_all
      obtain ⟨t, run, answered, self, others, told, moved⟩ := exec_tellsSession
        (exec_plain (.declareBegin (.window w) tag (some n)) admits
          (congrArg some (State.declareBegin_started inside opened none_)))
      refine ⟨t, run, answered, self, others, fun q => ?_, moved⟩
      dsimp only
      rw [if_pos opened]
      exact told q
  · rintro k c (⟨b, rfl, rfl⟩ | ⟨b, rfl, rfl⟩) admits code refused
    · have block : s.declareItem w b = (s, refusal code) := State.inSequence_of_code refused
      exact exec_unmoved (exec_plain (.declareItem (.window w) tag (some b)) admits (congrArg some block))
    · have block : s.declareConfirm w b = (s, refusal code) := State.inSequence_of_code refused
      exact exec_unmoved (exec_plain (.declareConfirm (.window w) tag (some b)) admits
        (congrArg some block))
  · exact exec_unmoved (exec_plain (.declareItem (.window w) tag (some b)) admits
      (congrArg some ((State.declareItem_eq b declaring progress).trans (State.takeItem_bad bad))))
  · exact exec_abandons (exec_plain (.declareItem (.window w) tag (some b)) admits (congrArg some
      ((State.declareItem_eq b declaring progress).trans (State.takeItem_abandons tender fits tooMany))))
  · exact exec_writesSession (exec_plain (.declareItem (.window w) tag (some b)) admits (congrArg some
      ((State.declareItem_eq b declaring progress).trans (State.takeItem_appends tender fits room new))))
  · exact exec_unmoved (exec_plain (.declareConfirm (.window w) tag (some b)) admits
      (congrArg some ((State.declareConfirm_eq b declaring progress).trans (if_pos bad))))
  · exact exec_abandons (exec_plain (.declareConfirm (.window w) tag (some b)) admits (congrArg some
      ((State.declareConfirm_eq b declaring progress).trans
        ((if_neg (by omega)).trans (if_pos few)))))
  · intro takings expected declared tol sat voids spoils enough once htak hexp hsat hitem hnone htol
    obtain ⟨t, run, answered, self, others, told, moved⟩ := exec_tellsSession
      (exec_plain (.declareConfirm (.window w) tag (some b)) admits (congrArg some
        ((State.declareConfirm_eq b declaring progress).trans
          ((if_neg (by omega)).trans (if_neg (by omega))))))
    have saturated : (s.session w).saturatedAfter = sat := by
      rw [hsat, htak .cash]
      rfl
    have amounts : ∀ tn, (d.amount tn).amount = declared tn ∧
        ((d.amount tn).declared = true ↔ ∃ i ∈ d.items, i.1 = tn) := fun tn => by
      by_cases named : ∃ i ∈ d.items, i.1 = tn
      · obtain ⟨⟨_, n⟩, mem, rfl⟩ := id named
        rw [DeclarationInProgress.amount_of_item once mem]
        exact ⟨(hitem _ n mem).symm, fun _ => named, fun _ => rfl⟩
      · have none_ : ∀ i ∈ d.items, i.1 ≠ tn := fun i hi same => named ⟨i, hi, same⟩
        rw [DeclarationInProgress.amount_of_no_item none_]
        exact ⟨(hnone tn none_).symm, (nomatch ·), fun h => absurd h named⟩
    have expects : ∀ tn, (s.session w).expectedAmount tn = expected tn := fun tn => by
      rw [hexp tn, Session.expectedAmount_eq, htak .cash, htak tn]
    refine ⟨t, (s.session w).cashUp (d.declaration b) s.limits.tolerances s.stamp, d.declaration b, run,
      answered, ?_, others, fun tn => ?_, rfl, rfl, fun tn v hv => ?_, rfl, rfl, rfl, rfl,
      Session.cashUp_voidsDiffer_iff _ _ _ _, Session.cashUp_spoilsDiffer_iff _ _ _ _, ?_, ?_, saturated,
      rfl, rfl, told, moved⟩
    · rw [self, ← saturated]
      rfl
    · have named : (d.declaration b).amounts.get tn = d.amount tn := perTender_get _ tn
      rw [named]
      exact amounts tn
    · refine tenderResult_figures _ _ _ sat v hv _ ?_
      have named : (d.declaration b).amounts.get tn = d.amount tn := perTender_get _ tn
      rw [Session.cashUp_tenders, expects, named, (amounts tn).1, htol tn, saturated]
    · rw [← saturated]
      exact resultState_unreconcilable_iff _ _ _ _
    · rw [← saturated]
      exact Session.cashUp_balanced_iff _ _ _ _

end Sys2Proof.Machine
end

section
/-! SUPPORT. A mark moved and an entry written (05 R93; 08 R145, R151), by what each leaves of a pack, a session
and a queue; and VOID_TICKET (08 R154 to R157). -/

-- One proof at a time: the check's memory limit holds few threads.
set_option Elab.async false

namespace Sys2Proof.Machine

/-! ## A notice posted twice -/

/-- A second posting of a notice finds the first in its place (01 R11). -/
theorem coalesce_coalesce (q : List Notice) (n : Notice) : coalesce (coalesce q n) n = coalesce q n := by
  unfold coalesce
  by_cases held : q.any (fun m => m.object == n.object) = true
  · rw [if_pos held]
    have held' : (q.map fun m => if m.object = n.object then n else m).any
        (fun m => m.object == n.object) = true := by
      obtain ⟨m, hm, same⟩ := List.any_eq_true.1 held
      exact List.any_eq_true.2 ⟨n, List.mem_map.2 ⟨m, hm, if_pos (eq_of_beq same)⟩, beq_self_eq_true _⟩
    rw [if_pos held', List.map_map]
    refine List.map_congr_left fun m _ => ?_
    simp only [Function.comp_apply]
    split_ifs <;> simp_all
  · rw [if_neg held]
    have held' : (q ++ [n]).any (fun m => m.object == n.object) = true := by simp
    rw [if_pos held', List.map_append]
    congr 1
    · refine (List.map_congr_left fun m hm => if_neg fun same => held ?_).trans (List.map_id q)
      exact List.any_eq_true.2 ⟨m, hm, beq_iff_eq.2 same⟩
    · simp

section
variable (s : State)

/-- STOCK_CHANGE posted twice is posted once. -/
theorem State.postStock_twice (q : Port) :
    (s.postStock.postStock.port q).queue = (s.postStock.port q).queue := by
  cases q with
  | office =>
    rw [State.postStock, State.postStock, State.postOffice_queue, State.postOffice_queue,
      coalesce_coalesce]
  | window w =>
    rw [State.postStock, State.postStock, State.postOffice_queue_window]

end

/-- Every change of a pack posts STOCK_CHANGE (05 R94). -/
theorem State.updatePack_posts (s : State) (n : Nat) (f : Pack → Pack) :
    s.queuesAfter (s.updatePack n f) State.postStock :=
  State.queuesAfter_postOffice (t := { s with packs := s.packs.map fun p => if p.number = n then f p else p })
    (fun q => by cases q <;> rfl) _ _

/-! ## A mark moved (05 R93) -/

section
variable {s : State} {p : Pack} {n : Nat} {old new : Mark}

theorem State.changeMark_eq {cls : Nat} (found : s.packOf cls n = some p) (held : p.markOf n = some old)
    (edge : markEdge old new = true) : s.changeMark cls n new = s.remark p n old new := by
  unfold State.changeMark
  rw [found]
  dsimp only
  rw [held]
  exact if_pos edge

theorem State.remark_packs : (s.remark p n old new).packs =
    s.packs.map fun q => if q.number = p.number then q.remark n old new else q := by
  have low := State.stockLow_frame (s.updatePack p.number fun q => q.remark n old new) p
    (p.remark n old new)
  exact (low .packs (by decide)).trans (s.updatePack_packs _ _)

theorem State.remark_findPack (m : Nat) : (s.remark p n old new).findPack m =
    (s.findPack m).map fun q => if q.number = p.number then q.remark n old new else q :=
  State.findPack_map State.remark_packs (fun q _ => by split_ifs <;> rfl) m

/-- The pack a mark moves in, and the others. -/
theorem State.remark_pack (found : s.findPack p.number = some p) :
    (s.remark p n old new).findPack p.number = some (p.remark n old new) ∧
      s.otherPacks (s.remark p n old new) p.number := by
  refine ⟨?_, fun m other => ?_⟩
  · rw [State.remark_findPack, found, Option.map_some, if_pos rfl]
  · rw [State.remark_findPack]
    cases held : s.findPack m with
    | none => rfl
    | some q =>
      have number := (State.mem_of_findPack held).2
      rw [Option.map_some, if_neg (number ▸ other)]

/-- No stock-low posting where the remaining count does not fall (05 R112). -/
theorem State.remark_tells (stands : (p.remark n old new).remaining = p.remaining) :
    s.queuesAfter (s.remark p n old new) State.postStock := by
  have fell : p.fellLow (p.remark n old new) s.limits.stockLow = false := by
    rw [Pack.fellLow, stands]
    simp only [Bool.and_eq_false_iff, decide_eq_false_iff_not]
    omega
  have limits : (s.updatePack p.number fun q => q.remark n old new).limits = s.limits :=
    s.updatePack_frame p.number _ .limits (by decide)
  have quiet : (s.updatePack p.number fun q => q.remark n old new).stockLow p (p.remark n old new) =
      s.updatePack p.number fun q => q.remark n old new := by
    unfold State.stockLow
    cases p.lane with
    | none => rfl
    | some l =>
      dsimp only
      rw [limits, fell]
      rfl
  intro q
  have ported : (s.remark p n old new).port q =
      ((s.updatePack p.number fun q => q.remark n old new).stockLow p (p.remark n old new)).port q :=
    State.port_ext _ rfl rfl
  rw [ported, quiet]
  exact s.updatePack_posts _ _ q

end

/-! ## An entry written (08 R145, R151) -/

section
variable (s : State) (w : Window) (d : EntryData)

theorem State.writeEntry_findPack (m : Nat) : (s.writeEntry w d).findPack m =
    (s.findPack m).map fun p =>
      if p.number = d.pack then { p with references := p.references + 1 } else p :=
  State.findPack_map (s.writeEntry_packs w d) (fun p _ => by split_ifs <;> rfl) m

theorem State.writeEntry_pack {p : Pack} (found : s.findPack d.pack = some p) :
    (s.writeEntry w d).findPack d.pack = some { p with references := p.references + 1 } ∧
      s.otherPacks (s.writeEntry w d) d.pack := by
  refine ⟨?_, fun m other => ?_⟩
  · rw [State.writeEntry_findPack, found, Option.map_some, if_pos (State.mem_of_findPack found).2]
  · rw [State.writeEntry_findPack]
    cases held : s.findPack m with
    | none => rfl
    | some q =>
      have number := (State.mem_of_findPack held).2
      rw [Option.map_some, if_neg (number ▸ other)]

/-- The state an entry is written in, its notices apart. -/
def State.entered : State :=
  { s.setSession w ((s.session w).withEntry d) with
    journal := s.journal ++ [s.entryFor w d]
    journalInUse := s.journalInUse + 1 }

theorem State.writeEntry_session : (s.writeEntry w d).session w = (s.session w).withEntry d ∧
    s.otherSessions (s.writeEntry w d) w := by
  have rest := State.changesOnly_then (c := [.packs, .queues])
    (State.updatePack_frame (s.entered w d) d.pack fun p => { p with references := p.references + 1 })
    (State.postSession_frame _ w)
  refine ⟨(rest.session w).trans (s.setSession_session_self w _),
    fun v other => (rest.session v).trans (s.setSession_session_ne other _)⟩

theorem State.writeEntry_reserved : (s.writeEntry w d).journalReserved = s.journalReserved := by
  have rest := State.changesOnly_then (c := [.packs, .queues])
    (State.updatePack_frame (s.entered w d) d.pack fun p => { p with references := p.references + 1 })
    (State.postSession_frame _ w)
  exact rest.journalReserved

theorem State.writeEntry_posts : s.queuesAfter (s.writeEntry w d) fun x => x.postStock.postSession w := by
  refine State.queuesAfter_thenSession (u := (s.entered w d).updatePack d.pack
    fun p => { p with references := p.references + 1 }) ?_ fun q => rfl
  have entered : ∀ q, ((s.entered w d).port q).queue = (s.port q).queue := fun q => by cases q <;> rfl
  intro q
  rw [State.updatePack_posts]
  exact State.queuesAfter_postOffice entered _ _ q

end

/-! ## VOID_TICKET (08 R154 to R157) -/

section
variable {s : State} {w : Window} {b : VoidBody}

/-- The ISSUE entry of a blank, outside its window's reach or within it (08 R154 steps 6 and 7). -/
def State.voidEntryCode (s : State) (e : JournalEntry) : Option ResultCode :=
  if e.beforePowerOn = true ∨ 10 * s.limits.voidWindow < (s.runTime - e.stamp.run).toNat then
    some .voidWindowPassed
  else if s.journalInUse + s.journalReserved < 4096 then none
  else some .journalFull

/-- The first of R154's checks that fails in an OPEN session (08). -/
def State.voidCode (s : State) (w : Window) (b : VoidBody) : Option ResultCode :=
  if 3 < b.cls ∨ b.serial < 1 ∨ 9999999 < b.serial then some .badArgument
  else match s.packOf b.cls b.serial with
    | none => some .unknownBlank
    | some k => match k.markOf b.serial with
      | none => some .unknownBlank
      | some .voided =>
        if ∃ x ∈ s.journal, x.window ≠ w ∧ x.data.kind = .issue ∧ x.data.cls = b.cls ∧
            x.data.serial = b.serial then some .notYours
        else some .alreadyVoided
      | some .issued => match (s.entriesOf w).find? fun e => e.data.kind == .issue &&
          e.data.cls == b.cls && e.data.serial == b.serial with
        | none => some .notYours
        | some e => s.voidEntryCode e
      | some _ => some .notIssued

theorem State.outsideWindow_iff (e : JournalEntry) : s.outsideWindow e = true ↔
    e.beforePowerOn = true ∨ 10 * s.limits.voidWindow < (s.runTime - e.stamp.run).toNat := by
  simp only [State.outsideWindow, Bool.or_eq_true, decide_eq_true_eq]
  exact Iff.rfl

theorem State.journalFree_eq_zero_iff : s.journalFree = 0 ↔
    ¬s.journalInUse + s.journalReserved < 4096 := by
  unfold State.journalFree Config.journalSize
  omega

/-- Steps 5 to 7 of R154 (08): the entry's window and the journal's room. -/
theorem State.voidIssued_of_entry {e : JournalEntry} (entry : s.issueEntryOf w b.cls b.serial = some e) :
    s.voidIssued w b = match s.voidEntryCode e with
      | some code => (s, refusal code)
      | none => (s.takeVoid w e,
          accepted (.voided ((s.entriesOf w).length + 1) e.data.value e.data.tender)) := by
  unfold State.voidIssued State.voidEntryCode
  rw [entry]
  dsimp only
  by_cases out : s.outsideWindow e = true
  · rw [if_pos out, if_pos (s.outsideWindow_iff e |>.1 out)]
  · rw [if_neg out, if_neg fun h => out ((s.outsideWindow_iff e).2 h)]
    by_cases full : s.journalFree = 0
    · rw [if_pos full, if_neg (State.journalFree_eq_zero_iff.1 full)]
    · rw [if_neg full, if_pos (not_not.1 fun h => full (State.journalFree_eq_zero_iff.2 h))]

theorem State.voidOpen_of_code {code : ResultCode} (h : s.voidCode w b = some code) :
    s.voidOpen w b = (s, refusal code) := by
  unfold State.voidCode at h
  unfold State.voidOpen
  by_cases out : 3 < b.cls ∨ b.serial < 1 ∨ 9999999 < b.serial
  · rw [if_pos out] at h
    cases h
    exact if_pos out
  · rw [if_neg out] at h
    refine (if_neg out).trans ?_
    cases found : s.packOf b.cls b.serial with
    | none =>
      rw [found] at h
      cases h
      rfl
    | some k =>
      rw [found] at h
      dsimp only [Option.bind_some] at h ⊢
      cases held : k.markOf b.serial with
      | none =>
        rw [held] at h
        cases h
        rfl
      | some mark =>
        rw [held] at h
        cases mark with
        | voided =>
          dsimp only at h ⊢
          by_cases elsewhere : s.issuedElsewhere w b.cls b.serial = true
          · rw [if_pos ((s.issuedElsewhere_iff w _ _).1 elsewhere)] at h
            cases h
            rw [if_pos elsewhere]
          · rw [if_neg fun e => elsewhere ((s.issuedElsewhere_iff w _ _).2 e)] at h
            cases h
            rw [if_neg elsewhere]
        | issued =>
          dsimp only at h ⊢
          cases entry : s.issueEntryOf w b.cls b.serial with
          | none =>
            rw [State.voidIssued, entry]
            rw [State.issueEntryOf] at entry
            rw [entry] at h
            cases h
            rfl
          | some e =>
            rw [State.voidIssued_of_entry entry]
            rw [State.issueEntryOf] at entry
            rw [entry] at h
            dsimp only at h
            rw [h]
        | _ =>
          cases h
          rfl

theorem State.voidCode_ne (h : s.voidCode w b = some .declarationAbandoned) : False := by
  unfold State.voidCode State.voidEntryCode at h
  repeat' split at h
  all_goals cases h

/-- A taken void passes every check. -/
theorem State.voidOpen_taken {k : Pack} {e : JournalEntry} (cls : b.cls ≤ 3) (low : 1 ≤ b.serial)
    (high : b.serial ≤ 9999999) (found : s.packOf b.cls b.serial = some k)
    (held : k.markOf b.serial = some .issued) (entry : s.issueEntryOf w b.cls b.serial = some e)
    (passes : s.voidEntryCode e = none) : s.voidOpen w b = (s.takeVoid w e,
      accepted (.voided ((s.entriesOf w).length + 1) e.data.value e.data.tender)) := by
  have inside : ¬(3 < b.cls ∨ b.serial < 1 ∨ Config.maxSerial < b.serial) := by
    have limit : Config.maxSerial = 9999999 := rfl
    omega
  unfold State.voidOpen
  rw [if_neg inside, found]
  dsimp only [Option.bind_some]
  rw [held]
  dsimp only
  rw [State.voidIssued_of_entry entry, passes]

/-- The one ISSUE entry of a blank in the session is the one found (08 R154 step 5). -/
theorem State.issueEntryOf_eq {e : JournalEntry} (mem : e ∈ s.entriesOf w) (kind : e.data.kind = .issue)
    (cls : e.data.cls = b.cls) (serial : e.data.serial = b.serial)
    (only : ∀ x ∈ s.entriesOf w, x.data.kind = .issue → x.data.cls = b.cls →
      x.data.serial = b.serial → x = e) : s.issueEntryOf w b.cls b.serial = some e := by
  unfold State.issueEntryOf
  cases found : (s.entriesOf w).find? fun e =>
      e.data.kind == .issue && e.data.cls == b.cls && e.data.serial == b.serial with
  | none =>
    have other := List.find?_eq_none.1 found e mem
    simp [kind, cls, serial] at other
  | some x =>
    have named := List.find?_some found
    simp only [Bool.and_eq_true, beq_iff_eq] at named
    obtain ⟨⟨kind', cls'⟩, serial'⟩ := named
    rw [only x (List.mem_of_find?_eq_some found) kind' cls' serial']

/-- What a taken void leaves (08 R156). -/
theorem State.takeVoid_leaves {k : Pack} {e : JournalEntry} {tn : Tender} (t : State)
    (ht : t = s.takeVoid w e) (cls : e.data.cls = b.cls) (serial : e.data.serial = b.serial)
    (pack : e.data.pack = k.number) (tender : e.data.tender = some tn)
    (found : s.packOf b.cls b.serial = some k) (numbered : s.findPack k.number = some k)
    (held : k.markOf b.serial = some .issued) :
    t.findPack k.number = some
        { k.remark b.serial .issued .voided with references := k.references + 1 } ∧
      s.otherPacks t k.number ∧
      t.journal = s.journal ++ [⟨w, (s.entriesOf w).length + 1, { e.data with kind := .void }, s.stamp,
        false⟩] ∧ t.journalInUse = s.journalInUse + 1 ∧ t.journalReserved = s.journalReserved ∧
      t.session w = (s.session w).withEntry { e.data with kind := .void } ∧ s.otherSessions t w ∧
      (s.queuesAfter t fun x => x.postStock.postSession w) ∧
      s.changesOnly t [.sessions, .journal, .packs, .queues, .census] := by
  have frame := s.takeVoid_frame (w := w) e
  rw [← ht] at frame
  rw [State.takeVoid, cls, serial, State.changeMark_eq found held (by rfl)] at ht
  obtain ⟨u, hu⟩ : ∃ u, u = s.remark k b.serial .issued .voided := ⟨_, rfl⟩
  rw [← hu] at ht
  have moved : s.changesOnly u [.packs, .queues, .census] := hu ▸ s.remark_frame k _ _ _
  obtain ⟨self, others⟩ := State.remark_pack (n := b.serial) (old := .issued) (new := .voided) numbered
  have posted := State.remark_tells (s := s) (p := k) (n := b.serial) (old := .issued) (new := .voided) rfl
  rw [← hu] at self others posted
  obtain ⟨self', others'⟩ := u.writeEntry_pack w { e.data with kind := .void }
    (p := k.remark b.serial .issued .voided) (pack ▸ self)
  obtain ⟨journal, inUse⟩ := u.writeEntry_journal w { e.data with kind := .void }
  obtain ⟨session, sessions⟩ := u.writeEntry_session w { e.data with kind := .void }
  have reserved := u.writeEntry_reserved w { e.data with kind := .void }
  have told := u.writeEntry_posts w { e.data with kind := .void }
  rw [← ht] at self' others' journal inUse session sessions reserved told
  obtain ⟨journal', inUse', reserved'⟩ := moved .journal (by decide)
  refine ⟨pack ▸ self', fun m other => (others' m (pack ▸ other)).trans (others m other), ?_,
    inUse.trans (congrArg (· + 1) inUse'), reserved.trans reserved', ?_,
    fun v other => (sessions v other).trans (moved.session v), fun q => ?_, frame⟩
  · have entries : u.entriesOf w = s.entriesOf w := congrArg (List.filter fun e : JournalEntry => e.window == w) journal'
    have stamp : u.stamp = s.stamp := by
      rw [State.stamp, State.stamp, State.clockStamp, State.clockStamp, moved .runTime (by decide),
        moved .clock (by decide)]
    rw [journal, journal', State.entryFor, entries, stamp]
  · rw [session, moved.session]
  · rw [told q, State.postSession_queue, State.postSession_queue]
    have once : (u.postStock.port q).queue = (s.postStock.port q).queue := by
      refine (State.queuesAfter_postOffice (t := u) (s := s.postStock) posted _ _ q).trans ?_
      exact s.postStock_twice q
    rw [once]

end

/-- Settles O52: a refusal is the first check that fails, by the session's state and then by
`State.voidCode`; a taken void is the mark and the entry of `State.takeVoid`. -/
theorem voidTicketGivesTheFareBack : Obligations.VoidTicketGivesTheFareBack := by
  unfold Obligations.VoidTicketGivesTheFareBack
  intro s w tag b admits
  refine ⟨fun code refused => ?_, ?_⟩
  · have unmoved : s.voidTicket w b = (s, refusal code) → code ≠ .declarationAbandoned →
        ∃ t, exec (.voidTicket (.window w) tag (some b)) s = .next t ∧
          s.answered t (.window w) .voidTicket tag (refusal code) ∧ s.refusedAt t (.window w) ∧
          (code = .declarationAbandoned → (t.session w).inProgress = none) := fun block other => by
      obtain ⟨answered, -⟩ := State.answered_same (s := s) (p := .window w) (k := .voidTicket)
        (tag := tag) (refusal code)
      exact ⟨_, exec_plain (.voidTicket (.window w) tag (some b)) admits (congrArg some block),
        answered, s.refusedAt_answerWith (.window w) _ _ _ (.inl rfl), fun h => absurd h other⟩
    cases state : (s.session w).state with
    | none =>
      rw [state] at refused
      cases refused
      refine unmoved ?_ (by decide)
      unfold State.voidTicket
      rw [state]
    | declared =>
      rw [state] at refused
      cases refused
      refine unmoved ?_ (by decide)
      unfold State.voidTicket
      rw [state]
    | declaring =>
      rw [state] at refused
      dsimp only at refused
      cases progress : (s.session w).inProgress with
      | none =>
        rw [if_pos progress] at refused
        cases refused
        refine unmoved ?_ (by decide)
        unfold State.voidTicket
        rw [state, progress]
      | some d =>
        rw [if_neg (by simp [progress])] at refused
        cases refused
        have block : s.voidTicket w b = (s.dropDeclaration w, refusal .declarationAbandoned) := by
          unfold State.voidTicket
          rw [state, progress]
        obtain ⟨t, run, answered, left⟩ := exec_refusedAt
          (exec_plain (.voidTicket (.window w) tag (some b)) admits (congrArg some block))
        obtain ⟨t', run', -, self, -⟩ := exec_writesSession
          (exec_plain (.voidTicket (.window w) tag (some b)) admits (congrArg some block))
        obtain rfl : t' = t := by
          rw [run] at run'
          exact (Host.Outcome.next.inj run').symm
        exact ⟨t', run, answered, left, fun _ => congrArg Session.inProgress self⟩
    | opened =>
      rw [state] at refused
      have given : s.voidCode w b = some code := refused
      refine unmoved ?_ ?_
      · unfold State.voidTicket
        rw [state]
        exact State.voidOpen_of_code given
      · rintro rfl
        exact State.voidCode_ne given
  · intro k e tn opened cls low high found numbered held mem kind hcls hserial only pack tender fresh
      inWindow room
    have entry := State.issueEntryOf_eq mem kind hcls hserial only
    have passes : s.voidEntryCode e = none := by
      unfold State.voidEntryCode
      rw [if_neg (not_or.2 ⟨by simp [fresh], Nat.not_lt.2 inWindow⟩), if_pos room]
    have block : s.voidTicket w b = (s.takeVoid w e,
        accepted (.voided ((s.entriesOf w).length + 1) e.data.value e.data.tender)) := by
      unfold State.voidTicket
      rw [opened]
      exact State.voidOpen_taken cls low high found held entry passes
    obtain ⟨self, others, journal, inUse, reserved, session, sessions, told, moved⟩ :=
      State.takeVoid_leaves _ rfl hcls hserial pack tender found numbered held
    have run := exec_plain (.voidTicket (.window w) tag (some b)) admits (congrArg some block)
    obtain ⟨answered, all⟩ := State.answered_moved (p := .window w) (k := .voidTicket) (tag := tag)
      (all := [.receivers, .queues, .packs, .census, .sessions, .journal]) moved
      (accepted (.voided ((s.entriesOf w).length + 1) e.data.value e.data.tender))
    have answer := State.answerWith_frame (s.takeVoid w e) (.window w) RequestKind.voidTicket.byte tag
      (accepted (.voided ((s.entriesOf w).length + 1) e.data.value e.data.tender))
    rw [tender] at answered
    refine ⟨_, _, _, run, rfl, ?_, (answer.findPack _).trans self, ?_, ?_, rfl, rfl, rfl, rfl,
      fun m other => (answer.findPack m).trans (others m other), ?_,
      (answer .journal (by decide)).2.1.trans inUse, answer.journalReserved.trans reserved, ?_,
      fun v other => (answer.session v).trans (sessions v other),
      State.queuesAfter_answerWith _ _ _ _ told, all⟩
    · rw [tender]
      exact answered
    · exact (Pack.remark_markOf held b.serial).trans (if_pos rfl)
    · exact fun r other => (Pack.remark_markOf held r).trans (if_neg other)
    · rw [State.answerWith_journal, journal]
      obtain ⟨⟩ := e
      simp_all
    · rw [answer.session, session]
      simp only [Session.withEntry, tender]
      rfl

end Sys2Proof.Machine
end

section
/-! SUPPORT. The reset input, the loss of supply, and power-on with the store INVALID (01 R18; 11 R193, R194). -/

-- One proof at a time: the check's memory limit holds few threads.
set_option Elab.async false

namespace Sys2Proof.Machine

section
variable (s : State)

theorem State.stopPorts_port (p : Port) : s.stopPorts.port p = (s.port p).starting := by
  cases p <;> simp [State.stopPorts, State.port]

theorem State.volatileLost_lane (l : LaneId) : s.volatileLost.lane l = (s.lane l).retained := by
  simp [State.volatileLost, State.lane]

theorem State.volatileLost_form (f : Fin 8) : s.volatileLost.form f = (s.form f).uncounted := by
  simp [State.volatileLost, State.form]

theorem State.volatileLost_slot (w : Window) (k : SlotId) : s.volatileLost.slot w k = ⟨false, none⟩ := by
  simp [State.volatileLost, State.slot, Slot.empty]

theorem State.volatileLost_port (p : Port) : s.volatileLost.port p = ⟨.starting, none, []⟩ := by
  cases p <;> simp [State.volatileLost, State.port]

/-- What is volatile, and the check word (11 Table 11.1). -/
theorem State.volatileLost_frame (phase : Phase) (agrees : Bool) :
    s.changesOnly { s.volatileLost with phase := phase, checkAgrees := agrees }
      [.phase, .receivers, .queues, .forms, .slots, .scanner, .lanes, .census, .clock, .runTime,
        .store] := by
  intro x hx
  cases x with
  | powerFail | grants | packs | nextPack | discounts | limits | sessions | pending => rfl
  | journal => exact ⟨rfl, rfl, rfl⟩
  | faults => exact ⟨rfl, rfl⟩
  | _ => exact absurd (by decide) hx

theorem State.storeSurvives_iff (kept : Bool) : s.storeSurvives kept = true ↔
    s.checkAgrees = true ∧ kept = true ∧ (s.powerFail = true ∨ s.phase = .unpowered) := by
  simp only [State.storeSurvives, Bool.and_eq_true, Bool.or_eq_true, beq_iff_eq, and_assoc]

end

/-- Settles O58: reset stops the ports; a loss of supply leaves `State.volatileLost`. -/
theorem resetAndSupplyLoss : Obligations.ResetAndSupplyLoss := by
  unfold Obligations.ResetAndSupplyLoss
  intro s
  refine ⟨fun off => congrArg Host.Outcome.next (if_pos off), fun on => ?_, fun kept => ?_⟩
  · have port : ∀ p, ({ s.stopPorts with phase := .resetHeld } : State).port p =
        ⟨.starting, none, (s.port p).queue⟩ := fun p =>
      (State.port_ext p rfl rfl).trans (s.stopPorts_port p)
    refine ⟨_, congrArg Host.Outcome.next (if_neg on), rfl, fun p => ⟨port p, ?_, ?_⟩, s.resetHeld_frame⟩
    · rw [port]
      rfl
    · rw [port]
      rfl
  · exact ⟨_, rfl, rfl, s.volatileLost_port, s.volatileLost_slot, s.volatileLost_form,
      fun l => by
        refine ⟨?_, ?_, ?_, ?_, ?_, ?_⟩ <;> exact (congrArg _ (s.volatileLost_lane l)).trans rfl,
      rfl, rfl, rfl, s.storeSurvives_iff kept, s.volatileLost_frame _ _⟩

/-! ## Power-on with the check word in disagreement (11 R194) -/

section
variable (s : State)

/-- The state the office's three notices are posted in: the volatile part lost, the store disregarded. -/
def State.startedEmpty : State := State.disregarded { s.volatileLost with phase := .running }

theorem State.startedEmpty_lane (l : LaneId) : s.startedEmpty.lane l = (s.lane l).retained.startedInvalid := by
  simp [State.startedEmpty, State.disregarded, State.volatileLost, State.lane]

/-- STORE_LOST is the first report of an empty list (10 R176, R189). -/
theorem State.startedEmpty_storeLost : s.startedEmpty.raiseController .storeLost {} =
    State.postFaults { s.startedEmpty with
      faults := [⟨1, .controller, .storeLost, ⟨0, 0, 0⟩, none, .active, 1, none, none, {}, 0, none⟩]
      faultCounter := 2 } := rfl

end

/-- Settles O60: nothing of the store is kept; the office's notices are posted one after another. -/
theorem powerOnWithTheStoreInvalid : Obligations.PowerOnWithTheStoreInvalid := by
  unfold Obligations.PowerOnWithTheStoreInvalid
  intro s disagrees
  have run : exec .powerOn s =
      .next (((s.startedEmpty.raiseController .storeLost {}).postStore).startPorts) :=
    congrArg Host.Outcome.next (if_neg (by
      show ¬s.checkAgrees = true
      simp [disagrees]))
  rw [State.startedEmpty_storeLost] at run
  refine ⟨_, run, rfl, rfl, disagrees, rfl, rfl, rfl, rfl, rfl, rfl, fun w => ?_, fun f => ?_, rfl,
    fun c other => ?_, fun w => ?_, rfl, fun l => ?_, rfl, rfl, rfl, fun w k => ?_, fun w => ?_, rfl⟩
  · exact Vector.getElem_replicate (n := 6) w.isLt
  · exact Vector.getElem_replicate (n := 8) f.isLt
  · have stored : emptyDiscounts[c] = .unused := (Vector.getElem_set_ne _ _ fun same =>
      other (Fin.ext same.symm)).trans (Vector.getElem_replicate (n := 16) c.isLt)
    exact congrArg DiscountEntry.state stored
  · exact Vector.getElem_replicate (n := 6) w.isLt
  · have lane := s.startedEmpty_lane l
    refine ⟨?_, ?_, ?_, ?_⟩ <;> exact (congrArg _ lane).trans rfl
  · exact (congrArg (fun v : Vector Slot 8 => v[k]) (Vector.getElem_replicate (n := 6) w.isLt)).trans
      (Vector.getElem_replicate (n := 8) k.isLt)
  · exact (Vector.getElem_map _ w.isLt).trans
      (congrArg PortState.start (Vector.getElem_replicate (n := 6) w.isLt))

end Sys2Proof.Machine
end

section
/-! SUPPORT. A claim taken in the order of R53 (03), a job that ends (03 R57), and the scanner's visit (03 R63). -/

-- One proof at a time: the check's memory limit holds few threads.
set_option Elab.async false

namespace Sys2Proof.Machine

/-! ## A lane changed with and without LANE_CHANGE (04 R70) -/

section
variable {s : State} {l : LaneId} {f : Lane → Lane}

theorem Lane.visiblyChanged_eq_false {old new : Lane} (state : new.state = old.state)
    (causes : new.causes = old.causes) (pack : new.pack = old.pack)
    (head : ∀ n, new.head = .verified n → old.head = .verified n) : old.visiblyChanged new = false := by
  unfold Lane.visiblyChanged
  rw [state, causes, pack]
  cases shown : new.head with
  | verified n => simp [head n shown]
  | _ => simp

theorem State.moveLane_of_unseen (unseen : (s.lane l).visiblyChanged (f (s.lane l)) = false) :
    s.moveLane l f = s.setLane l (f (s.lane l)) := by
  unfold State.moveLane
  dsimp only
  rw [unseen]
  rfl

theorem State.moveLane_of_seen (seen : (s.lane l).visiblyChanged (f (s.lane l)) = true) :
    s.moveLane l f = (s.setLane l (f (s.lane l))).postLane l := by
  unfold State.moveLane
  dsimp only
  rw [seen]
  rfl

/-- A change of a lane that R70 does not name posts nothing. -/
theorem State.moveLane_unseen_frame (unseen : (s.lane l).visiblyChanged (f (s.lane l)) = false) :
    s.changesOnly (s.moveLane l f) [.lanes] := by
  rw [State.moveLane_of_unseen unseen]
  exact s.setLane_frame l _

theorem State.moveLane_posts_seen (seen : (s.lane l).visiblyChanged (f (s.lane l)) = true) :
    s.queuesAfter (s.moveLane l f) fun x => x.postLane l := by
  rw [State.moveLane_of_seen seen]
  intro q
  rw [State.postLane_queue, State.postLane_queue, State.setLane_port]

theorem exec_whenRunning {c : Instr} {s : State} {g : State → State} (running : s.phase = .running)
    (h : exec c s = .next (s.whenRunning g)) : exec c s = .next (g s) :=
  h.trans (congrArg Host.Outcome.next (if_pos running))

end

/-! ## The order of R53 (03) -/

section
variable {now : RunTime}

/-- The order of the table: windows, then slots. -/
def tableBefore (y x : Window × SlotId × Job) : Prop := y.1 < x.1 ∨ (y.1 = x.1 ∧ y.2.1 < x.2.1)

/-- The order of R53 (03): priority, then age, then the table's. -/
def claimsBefore (now : RunTime) (y x : Window × SlotId × Job) : Prop :=
  (y.2.2.priority = .urgent ∧ x.2.2.priority = .normal) ∨
    (y.2.2.priority = x.2.2.priority ∧
      (age now x.2.2.submitted < age now y.2.2.submitted ∨
        (age now x.2.2.submitted = age now y.2.2.submitted ∧ tableBefore y x)))

theorem tableBefore.trans {x y z : Window × SlotId × Job} (h : tableBefore x y) (h' : tableBefore y z) :
    tableBefore x z := by
  rcases h with h | ⟨e, h⟩ <;> rcases h' with h' | ⟨e', h'⟩
  · exact .inl (h.trans h')
  · exact .inl (e' ▸ h)
  · exact .inl (e ▸ h')
  · exact .inr ⟨e.trans e', h.trans h'⟩

theorem claimsBefore.trans {x y z : Window × SlotId × Job} (h : claimsBefore now x y)
    (h' : claimsBefore now y z) : claimsBefore now x z := by
  unfold claimsBefore at *
  rcases h with ⟨urgent, normal⟩ | ⟨same, older⟩
  · rcases h' with ⟨urgent', -⟩ | ⟨same', -⟩
    · rw [normal] at urgent'
      cases urgent'
    · exact .inl ⟨urgent, same'.symm.trans normal⟩
  · rcases h' with ⟨urgent', normal'⟩ | ⟨same', older'⟩
    · exact .inl ⟨same.trans urgent', normal'⟩
    · refine .inr ⟨same.trans same', ?_⟩
      rcases older with older | ⟨equal, first⟩ <;> rcases older' with older' | ⟨equal', first'⟩
      · exact .inl (older'.trans older)
      · exact .inl (equal' ▸ older)
      · exact .inl (equal ▸ older')
      · exact .inr ⟨equal'.trans equal, first.trans first'⟩

theorem claimsBefore_of_comesBefore {x y : Window × SlotId × Job}
    (h : x.2.2.comesBefore y.2.2 now = true) : claimsBefore now x y := by
  unfold Job.comesBefore at h
  split_ifs at h with same
  · exact .inr ⟨same, .inl (by simpa using h)⟩
  · have urgent : x.2.2.priority = .urgent := eq_of_beq h
    refine .inl ⟨urgent, ?_⟩
    cases other : y.2.2.priority
    · rfl
    · exact absurd (urgent.trans other.symm) same

theorem claimsBefore_of_not_comesBefore {x y : Window × SlotId × Job}
    (h : x.2.2.comesBefore y.2.2 now = false) (first : tableBefore y x) : claimsBefore now y x := by
  unfold Job.comesBefore at h
  split_ifs at h with same
  · have younger : ¬age now y.2.2.submitted < age now x.2.2.submitted := by simpa using h
    refine .inr ⟨same.symm, ?_⟩
    rcases Nat.lt_or_eq_of_le (Nat.not_lt.1 younger) with less | equal
    · exact .inl less
    · exact .inr ⟨equal, first⟩
  · have notUrgent : x.2.2.priority ≠ .urgent := by simpa using h
    cases mine : x.2.2.priority <;> cases other : y.2.2.priority <;> simp_all [claimsBefore]

/-- The claimant kept comes before every other of the list. -/
theorem foldl_betterClaim (now : RunTime) : ∀ (xs : List (Window × SlotId × Job))
    (y : Window × SlotId × Job), (y :: xs).Pairwise tableBefore →
    ∃ b, xs.foldl (betterClaim now) (some y) = some b ∧ b ∈ y :: xs ∧
      ∀ x ∈ y :: xs, x = b ∨ claimsBefore now b x
  | [], y, _ => ⟨y, rfl, List.mem_cons_self, fun x hx => .inl (List.mem_singleton.1 hx)⟩
  | x :: xs, y, ordered => by
    obtain ⟨first, rest⟩ := List.pairwise_cons.1 ordered
    cases better : x.2.2.comesBefore y.2.2 now with
    | true =>
      obtain ⟨b, kept, mem, least⟩ := foldl_betterClaim now xs x rest
      refine ⟨b, ?_, List.mem_cons_of_mem y mem, fun z hz => ?_⟩
      · rw [List.foldl_cons]
        simpa [betterClaim, better] using kept
      · rcases List.mem_cons.1 hz with rfl | later
        · have ahead := claimsBefore_of_comesBefore better
          rcases least x List.mem_cons_self with rfl | before
          · exact .inr ahead
          · exact .inr (before.trans ahead)
        · exact least z later
    | false =>
      have ordered' : (y :: xs).Pairwise tableBefore :=
        List.pairwise_cons.2 ⟨fun z hz => first z (List.mem_cons_of_mem x hz),
          (List.pairwise_cons.1 rest).2⟩
      obtain ⟨b, kept, mem, least⟩ := foldl_betterClaim now xs y ordered'
      refine ⟨b, ?_, ?_, fun z hz => ?_⟩
      · rw [List.foldl_cons]
        simpa [betterClaim, better] using kept
      · rcases List.mem_cons.1 mem with rfl | later
        · exact List.mem_cons_self
        · exact List.mem_cons_of_mem _ (List.mem_cons_of_mem _ later)
      · rcases List.mem_cons.1 hz with rfl | later
        · exact least z List.mem_cons_self
        · rcases List.mem_cons.1 later with rfl | later
          · have behind := claimsBefore_of_not_comesBefore better (first z List.mem_cons_self)
            rcases least y List.mem_cons_self with rfl | before
            · exact .inr behind
            · exact .inr (before.trans behind)
          · exact least z (List.mem_cons_of_mem _ later)

theorem State.jobs_pairwise (s : State) : s.jobs.Pairwise tableBefore := by
  unfold State.jobs
  refine List.pairwise_flatMap.2 ⟨fun w _ => ?_, ?_⟩
  · refine List.Pairwise.filterMap _ (fun k i lower x hx y hy => ?_) allSlots_ascending
    obtain ⟨j, -, rfl⟩ := Option.map_eq_some_iff.1 hx
    obtain ⟨j', -, rfl⟩ := Option.map_eq_some_iff.1 hy
    exact .inr ⟨rfl, lower⟩
  · have ascending : allWindows.Pairwise (· < ·) := by decide
    refine ascending.imp fun {w v} lower x hx y hy => ?_
    obtain ⟨k, -, hk⟩ := List.mem_filterMap.1 hx
    obtain ⟨i, -, hi⟩ := List.mem_filterMap.1 hy
    obtain ⟨j, -, rfl⟩ := Option.map_eq_some_iff.1 hk
    obtain ⟨j', -, rfl⟩ := Option.map_eq_some_iff.1 hi
    exact .inl lower

variable {s : State} {l : LaneId}

theorem State.selectJob_eq_none (none_ : ∀ w k j, s.job w k = some j → s.eligible j l = false) :
    s.selectJob l = none := by
  have empty : (s.jobs.filter fun x => s.eligible x.2.2 l) = [] :=
    List.filter_eq_nil_iff.2 fun ⟨w, k, j⟩ mem => by
      rw [none_ w k j (State.mem_jobs.1 mem)]
      decide
  rw [State.selectJob, empty]
  rfl

/-- The job selected comes before every other eligible one (03 R53). -/
theorem State.selectJob_eq_some {w : Window} {k : SlotId} {j : Job} (held : s.job w k = some j)
    (eligible : s.eligible j l = true) : ∃ w k j, s.selectJob l = some (w, k, j) ∧
      s.job w k = some j ∧ s.eligible j l = true ∧ ∀ v i x, s.job v i = some x → s.eligible x l = true →
        (v, i) ≠ (w, k) → claimsBefore s.runTime (w, k, j) (v, i, x) := by
  have mem : ∀ {v i x}, (v, i, x) ∈ (s.jobs.filter fun x => s.eligible x.2.2 l) ↔
      s.job v i = some x ∧ s.eligible x l = true := fun {v i x} => by
    rw [List.mem_filter, State.mem_jobs]
  have ordered := s.jobs_pairwise.filter (p := fun x => s.eligible x.2.2 l)
  unfold State.selectJob
  cases claimants : s.jobs.filter fun x => s.eligible x.2.2 l with
  | nil =>
    have none_ := mem.2 ⟨held, eligible⟩
    rw [claimants] at none_
    cases none_
  | cons y xs =>
    rw [claimants] at ordered
    obtain ⟨⟨w', k', j'⟩, kept, inside, least⟩ := foldl_betterClaim s.runTime xs y ordered
    rw [← claimants] at inside least
    obtain ⟨held', eligible'⟩ := mem.1 inside
    refine ⟨w', k', j', kept, held', eligible', fun v i x job good other => ?_⟩
    rcases least (v, i, x) (mem.2 ⟨job, good⟩) with same | before
    · cases same
      exact absurd rfl other
    · exact before

end

/-! ## The claim taken (03 R55, R56) -/

section
variable {s : State} {l : LaneId}

theorem State.takeClaim_eq (sent : (s.lane l).claimSent = true) (free : (s.lane l).handed = none) :
    s.takeClaim l = match s.selectJob l with
      | some (w, k, j) => (s.moveLane l fun x => { x with claimSent := false }).claimJob l w k j
      | none => s.moveLane l fun x => { x with claimSent := false } := by
  unfold State.takeClaim
  rw [sent, free]
  rfl

theorem State.mounted_eq_some_iff {p : Pack} : s.mounted l = some p ↔
    ∃ n, (s.lane l).pack = some n ∧ s.findPack n = some p := Option.bind_eq_some_iff

/-- When a job is eligible for a lane (03 R52). -/
theorem State.eligible_iff (j : Job) : s.eligible j l = true ↔ j.state = .queued ∧ j.lanes[l] = true ∧
    j.generation = some (s.form j.form).generation ∧ ∃ d p, (s.form j.form).current = some d ∧
      s.mounted l = some p ∧ d.cls = p.cls ∧ min j.declared d.ready ≤ j.lines.length := by
  have packs : (s.lane l).pack.bind s.findPack = s.mounted l := rfl
  unfold State.eligible
  rw [packs]
  simp only [Bool.and_eq_true, beq_iff_eq, and_assoc]
  refine and_congr_right fun _ => and_congr_right fun _ => and_congr_right fun _ => ?_
  cases (s.form j.form).current with
  | none => simp
  | some d =>
    cases s.mounted l with
    | none => simp
    | some p => simp [Job.ready]

end

/-- Settles O28: the order of R53 keeps the least claimant of the table (`foldl_betterClaim`). -/
theorem claimTakesTheFirstEligibleJob : Obligations.ClaimTakesTheFirstEligibleJob := by
  unfold Obligations.ClaimTakesTheFirstEligibleJob
  refine ⟨fun s j => ⟨State.eligibleSomewhere_iff, fun l => State.eligible_iff j⟩, ?_⟩
  intro s l running sent free
  have run : exec (.claimRequest l) s = .next (s.takeClaim l) := exec_whenRunning running rfl
  have asked := State.moveLane_unseen_frame (s := s) (l := l) (f := fun x => { x with claimSent := false })
    (Lane.visiblyChanged_eq_false rfl rfl rfl fun _ h => h)
  rw [State.takeClaim_eq sent free] at run
  refine ⟨fun none_ => ?_, ?_⟩
  · rw [State.selectJob_eq_none none_] at run
    exact ⟨_, run, s.moveLane_lane_self l _, s.moveLane_otherLanes l _, asked⟩
  · rintro ⟨w, k, j, held, eligible⟩
    obtain ⟨w, k, j, selected, held, eligible, least⟩ := State.selectJob_eq_some held eligible
    rw [selected] at run
    obtain ⟨u, hu⟩ : ∃ u, u = s.moveLane l fun x => { x with claimSent := false } := ⟨_, rfl⟩
    obtain ⟨v, hv⟩ : ∃ v, v = u.mapJob w k fun j =>
      { j with state := .printing, lane := some l, deadline := none } := ⟨_, rfl⟩
    have slot : u.slot w k = s.slot w k := hu ▸ s.moveLane_slot l _ w k
    have claimed := u.mapJob_frame w k fun j =>
      { j with state := .printing, lane := some l, deadline := none }
    rw [← hu] at run asked
    rw [← hv] at claimed
    have handed := State.moveLane_unseen_frame (s := v) (l := l)
      (f := fun x => { x with handed := some (j.handedAs w k) })
      (Lane.visiblyChanged_eq_false rfl rfl rfl fun _ h => h)
    have block : u.claimJob l w k j = v.moveLane l fun x => { x with handed := some (j.handedAs w k) } := by
      rw [hv]
      rfl
    have self : v.slot w k = ⟨(s.slot w k).unread,
        some { j with state := .printing, lane := some l, deadline := none }⟩ := by
      rw [hv, u.mapJob_slot_self w k _ ((congrArg Slot.job slot).trans held), slot]
    have lane : v.lane l = { s.lane l with claimSent := false } := by
      rw [claimed.lane l, hu]
      exact s.moveLane_lane_self l _
    dsimp only at run
    rw [block] at run
    refine ⟨_, w, k, j, run, held, eligible, fun v i x job good other => least v i x job good other,
      (handed.slot w k).trans self, fun a i other => ?_, ?_, fun m other => ?_,
      State.changesOnly_then (c := [.slots, .lanes]) asked
        (State.changesOnly_then (c := [.slots, .lanes]) claimed handed)⟩
    · rw [handed.slot, hv, u.mapJob_otherSlots w k _ a i other, asked.slot]
    · rw [State.moveLane_lane_self, lane]
      rfl
    · rw [State.moveLane_otherLanes v l _ m other, claimed.lane m, hu]
      exact s.moveLane_otherLanes l _ m other

end Sys2Proof.Machine
end

section
/-! SUPPORT. A job that ends (03 R57), and the scanner's visit (03 R63). -/

-- One proof at a time: the check's memory limit holds few threads.
set_option Elab.async false

namespace Sys2Proof.Machine

section
variable (s : State) (w : Window) (k : SlotId)

/-- SLOT_OUTCOME reaches the slot and its window's queue (03 R40, R57). -/
theorem State.postOutcome_slot (o : SlotOutcome) {j : Job} (held : s.job w k = some j) :
    (s.postOutcome w k o).slot w k = ⟨true, some { j with latest := some o }⟩ := by
  unfold State.postOutcome
  rw [State.post_slot, State.setSlot_slot_self, held]
  rfl

theorem State.postOutcome_otherSlots (o : SlotOutcome) : s.otherSlots (s.postOutcome w k o) w k :=
  fun v i other => by
    unfold State.postOutcome
    rw [State.post_slot]
    exact s.setSlot_slot_ne other _

theorem State.postOutcome_queue_window (o : SlotOutcome) (v : Window) :
    ((s.postOutcome w k o).port (.window v)).queue =
      if v = w then coalesce (s.port (.window v)).queue ⟨.slotOutcome, .slot k, some o⟩
      else (s.port (.window v)).queue := by
  unfold State.postOutcome
  rw [State.post_queue, State.setSlot_port]
  by_cases same : v = w
  · subst same
    rw [if_pos rfl, if_pos rfl]
  · rw [if_neg same, if_neg fun e => same (Port.window.inj e)]

theorem State.postOutcome_queue_office (o : SlotOutcome) :
    ((s.postOutcome w k o).port .office).queue = (s.port .office).queue := by
  unfold State.postOutcome
  rw [State.post_queue, State.setSlot_port, if_neg (by simp)]

/-- A count lowered posts to the office alone. -/
theorem State.unbind_queue_window (f : Fin 8) (g : Option Nat) (v : Window) :
    ((s.unbind f g).port (.window v)).queue = (s.port (.window v)).queue := by
  obtain ⟨x, written | ⟨told, applied⟩⟩ := s.unbind_cases f g
  · rw [written, State.setForm_port]
  · have posted : ((s.setForm f x).postForms.port (.window v)).queue = (s.port (.window v)).queue := by
      rw [State.postForms, State.postOffice_queue_window, State.setForm_port]
    rw [applied]
    cases told
    · exact posted
    · exact (State.reportEligible_frame _ .queues (by decide) (.window v)).trans posted

/-- The state of an ended job before its count falls: its reservation released. -/
def State.ended (st : JobState) : State :=
  (s.mapJob w k fun j => { j with state := st, lane := none, deadline := none }).releaseJob w k

variable {s w k}
variable {j : Job} (held : s.job w k = some j) (st : JobState)

include held

theorem State.endJob_eq (o : SlotOutcome) : s.endJob w k st o =
    ((s.ended w k st).unbind j.form j.generation).postOutcome w k o := by
  unfold State.endJob
  rw [held]
  rfl

/-- What an ended job leaves in its slot, its session and the journal's reservations (03 R57; 08 R149). -/
theorem State.ended_leaves :
    (s.ended w k st).slot w k = ⟨(s.slot w k).unread, some { j with
      state := st, lane := none, deadline := none, reserved := 0 }⟩ ∧
    s.otherSlots (s.ended w k st) w k ∧
    (s.ended w k st).session w = { s.session w with reserved := (s.session w).reserved - j.reserved } ∧
    s.otherSessions (s.ended w k st) w ∧
    (s.ended w k st).journalReserved = s.journalReserved - j.reserved ∧
    (s.ended w k st).journal = s.journal ∧ (s.ended w k st).journalInUse = s.journalInUse ∧
    s.changesOnly (s.ended w k st) [.slots, .sessions, .journal] := by
  obtain ⟨u, hu⟩ : ∃ u, u = s.mapJob w k fun j => { j with state := st, lane := none, deadline := none } :=
    ⟨_, rfl⟩
  have moved := s.mapJob_frame w k fun j => { j with state := st, lane := none, deadline := none }
  have self := s.mapJob_slot_self w k (fun j => { j with state := st, lane := none, deadline := none }) held
  have others := s.mapJob_otherSlots w k fun j => { j with state := st, lane := none, deadline := none }
  rw [← hu] at moved self others
  have released := u.releaseJob_of_job w k (congrArg Slot.job self)
  have freed := u.unreserve_frame w j.reserved
  have mapped := State.mapJob_slot_self (u.unreserve w j.reserved) w k (fun j => { j with reserved := 0 })
    ((freed.job w k).trans (congrArg Slot.job self))
  have ended : s.ended w k st = (u.unreserve w j.reserved).mapJob w k fun j => { j with reserved := 0 } := by
    rw [State.ended, ← hu]
    exact released
  have whole : s.changesOnly (s.ended w k st) [.slots, .sessions, .journal] := by
    rw [State.ended, ← hu]
    exact State.changesOnly_then moved (u.releaseJob_frame w k)
  rw [ended] at whole ⊢
  refine ⟨?_, fun v i other => ?_, ?_, fun v other => ?_,
    congrArg (· - j.reserved) (moved .journal (by decide)).2.2, (moved .journal (by decide)).1,
    (moved .journal (by decide)).2.1, whole⟩
  · rw [mapped, freed.slot, self]
  · rw [State.mapJob_otherSlots _ w k _ v i other, freed.slot, others v i other]
  · exact (u.unreserve_session w j.reserved).trans (by rw [moved.session])
  · exact (u.unreserve_otherSessions w j.reserved v other).trans (moved.session v)

/-- What an ended job leaves, its form apart (03 R57). -/
theorem State.endJob_leaves (o : SlotOutcome) (t : State) (ht : t = s.endJob w k st o) :
    t.slot w k = ⟨true, some { j with
      state := st, lane := none, deadline := none, reserved := 0, latest := some o }⟩ ∧
    s.otherSlots t w k ∧
    t.session w = { s.session w with reserved := (s.session w).reserved - j.reserved } ∧
    s.otherSessions t w ∧ t.journalReserved = s.journalReserved - j.reserved ∧
    t.journal = s.journal ∧ t.journalInUse = s.journalInUse ∧
    (∀ v, (t.port (.window v)).queue = if v = w then
      coalesce (s.port (.window v)).queue ⟨.slotOutcome, .slot k, some o⟩
      else (s.port (.window v)).queue) ∧
    s.otherForms t j.form ∧ (∃ told, s.lanesTold t told) := by
  subst ht
  obtain ⟨self, others, session, sessions, reserved, journal, inUse, moved⟩ := State.ended_leaves held st
  have lowered := State.unbind_frame (s.ended w k st) j.form j.generation
  have posted := State.postOutcome_frame ((s.ended w k st).unbind j.form j.generation) w k o
  have job : ((s.ended w k st).unbind j.form j.generation).job w k = some { j with
      state := st, lane := none, deadline := none, reserved := 0 } :=
    congrArg Slot.job ((lowered.slot w k).trans self)
  obtain ⟨told, tells⟩ := State.unbind_told (s.ended w k st) j.form j.generation
  rw [State.endJob_eq held]
  refine ⟨State.postOutcome_slot _ w k o job, fun v i other => ?_, ?_, fun v other => ?_, ?_, ?_, ?_,
    fun v => ?_, fun f other => ?_, told, (State.lanesTold.before moved tells).after posted⟩
  · rw [State.postOutcome_otherSlots _ w k o v i other, lowered.slot, others v i other]
  · rw [posted.session, lowered.session, session]
  · rw [posted.session, lowered.session, sessions v other]
  · rw [posted.journalReserved, lowered.journalReserved, reserved]
  · rw [(posted .journal (by decide)).1, (lowered .journal (by decide)).1, journal]
  · rw [(posted .journal (by decide)).2.1, (lowered .journal (by decide)).2.1, inUse]
  · rw [State.postOutcome_queue_window, State.unbind_queue_window,
      (moved .queues (by decide) (.window v))]
  · rw [posted.form, State.unbind_otherForms _ _ _ f other, moved.form]

/-- An ended job's form where no pending definition is applied: its count falls, and nobody is told. -/
theorem State.endJob_form (o : SlotOutcome) {x : FormRecord}
    (lowers : (s.ended w k st).unbind j.form j.generation = (s.ended w k st).setForm j.form x) :
    (s.endJob w k st o).form j.form = x ∧
      ((s.endJob w k st o).port .office).queue = (s.port .office).queue ∧
      (s.endJob w k st o).lanes = s.lanes := by
  obtain ⟨-, -, -, -, -, -, -, moved⟩ := State.ended_leaves held st
  rw [State.endJob_eq held, lowers]
  have posted := State.postOutcome_frame ((s.ended w k st).setForm j.form x) w k o
  refine ⟨(posted.form _).trans (State.setForm_form_self _ j.form x), ?_,
    (posted .lanes (by decide)).trans (moved .lanes (by decide))⟩
  rw [State.postOutcome_queue_office, State.setForm_port]
  exact moved .queues (by decide) .office

/-- A count lowered whose form's pending definition is applied. -/
theorem State.endJob_applied (o : SlotOutcome) {d : FormDef} (notQueued : st ≠ .queued)
    (current : j.generation = some (s.form j.form).generation) (last : (s.form j.form).useCount = 1)
    (pending : (s.form j.form).pending = some d) (t : State) (ht : t = s.endJob w k st o) :
    t.form j.form = ⟨some d, none, nextGeneration (s.form j.form).generation,
        (s.form j.form).waitingCount, 0⟩ ∧
      (t.port .office).queue = (s.postForms.port .office).queue ∧
      ∀ told : Bool, (told = true ↔ ∃ v i x, t.job v i = some x ∧ x.form = j.form ∧
        t.eligibleSomewhere x = true) → s.lanesTold t told := by
  subst ht
  obtain ⟨self, others, -, -, -, -, -, moved⟩ := State.ended_leaves held st
  obtain ⟨u, hu⟩ : ∃ u, u = s.ended w k st := ⟨_, rfl⟩
  rw [State.endJob_eq held, current]
  rw [← hu] at moved self others ⊢
  have form := moved.form j.form
  rw [← form] at last pending ⊢
  obtain ⟨told, tells, applied⟩ := u.unbind_applied j.form last pending
  obtain ⟨a, ha⟩ : ∃ a, a = u.formApplied j.form d := ⟨_, rfl⟩
  rw [← ha] at tells applied
  obtain ⟨b, hb⟩ : ∃ b, b = if told then a.reportEligible else a := ⟨_, rfl⟩
  rw [applied, ← hb]
  have placed : u.changesOnly a [.forms, .queues] := ha ▸ State.changesOnly_then
    (u.setForm_frame j.form _) (State.postOffice_frame _ _ _)
  have reported : a.changesOnly b [.lanes] := hb ▸ State.changesOnly_ite (State.reportEligible_frame _)
    (State.changesOnly_refl _ _)
  have posted := State.postOutcome_frame b w k o
  have applies : a.form j.form = ⟨some d, none, nextGeneration (u.form j.form).generation,
      (u.form j.form).waitingCount, 0⟩ := by
    rw [ha]
    exact (State.post_form _ _ _ _).trans (State.setForm_form_self _ j.form _)
  refine ⟨(posted.form _).trans ((reported.form _).trans applies), ?_, fun told' iff => ?_⟩
  · rw [State.postOutcome_queue_office, reported .queues (by decide) .office, ha]
    refine (State.postOffice_queue _ _ _).trans ?_
    rw [State.postForms, State.postOffice_queue, State.setForm_port, moved .queues (by decide) .office]
  · have same : told' = told := by
      rw [Bool.eq_iff_iff, iff, tells]
      have told_lanes : a.lanesTold (b.postOutcome w k o) told :=
        State.lanesTold.after (hb ▸ a.lanesTold_ite told) posted
      have eligible : ∀ x, (b.postOutcome w k o).eligibleSomewhere x = a.eligibleSomewhere x := fun x => by
        have both := State.changesOnly_then (c := [.lanes, .slots, .queues]) reported posted
        refine State.eligibleSomewhere_congr (fun f => congrArg FormRecord.generation (both.form f))
          (fun f => congrArg FormRecord.current (both.form f)) (both .packs (by decide)) fun l => ?_
        rcases told_lanes.cases l with e | e
        · rw [e]
        · rw [e]
          unfold Lane.claiming
          split <;> rfl
      have jobs : ∀ v i x, a.eligibleSomewhere x = true →
          ((b.postOutcome w k o).job v i = some x ↔ a.job v i = some x) := fun v i x good => by
        by_cases here : (v, i) = (w, k)
        · cases here
          have now : a.job w k = some { j with
              state := st, lane := none, deadline := none, reserved := 0 } :=
            congrArg Slot.job ((placed.slot w k).trans self)
          have after := congrArg Slot.job (State.postOutcome_slot b w k o ((reported.job w k).trans now))
          have queued : x.state = .queued := by
            by_contra other
            rw [State.not_eligibleSomewhere_of_not_queued other] at good
            cases good
          constructor
          · intro h
            rw [State.job, after] at h
            cases h
            exact absurd queued notQueued
          · intro h
            rw [now] at h
            cases h
            exact absurd queued notQueued
        · rw [State.job, State.postOutcome_otherSlots b w k o v i here, reported.slot]
          rfl
      constructor
      · rintro ⟨v, i, x, job, of, good⟩
        rw [eligible] at good
        exact ⟨v, i, x, (jobs v i x good).1 job, of, good⟩
      · rintro ⟨v, i, x, job, of, good⟩
        exact ⟨v, i, x, (jobs v i x good).2 job, of, (eligible x).trans good⟩
    rw [same]
    exact State.lanesTold.before (State.changesOnly_then (c := [.slots, .sessions, .journal, .forms,
      .queues]) moved placed) ((hb ▸ a.lanesTold_ite told : a.lanesTold b told).after posted)

end

/-! ## The scanner's visit (03 R63) -/

section
variable {s : State} {w : Window} {k : SlotId}

theorem scannedWindow_eq (w : Window) (k : SlotId) : scannedWindow (8 * w.val + k.val) = w := by
  have quotient : (8 * w.val + k.val) / 8 = w.val := by omega
  unfold scannedWindow
  rw [quotient]
  exact Fin.ext (Nat.mod_eq_of_lt w.isLt)

theorem scannedSlot_eq (w : Window) (k : SlotId) : scannedSlot (8 * w.val + k.val) = k := by
  refine Fin.ext (show (8 * w.val + k.val) % 8 = k.val from ?_)
  omega

theorem exec_scannerVisit_at (running : s.phase = .running) (at_ : s.scanner = 8 * w.val + k.val) :
    exec .scannerVisit s = .next { s.visitSlot w k with scanner := (s.scanner + 1) % 48 } := by
  refine (exec_whenRunning running rfl).trans ?_
  unfold State.scan
  rw [at_, scannedWindow_eq, scannedSlot_eq]

theorem State.visitSlot_stands (early : ∀ j d, s.job w k = some j → j.state = .queued →
    j.deadline = some d → 2 ^ 31 ≤ (s.runTime - d).toNat) : s.visitSlot w k = s := by
  unfold State.visitSlot
  cases held : s.job w k with
  | none => rfl
  | some j =>
    refine if_neg ?_
    rintro ⟨queued, late⟩
    unfold Job.isLate at late
    cases deadline : j.deadline with
    | none =>
      rw [deadline] at late
      cases late
    | some d =>
      rw [deadline] at late
      have soon := early j d held queued deadline
      have passed : (s.runTime - d).toNat < 2 ^ 31 := of_decide_eq_true late
      omega

theorem State.visitSlot_expires {j : Job} {d : RunTime} (held : s.job w k = some j)
    (queued : j.state = .queued) (deadline : j.deadline = some d)
    (late : (s.runTime - d).toNat < 2 ^ 31) :
    s.visitSlot w k = s.endJob w k .expired ⟨.expired, .none, 0, 0, 0, 0⟩ := by
  have isLate : j.isLate s.runTime = true := by
    unfold Job.isLate
    rw [deadline]
    exact decide_eq_true late
  unfold State.visitSlot
  rw [held]
  exact if_pos ⟨queued, isLate⟩

end

/-- Settles O29: a late job ends by `State.endJob_leaves`, its form by the cases of
`State.unbind`. -/
theorem scannerExpiresLateJobs : Obligations.ScannerExpiresLateJobs := by
  unfold Obligations.ScannerExpiresLateJobs
  intro s w k running at_
  have run := exec_scannerVisit_at running at_
  refine ⟨fun early => ?_, fun j d held queued deadline late => ?_⟩
  · rw [State.visitSlot_stands early] at run
    exact ⟨_, run, rfl, s.setScanner_frame _⟩
  · rw [State.visitSlot_expires held queued deadline late] at run
    obtain ⟨o, ho⟩ : ∃ o : SlotOutcome, o = ⟨.expired, .none, 0, 0, 0, 0⟩ := ⟨_, rfl⟩
    rw [← ho] at run
    obtain ⟨t, ht⟩ : ∃ t, t = s.endJob w k .expired o := ⟨_, rfl⟩
    rw [← ht] at run
    have frame := s.endJob_frame w k .expired o
    have moved := t.setScanner_frame ((s.scanner + 1) % 48)
    obtain ⟨self, others, session, sessions, reserved, journal, -, windows, forms, -⟩ :=
      State.endJob_leaves held .expired o t ht
    rw [← ht] at frame
    have ended := State.ended_leaves held .expired
    obtain ⟨-, -, -, -, -, -, -, left⟩ := ended
    have form := left.form j.form
    refine ⟨_, o, run, ho, (moved.slot w k).trans self, fun v i other => (moved.slot v i).trans
      (others v i other), (moved.session w).trans session, fun v other => (moved.session v).trans
      (sessions v other), reserved, journal, fun v => (moved .queues (by decide) (.window v)).trans
      (windows v), fun f other => (moved.form f).trans (forms f other), rfl, ?_,
      State.changesOnly_then frame moved⟩
    rintro f g rfl hg
    have next : g = nextGeneration (s.form j.form).generation := hg
    subst next
    have office := moved .queues (by decide) .office
    refine ⟨fun current kept => ?_, fun coming => ?_, fun current coming => ?_,
      fun current last pending => ?_⟩
    · have lowers := State.unbind_current (s.ended w k .expired) j.form (by rw [form]; exact kept)
      rw [form, ← current] at lowers
      obtain ⟨form', queue, lanes⟩ := State.endJob_form held .expired o lowers
      rw [← ht] at form' queue lanes
      exact ⟨(moved.form _).trans form', office.trans queue, lanes⟩
    · have lowers := State.unbind_coming (s.ended w k .expired) j.form
      rw [form, ← coming] at lowers
      obtain ⟨form', queue, lanes⟩ := State.endJob_form held .expired o lowers
      rw [← ht] at form' queue lanes
      exact ⟨(moved.form _).trans form', office.trans queue, lanes⟩
    · have lowers := State.unbind_unbound (s.ended w k .expired) j.form (g := j.generation)
        (by rw [form]; exact current) (by rw [form]; exact coming)
      have same : s.ended w k .expired = (s.ended w k .expired).setForm j.form (s.form j.form) := by
        rw [← form, State.setForm_same]
      obtain ⟨form', queue, lanes⟩ := State.endJob_form held .expired o (lowers.trans same)
      rw [← ht] at form' queue lanes
      exact ⟨(moved.form _).trans form', office.trans queue, lanes⟩
    · obtain ⟨d', hd⟩ := Option.ne_none_iff_exists'.1 pending
      obtain ⟨form', queue, told⟩ := State.endJob_applied held .expired o (by decide) current last hd t ht
      rw [hd]
      refine ⟨(moved.form _).trans form', office.trans queue, fun b iff => ?_⟩
      refine State.lanesTold.after (told b (iff.trans ?_)) moved
      simp only [moved.job, moved.eligibleSomewhere]

end Sys2Proof.Machine
end

section
/-! SUPPORT. What a lane's fault does to the fault list: where it is placed, and the place made for it
(10 R176 to R178). -/

-- One proof at a time: the check's memory limit holds few threads.
set_option Elab.async false

namespace Sys2Proof.Machine

/-! ## A report added, an occurrence added -/

/-- The list and the counter after a report is added (10 R176, R178). -/
def reportAdded (list : List Report) (counter : Nat) (at_ : Stamp) (l : LaneId) (k : FaultKind)
    (primary : Option Nat) (c : FaultContext) : List Report × Nat :=
  let n := freeNumber ((agedList list).map Report.number) 65 counter
  (agedList list ++ [⟨n, .lane l, k, at_, none, .active, 1, primary, none, c, 0, none⟩], nextNumber n)

/-- The list and the counter after a lane's fault (10 R177). -/
def faultPlaced (list : List Report) (counter : Nat) (at_ : Stamp) (l : LaneId) (k : FaultKind)
    (c : FaultContext) : List Report × Nat :=
  match (activeIn list (.lane l)).find? fun r => r.kind == k with
  | some r => (list.map (occurred r.number none), counter)
  | none =>
    match activeIn list (.lane l) with
    | [] => reportAdded list counter at_ l k none c
    | [r] => reportAdded list counter at_ l k (some r.number) c
    | r :: r' :: _ =>
      (list.map (occurred (if r.primary.isSome then r.number else r'.number) (some k)), counter)

section
variable (s : State) (l : LaneId) (k : FaultKind) (c : FaultContext)

theorem State.addOccurrence_faults (src : FaultSource) (n : Nat) (other : Option FaultKind) :
    (s.addOccurrence src n other).faults = s.faults.map (occurred n other) ∧
      (s.addOccurrence src n other).faultCounter = s.faultCounter := by
  rw [State.addOccurrence_eq]
  exact State.postReport_faults _ _

theorem State.addReport_faults (primary : Option Nat) :
    ((s.addReport (.lane l) k primary c).faults, (s.addReport (.lane l) k primary c).faultCounter) =
      reportAdded s.faults s.faultCounter s.stamp l k primary c := by
  obtain ⟨faults, counter⟩ := s.ageFaults_faults
  unfold State.addReport reportAdded
  dsimp only
  rw [(State.postReport_faults _ _).1, (State.postReport_faults _ _).2]
  simp only [faults, counter]

/-- A lane's fault acts on the list and the counter alone, at the time it stands. -/
theorem State.raiseLane_placed : ((s.raiseLane l k c).faults, (s.raiseLane l k c).faultCounter) =
    faultPlaced s.faults s.faultCounter s.stamp l k c := by
  obtain ⟨a, ha⟩ : ∃ a, a = activeIn s.faults (.lane l) := ⟨_, rfl⟩
  have active : s.activeReports l = a := ha.symm
  unfold State.raiseLane faultPlaced
  rw [active, ← ha]
  dsimp only
  cases a.find? fun r => r.kind == k with
  | some r =>
    obtain ⟨faults, counter⟩ := s.addOccurrence_faults (.lane l) r.number none
    exact Prod.ext faults counter
  | none =>
    rcases a with _ | ⟨r, _ | ⟨r', rest⟩⟩
    · exact s.addReport_faults l k c none
    · exact s.addReport_faults l k c (some r.number)
    · obtain ⟨faults, counter⟩ := s.addOccurrence_faults (.lane l)
        (if r.primary.isSome then r.number else r'.number) (some k)
      exact Prod.ext faults counter

theorem State.raiseLane_faults :
    (s.raiseLane l k c).faults = (faultPlaced s.faults s.faultCounter s.stamp l k c).1 :=
  congrArg Prod.fst (s.raiseLane_placed l k c)

variable {s}

/-- The same list, counter and time give the same list. -/
theorem State.changesOnly.raiseLane {t : State} {a : List Part} (h : s.changesOnly t a)
    (faults : .faults ∉ a := by decide) (runTime : .runTime ∉ a := by decide)
    (clock : .clock ∉ a := by decide) : (t.raiseLane l k c).faults = (s.raiseLane l k c).faults := by
  obtain ⟨list, counter⟩ := h .faults faults
  have run : t.runTime = s.runTime := h .runTime runTime
  have office : t.clock = s.clock := h .clock clock
  rw [State.raiseLane_faults, State.raiseLane_faults, list, counter]
  unfold State.stamp State.clockStamp
  rw [run, office]

theorem State.changesOnly.isLocked {t : State} {a : List Part} (h : s.changesOnly t a)
    (faults : .faults ∉ a := by decide) : t.isLocked l = s.isLocked l := by
  unfold State.isLocked State.activeReports
  rw [(h .faults faults).1]

end

/-! ## What a placed fault shows (10 R177) -/

theorem activeIn_map_occurred (list : List Report) (src : FaultSource) (n : Nat)
    (other : Option FaultKind) :
    activeIn (list.map (occurred n other)) src = (activeIn list src).map (occurred n other) := by
  rw [activeIn_map fun r => ⟨(occurred_keeps n other r).1, (occurred_keeps n other r).2.1, fun h =>
    (occurred_isActive n other r).symm.trans h⟩, List.filter_eq_self]
  intro r hr
  obtain ⟨q, hq, rfl⟩ := List.mem_map.1 hr
  exact (occurred_isActive n other q).trans (mem_activeIn.1 hq).2.1

theorem occurred_self (r : Report) (other : Option FaultKind) : occurred r.number other r =
    { r with occurrences := held255 (r.occurrences + 1), lastOther := other.or r.lastOther } :=
  if_pos rfl

section
variable (list : List Report) (counter : Nat) (at_ : Stamp) (l : LaneId) (k : FaultKind)
  (c : FaultContext)

theorem activeIn_reportAdded (primary : Option Nat) :
    ∃ n, activeIn (reportAdded list counter at_ l k primary c).1 (.lane l) = activeIn list (.lane l) ++
      [⟨n, .lane l, k, at_, none, .active, 1, primary, none, c, 0, none⟩] := by
  refine ⟨freeNumber ((agedList list).map Report.number) 65 counter, ?_⟩
  have own := activeIn_agedList list (.lane l)
  unfold activeIn at own ⊢
  rw [reportAdded, List.filter_append, own]
  simp [Report.isActive]

/-- The lane shows the fault: as a report's kind, or as its last other kind. -/
theorem faultPlaced_shows : ∃ x ∈ activeIn (faultPlaced list counter at_ l k c).1 (.lane l),
    x.kind = k ∨ x.lastOther = some k := by
  unfold faultPlaced
  cases found : (activeIn list (.lane l)).find? fun r => r.kind == k with
  | some r =>
    have kind : r.kind = k := by simpa using List.find?_some found
    refine ⟨occurred r.number none r, ?_, .inl ((occurred_keeps _ _ r).2.2.2.trans kind)⟩
    rw [activeIn_map_occurred]
    exact List.mem_map_of_mem (List.mem_of_find?_eq_some found)
  | none =>
    rcases shape : activeIn list (.lane l) with _ | ⟨r, _ | ⟨r', rest⟩⟩
    · obtain ⟨n, active⟩ := activeIn_reportAdded list counter at_ l k c none
      exact ⟨_, active ▸ List.mem_append_right _ (List.mem_singleton_self _), .inl rfl⟩
    · obtain ⟨n, active⟩ := activeIn_reportAdded list counter at_ l k c (some r.number)
      exact ⟨_, active ▸ List.mem_append_right _ (List.mem_singleton_self _), .inl rfl⟩
    · have chosen : ∃ x ∈ activeIn list (.lane l),
          x.number = if r.primary.isSome then r.number else r'.number := by
        rw [shape]
        split
        · exact ⟨r, by simp, rfl⟩
        · exact ⟨r', by simp, rfl⟩
      obtain ⟨x, hx, number⟩ := chosen
      refine ⟨occurred x.number (some k) x, ?_, .inr (congrArg Report.lastOther (occurred_self x _))⟩
      dsimp only
      rw [← number, activeIn_map_occurred]
      exact List.mem_map_of_mem hx

/-- With no ACTIVE report of the lane, the fault's report carries its context. -/
theorem faultPlaced_context (none_ : activeIn list (.lane l) = []) :
    ∃ x ∈ (faultPlaced list counter at_ l k c).1, x.kind = k ∧ x.context = c := by
  unfold faultPlaced
  rw [none_]
  exact ⟨_, List.mem_append_right _ (List.mem_singleton_self _), rfl, rfl⟩

end

section
variable {s t : State} {l : LaneId} {k : FaultKind} {c : FaultContext}
  (raised : t.faults = (s.raiseLane l k c).faults)

include raised

theorem State.shows_of_raised :
    ∃ x ∈ t.activeOf (.lane l), x.kind = k ∨ x.lastOther = some k := by
  have list : t.activeOf (.lane l) = activeIn t.faults (.lane l) := rfl
  rw [list, raised, State.raiseLane_faults]
  exact faultPlaced_shows _ _ _ _ _ _

theorem State.context_of_raised (none_ : s.activeOf (.lane l) = []) :
    ∃ x ∈ t.faults, x.kind = k ∧ x.context = c := by
  rw [raised, State.raiseLane_faults]
  exact faultPlaced_context _ _ _ _ _ _ none_

end

/-! ## The place made in a full list (10 R178) -/

theorem exists_erase_of_find? {list : List Report} {p : Report → Bool} {r : Report}
    (found : list.find? p = some r) : ∃ pre post, list = pre ++ r :: post ∧
      list.erase r = pre ++ post ∧ p r = true ∧ ∀ y ∈ pre, p y = false := by
  obtain ⟨good, pre, post, shape, passed⟩ := List.find?_eq_some_iff_append.1 found
  have before : ∀ y ∈ pre, p y = false := fun y hy => by simpa using passed y hy
  refine ⟨pre, post, shape, ?_, good, before⟩
  rw [shape, List.erase_append_right, List.erase_cons_head]
  intro held
  rw [before r held] at good
  cases good

/-- A full list loses its oldest ACKNOWLEDGED report, or else its oldest CLEARED one. -/
theorem agedList_full {list : List Report} (h : faultListOk list) (full : list.length = 64) :
    ∃ pre x post, list = pre ++ x :: post ∧ agedList list = pre ++ post ∧
      ((x.state = .acknowledged ∧ ∀ y ∈ pre, y.state ≠ .acknowledged) ∨
        (x.state = .cleared ∧ (∀ y ∈ list, y.state ≠ .acknowledged) ∧
          ∀ y ∈ pre, y.state ≠ .cleared)) := by
  have aged : agedList list = match agedReport list with
      | some r => list.erase r
      | none => list := if_neg (by rw [full]; decide)
  rw [aged]
  unfold agedReport
  cases first : list.find? fun r => r.state == .acknowledged with
  | some r =>
    obtain ⟨pre, post, shape, erased, good, before⟩ := exists_erase_of_find? first
    exact ⟨pre, r, post, shape, erased, .inl ⟨by simpa using good, fun y hy => by
      simpa using before y hy⟩⟩
  | none =>
    cases second : list.find? fun r => r.state == .cleared with
    | some r =>
      obtain ⟨pre, post, shape, erased, good, before⟩ := exists_erase_of_find? second
      refine ⟨pre, r, post, shape, erased, .inr ⟨by simpa using good, fun y hy => ?_, fun y hy => by
        simpa using before y hy⟩⟩
      simpa using List.find?_eq_none.1 first y hy
    | none =>
      have active : list.filter Report.isActive = list := by
        refine List.filter_eq_self.2 fun r hr => agedReport_eq_none ?_ r hr
        unfold agedReport
        rw [first, second]
      have few := h.active_le
      rw [active] at few
      omega

/-- Where a new report stands and which number it takes (10 R176, R178). -/
theorem reportAdded_placed {list : List Report} {counter : Nat} (h : faultListOk list)
    (low : 1 ≤ counter) (high : counter ≤ 65535) (at_ : Stamp) (l : LaneId) (k : FaultKind)
    (primary : Option Nat) (c : FaultContext) :
    ∃ rest n i, (reportAdded list counter at_ l k primary c).1 = rest ++
        [⟨n, .lane l, k, at_, none, .active, 1, primary, none, c, 0, none⟩] ∧
      (list.length < 64 → rest = list) ∧
      (list.length = 64 → ∃ pre x post, list = pre ++ x :: post ∧ rest = pre ++ post ∧
        ((x.state = .acknowledged ∧ ∀ y ∈ pre, y.state ≠ .acknowledged) ∨
          (x.state = .cleared ∧ (∀ y ∈ list, y.state ≠ .acknowledged) ∧
            ∀ y ∈ pre, y.state ≠ .cleared))) ∧
      i ≤ 64 ∧ n = (counter - 1 + i) % 65535 + 1 ∧ (∀ x ∈ rest, x.number ≠ n) ∧
      (∀ j, j < i → ∃ x ∈ rest, x.number = (counter - 1 + j) % 65535 + 1) ∧
      (reportAdded list counter at_ l k primary c).2 = (if n = 65535 then 1 else n + 1) := by
  obtain ⟨-, room⟩ := h.aged
  obtain ⟨i, number, fresh, passed⟩ := freeNumber_first (taken := (agedList list).map Report.number)
    (fuel := 65) low high (by simpa using room.trans (by decide)) (by decide)
  have within : numberAfter counter i ≤ 65535 := numberAfter_le _ _
  have steps : i ≤ 64 := by
    by_contra many
    have full := le_length_of_numberAfter_mem (n := counter) (i := 64) (by decide)
      fun j hj => passed j (by omega)
    simp only [List.length_map, Config.faultPlaces] at full room
    omega
  refine ⟨agedList list, numberAfter counter i, i, ?_, fun short => if_pos short, agedList_full h,
    steps, rfl, fun x hx same => fresh (same ▸ List.mem_map_of_mem hx), fun j hj => ?_, ?_⟩
  · rw [reportAdded, number]
  · obtain ⟨x, hx, same⟩ := List.mem_map.1 (passed j hj)
    exact ⟨x, hx, same⟩
  · rw [reportAdded, number]
    unfold nextNumber
    split <;> split <;> omega

/-! ## A lane's fault against its ACTIVE reports (O36, its first part) -/

section
variable {s : State} {l : LaneId} {k : FaultKind} {c : FaultContext} {r : Report}

/-- A second fault of a kind is an occurrence of its report (10 R177). -/
theorem State.raiseLane_again (mem : r ∈ s.activeOf (.lane l)) (kind : r.kind = k)
    (only : ∀ x ∈ s.activeOf (.lane l), x.kind = k → x = r) :
    (s.raiseLane l k c).faults = s.faults.map (occurred r.number none) ∧
      (s.raiseLane l k c).faultCounter = s.faultCounter := by
  have found : ((activeIn s.faults (.lane l)).find? fun x => x.kind == k) = some r := by
    cases first : (activeIn s.faults (.lane l)).find? fun x => x.kind == k with
    | some x => rw [only x (List.mem_of_find?_eq_some first) (by simpa using List.find?_some first)]
    | none => exact absurd kind (by simpa using List.find?_eq_none.1 first r mem)
  have placed := s.raiseLane_placed l k c
  rw [faultPlaced, found] at placed
  exact Prod.ext_iff.1 placed

theorem find?_kind_eq_none {list : List Report} (fresh : ∀ x ∈ list, x.kind ≠ k) :
    (list.find? fun x => x.kind == k) = none :=
  List.find?_eq_none.2 fun x hx => by simpa using fresh x hx

/-- A third kind is folded into the report that is not the primary (10 R177). -/
theorem State.raiseLane_folded (mem : r ∈ s.activeOf (.lane l))
    (two : (s.activeOf (.lane l)).length = 2) (fresh : ∀ x ∈ s.activeOf (.lane l), x.kind ≠ k)
    (second : r.primary ≠ none) (only : ∀ x ∈ s.activeOf (.lane l), x.primary ≠ none → x = r) :
    (s.raiseLane l k c).faults = s.faults.map (occurred r.number (some k)) ∧
      (s.raiseLane l k c).faultCounter = s.faultCounter := by
  obtain ⟨a, b, shape⟩ := List.length_eq_two.1 two
  have named : (if a.primary.isSome then a.number else b.number) = r.number := by
    rw [shape] at mem only
    cases primary : a.primary with
    | some n => rw [only a (by simp) (by simp [primary])]; rfl
    | none =>
      rcases List.mem_pair.1 mem with rfl | rfl
      · exact absurd primary second
      · rfl
  have placed := s.raiseLane_placed l k c
  rw [faultPlaced, find?_kind_eq_none (list := activeIn s.faults (.lane l)) fresh,
    show activeIn s.faults (.lane l) = [a, b] from shape] at placed
  dsimp only at placed
  rw [named] at placed
  exact Prod.ext_iff.1 placed

/-- A first or second kind is a new report (10 R177). -/
theorem State.raiseLane_added (primary : Option Nat)
    (shape : (s.activeOf (.lane l) = [] ∧ primary = none) ∨
      (∃ r, s.activeOf (.lane l) = [r] ∧ r.kind ≠ k ∧ primary = some r.number)) :
    ((s.raiseLane l k c).faults, (s.raiseLane l k c).faultCounter) =
      reportAdded s.faults s.faultCounter s.stamp l k primary c := by
  rw [State.raiseLane_placed, faultPlaced]
  rcases shape with ⟨active, rfl⟩ | ⟨r, active, fresh, rfl⟩
  · have active : activeIn s.faults (.lane l) = [] := active
    rw [active]
    rfl
  · have active : activeIn s.faults (.lane l) = [r] := active
    rw [active, find?_kind_eq_none (by simpa using fresh)]

end

end Sys2Proof.Machine
end

section
/-! SUPPORT. The notices of the changes a port must read, part by part: what each operation posts
(01 R11; 02 R25; 05 R94; 08 R146; 10 R179; 11 R197). -/

-- One proof at a time: the check's memory limit holds few threads.
set_option Elab.async false

namespace Sys2Proof.Machine

/-- What stands in a queue after a change of one part (the lanes' own notices and the outcomes apart). -/
def State.tellsOf (s t : State) : Part → Prop
  | .sessions => ∀ w, (t.session w).state ≠ (s.session w).state →
      ⟨.sessionChange, .ownSession, none⟩ ∈ (t.port (.window w)).queue ∧
        ⟨.sessionChange, .sessionOf w, none⟩ ∈ (t.port .office).queue
  | .journal => ∀ w, (s.entriesOf w).length < (t.entriesOf w).length →
      ⟨.sessionChange, .ownSession, none⟩ ∈ (t.port (.window w)).queue ∧
        ⟨.sessionChange, .sessionOf w, none⟩ ∈ (t.port .office).queue
  | .packs => t.packs ≠ s.packs → ⟨.stockChange, .stock, none⟩ ∈ (t.port .office).queue
  | .census => t.census.state ≠ s.census.state →
      ⟨.censusChange, .census, none⟩ ∈ (t.port .office).queue
  | .faults => t.faults ≠ s.faults → ⟨.faultsChange, .faultList, none⟩ ∈ (t.port .office).queue
  | .limits => t.limits ≠ s.limits → ⟨.storeChange, .store, none⟩ ∈ (t.port .office).queue
  | .store => t.storeValid ≠ s.storeValid → ⟨.storeChange, .store, none⟩ ∈ (t.port .office).queue
  | .grants => ∀ w : Window, t.grants[w] ≠ s.grants[w] →
      ⟨.permissions, .ownPermissions, none⟩ ∈ (t.port (.window w)).queue
  | .forms => ∀ f, (t.form f).current ≠ (s.form f).current ∨ (t.form f).pending ≠ (s.form f).pending →
      ⟨.formsChange, .forms, none⟩ ∈ (t.port .office).queue
  | _ => True

/-- Every change of those parts has its notice, and no notice is lost. -/
def State.tellsAll (s t : State) : Prop := s.queuesGrow t ∧ ∀ x, s.tellsOf t x

section
variable {s t u : State}

theorem State.tellsOf_of_same {x : Part} (h : s.same t x) : s.tellsOf t x := by
  cases x with
  | sessions =>
    intro w changed
    exact absurd (congrArg (fun v : Vector Session 6 => (v[w]).state) h) changed
  | journal =>
    intro w longer
    have same : t.entriesOf w = s.entriesOf w := by
      unfold State.entriesOf
      rw [h.1]
    rw [same] at longer
    exact absurd longer (lt_irrefl _)
  | packs => exact fun changed => absurd h changed
  | census => exact fun changed => absurd (congrArg Census.state h) changed
  | faults => exact fun changed => absurd h.1 changed
  | limits => exact fun changed => absurd h changed
  | store => exact fun changed => absurd h.1 changed
  | grants =>
    intro w changed
    exact absurd (congrArg (fun v : Vector GrantSet 6 => v[w]) h) changed
  | forms =>
    intro f changed
    have same : t.form f = s.form f := congrArg (fun v : Vector FormRecord 8 => v[f]) h
    rw [same] at changed
    exact absurd changed (by simp)
  | _ => trivial

theorem State.tellsAll_refl (s : State) : s.tellsAll s :=
  ⟨s.queuesGrow_refl, fun x => State.tellsOf_of_same (s.same_refl x)⟩

/-- The parts a frame leaves out need no notice. -/
theorem State.tellsAll_of_frame {a : List Part} (f : s.changesOnly t a) (grow : s.queuesGrow t)
    (told : ∀ x ∈ a, s.tellsOf t x) : s.tellsAll t :=
  ⟨grow, fun x => if h : x ∈ a then told x h else State.tellsOf_of_same (f x h)⟩

/-- A notice posted by either of two steps stands after both. -/
theorem mem_of_either {q : Prop} {p : Port} {n : Notice} (plain : n.plain) (grow : t.queuesGrow u)
    {first second : Prop} (split : q → first ∨ second) (h : first → n ∈ (t.port p).queue)
    (h' : second → n ∈ (u.port p).queue) (hq : q) : n ∈ (u.port p).queue :=
  (split hq).elim (fun x => (grow p).2 n plain (h x)) h'

theorem State.tellsAll.andThen (h : s.tellsAll t) (h' : t.tellsAll u) : s.tellsAll u := by
  obtain ⟨grow, told⟩ := h
  obtain ⟨grow', told'⟩ := h'
  have changed : ∀ {α : Type} (a b c : α), c ≠ a → b ≠ a ∨ c ≠ b := fun a b c ne => by
    by_cases e : b = a
    · exact .inr (e ▸ ne)
    · exact .inl e
  refine ⟨grow.andThen grow', fun x => ?_⟩
  have one := told x
  have two := told' x
  cases x with
  | sessions =>
    exact fun w ne => ⟨mem_of_either ⟨rfl, rfl⟩ grow' (changed _ _ _) (fun x => (one w x).1)
      (fun x => (two w x).1) ne, mem_of_either ⟨rfl, rfl⟩ grow' (changed _ _ _)
      (fun x => (one w x).2) (fun x => (two w x).2) ne⟩
  | journal =>
    intro w longer
    have split : (s.entriesOf w).length < (u.entriesOf w).length →
        (s.entriesOf w).length < (t.entriesOf w).length ∨
          (t.entriesOf w).length < (u.entriesOf w).length := fun h => by omega
    exact ⟨mem_of_either ⟨rfl, rfl⟩ grow' split (fun x => (one w x).1) (fun x => (two w x).1) longer,
      mem_of_either ⟨rfl, rfl⟩ grow' split (fun x => (one w x).2) (fun x => (two w x).2) longer⟩
  | packs | census | faults | limits | store =>
    exact mem_of_either ⟨rfl, rfl⟩ grow' (changed _ _ _) one two
  | grants => exact fun w => mem_of_either ⟨rfl, rfl⟩ grow' (changed _ _ _) (one w) (two w)
  | forms =>
    refine fun f => mem_of_either ⟨rfl, rfl⟩ grow' (fun h => ?_) (one f) (two f)
    rcases h with h | h
    · exact (changed _ _ _ h).imp .inl .inl
    · exact (changed _ _ _ h).imp .inr .inr
  | _ => trivial

theorem State.tellsAll_ite {c : Prop} [Decidable c] (h : s.tellsAll t) (h' : s.tellsAll u) :
    s.tellsAll (if c then t else u) := by
  split
  · exact h
  · exact h'

theorem State.tellsAll_foldl {α : Type} (f : State → α → State)
    (each : ∀ t x, State.tellsAll t (f t x)) : ∀ (xs : List α) (s : State), s.tellsAll (xs.foldl f s)
  | [], s => s.tellsAll_refl
  | x :: xs, s => (each s x).andThen (State.tellsAll_foldl f each xs (f s x))

/-- The parts that need no notice of these. -/
def quietParts : List Part :=
  [.phase, .powerFail, .receivers, .queues, .slots, .scanner, .lanes, .nextPack, .discounts, .clock,
    .runTime, .pending]

theorem State.tellsOf_quiet {x : Part} (h : x ∈ quietParts) : s.tellsOf t x := by
  fin_cases h <;> trivial

/-- An operation on quiet parts alone. -/
theorem State.changesOnly.tellsAll {a : List Part} (f : s.changesOnly t a) (grow : s.queuesGrow t)
    (sub : a ⊆ quietParts := by decide) : s.tellsAll t :=
  State.tellsAll_of_frame f grow fun _ h => State.tellsOf_quiet (sub h)

end

/-! ## The operations -/

section
variable (s : State) (w : Window) (l : LaneId)

theorem State.mem_post_office (k : NoticeKind) (o : NoticeObject) :
    (⟨k, o, none⟩ : Notice) ∈ ((s.postOffice k o).port .office).queue := by
  rw [State.postOffice_queue]
  exact mem_coalesce_self _ _

theorem State.mem_postSession :
    (⟨.sessionChange, .ownSession, none⟩ : Notice) ∈ ((s.postSession w).port (.window w)).queue ∧
      (⟨.sessionChange, .sessionOf w, none⟩ : Notice) ∈ ((s.postSession w).port .office).queue := by
  constructor
  · rw [State.postSession_queue, if_pos rfl]
    exact mem_coalesce_self _ _
  · rw [State.postSession_queue]
    exact mem_coalesce_self _ _

theorem State.mem_postReport (src : FaultSource) :
    (⟨.faultsChange, .faultList, none⟩ : Notice) ∈ ((s.postReport src).port .office).queue := by
  cases src with
  | lane l => exact (State.postLane_grow _ l .office).2 _ ⟨rfl, rfl⟩ (s.mem_post_office _ _)
  | controller => exact s.mem_post_office _ _

theorem State.mem_postReport_lane (p : Port) :
    laneNotice l ∈ ((s.postReport (.lane l)).port p).queue := by
  unfold State.postReport
  rw [State.postLane_queue]
  exact mem_coalesce_self _ _

theorem State.setSession_tellsAll (x : Session) (state : x.state = (s.session w).state) :
    s.tellsAll (s.setSession w x) := by
  refine State.tellsAll_of_frame (s.setSession_frame w x) (s.setSession_frame w x).queuesGrow ?_
  refine List.forall_mem_singleton.2 fun v changed => absurd ?_ changed
  by_cases same : v = w
  · subst same
    rw [State.setSession_session_self, state]
  · rw [State.setSession_session_ne s same]

theorem State.setSession_postSession_tellsAll (x : Session) :
    s.tellsAll ((s.setSession w x).postSession w) := by
  refine State.tellsAll_of_frame (s.setSession_postSession_frame w x)
    (s.setSession_postSession_grow w x) ?_
  refine List.forall_mem_cons.2 ⟨fun v changed => ?_, fun x h =>
    State.tellsOf_quiet (List.mem_singleton.1 h ▸ by decide)⟩
  by_cases same : v = w
  · subst same
    exact State.mem_postSession _ v
  · have kept : ((s.setSession w x).postSession w).session v = s.session v := by
      rw [(State.postSession_frame _ w).session, State.setSession_session_ne s same]
    rw [kept] at changed
    exact absurd rfl changed

theorem State.updatePack_tellsAll (n : Nat) (f : Pack → Pack) : s.tellsAll (s.updatePack n f) :=
  State.tellsAll_of_frame (s.updatePack_frame n f) (s.updatePack_grow n f)
    (List.forall_mem_cons.2 ⟨fun _ => State.mem_post_office _ _ _, fun _ h =>
      State.tellsOf_quiet (List.mem_singleton.1 h ▸ by decide)⟩)

theorem State.setCensus_tellsAll (c : Census) (state : c.state = s.census.state) :
    s.tellsAll { s with census := c } :=
  State.tellsAll_of_frame (s.setCensus_frame c) (s.setCensus_frame c).queuesGrow
    (List.forall_mem_singleton.2 fun changed => absurd state changed)

theorem State.moveCensus_tellsAll (c : Census) : s.tellsAll (s.moveCensus c) :=
  State.tellsAll_of_frame (s.moveCensus_frame c) (s.moveCensus_grow c)
    (List.forall_mem_cons.2 ⟨fun _ => State.mem_post_office _ _ _, fun _ h =>
      State.tellsOf_quiet (List.mem_singleton.1 h ▸ by decide)⟩)

theorem Census.told_state (c : Census) (pack serial : Nat) : (c.told pack serial).state = c.state := by
  unfold Census.told
  split <;> rfl

theorem State.changeMark_tellsAll (cls serial : Nat) (new : Mark) :
    s.tellsAll (s.changeMark cls serial new) := by
  unfold State.changeMark
  split
  · exact s.tellsAll_refl
  · split
    · exact s.tellsAll_refl
    · refine State.tellsAll_ite ?_ s.tellsAll_refl
      exact ((s.updatePack_tellsAll _ _).andThen ((State.stockLow_frame _ _ _).tellsAll
        (State.stockLow_grow _ _ _))).andThen (State.setCensus_tellsAll _ _ (Census.told_state _ _ _))

theorem State.markUnused_tellsAll (cls : Nat) (new : Mark) (serials : List Nat) :
    s.tellsAll (s.markUnused cls new serials) :=
  State.tellsAll_foldl _ (fun t r => State.tellsAll_ite (t.changeMark_tellsAll cls r new)
    t.tellsAll_refl) serials s

theorem State.writeEntry_tellsAll (d : EntryData) : s.tellsAll (s.writeEntry w d) := by
  have stock : (⟨.stockChange, .stock, none⟩ : Notice) ∈ ((s.writeEntry w d).port .office).queue :=
    (State.postSession_grow _ w .office).2 _ ⟨rfl, rfl⟩ (State.mem_post_office _ _ _)
  have session := State.mem_postSession ((s.entered w d).updatePack d.pack
    fun p => { p with references := p.references + 1 }) w
  refine State.tellsAll_of_frame (s.writeEntry_frame w d) (s.writeEntry_grow w d) ?_
  intro x hx
  fin_cases hx
  · intro v changed
    by_cases same : v = w
    · subst same
      exact session
    · refine absurd ?_ changed
      rw [(State.writeEntry_session (s := s) (w := w) (d := d)).2 v same]
  · intro v longer
    by_cases same : v = w
    · subst same
      exact session
    · refine absurd longer ?_
      rw [State.writeEntry_entriesOf, if_neg same]
      exact lt_irrefl _
  · exact fun _ => stock
  · trivial

/-- An operation on the fault list whose last step posts the report's change. -/
theorem State.tellsAll_of_report (src : FaultSource) (u : State)
    (f : s.changesOnly u [.faults, .queues]) (grow : s.queuesGrow u) : s.tellsAll (u.postReport src) :=
  State.tellsAll_of_frame (a := [.faults, .queues]) (State.changesOnly_then f (State.postReport_frame u src))
    (grow.andThen (u.postReport_grow src)) (List.forall_mem_cons.2
      ⟨fun _ => u.mem_postReport src, fun _ h => State.tellsOf_quiet (List.mem_singleton.1 h ▸ by decide)⟩)

theorem State.mapReports_tellsAll (f : Report → Report) (src : FaultSource) :
    s.tellsAll ((s.mapReports f).postReport src) :=
  s.tellsAll_of_report src _ (State.changesOnly_mono (s.mapReports_frame f) (by decide))
    (s.mapReports_grow f)

theorem State.addReport_tellsAll (src : FaultSource) (k : FaultKind) (n : Option Nat)
    (c : FaultContext) : s.tellsAll (s.addReport src k n c) :=
  s.tellsAll_of_report src _
    (State.changesOnly_then (c := [.faults, .queues]) s.ageFaults_frame (State.setFaults_frame _ _ _))
    (s.ageFaults_grow.andThen (State.setFaults_frame _ _ _).queuesGrow)

theorem State.raiseLane_tellsAll (k : FaultKind) (c : FaultContext) : s.tellsAll (s.raiseLane l k c) := by
  unfold State.raiseLane
  dsimp only
  split
  · exact s.mapReports_tellsAll _ _
  · split
    · exact s.addReport_tellsAll _ _ _ _
    · exact s.addReport_tellsAll _ _ _ _
    · exact s.mapReports_tellsAll _ _

theorem State.raiseController_tellsAll (k : FaultKind) (c : FaultContext) :
    s.tellsAll (s.raiseController k c) := by
  unfold State.raiseController
  split
  · exact s.mapReports_tellsAll _ _
  · exact s.addReport_tellsAll _ _ _ _

theorem State.selfClear_tellsAll : s.tellsAll (s.selfClear l) := by
  refine State.tellsAll_ite (s.tellsAll_of_report _ _ ?_ ?_) s.tellsAll_refl
  · exact State.changesOnly_mono (State.changesOnly_then (c := [.faults]) (s.mapReports_frame _)
      (State.promote_frame _ l)) (by decide)
  · exact (s.mapReports_grow _).andThen (State.promote_frame _ l).queuesGrow

theorem State.countRefusal_tellsAll : s.tellsAll (s.countRefusal l) := by
  unfold State.countRefusal
  split
  · exact s.mapReports_tellsAll _ _
  · exact s.tellsAll_refl

theorem State.setForm_tellsAll (f : Fin 8) (x : FormRecord) (current : x.current = (s.form f).current)
    (pending : x.pending = (s.form f).pending) : s.tellsAll (s.setForm f x) := by
  refine State.tellsAll_of_frame (s.setForm_frame f x) (s.setForm_frame f x).queuesGrow
    (List.forall_mem_singleton.2 fun g changed => ?_)
  by_cases same : g = f
  · subst same
    rw [State.setForm_form_self, current, pending] at changed
    exact absurd changed (by simp)
  · rw [State.setForm_form_ne s same] at changed
    exact absurd changed (by simp)

theorem State.setForm_postForms_tellsAll (f : Fin 8) (x : FormRecord) :
    s.tellsAll (s.setForm f x).postForms :=
  State.tellsAll_of_frame (a := [.forms, .queues])
    (State.changesOnly_then (s.setForm_frame f x) (State.postOffice_frame _ _ _))
    ((s.setForm_frame f x).queuesGrow.andThen (State.postForms_grow _))
    (List.forall_mem_cons.2 ⟨fun _ _ => State.mem_post_office _ _ _, fun _ h =>
      State.tellsOf_quiet (List.mem_singleton.1 h ▸ by decide)⟩)

theorem State.regrant_tellsAll (g : GrantSet) : s.tellsAll (s.regrant w g) := by
  refine State.tellsAll_of_frame (s.regrant_frame w g) (s.regrant_grow w g)
    (List.forall_mem_cons.2 ⟨fun v changed => ?_, fun _ h =>
      State.tellsOf_quiet (List.mem_singleton.1 h ▸ by decide)⟩)
  unfold State.regrant at changed ⊢
  dsimp only at changed ⊢
  split
  · rename_i same
    rw [if_pos same] at changed
    refine absurd ?_ changed
    by_cases own : v = w
    · subst own
      simp [same]
    · simp [Vector.getElem_set_ne _ _ (Fin.val_ne_of_ne (Ne.symm own))]
  · rename_i other
    rw [if_neg other] at changed
    by_cases own : v = w
    · subst own
      rw [State.post_queue, if_pos rfl]
      exact mem_coalesce_self _ _
    · refine absurd ?_ changed
      simp [Vector.getElem_set_ne _ _ (Fin.val_ne_of_ne (Ne.symm own))]

end

end Sys2Proof.Machine
end

section
/-! SUPPORT. Every move and every deed posts the notices of what it changes (`State.tellsAll`). -/

-- One proof at a time: the check's memory limit holds few threads.
set_option Elab.async false

namespace Sys2Proof.Machine

section
variable {l : LaneId} {c : Instr} {a : List Part} {s t : State}

theorem Move.tellsAll (h : Move l s t) : s.tellsAll t := by
  have grow := h.queuesGrow
  cases h with
  | lane f => exact (s.moveLane_frame l f).tellsAll grow
  | told => exact s.reportEligible_frame.tellsAll grow
  | slot w k x => exact (s.setSlot_frame w k x).tellsAll grow
  | outcome w k o => exact (s.postOutcome_frame w k o).tellsAll grow
  | form f x current pending => exact s.setForm_tellsAll f x current pending
  | applied f => exact s.setForm_postForms_tellsAll f _
  | mark cls serial new => exact s.changeMark_tellsAll cls serial new
  | entry w d => exact s.writeEntry_tellsAll w d
  | reserved w n m =>
    have counted := State.setJournal_frame (s := s.setSession w { s.session w with reserved := n })
      s.journal s.journalInUse m
    refine (s.setSession_tellsAll w { s.session w with reserved := n } rfl).andThen
      (State.tellsAll_of_frame counted counted.queuesGrow (List.forall_mem_singleton.2 ?_))
    exact fun v longer => absurd longer (lt_irrefl _)
  | raised k c => exact s.raiseLane_tellsAll l k c
  | relocked => exact s.selfClear_tellsAll l
  | recovered how => exact s.mapReports_tellsAll _ _
  | counted => exact s.countRefusal_tellsAll l

/-! ## The deeds that change several parts -/

theorem State.freeEntries_tellsAll (s : State) (w : Window) : s.tellsAll (s.freeEntries w) := by
  refine State.tellsAll_of_frame (s.freeEntries_frame w) (s.freeEntries_grow w) fun x hx => ?_
  fin_cases hx
  · intro v longer
    have shorter : (s.freeEntries w).journal = s.journal.filter fun e => e.window != w := by
      unfold State.freeEntries
      dsimp only
      split <;> rfl
    refine absurd longer (not_lt.2 ?_)
    unfold State.entriesOf
    rw [shorter]
    exact (List.filter_sublist.filter _).length_le
  · intro changed
    unfold State.freeEntries at changed ⊢
    dsimp only at changed ⊢
    split
    · exact State.mem_post_office _ _ _
    · rename_i unnamed
      rw [if_neg unnamed] at changed
      refine absurd ?_ changed
      refine (List.map_congr_left fun p hp => ?_).trans (List.map_id _)
      have zero : s.entriesNaming w p.number = 0 := by
        by_contra some
        exact unnamed (List.any_eq_true.2 ⟨p, hp, decide_eq_true (Nat.pos_of_ne_zero some)⟩)
      simp [zero]
  · trivial

theorem State.withPacks_postStock_tellsAll (s : State) (packs : List Pack) (n : Nat) :
    s.tellsAll (State.postStock { s with packs := packs, nextPack := n }) :=
  State.tellsAll_of_frame (a := [.packs, .nextPack, .queues])
    (State.changesOnly_then (s.withPacks_frame packs n) (State.postOffice_frame _ _ _))
    ((s.withPacks_frame packs n).queuesGrow.andThen (State.postStock_grow _))
    (List.forall_mem_cons.2 ⟨fun _ => State.mem_post_office _ _ _, fun x h =>
      State.tellsOf_quiet (by fin_cases h <;> decide)⟩)

theorem State.applyMode_tellsAll (s : State) (p : Pack) (m : WithdrawMode) :
    s.tellsAll (s.applyMode p m) := by
  unfold State.applyMode
  dsimp only
  split
  · exact (s.updatePack_tellsAll _ _).andThen (State.markUnused_tellsAll _ _ _ _)
  · exact s.updatePack_tellsAll _ _

theorem State.changeMark_censusState (s : State) (cls serial : Nat) (new : Mark) :
    (s.changeMark cls serial new).census.state = s.census.state := by
  unfold State.changeMark
  split
  · rfl
  · split
    · rfl
    · split
      · exact (Census.told_state _ _ _).trans (congrArg Census.state
          (((State.stockLow_frame _ _ _) .census (by decide)).trans
            (State.updatePack_frame _ _ _ .census (by decide))))
      · rfl

theorem State.markUnused_censusState (cls : Nat) (mark : Mark) : ∀ (xs : List Nat) (s : State),
    (s.markUnused cls mark xs).census.state = s.census.state
  | [], _ => rfl
  | r :: xs, s => by
    refine (State.markUnused_censusState cls mark xs _).trans ?_
    dsimp only
    split
    · exact s.changeMark_censusState cls r mark
    · rfl

/-- No step of a withdrawal moves the census's state. -/
theorem State.releaseLane_census (s : State) (l : LaneId) (p : Pack) (m : WithdrawMode) :
    (s.releaseLane l p m).census.state = s.census.state := by
  have moved : ((s.moveLane l Lane.stopped).applyMode p m).census.state =
      (s.moveLane l Lane.stopped).census.state := by
    unfold State.applyMode
    dsimp only
    split
    · exact (State.markUnused_censusState _ _ _ _).trans (congrArg Census.state (State.updatePack_frame _ _ _ .census (by decide)))
    · exact congrArg Census.state (State.updatePack_frame _ _ _ .census (by decide))
  have stopped : (s.moveLane l Lane.stopped).census = s.census := s.moveLane_frame l _ .census (by decide)
  have unmounted : (((s.moveLane l Lane.stopped).applyMode p m).moveLane l Lane.unmount).census =
    ((s.moveLane l Lane.stopped).applyMode p m).census := State.moveLane_frame _ l _ .census (by decide)
  exact (congrArg Census.state unmounted).trans (moved.trans (congrArg Census.state stopped))

theorem State.withdrawLane_tellsAll (s : State) (l : LaneId) (p : Pack) (m : WithdrawMode) :
    s.tellsAll (s.withdrawLane l p m) := by
  obtain ⟨u, hu⟩ : ∃ u, u = s.releaseLane l p m := ⟨_, rfl⟩
  have cleared := u.clearByWithdrawal_frame l
  have posted := State.postOffice_frame (u.clearByWithdrawal l) .stockChange .stock
  have told := State.postLane_frame (u.clearByWithdrawal l).postStock l
  have rest := State.changesOnly_then (c := [.faults, .queues])
    (State.changesOnly_then (c := [.faults, .queues]) cleared posted) told
  have whole : s.withdrawLane l p m = ((u.clearByWithdrawal l).postStock).postLane l := by
    rw [State.withdrawLane, ← hu]
  refine State.tellsAll_of_frame (s.withdrawLane_frame l p m) (s.withdrawLane_grow l p m) fun x hx => ?_
  rw [whole]
  fin_cases hx
  · trivial
  · exact fun _ => (State.postLane_grow _ l .office).2 _ ⟨rfl, rfl⟩ (State.mem_post_office _ _ _)
  · refine fun changed => absurd ?_ changed
    rw [show (((u.clearByWithdrawal l).postStock).postLane l).census = u.census from
      rest .census (by decide), hu]
    exact s.releaseLane_census l p m
  · intro changed
    refine ((State.postStock_grow _).andThen (State.postLane_grow _ l) .office).2 _ ⟨rfl, rfl⟩ ?_
    unfold State.clearByWithdrawal at changed ⊢
    split
    · rename_i none
      rw [if_pos none] at changed
      refine absurd ?_ changed
      exact (((State.changesOnly_then (c := [.queues]) (State.postOffice_frame u .stockChange .stock)
        (State.postLane_frame u.postStock l)) .faults (by decide)).1).trans
        (hu ▸ ((s.releaseLane_frame l p m) .faults (by decide)).1)
    · exact State.mem_post_office _ _ _
  · trivial

theorem State.storeVerdict_tellsAll (s : State) (p : Pack) (v : Verdict) :
    s.tellsAll (s.storeVerdict p v) := by
  cases v with
  | none => exact s.tellsAll_refl
  | matched => exact s.updatePack_tellsAll _ _
  | mismatch => exact (s.updatePack_tellsAll _ _).andThen (State.raiseController_tellsAll _ _ _)

/-- STORE_REINITIALISE posts what it changes (11 R196). -/
theorem State.reinitialised_tellsAll (s : State) : s.tellsAll s.reinitialised := by
  have sessions : ∀ t : State, t.tellsAll t.emptySessions := fun t => by
    have each : ∀ (t : State) (v : Window), t.tellsAll (t.emptySession v) := fun t v => by
      unfold State.emptySession
      split
      · rename_i none
        exact t.setSession_tellsAll v .none none.symm
      · exact t.setSession_postSession_tellsAll v .none
    refine (State.tellsAll_foldl State.emptySession each allWindows t).andThen ?_
    have emptied := State.setJournal_frame (s := allWindows.foldl State.emptySession t) [] 0 0
    refine State.tellsAll_of_frame emptied emptied.queuesGrow (List.forall_mem_singleton.2 ?_)
    exact fun w longer => absurd longer (Nat.not_lt_zero _)
  have jobs := (s.cancelJobs_frame.tellsAll s.cancelJobs_grow).andThen (sessions _)
  have lanes := jobs.andThen (State.reinitialiseLanes_frame.tellsAll (State.reinitialiseLanes_grow _))
  have packs := lanes.andThen (State.withPacks_postStock_tellsAll _ [] 1)
  have census := packs.andThen (u := State.haltCensus _ .storeReinitialise)
    (State.tellsAll_ite (State.tellsAll_refl _) (State.moveCensus_tellsAll _ _))
  have forms := census.andThen (u := State.emptyForms _) (State.tellsAll_of_frame State.emptyForms_frame
    ((State.setForms_frame (.replicate 8 .undefined)).queuesGrow.andThen (State.postForms_grow _))
    (List.forall_mem_cons.2 ⟨fun _ _ => State.mem_post_office _ _ _, fun _ h =>
      State.tellsOf_quiet (List.mem_singleton.1 h ▸ by decide)⟩))
  have discounts := forms.andThen ((State.setDiscounts_frame emptyDiscounts).tellsAll
    (State.setDiscounts_frame emptyDiscounts).queuesGrow)
  have grants := discounts.andThen (State.tellsAll_foldl _ (fun t w => t.regrant_tellsAll w .all)
    allWindows _)
  obtain ⟨u, hu⟩ : ∃ u : State, u = State.grantAll { s.withoutStock with discounts := emptyDiscounts } :=
    ⟨_, rfl⟩
  have before : s.tellsAll u := hu ▸ grants
  have limited := u.withLimits_frame .default
  have faults := State.emptyFaults_frame (s := { u with limits := .default })
  have stored := State.setStore_frame (s := State.emptyFaults { u with limits := .default }) true true
  have ended : s.reinitialised = State.postStore
      { State.emptyFaults { u with limits := .default } with storeValid := true, checkAgrees := true } := by
    rw [hu]
    rfl
  rw [ended]
  refine before.andThen (State.tellsAll_of_frame (a := [.limits, .faults, .store, .queues])
    (State.changesOnly_then (State.changesOnly_then (c := [.limits, .faults, .store, .queues])
      (State.changesOnly_then (c := [.limits, .faults, .queues]) limited faults) stored)
      (State.postOffice_frame _ _ _))
    (((limited.queuesGrow.andThen ((State.setFaults_frame _ _ _).queuesGrow.andThen
      (State.postFaults_grow _))).andThen stored.queuesGrow).andThen (State.postStore_grow _))
    fun x hx => ?_)
  fin_cases hx
  · exact fun _ => State.mem_post_office _ _ _
  · exact fun _ => (State.postStore_grow _ .office).2 _ ⟨rfl, rfl⟩ (State.mem_post_office _ _ _)
  · exact fun _ => State.mem_post_office _ _ _
  · trivial

theorem Deed.tellsAll (h : Deed c a s t) : s.tellsAll t := by
  have frame := h.frame
  have grow := h.queuesGrow
  cases h with
  | move use l h => exact h.tellsAll
  | idle h => exact h.tellsAll grow
  | dropped _ w => exact s.setSession_tellsAll w _ rfl
  | undeclared _ =>
    refine State.tellsAll_of_frame frame grow (List.forall_mem_singleton.2 fun w changed => ?_)
    refine absurd ?_ changed
    simp [State.dropDeclarations, State.session, Session.undeclared]
  | opened _ w b => exact s.setSession_postSession_tellsAll w _
  | begun _ w n => exact s.setSession_postSession_tellsAll w _
  | begunAgain _ w n range before => exact s.setSession_tellsAll w _ before.symm
  | item _ w d x amount => exact s.setSession_tellsAll w _ rfl
  | confirmed _ w d r => exact s.setSession_postSession_tellsAll w _
  | collected _ w =>
    exact (s.freeEntries_tellsAll w).andThen (State.setSession_postSession_tellsAll _ w _)
  | reopened _ w => exact s.setSession_postSession_tellsAll w _
  | voided use _ w e =>
    exact (s.changeMark_tellsAll _ _ _).andThen (State.writeEntry_tellsAll _ w _)
  | packAdded use _ b => exact s.withPacks_postStock_tellsAll _ _
  | packMounted mounts _ l p =>
    exact (s.updatePack_tellsAll _ _).andThen
      ((State.moveLane_frame _ l _).tellsAll (State.moveLane_grow _ l _))
  | packReleased use mounts _ l p m => exact s.withdrawLane_tellsAll l p m
  | packRetired use mounts _ p m => exact s.applyMode_tellsAll p m
  | packRemoved use _ p => exact s.withPacks_postStock_tellsAll _ s.nextPack
  | censusMoved own _ c => exact s.moveCensus_tellsAll c
  | censusRead own _ c state => exact s.setCensus_tellsAll c state
  | verdict use _ p v => exact s.storeVerdict_tellsAll p v
  | acknowledged _ n r => exact s.mapReports_tellsAll _ _
  | formPlaced _ f d => exact s.setForm_postForms_tellsAll f _
  | formStored _ f d => exact s.setForm_postForms_tellsAll f _
  | discount _ n e => exact (s.setDiscounts_frame _).tellsAll grow
  | limits own _ b =>
    refine State.tellsAll_of_frame frame grow (List.forall_mem_cons.2 ⟨fun changed => ?_, fun _ h =>
      State.tellsOf_quiet (List.mem_singleton.1 h ▸ by decide)⟩)
    split
    · rename_i same
      rw [if_pos same] at changed
      exact absurd same changed
    · exact State.mem_post_office _ _ _
  | regranted _ w g => exact s.regrant_tellsAll w g
  | slotsRestarted _ => exact (s.setSlots_frame _).tellsAll grow
  | reinitialised own use => exact s.reinitialised_tellsAll

theorem Deeds.tellsAll (h : Deeds c s t) : s.tellsAll t :=
  h.lift State.tellsAll_refl (fun _ _ _ => State.tellsAll.andThen) fun _ _ _ => Deed.tellsAll

/-- The notices a command takes are taken before it changes anything. -/
theorem exec_tellsAll (power : isPower c = false) (run : exec c s = .next t) (x : Part) :
    s.tellsOf t x := by
  obtain ⟨u, queues, deeds⟩ := exec_deeds power run
  have told := deeds.tellsAll.2 x
  have same : ∀ y, y ≠ Part.queues → s.same u y := fun y hy => queues y (by simpa using hy)
  cases x with
  | sessions =>
    have session := fun w => queues.session w
    exact fun w changed => told w (by rwa [session])
  | journal =>
    have entries : ∀ w, u.entriesOf w = s.entriesOf w := fun w => by
      unfold State.entriesOf
      rw [(same .journal (by decide)).1]
    exact fun w longer => told w (by rwa [entries])
  | packs => exact fun changed => told (by rwa [show u.packs = s.packs from same .packs (by decide)])
  | census => exact fun changed => told (by rwa [show u.census = s.census from same .census (by decide)])
  | faults => exact fun changed => told (by rwa [(same .faults (by decide)).1])
  | limits => exact fun changed => told (by rwa [show u.limits = s.limits from same .limits (by decide)])
  | store => exact fun changed => told (by rwa [(same .store (by decide)).1])
  | grants =>
    exact fun w changed => told w (by rwa [show u.grants = s.grants from same .grants (by decide)])
  | forms => exact fun f changed => told f (by rwa [queues.form])
  | _ => trivial

end

end Sys2Proof.Machine
end

section
/-! SUPPORT. A change of a lane's ACTIVE reports leaves LANE_CHANGE at every port (10 R179). -/

-- One proof at a time: the check's memory limit holds few threads.
set_option Elab.async false

namespace Sys2Proof.Machine

/-! ## Reports that stand -/

/-- A change in place leaves a source's ACTIVE reports where it leaves each of them. -/
theorem activeIn_map_of_fixed {f : Report → Report} (keeps : keepsIdentity f) {list : List Report}
    {src : FaultSource} (fixed : ∀ r ∈ activeIn list src, f r = r) :
    activeIn (list.map f) src = activeIn list src := by
  have same : (activeIn list src).map f = activeIn list src :=
    (List.map_congr_left fixed).trans (List.map_id _)
  rw [activeIn_map keeps, same, List.filter_eq_self]
  exact fun r hr => (mem_activeIn.1 hr).2.1

section
variable {s t : State} {l m : LaneId}

/-- The lane's ACTIVE reports differ. -/
def State.activeMoved (m : LaneId) (s t : State) : Prop :=
  activeIn t.faults (.lane m) ≠ activeIn s.faults (.lane m)

theorem State.changesOnly.activeStands {a : List Part} (h : s.changesOnly t a)
    (out : .faults ∉ a := by decide) : ¬s.activeMoved m t := by
  unfold State.activeMoved
  rw [(h .faults out).1]
  exact fun moved => moved rfl

/-- Reports of other lanes stand where a change is of one lane's reports alone. -/
theorem State.mapReports_activeStands {f : Report → Report} (keeps : keepsIdentity f)
    (other : ∀ r, r.source = .lane m → f r = r) : ¬s.activeMoved m (s.mapReports f) := by
  have fixed := activeIn_map_of_fixed keeps (list := s.faults) (src := .lane m)
    fun r hr => other r (mem_activeIn.1 hr).2.2
  exact fun moved => moved fixed

/-- A change of the reports with one number is a change of one source's. -/
theorem activeIn_map_named {f : Report → Report} (keeps : keepsIdentity f) {list : List Report}
    (nodup : (list.map Report.number).Nodup) {r : Report} (held : r ∈ list) {src : FaultSource}
    (other : r.source ≠ src) (unnamed : ∀ q, q.number ≠ r.number → f q = q) :
    activeIn (list.map f) src = activeIn list src := by
  refine activeIn_map_of_fixed keeps fun q hq => unnamed q fun same => ?_
  obtain ⟨mem, -, source⟩ := mem_activeIn.1 hq
  have : q = r := List.inj_on_of_nodup_map nodup mem held same
  exact other (this ▸ source)

theorem occurred_unnamed {n : Nat} {o : Option FaultKind} {q : Report} (h : q.number ≠ n) :
    occurred n o q = q := if_neg h

theorem occurred_keepsIdentity (n : Nat) (o : Option FaultKind) : keepsIdentity (occurred n o) :=
  fun r => ⟨(occurred_keeps n o r).1, (occurred_keeps n o r).2.1, fun h =>
    (occurred_isActive n o r).symm.trans h⟩

/-- A report added with another source. -/
theorem activeIn_added {list : List Report} {r : Report} {src : FaultSource} (other : r.source ≠ src) :
    activeIn (agedList list ++ [r]) src = activeIn list src := by
  have aged := activeIn_agedList list src
  unfold activeIn at aged ⊢
  rw [List.filter_append, aged]
  simp [other]

theorem State.addReport_activeStands (src : FaultSource) (other : src ≠ .lane m) (k : FaultKind)
    (n : Option Nat) (c : FaultContext) : ¬s.activeMoved m (s.addReport src k n c) := by
  refine fun moved => moved ?_
  unfold State.addReport
  dsimp only
  rw [(State.postReport_faults _ _).1, s.ageFaults_faults.1]
  exact activeIn_added other

theorem State.addOccurrence_activeStands {src : FaultSource} {r : Report} (h : s.faultsHold)
    (held : r ∈ s.faults) (other : r.source ≠ .lane m) (o : Option FaultKind) :
    ¬s.activeMoved m (s.addOccurrence src r.number o) := by
  refine fun moved => moved ?_
  rw [(s.addOccurrence_faults src r.number o).1]
  exact activeIn_map_named (occurred_keepsIdentity _ _) (s.faultsHold_iff.1 h).1.2.1 held other
    fun q hq => occurred_unnamed hq

theorem State.raiseLane_activeStands (h : s.faultsHold) (other : m ≠ l) (k : FaultKind)
    (c : FaultContext) : ¬s.activeMoved m (s.raiseLane l k c) := by
  have source : FaultSource.lane l ≠ .lane m := fun e => other (FaultSource.lane.inj e).symm
  have mine : ∀ r ∈ s.activeReports l, r ∈ s.faults ∧ r.source ≠ .lane m := fun r hr => by
    obtain ⟨mem, -, e⟩ := mem_activeIn.1 (show r ∈ activeIn s.faults (.lane l) from hr)
    exact ⟨mem, e ▸ source⟩
  unfold State.raiseLane
  dsimp only
  split
  · rename_i r found
    obtain ⟨held, apart⟩ := mine r (List.mem_of_find?_eq_some found)
    exact State.addOccurrence_activeStands h held apart _
  · split
    · exact State.addReport_activeStands _ source _ _ _
    · exact State.addReport_activeStands _ source _ _ _
    · rename_i a b _ shape
      have first := mine a (by rw [shape]; simp)
      have second := mine b (by rw [shape]; simp)
      by_cases primary : a.primary.isSome = true
      · rw [if_pos primary]
        exact State.addOccurrence_activeStands h first.1 first.2 _
      · rw [if_neg primary]
        exact State.addOccurrence_activeStands h second.1 second.2 _

theorem State.raiseController_activeStands (h : s.faultsHold) (k : FaultKind) (c : FaultContext) :
    ¬s.activeMoved m (s.raiseController k c) := by
  unfold State.raiseController
  split
  · rename_i r found
    have good := List.find?_some found
    simp only [Bool.and_eq_true, beq_iff_eq] at good
    exact State.addOccurrence_activeStands h (List.mem_of_find?_eq_some found) (by simp [good.1.2]) _
  · exact State.addReport_activeStands .controller (by simp) _ _ _

theorem State.promote_activeStands (other : m ≠ l) : ¬s.activeMoved m (s.promote l) := by
  unfold State.promote
  split
  · exact fun moved => moved rfl
  · refine State.mapReports_activeStands (fun r => ?_) fun r source => ?_
    · split <;> simp [Report.isActive]
    · simp [source, other]

theorem State.activeStands_then {u : State} (h : ¬s.activeMoved m t) (h' : ¬t.activeMoved m u) :
    ¬s.activeMoved m u := by
  unfold State.activeMoved at *
  rw [not_not] at *
  exact h'.trans h

theorem State.selfClear_activeStands (other : m ≠ l) : ¬s.activeMoved m (s.selfClear l) := by
  unfold State.selfClear
  split
  · refine State.activeStands_then (State.activeStands_then (State.mapReports_activeStands
      (fun r => ?_) fun r source => ?_) (State.promote_activeStands other))
      (State.postReport_frame _ _).activeStands
    · rcases r.relock_cases l s.stamp with ⟨e, -⟩ | ⟨_, -, -, ⟨-, e⟩ | ⟨k, -, e⟩⟩ <;>
        rw [e] <;> simp_all [Report.leave]
    · rcases r.relock_cases l s.stamp with ⟨e, -⟩ | ⟨-, own, -⟩
      · exact e
      · exact absurd (FaultSource.lane.inj (source.symm.trans own)) other
  · exact fun moved => moved rfl

theorem Report.recover_keepsIdentity (how : HowCleared) (x : Stamp) :
    keepsIdentity fun r => r.recover l how x := fun r => by
  dsimp only
  unfold Report.recover
  split
  · split <;> simp_all [Report.leave]
  · simp

theorem State.countRefusal_activeStands (h : s.faultsHold) (other : m ≠ l) :
    ¬s.activeMoved m (s.countRefusal l) := by
  unfold State.countRefusal
  split
  · rename_i r found
    obtain ⟨held, -, source⟩ := mem_activeIn.1 (show r ∈ activeIn s.faults (.lane l) from
      List.mem_of_find?_eq_some found)
    refine fun moved => moved ?_
    rw [(State.postReport_faults _ _).1]
    refine activeIn_map_named (fun q => ?_) (s.faultsHold_iff.1 h).1.2.1 held (src := .lane m) ?_
      fun q hq => if_neg hq
    · split <;> simp [Report.isActive]
    · rw [source]
      exact fun e => other (FaultSource.lane.inj e).symm
  · exact fun moved => moved rfl

/-! ## The moves and the deeds -/

/-- A lane's fault is told at every port. -/
theorem State.raiseLane_posts (k : FaultKind) (c : FaultContext) (p : Port) :
    laneNotice l ∈ ((s.raiseLane l k c).port p).queue := by
  unfold State.raiseLane
  dsimp only
  split
  · exact State.mem_postReport_lane _ l p
  · split <;> exact State.mem_postReport_lane _ l p

theorem Move.activePosts (h : Move l s t) (hs : s.faultsHold) (moved : s.activeMoved m t) (p : Port) :
    laneNotice m ∈ (t.port p).queue := by
  by_cases own : m = l
  · subst own
    cases h with
    | raised k c => exact State.raiseLane_posts k c p
    | relocked =>
      unfold State.selfClear at moved ⊢
      split
      · exact State.mem_postReport_lane _ m p
      · rename_i none
        rw [if_neg none] at moved
        exact absurd rfl moved
    | recovered how => exact State.mem_postReport_lane _ m p
    | counted =>
      unfold State.countRefusal at moved ⊢
      split
      · exact State.mem_postReport_lane _ m p
      · rename_i none
        rw [none] at moved
        exact absurd rfl moved
    | lane f => exact absurd moved (s.moveLane_frame m f).activeStands
    | told => exact absurd moved s.reportEligible_frame.activeStands
    | slot w k x => exact absurd moved (s.setSlot_frame w k x).activeStands
    | outcome w k o => exact absurd moved (s.postOutcome_frame w k o).activeStands
    | form f x => exact absurd moved (s.setForm_frame f x).activeStands
    | applied f =>
      exact absurd moved (State.activeStands_then (s.setForm_frame f _).activeStands
        (State.postOffice_frame _ _ _).activeStands)
    | mark cls serial new => exact absurd moved (s.changeMark_frame cls serial new).activeStands
    | entry w d => exact absurd moved (s.writeEntry_frame w d).activeStands
    | reserved w n k => exact absurd rfl moved
  · refine absurd moved ?_
    cases h with
    | raised k c => exact State.raiseLane_activeStands hs own k c
    | relocked => exact State.selfClear_activeStands own
    | recovered how =>
      refine State.activeStands_then (State.mapReports_activeStands
        (Report.recover_keepsIdentity how _) fun r source => ?_) (State.postReport_frame _ _).activeStands
      simp [Report.recover, source, own]
    | counted => exact State.countRefusal_activeStands hs own
    | lane f => exact (s.moveLane_frame l f).activeStands
    | told => exact s.reportEligible_frame.activeStands
    | slot w k x => exact (s.setSlot_frame w k x).activeStands
    | outcome w k o => exact (s.postOutcome_frame w k o).activeStands
    | form f x => exact (s.setForm_frame f x).activeStands
    | applied f =>
      exact State.activeStands_then (s.setForm_frame f _).activeStands
        (State.postOffice_frame _ _ _).activeStands
    | mark cls serial new => exact (s.changeMark_frame cls serial new).activeStands
    | entry w d => exact (s.writeEntry_frame w d).activeStands
    | reserved w n k => exact fun moved => moved rfl

theorem State.clearByWithdrawal_activeStands (other : m ≠ l) :
    ¬s.activeMoved m (s.clearByWithdrawal l) := by
  unfold State.clearByWithdrawal
  split
  · exact fun moved => moved rfl
  · refine State.activeStands_then (State.mapReports_activeStands (fun r => ?_) fun r source => ?_)
      (State.postOffice_frame _ _ _).activeStands
    · split <;> simp_all [Report.leave]
    · simp [source, other]

/-- An acknowledgment takes no ACTIVE report of a lane (10 R187). -/
theorem State.acknowledge_activeStands {n : Nat} {r : Report} (h : s.faultsHold)
    (found : s.faults.find? (fun r => r.number == n) = some r) (loose : r.stillActive = false) :
    ¬s.activeMoved m (s.mapReports fun q => if q.number = n then q.acknowledge s.stamp else q) := by
  have number : r.number = n := by simpa using List.find?_some found
  refine fun moved => moved (activeIn_map_of_fixed (fun q => ?_) fun q hq => if_neg fun same => ?_)
  · split
    · unfold Report.acknowledge
      split <;> simp_all [Report.leave, Report.isActive]
    · simp
  · obtain ⟨mem, active, source⟩ := mem_activeIn.1 hq
    obtain rfl : q = r := List.inj_on_of_nodup_map (s.faultsHold_iff.1 h).1.2.1 mem
      (List.mem_of_find?_eq_some found) (same.trans number.symm)
    simp [Report.stillActive, active, source] at loose

variable {c : Instr} {a : List Part}

theorem Deed.activePosts (h : Deed c a s t) (hs : s.faultsHold) (moved : s.activeMoved m t)
    (p : Port) : laneNotice m ∈ (t.port p).queue := by
  by_cases touched : Part.faults ∈ a
  swap
  · exact absurd moved (h.frame.activeStands touched)
  cases h with
  | move use l h => exact h.activePosts hs moved p
  | packReleased use mounts _ l k x =>
    by_cases own : m = l
    · subst own
      rw [State.withdrawLane, State.postLane_queue]
      exact mem_coalesce_self _ _
    · exact absurd moved (State.activeStands_then (State.activeStands_then (State.activeStands_then
        (s.releaseLane_frame l k x).activeStands (State.clearByWithdrawal_activeStands own))
        (State.postOffice_frame _ _ _).activeStands) (State.postLane_frame _ l).activeStands)
  | verdict use _ k v =>
    refine absurd moved ?_
    cases v with
    | none => exact fun moved => moved rfl
    | matched => exact (s.updatePack_frame _ _).activeStands
    | mismatch =>
      exact State.activeStands_then (s.updatePack_frame _ _).activeStands
        (State.raiseController_activeStands ((s.updatePack_frame _ _).faultsHold hs) _ _)
  | acknowledged _ n r found loose =>
    exact absurd moved (State.activeStands_then (State.acknowledge_activeStands hs found loose)
      (State.postReport_frame _ _).activeStands)
  | reinitialised own use =>
    rw [State.reinitialised_eq]
    exact (State.reinitialisedAfterLanes_grow _ p).2 _ (laneNotice_plain m)
      (State.reinitialiseLanes_posts _ m p)
  | _ => exact absurd touched (by decide)

theorem Deeds.activePosts (h : Deeds c s t) (hs : s.faultsHold) (moved : s.activeMoved m t)
    (p : Port) : laneNotice m ∈ (t.port p).queue := by
  induction h with
  | refl => exact absurd rfl moved
  | @tail u v chain last ih =>
    obtain ⟨a, last⟩ := last
    by_cases early : s.activeMoved m u
    · exact (last.queuesGrow p).2 _ (laneNotice_plain m) (ih early)
    · refine last.activePosts (Deeds.keeps (fun _ _ _ d => d.faultsHold) chain hs) ?_ p
      exact fun same => moved (same.trans (not_not.1 early))

theorem exec_activePosts (power : isPower c = false) (run : exec c s = .next t) (hs : s.faultsHold)
    (moved : s.activeMoved m t) (p : Port) : laneNotice m ∈ (t.port p).queue := by
  obtain ⟨u, queues, deeds⟩ := exec_deeds power run
  refine deeds.activePosts (queues.faultsHold hs) (fun same => moved ?_) p
  exact same.trans (congrArg (fun list => activeIn list (.lane m)) (queues .faults (by decide)).1)

end

end Sys2Proof.Machine
end

section
/-! SUPPORT. A job's outcome stands in its window's queue until the slot's next outcome (01 R11; 03
R40): what posts no outcome leaves those that wait. -/

-- One proof at a time: the check's memory limit holds few threads.
set_option Elab.async false

namespace Sys2Proof.Machine

/-- SLOT_OUTCOME for a slot (01 Table 1.9). -/
def outcomeNotice (k : SlotId) (o : SlotOutcome) : Notice := ⟨.slotOutcome, .slot k, some o⟩

/-- The outcomes that wait in the windows' queues still wait. -/
def State.outcomesWait (s t : State) : Prop := ∀ w k o,
  outcomeNotice k o ∈ (s.port (.window w)).queue → outcomeNotice k o ∈ (t.port (.window w)).queue

section
variable {s t u : State}

theorem State.outcomesWait_refl (s : State) : s.outcomesWait s := fun _ _ _ h => h

theorem State.outcomesWait.andThen (h : s.outcomesWait t) (h' : t.outcomesWait u) : s.outcomesWait u :=
  fun w k o n => h' w k o (h w k o n)

theorem State.outcomesWait_ite {c : Prop} [Decidable c] (h : s.outcomesWait t)
    (h' : s.outcomesWait u) : s.outcomesWait (if c then t else u) := by
  split
  · exact h
  · exact h'

theorem State.changesOnly.outcomesWait {a : List Part} (h : s.changesOnly t a)
    (out : .queues ∉ a := by decide) : s.outcomesWait t := fun w k o n => by
  rwa [h .queues out]

theorem State.outcomesWait_foldl {α : Type} (f : State → α → State)
    (each : ∀ t x, State.outcomesWait t (f t x)) : ∀ (xs : List α) (s : State),
    s.outcomesWait (xs.foldl f s)
  | [], s => s.outcomesWait_refl
  | x :: xs, s => (each s x).andThen (State.outcomesWait_foldl f each xs (f s x))

end

section
variable (s : State) (l : LaneId) (w : Window)

theorem State.post_outcomesWait (p : Port) (n : Notice) (other : ∀ k, n.object ≠ .slot k) :
    s.outcomesWait (s.post p n) := fun v k o h => by
  rw [State.post_queue]
  split
  · exact mem_coalesce_of_ne h (Ne.symm (other k))
  · exact h

theorem State.postOffice_outcomesWait (k : NoticeKind) (o : NoticeObject) :
    s.outcomesWait (s.postOffice k o) := fun v i x h => by
  rwa [State.postOffice_queue_window]

theorem State.postLane_outcomesWait : s.outcomesWait (s.postLane l) := fun v k o h => by
  rw [State.postLane_queue]
  exact mem_coalesce_of_ne h (by simp [outcomeNotice])

theorem State.postSession_outcomesWait : s.outcomesWait (s.postSession w) :=
  (s.post_outcomesWait (.window w) _ (by simp)).andThen (State.post_outcomesWait _ .office _ (by simp))

theorem State.postReport_outcomesWait (src : FaultSource) : s.outcomesWait (s.postReport src) := by
  cases src with
  | lane l => exact (s.postOffice_outcomesWait _ _).andThen (State.postLane_outcomesWait _ l)
  | controller => exact s.postOffice_outcomesWait _ _

theorem State.moveLane_outcomesWait (f : Lane → Lane) : s.outcomesWait (s.moveLane l f) :=
  State.outcomesWait_ite ((s.setLane_frame l _).outcomesWait.andThen (State.postLane_outcomesWait _ l))
    (s.setLane_frame l _).outcomesWait

theorem State.updatePack_outcomesWait (n : Nat) (f : Pack → Pack) : s.outcomesWait (s.updatePack n f) :=
  (s.withPacks_frame _ s.nextPack).outcomesWait.andThen (State.postOffice_outcomesWait _ _ _)

theorem State.stockLow_outcomesWait (a b : Pack) : s.outcomesWait (s.stockLow a b) := by
  unfold State.stockLow
  split
  · exact State.outcomesWait_ite (s.postLane_outcomesWait _) s.outcomesWait_refl
  · exact s.outcomesWait_refl

theorem State.changeMark_outcomesWait (cls serial : Nat) (new : Mark) :
    s.outcomesWait (s.changeMark cls serial new) := by
  unfold State.changeMark
  split
  · exact s.outcomesWait_refl
  · split
    · exact s.outcomesWait_refl
    · exact State.outcomesWait_ite
        (((s.updatePack_outcomesWait _ _).andThen (State.stockLow_outcomesWait _ _ _)).andThen
          (State.setCensus_frame _ _).outcomesWait) s.outcomesWait_refl

theorem State.applyMode_outcomesWait (p : Pack) (m : WithdrawMode) :
    s.outcomesWait (s.applyMode p m) := by
  unfold State.applyMode
  dsimp only
  split
  · exact (s.updatePack_outcomesWait _ _).andThen (State.outcomesWait_foldl _ (fun t r =>
      State.outcomesWait_ite (t.changeMark_outcomesWait _ r _) t.outcomesWait_refl) _ _)
  · exact s.updatePack_outcomesWait _ _

theorem State.writeEntry_outcomesWait (d : EntryData) : s.outcomesWait (s.writeEntry w d) :=
  ((s.addEntry_frame w _ _ _).outcomesWait.andThen (State.updatePack_outcomesWait _ _ _)).andThen
    (State.postSession_outcomesWait _ w)

theorem State.mapReports_outcomesWait (f : Report → Report) (src : FaultSource) :
    s.outcomesWait ((s.mapReports f).postReport src) :=
  (s.mapReports_frame f).outcomesWait.andThen (State.postReport_outcomesWait _ src)

theorem State.addReport_outcomesWait (src : FaultSource) (k : FaultKind) (n : Option Nat)
    (c : FaultContext) : s.outcomesWait (s.addReport src k n c) := by
  have aged : s.outcomesWait s.ageFaults := by
    unfold State.ageFaults
    refine State.outcomesWait_ite s.outcomesWait_refl ?_
    split
    · exact (s.setFaults_frame _ s.faultCounter).outcomesWait.andThen
        (State.postReport_outcomesWait _ _)
    · exact s.outcomesWait_refl
  exact (aged.andThen (State.setFaults_frame _ _ _).outcomesWait).andThen
    (State.postReport_outcomesWait _ src)

theorem State.raiseLane_outcomesWait (k : FaultKind) (c : FaultContext) :
    s.outcomesWait (s.raiseLane l k c) := by
  unfold State.raiseLane
  dsimp only
  split
  · exact s.mapReports_outcomesWait _ _
  · split
    · exact s.addReport_outcomesWait _ _ _ _
    · exact s.addReport_outcomesWait _ _ _ _
    · exact s.mapReports_outcomesWait _ _

theorem State.raiseController_outcomesWait (k : FaultKind) (c : FaultContext) :
    s.outcomesWait (s.raiseController k c) := by
  unfold State.raiseController
  split
  · exact s.mapReports_outcomesWait _ _
  · exact s.addReport_outcomesWait _ _ _ _

theorem State.regrant_outcomesWait (g : GrantSet) : s.outcomesWait (s.regrant w g) :=
  State.outcomesWait_ite (s.setGrants_frame _).outcomesWait
    ((s.setGrants_frame _).outcomesWait.andThen (State.post_outcomesWait _ (.window w) _ (by simp)))

theorem State.setSession_postSession_outcomesWait (x : Session) :
    s.outcomesWait ((s.setSession w x).postSession w) :=
  (s.setSession_frame w x).outcomesWait.andThen (State.postSession_outcomesWait _ w)

theorem State.moveCensus_outcomesWait (c : Census) : s.outcomesWait (s.moveCensus c) :=
  (s.setCensus_frame c).outcomesWait.andThen (State.postOffice_outcomesWait _ _ _)

theorem State.withdrawLane_outcomesWait (p : Pack) (m : WithdrawMode) :
    s.outcomesWait (s.withdrawLane l p m) := by
  refine (((s.releaseLane_frame l p m).outcomesWait.andThen ?_).andThen
    (State.postOffice_outcomesWait _ _ _)).andThen (State.postLane_outcomesWait _ l)
  exact State.outcomesWait_ite (State.outcomesWait_refl _)
    ((State.mapReports_frame _ _).outcomesWait.andThen (State.postOffice_outcomesWait _ _ _))

/-- The steps of STORE_REINITIALISE after the jobs' (11 R196). -/
theorem State.reinitialised_outcomesWait : s.cancelJobs.outcomesWait s.reinitialised := by
  have sessions : s.cancelJobs.outcomesWait s.cancelJobs.emptySessions :=
    (State.outcomesWait_foldl State.emptySession (fun t v => State.outcomesWait_ite
      (t.setSession_frame v _).outcomesWait (t.setSession_postSession_outcomesWait v _))
      allWindows _).andThen (State.setJournal_frame _ _ _).outcomesWait
  have lanes := sessions.andThen (u := s.cancelJobs.emptySessions.reinitialiseLanes)
    (State.outcomesWait_foldl _ (fun t l => (t.setLane_frame l _).outcomesWait.andThen
      (State.postLane_outcomesWait _ l)) allLanes _)
  have packs := lanes.andThen ((State.withPacks_frame _ [] 1).outcomesWait.andThen
    (State.postOffice_outcomesWait _ .stockChange .stock))
  have census := packs.andThen (u := State.haltCensus _ .storeReinitialise)
    (State.outcomesWait_ite (State.outcomesWait_refl _) (State.moveCensus_outcomesWait _ _))
  have forms := census.andThen ((State.setForms_frame (.replicate 8 .undefined)).outcomesWait.andThen
    (State.postOffice_outcomesWait _ .formsChange .forms))
  have grants := (forms.andThen (State.setDiscounts_frame emptyDiscounts).outcomesWait).andThen
    (State.outcomesWait_foldl _ (fun t w => t.regrant_outcomesWait w .all) allWindows _)
  have limits := grants.andThen (State.withLimits_frame .default).outcomesWait
  exact ((limits.andThen ((State.setFaults_frame _ _ _).outcomesWait.andThen
    (State.postOffice_outcomesWait _ _ _))).andThen (State.setStore_frame true true).outcomesWait).andThen
    (State.postOffice_outcomesWait _ _ _)

end

/-! ## Outcomes told (03 R40) -/

section
variable {l : LaneId} {c : Instr} {a : List Part} {s t u : State} {w : Window} {k : SlotId}

/-- A slot's latest outcome. -/
def State.latest (s : State) (w : Window) (k : SlotId) : Option SlotOutcome :=
  (s.job w k).bind Job.latest

/-- A slot's new outcome waits in its window's queue, and an outcome that waits goes on waiting. -/
def State.outcomesTold (s t : State) : Prop := ∀ w k o, t.latest w k = some o →
  (s.latest w k = some o → outcomeNotice k o ∈ (s.port (.window w)).queue →
    outcomeNotice k o ∈ (t.port (.window w)).queue) ∧
  (s.latest w k ≠ some o → outcomeNotice k o ∈ (t.port (.window w)).queue)

/-- No slot gains an outcome. -/
theorem State.outcomesTold_of_kept (wait : s.outcomesWait t)
    (kept : ∀ w k o, t.latest w k = some o → s.latest w k = some o) : s.outcomesTold t :=
  fun w k o now => ⟨fun _ => wait w k o, fun new => absurd (kept w k o now) new⟩

theorem State.outcomesTold_refl (s : State) : s.outcomesTold s :=
  State.outcomesTold_of_kept s.outcomesWait_refl fun _ _ _ h => h

theorem State.outcomesTold.andThen (h : s.outcomesTold t) (h' : t.outcomesTold u) :
    s.outcomesTold u := fun w k o now => by
  obtain ⟨wait, new⟩ := h' w k o now
  constructor
  · intro before held
    by_cases mid : t.latest w k = some o
    · exact wait mid ((h w k o mid).1 before held)
    · exact new mid
  · intro fresh
    by_cases mid : t.latest w k = some o
    · exact wait mid ((h w k o mid).2 fresh)
    · exact new mid

theorem State.outcomesTold_of_slots (slots : t.slots = s.slots) (wait : s.outcomesWait t) :
    s.outcomesTold t := State.outcomesTold_of_kept wait fun w k o now => by
  have same : t.latest w k = s.latest w k :=
    congrArg (fun v : Vector (Vector Slot 8) 6 => (v[w])[k].job.bind Job.latest) slots
  rwa [same] at now

theorem State.changesOnly.outcomesTold {a : List Part} (h : s.changesOnly t a)
    (wait : s.outcomesWait t) (out : .slots ∉ a := by decide) : s.outcomesTold t :=
  State.outcomesTold_of_slots (h .slots out) wait

theorem State.outcomesTold_foldl {α : Type} (f : State → α → State)
    (each : ∀ t x, State.outcomesTold t (f t x)) : ∀ (xs : List α) (s : State),
    s.outcomesTold (xs.foldl f s)
  | [], s => s.outcomesTold_refl
  | x :: xs, s => (each s x).andThen (State.outcomesTold_foldl f each xs (f s x))

theorem State.setSlot_outcomesTold (x : Slot)
    (latest : ∀ o, x.job.bind Job.latest = some o → (s.job w k).bind Job.latest = some o) :
    s.outcomesTold (s.setSlot w k x) := by
  refine State.outcomesTold_of_kept (s.setSlot_frame w k x).outcomesWait fun v i o now => ?_
  by_cases same : (v, i) = (w, k)
  · cases same
    rw [State.latest, State.job, State.setSlot_slot_self] at now
    exact latest o now
  · rw [State.latest, State.job, State.setSlot_slot_ne s same] at now
    exact now

theorem State.postOutcome_outcomesTold (o : SlotOutcome) : s.outcomesTold (s.postOutcome w k o) := by
  intro v i x now
  by_cases same : (v, i) = (w, k)
  · cases same
    have latest : o = x := by
      unfold State.latest State.job State.postOutcome at now
      rw [State.post_slot, State.setSlot_slot_self] at now
      cases held : (s.slot w k).job with
      | none => simp [held, State.job] at now
      | some j => simpa [held, State.job] using now
    have posted : outcomeNotice k x ∈ ((s.postOutcome w k o).port (.window w)).queue := by
      rw [State.postOutcome_queue_window, if_pos rfl, latest]
      exact mem_coalesce_self _ _
    exact ⟨fun _ _ => posted, fun _ => posted⟩
  · have other := s.postOutcome_otherSlots w k o v i same
    have kept : (s.postOutcome w k o).latest v i = s.latest v i :=
      congrArg (fun y : Slot => y.job.bind Job.latest) other
    rw [kept] at now
    refine ⟨fun _ held => ?_, fun fresh => absurd now fresh⟩
    rw [State.postOutcome_queue_window]
    split
    · rename_i own
      refine mem_coalesce_of_ne held fun e => same ?_
      rw [own, NoticeObject.slot.inj e]
    · exact held

theorem Move.outcomesTold (h : Move l s t) : s.outcomesTold t := by
  cases h with
  | lane f => exact (s.moveLane_frame l f).outcomesTold (s.moveLane_outcomesWait l f)
  | told => exact s.reportEligible_frame.outcomesTold s.reportEligible_frame.outcomesWait
  | slot w k x latest => exact State.setSlot_outcomesTold x latest
  | outcome w k o => exact State.postOutcome_outcomesTold o
  | form f x => exact (s.setForm_frame f x).outcomesTold (s.setForm_frame f x).outcomesWait
  | applied f =>
    exact ((s.setForm_frame f _).outcomesTold (s.setForm_frame f _).outcomesWait).andThen
      ((State.postOffice_frame _ _ _).outcomesTold (State.postOffice_outcomesWait _ _ _))
  | mark cls serial new =>
    exact (s.changeMark_frame cls serial new).outcomesTold (s.changeMark_outcomesWait cls serial new)
  | entry w d => exact (s.writeEntry_frame w d).outcomesTold (s.writeEntry_outcomesWait w d)
  | reserved w n m => exact State.outcomesTold_of_slots rfl fun v i o held => held
  | raised k c => exact (s.raiseLane_frame l k c).outcomesTold (s.raiseLane_outcomesWait l k c)
  | relocked =>
    refine (s.selfClear_frame l).outcomesTold (State.outcomesWait_ite ?_ s.outcomesWait_refl)
    exact ((s.mapReports_frame _).outcomesWait.andThen (State.promote_frame _ l).outcomesWait).andThen
      (State.postReport_outcomesWait _ _)
  | recovered how =>
    exact (State.changesOnly_then (c := [.faults, .queues]) (s.mapReports_frame _)
      (State.postReport_frame _ _)).outcomesTold (s.mapReports_outcomesWait _ _)
  | counted =>
    refine (s.countRefusal_frame l).outcomesTold ?_
    unfold State.countRefusal
    split
    · exact s.mapReports_outcomesWait _ _
    · exact s.outcomesWait_refl

theorem State.cancelJob_outcomesTold (s : State) (x : Window × SlotId × Job) :
    s.outcomesTold (s.cancelJob x) := by
  have rewritten : ∀ f : Job → Job, (∀ j, (f j).latest = j.latest) →
      s.outcomesTold (s.mapJob x.1 x.2.1 f) := fun f keeps =>
    State.setSlot_outcomesTold _ fun o => by cases held : s.job x.1 x.2.1 <;> simp [keeps]
  unfold State.cancelJob
  split
  · exact (rewritten Job.cancelled fun _ => rfl).andThen (State.postOutcome_outcomesTold _)
  · exact rewritten _ fun _ => rfl

theorem State.cancelJobs_outcomesTold (s : State) : s.outcomesTold s.cancelJobs :=
  State.outcomesTold_foldl _ State.cancelJob_outcomesTold _ _

/-- RESTART's slots keep the outcomes of the jobs that stay. -/
theorem State.restartedSlots_outcomesTold (s : State) :
    s.outcomesTold { s with slots := s.slots.map fun v => v.map Slot.restarted } := by
  refine State.outcomesTold_of_kept (s.setSlots_frame _).outcomesWait fun w k o now => ?_
  unfold State.latest State.job State.slot at now ⊢
  simp only [Fin.getElem_fin, Vector.getElem_map] at now
  unfold Slot.restarted at now
  split at now
  · split at now
    · exact now
    · simp [Slot.empty] at now
  · simp [Slot.empty] at now

theorem Deed.outcomesTold (h : Deed c a s t) : s.outcomesTold t := by
  by_cases touched : Part.slots ∈ a
  · cases h with
    | move use l h => exact h.outcomesTold
    | slotsRestarted _ => exact s.restartedSlots_outcomesTold
    | reinitialised own use =>
      refine s.cancelJobs_outcomesTold.andThen (State.outcomesTold_of_slots ?_
        s.reinitialised_outcomesWait)
      have sessions := State.emptySessions_frame (s := s.cancelJobs) .slots (by decide)
      have lanes := State.reinitialiseLanes_frame (s := s.cancelJobs.emptySessions) .slots (by decide)
      exact (s.withoutJobs_reinitialised_frame .slots (by decide)).trans (lanes.trans sessions)
    | _ => exact absurd touched (by decide)
  · refine h.frame.outcomesTold ?_ touched
    by_cases queues : Part.queues ∈ a
    swap
    · exact h.frame.outcomesWait queues
    cases h with
    | opened _ w b => exact s.setSession_postSession_outcomesWait w _
    | begun _ w n => exact s.setSession_postSession_outcomesWait w _
    | confirmed _ w d r => exact s.setSession_postSession_outcomesWait w _
    | collected _ w =>
      exact (State.outcomesWait_ite ((s.setJournalPacks_frame _ _ _).outcomesWait.andThen
        (State.postOffice_outcomesWait _ _ _)) (s.setJournalPacks_frame _ _ _).outcomesWait).andThen
        (State.setSession_postSession_outcomesWait _ w _)
    | reopened _ w => exact s.setSession_postSession_outcomesWait w _
    | voided use _ w e =>
      exact (s.changeMark_outcomesWait _ _ _).andThen (State.writeEntry_outcomesWait _ w _)
    | packAdded use _ b =>
      exact (s.withPacks_frame _ _).outcomesWait.andThen (State.postOffice_outcomesWait _ _ _)
    | packMounted mounts _ l p =>
      exact (s.updatePack_outcomesWait _ _).andThen (State.moveLane_outcomesWait _ l _)
    | packReleased use mounts _ l p m => exact s.withdrawLane_outcomesWait l p m
    | packRetired use mounts _ p m => exact s.applyMode_outcomesWait p m
    | packRemoved use _ p =>
      exact (s.withPacks_frame _ s.nextPack).outcomesWait.andThen (State.postOffice_outcomesWait _ _ _)
    | censusMoved own _ c => exact s.moveCensus_outcomesWait c
    | verdict use _ p v =>
      cases v with
      | none => exact s.outcomesWait_refl
      | matched => exact s.updatePack_outcomesWait _ _
      | mismatch =>
        exact (s.updatePack_outcomesWait _ _).andThen (State.raiseController_outcomesWait _ _ _)
    | acknowledged _ n r => exact s.mapReports_outcomesWait _ _
    | formPlaced _ f d =>
      exact (s.setForm_frame f _).outcomesWait.andThen (State.postOffice_outcomesWait _ _ _)
    | formStored _ f d =>
      exact (s.setForm_frame f _).outcomesWait.andThen (State.postOffice_outcomesWait _ _ _)
    | limits own _ b =>
      exact State.outcomesWait_ite (s.withLimits_frame _).outcomesWait
        ((s.withLimits_frame _).outcomesWait.andThen (State.postOffice_outcomesWait _ _ _))
    | regranted _ w g => exact s.regrant_outcomesWait w g
    | move use l h => exact absurd (by decide) touched
    | reinitialised own use => exact absurd (by decide) touched
    | _ => exact absurd queues (by decide)

theorem exec_outcomesPosted (power : isPower c = false) (run : exec c s = .next t)
    {o : SlotOutcome} (now : t.latest w k = some o) (before : s.latest w k ≠ some o) :
    outcomeNotice k o ∈ (t.port (.window w)).queue := by
  obtain ⟨u, queues, deeds⟩ := exec_deeds power run
  have told : u.outcomesTold t := deeds.lift State.outcomesTold_refl
    (fun _ _ _ => State.outcomesTold.andThen) fun _ _ _ => Deed.outcomesTold
  refine (told w k o now).2 fun e => before ?_
  rw [← e, State.latest, State.latest, queues.job]

end

end Sys2Proof.Machine
end

section
/-! SUPPORT. The stock-low notice (05 R112): a mounted pack whose remaining count falls to the threshold
leaves its lane's notice; and the notices of every change (O42). -/

-- One proof at a time: the check's memory limit holds few threads.
set_option Elab.async false

namespace Sys2Proof.Machine

/-! ## One pack's marks -/

section
variable {s t : State}

/-- No two packs hold a blank (05 R95). -/
theorem State.eq_of_holds (h : s.stockHolds) {p q : Pack} (hp : p ∈ s.packs) (hq : q ∈ s.packs)
    {cls r : Nat} (first : p.holds cls r = true) (second : q.holds cls r = true) : p = q := by
  obtain ⟨-, -, -, apart, -⟩ := h
  have symm : Std.Symm Pack.apart := ⟨fun _ _ h ⟨cls, low, high⟩ => h ⟨cls.symm, high, low⟩⟩
  by_contra ne
  refine apart.forall hp hq ne ?_
  simp only [Pack.holds, Pack.inRange, Bool.and_eq_true, beq_iff_eq, decide_eq_true_eq] at first second
  omega

/-- Marks moved on one pack's blanks leave the others. -/
theorem State.markUnused_onlyPack {n cls : Nat} {new : Mark} : ∀ (xs : List Nat) {s : State},
    (∀ r ∈ xs, ∀ q ∈ s.packs, q.holds cls r = true → q.number = n) →
    ∃ f : Pack → Pack, (s.markUnused cls new xs).packs = s.packs.map f ∧
      ∀ q, (f q).number = q.number ∧ (q.number ≠ n → f q = q)
  | [], s, _ => ⟨id, (List.map_id _).symm, fun _ => ⟨rfl, fun _ => rfl⟩⟩
  | r :: xs, s, own => by
    have one : ∃ f : Pack → Pack, (if ((s.packOf cls r).bind fun p => p.markOf r) = some .unused then
          s.changeMark cls r new else s).packs = s.packs.map f ∧
        ∀ q, (f q).number = q.number ∧ (f q).holds = q.holds ∧ (q.number ≠ n → f q = q) := by
      have none : ∃ f : Pack → Pack, s.packs = s.packs.map f ∧
          ∀ q, (f q).number = q.number ∧ (f q).holds = q.holds ∧ (q.number ≠ n → f q = q) :=
        ⟨id, (List.map_id _).symm, fun _ => ⟨rfl, rfl, fun _ => rfl⟩⟩
      split
      · rcases s.changeMark_cases cls r new with ⟨packs, -⟩ | ⟨p, hp, old, holds, -, -, packs, -⟩
        · exact packs ▸ none
        · refine ⟨_, packs, fun q => ?_⟩
          have number := own r (List.mem_cons_self ..) p hp holds
          by_cases same : q.number = p.number
          · rw [if_pos same]
            exact ⟨rfl, rfl, fun other => absurd (same.trans number) other⟩
          · rw [if_neg same]
            exact ⟨rfl, rfl, fun _ => rfl⟩
      · exact none
    obtain ⟨f, packs, each⟩ := one
    obtain ⟨g, packs', each'⟩ := State.markUnused_onlyPack (n := n) (cls := cls) (new := new) xs
      (s := if ((s.packOf cls r).bind fun p => p.markOf r) = some .unused then
          s.changeMark cls r new else s) fun x hx q hq holds => by
        rw [packs] at hq
        obtain ⟨y, hy, rfl⟩ := List.mem_map.1 hq
        rw [(each y).2.1] at holds
        exact (each y).1.trans (own x (List.mem_cons_of_mem _ hx) y hy holds)
    refine ⟨g ∘ f, packs'.trans (by rw [packs, List.map_map]), fun q => ?_⟩
    exact ⟨(each' (f q)).1.trans (each q).1, fun other => (each' (f q)).2
      (by rwa [(each q).1]) |>.trans ((each q).2.2 other)⟩

/-- A withdrawal marks its own pack's blanks alone (05 R104). -/
theorem State.applyMode_onlyPack (h : s.stockHolds) {p : Pack} (hp : p ∈ s.packs) (m : WithdrawMode) :
    ∃ f : Pack → Pack, (s.applyMode p m).packs = s.packs.map f ∧
      ∀ q, (f q).number = q.number ∧ (q.number ≠ p.number → f q = q) := by
  have placed := s.updatePack_packs p.number fun q => { q with state := withdrawnState m, lane := none }
  have first : ∀ q : Pack,
      (if q.number = p.number then { q with state := withdrawnState m, lane := none } else q).number =
        q.number ∧ (q.number ≠ p.number →
      (if q.number = p.number then { q with state := withdrawnState m, lane := none } else q) = q) :=
    fun q => ⟨by split <;> rfl, fun other => if_neg other⟩
  unfold State.applyMode
  dsimp only
  split
  · obtain ⟨g, packs, each⟩ := State.markUnused_onlyPack (n := p.number) (cls := p.cls) (p.toMark m)
      (s := s.updatePack p.number fun q => { q with state := withdrawnState m, lane := none })
      fun r hr q hq holds => by
        rw [placed] at hq
        obtain ⟨x, hx, rfl⟩ := List.mem_map.1 hq
        have inside : p.holds p.cls r = true := by
          unfold Pack.toMark at hr
          split at hr
          · simp only [Pack.unusedIn, List.mem_filter, List.mem_map, List.mem_range] at hr
            obtain ⟨⟨i, hi, rfl⟩, -⟩ := hr
            simp [Pack.holds, Pack.inRange, hi]
          · cases hr
        have same : x.holds p.cls r = true := by
          split at holds <;> exact holds
        rw [(first x).1, State.eq_of_holds h hx hp same inside]
    refine ⟨_, packs.trans (by rw [placed, List.map_map]), fun q => ?_⟩
    exact ⟨(each _).1.trans (first q).1, fun other => ((each _).2 (by rwa [(first q).1])).trans
      ((first q).2 other)⟩
  · exact ⟨_, placed, first⟩

end

/-! ## One mounted pack watched (05 R112) -/

/-- The pack stands above the threshold, its lane's notice stands in every queue, or the command has
taken the pack off its lane. -/
def State.lowWatched (n : Nat) (l : LaneId) (low : Nat) (c : Instr) (s : State) : Prop :=
  (s.packs.map Pack.number).Nodup ∧ (s.limits.stockLow = low ∨ (s.packs = [] ∧ stockUse c = .removes)) ∧
  ((∃ x ∈ s.packs, x.number = n ∧ x.state = .mounted ∧ x.lane = some l ∧ low < x.remaining) ∨
    (∀ p, laneNotice l ∈ (s.port p).queue) ∨
    (isMount c = false ∧ ∀ x ∈ s.packs, x.number = n → x.state ≠ .mounted))

section
variable {n low : Nat} {l : LaneId} {c : Instr} {s t : State}

/-- Packs that keep what the watch reads. -/
theorem State.lowWatched_of_map {f : Pack → Pack} (packs : t.packs = s.packs.map f)
    (limits : t.limits = s.limits) (grow : s.queuesGrow t)
    (number : ∀ p ∈ s.packs, (f p).number = p.number)
    (kept : ∀ p ∈ s.packs, p.number = n → (p.state = .mounted → p.lane = some l → low < p.remaining →
        ((f p).state = .mounted ∧ (f p).lane = some l ∧ low < (f p).remaining) ∨
          (∀ q, laneNotice l ∈ (t.port q).queue) ∨ (isMount c = false ∧ (f p).state ≠ .mounted)) ∧
      (p.state ≠ .mounted → isMount c = false → (f p).state ≠ .mounted))
    (h : s.lowWatched n l low c) : t.lowWatched n l low c := by
  obtain ⟨nodup, limit, watch⟩ := h
  have numbers : t.packs.map Pack.number = s.packs.map Pack.number := by
    rw [packs, List.map_map]
    exact List.map_congr_left number
  refine ⟨numbers ▸ nodup, limit.imp (fun e => limits ▸ e) (fun e => ⟨by rw [packs, e.1]; rfl, e.2⟩), ?_⟩
  rcases watch with ⟨x, hx, named, mounted, lane, above⟩ | posted | ⟨loose, gone⟩
  · rcases (kept x hx named).1 mounted lane above with ⟨state, at_, still⟩ | posted | ⟨loose, off⟩
    · exact .inl ⟨f x, packs ▸ List.mem_map_of_mem hx, (number x hx).trans named, state, at_, still⟩
    · exact .inr (.inl posted)
    · refine .inr (.inr ⟨loose, fun y hy same => ?_⟩)
      rw [packs] at hy
      obtain ⟨z, hz, rfl⟩ := List.mem_map.1 hy
      have : z = x := List.inj_on_of_nodup_map nodup hz hx
        (((number z hz).symm.trans same).trans named.symm)
      exact this ▸ off
  · exact .inr (.inl fun p => (grow p).2 _ (laneNotice_plain l) (posted p))
  · refine .inr (.inr ⟨loose, fun y hy same => ?_⟩)
    rw [packs] at hy
    obtain ⟨z, hz, rfl⟩ := List.mem_map.1 hy
    have named := (number z hz).symm.trans same
    exact (kept z hz named).2 (gone z hz named) loose

/-- An operation that keeps the packs and the limits. -/
theorem State.changesOnly.lowWatched {a : List Part} (f : s.changesOnly t a) (grow : s.queuesGrow t)
    (out : .packs ∉ a := by decide) (out' : .limits ∉ a := by decide) (h : s.lowWatched n l low c) :
    t.lowWatched n l low c :=
  State.lowWatched_of_map (f := id) (by rw [List.map_id]; exact f .packs out) (f .limits out') grow
    (fun _ _ => rfl) (fun _ _ _ => ⟨fun a b c => .inl ⟨a, b, c⟩, fun a _ => a⟩) h

theorem State.changeMark_lowWatched (cls serial : Nat) (new : Mark) (h : s.lowWatched n l low c) :
    (s.changeMark cls serial new).lowWatched n l low c := by
  unfold State.changeMark
  split
  · exact h
  rename_i p found
  split
  · exact h
  rename_i old held
  split
  swap
  · exact h
  obtain ⟨mem, -⟩ := State.packOf_some found
  have nodup := h.1
  have updated := s.updatePack_frame p.number fun q => q.remark serial old new
  obtain ⟨v, hv⟩ : ∃ v, v = s.updatePack p.number fun q => q.remark serial old new := ⟨_, rfl⟩
  have frame := State.changesOnly_then (c := [.queues, .census])
    (v.stockLow_frame p (p.remark serial old new))
    (State.setCensus_frame (v.stockLow p (p.remark serial old new))
      ((v.stockLow p (p.remark serial old new)).census.told p.number serial))
  have limits : v.limits = s.limits := hv ▸ updated .limits (by decide)
  have grow : s.queuesGrow (s.remark p serial old new) :=
    ((s.updatePack_grow _ _).andThen (State.stockLow_grow _ _ _)).andThen
      (State.setCensus_frame _ _).queuesGrow
  refine State.lowWatched_of_map
    (f := fun q => if q.number = p.number then q.remark serial old new else q)
    ?_ ?_ grow (fun q _ => by split <;> rfl) (fun q hq named => ?_) h
  · refine Eq.trans ?_ (s.updatePack_packs p.number fun q => q.remark serial old new)
    subst hv
    exact frame .packs (by decide)
  · subst hv
    exact (frame .limits (by decide)).trans limits
  · by_cases same : q.number = p.number
    · obtain rfl : q = p := List.inj_on_of_nodup_map nodup hq mem same
      simp only [if_pos]
      refine ⟨fun mounted lane above => ?_, fun off _ => off⟩
      by_cases still : low < (q.remark serial old new).remaining
      · exact .inl ⟨mounted, lane, still⟩
      · refine .inr (.inl fun a => ?_)
        have limit : s.limits.stockLow = low := h.2.1.resolve_right fun e => by
          rw [e.1] at hq
          cases hq
        have fell : q.fellLow (q.remark serial old new) v.limits.stockLow = true := by
          rw [limits, limit]
          simp only [Pack.fellLow, mounted, Bool.and_eq_true, decide_eq_true_eq, beq_self_eq_true,
            true_and]
          exact ⟨above, not_lt.1 still⟩
        have posted : laneNotice l ∈ ((v.stockLow q (q.remark serial old new)).port a).queue := by
          unfold State.stockLow
          rw [lane]
          dsimp only
          rw [if_pos fell, State.postLane_queue]
          exact mem_coalesce_self _ _
        have told := State.setCensus_frame (v.stockLow q (q.remark serial old new))
          ((v.stockLow q (q.remark serial old new)).census.told q.number serial) .queues (by decide) a
        rw [← told] at posted
        subst hv
        exact posted
    · simp only [if_neg same]
      exact ⟨fun a b d => .inl ⟨a, b, d⟩, fun a _ => a⟩

/-- A pack updated in what the watch does not read. -/
theorem State.updatePack_lowWatched (k : Nat) (f : Pack → Pack)
    (fields : ∀ p, (f p).number = p.number ∧ (f p).state = p.state ∧ (f p).lane = p.lane ∧
      (f p).remaining = p.remaining) (h : s.lowWatched n l low c) :
    (s.updatePack k f).lowWatched n l low c := by
  refine State.lowWatched_of_map (s.updatePack_packs k f)
    (s.updatePack_frame k f .limits (by decide)) (s.updatePack_grow k f) (fun q _ => ?_)
    (fun q _ _ => ?_) h
  · split
    · exact (fields q).1
    · rfl
  · split
    · obtain ⟨-, state, lane, left⟩ := fields q
      rw [state, lane, left]
      exact ⟨fun a b d => .inl ⟨a, b, d⟩, fun a _ => a⟩
    · exact ⟨fun a b d => .inl ⟨a, b, d⟩, fun a _ => a⟩

theorem State.writeEntry_lowWatched (w : Window) (d : EntryData) (h : s.lowWatched n l low c) :
    (s.writeEntry w d).lowWatched n l low c :=
  (State.postSession_frame _ w).lowWatched (State.postSession_grow _ w) (h :=
    State.updatePack_lowWatched _ (fun p => { p with references := p.references + 1 })
      (fun _ => ⟨rfl, rfl, rfl, rfl⟩)
      ((s.addEntry_frame w _ _ _).lowWatched (s.addEntry_frame w _ _ _).queuesGrow (h := h)))

theorem Move.lowWatched {m : LaneId} (d : Move m s t) (h : s.lowWatched n l low c) :
    t.lowWatched n l low c := by
  have grow := d.queuesGrow
  cases d with
  | lane f => exact (s.moveLane_frame m f).lowWatched grow (h := h)
  | told => exact s.reportEligible_frame.lowWatched grow (h := h)
  | slot w k x => exact (s.setSlot_frame w k x).lowWatched grow (h := h)
  | outcome w k o => exact (s.postOutcome_frame w k o).lowWatched grow (h := h)
  | form f x => exact (s.setForm_frame f x).lowWatched grow (h := h)
  | applied f =>
    exact (State.changesOnly_then (c := [.forms, .queues]) (s.setForm_frame f _)
      (State.postOffice_frame _ _ _)).lowWatched grow (h := h)
  | mark cls serial new => exact State.changeMark_lowWatched cls serial new h
  | entry w d => exact State.writeEntry_lowWatched w d h
  | reserved w x m =>
    exact State.lowWatched_of_map (f := id) (List.map_id _).symm rfl grow (fun _ _ => rfl)
      (fun _ _ _ => ⟨fun a b c => .inl ⟨a, b, c⟩, fun a _ => a⟩) h
  | raised k c => exact (s.raiseLane_frame m k c).lowWatched grow (h := h)
  | relocked => exact (s.selfClear_frame m).lowWatched grow (h := h)
  | recovered how =>
    exact (State.changesOnly_then (c := [.faults, .queues]) (s.mapReports_frame _)
      (State.postReport_frame _ _)).lowWatched grow (h := h)
  | counted => exact (s.countRefusal_frame m).lowWatched grow (h := h)

/-- A mode applied takes its own pack off its lane, and leaves the others (05 R103, R104). -/
theorem State.lowWatched_of_applied {p : Pack} {m : WithdrawMode} {f : Pack → Pack} (packs : t.packs = s.packs.map f)
    (each : ∀ q, (f q).number = q.number ∧ (q.number ≠ p.number → f q = q))
    (off : ∀ q ∈ t.packs, q.number = p.number → q.state = withdrawnState m)
    (mounts : isMount c = false) (limits : t.limits = s.limits) (grow : s.queuesGrow t)
    (h : s.lowWatched n l low c) : t.lowWatched n l low c := by
  have gone : withdrawnState m ≠ .mounted := by cases m <;> decide
  refine State.lowWatched_of_map packs limits grow (fun q _ => (each q).1) (fun q hq named => ?_) h
  by_cases same : q.number = p.number
  · have state := off (f q) (packs ▸ List.mem_map_of_mem hq) ((each q).1.trans same)
    rw [state]
    exact ⟨fun _ _ _ => .inr (.inr ⟨mounts, gone⟩), fun _ _ => gone⟩
  · rw [(each q).2 same]
    exact ⟨fun a b d => .inl ⟨a, b, d⟩, fun a _ => a⟩

theorem State.applyMode_state (stock : s.stockHolds) (p : Pack) (m : WithdrawMode) :
    ∀ q ∈ (s.applyMode p m).packs, q.number = p.number → q.state = withdrawnState m := by
  obtain ⟨⟨g, packs, each⟩, -⟩ := s.applyMode_moves p m stock
  rw [State.updatePack_packs] at packs each
  intro q hq named
  rw [packs] at hq
  obtain ⟨x, hx, rfl⟩ := List.mem_map.1 hq
  obtain ⟨y, hy, rfl⟩ := List.mem_map.1 hx
  obtain ⟨step, state, -, -⟩ := each _ hx
  have same : y.number = p.number := by
    have e := step.number.symm.trans named
    split at e
    · assumption
    · exact e
  rw [state, if_pos same]

end

section
variable {n low : Nat} {l : LaneId} {c : Instr} {a : List Part} {s t : State}

theorem Deed.lowWatched (d : Deed c a s t) (other : isLimits c = false) (stock : s.stockHolds)
    (h : s.lowWatched n l low c) : t.lowWatched n l low c := by
  have grow := d.queuesGrow
  have frame := d.frame
  by_cases touched : Part.packs ∈ a
  swap
  · refine frame.lowWatched grow touched (fun limits => ?_) h
    cases d with
    | limits own => exact absurd own (by simp [other])
    | move use m d => exact absurd (by decide) touched
    | reinitialised own use => exact absurd (by decide) touched
    | _ => exact absurd limits (by decide)
  cases d with
  | move use m d => exact d.lowWatched h
  | collected _ w =>
    refine (State.setSession_postSession_frame _ w _).lowWatched
      (State.setSession_postSession_grow _ w _) (h := ?_)
    exact State.lowWatched_of_map (s.freeEntries_packs w)
      ((s.freeEntries_frame w) .limits (by decide)) (s.freeEntries_grow w) (fun _ _ => rfl)
      (fun _ _ _ => ⟨fun a b c => .inl ⟨a, b, c⟩, fun a _ => a⟩) h
  | voided use _ w e => exact State.writeEntry_lowWatched w _ (State.changeMark_lowWatched _ _ _ h)
  | packAdded use _ b passed =>
    obtain ⟨-, limit, watch⟩ := h
    have packs : (s.addPack b).packs = s.packs ++ [PackBody.record b s.packNumber] := State.post_packs _ _ _
    obtain ⟨holds, -⟩ := Deed.stockStep (c := c) (.packAdded use s b passed) stock
    refine ⟨holds.2.2.1, .inl ?_, ?_⟩
    · rw [show (s.addPack b).limits = s.limits from frame .limits (by decide)]
      exact limit.resolve_right fun e => by simp [use] at e
    · rcases watch with ⟨x, hx, rest⟩ | posted | ⟨loose, gone⟩
      · exact .inl ⟨x, packs ▸ List.mem_append_left _ hx, rest⟩
      · exact .inr (.inl fun p => (grow p).2 _ (laneNotice_plain l) (posted p))
      · refine .inr (.inr ⟨loose, fun x hx named => ?_⟩)
        rw [packs] at hx
        rcases List.mem_append.1 hx with hx | hx
        · exact gone x hx named
        · obtain rfl : x = _ := List.mem_singleton.1 hx
          exact nofun
  | packMounted mounts _ m p found loose kept free =>
    refine (State.moveLane_frame _ m _).lowWatched (State.moveLane_grow _ m _) (h := ?_)
    refine State.lowWatched_of_map (s.updatePack_packs p.number _)
      (s.updatePack_frame p.number _ .limits (by decide)) (s.updatePack_grow p.number _)
      (fun q _ => by split <;> rfl) (fun q hq named => ?_) h
    refine ⟨fun mounted lane above => .inl ?_, fun _ unmounted => ?_⟩
    · have apart : q.number ≠ p.number := fun same => by
        obtain rfl : q = p := List.inj_on_of_nodup_map stock.2.2.1 hq
          (State.mem_of_findPack found.1).1 same
        exact loose mounted
      rw [if_neg apart]
      exact ⟨mounted, lane, above⟩
    · rw [mounts] at unmounted
      cases unmounted
  | packReleased use mounts _ m p mode found passed idle =>
    obtain ⟨_, -, found'⟩ := State.findPack_of_mounted found
    obtain ⟨u, hu⟩ : ∃ u, u = s.moveLane m Lane.stopped := ⟨_, rfl⟩
    have moved : s.changesOnly u [.lanes, .queues] := hu ▸ s.moveLane_frame m Lane.stopped
    have packs : u.packs = s.packs := moved .packs (by decide)
    have held : u.stockHolds := moved.stockHolds stock
    have mem : p ∈ s.packs := (State.mem_of_findPack found').1
    obtain ⟨f, applied, each⟩ := State.applyMode_onlyPack held (packs ▸ mem) mode
    have same : (s.withdrawLane m p mode).packs = (u.applyMode p mode).packs := by
      rw [hu]
      exact s.withdrawLane_packs m p mode
    exact State.lowWatched_of_applied (same.trans (applied.trans (by rw [packs]))) each
      (fun q hq => State.applyMode_state held p mode q (same ▸ hq)) mounts
      (frame .limits (by decide)) grow h
  | packRetired use mounts _ p mode found =>
    have mem := (State.mem_of_findPack found.1).1
    obtain ⟨f, applied, each⟩ := State.applyMode_onlyPack stock mem mode
    exact State.lowWatched_of_applied applied each (State.applyMode_state stock p mode) mounts
      (frame .limits (by decide)) grow h
  | packRemoved use _ p =>
    obtain ⟨nodup, limit, watch⟩ := h
    have packs := s.removePack_packs p.number
    have mounts : isMount c = false := by
      cases c <;> first | rfl | cases use
    refine ⟨packs ▸ List.Nodup.sublist (List.filter_sublist.map _) nodup, limit.imp (fun e => ?_)
      (fun e => ⟨by rw [packs, e.1]; rfl, e.2⟩), ?_⟩
    · rw [show (s.removePack p.number).limits = s.limits from frame .limits (by decide)]
      exact e
    · rcases watch with ⟨x, hx, named, rest⟩ | posted | ⟨loose, gone⟩
      · by_cases taken : x.number = p.number
        · refine .inr (.inr ⟨mounts, fun y hy same => ?_⟩)
          rw [packs] at hy
          have := (List.mem_filter.1 hy).2
          simp [same.trans (named.symm.trans taken)] at this
        · exact .inl ⟨x, packs ▸ List.mem_filter.2 ⟨hx, by simpa using taken⟩, named, rest⟩
      · exact .inr (.inl fun p => (grow p).2 _ (laneNotice_plain l) (posted p))
      · exact .inr (.inr ⟨loose, fun x hx => gone x (List.mem_filter.1 (packs ▸ hx)).1⟩)
  | verdict use _ p v =>
    have kept := fun v => State.updatePack_lowWatched p.number (fun q => { q with verdict := v })
      (fun _ => ⟨rfl, rfl, rfl, rfl⟩) h
    cases v with
    | none => exact h
    | matched => exact kept _
    | mismatch =>
      exact (State.raiseController_frame _ _ _).lowWatched (State.raiseController_grow _ _ _)
        (h := kept _)
  | reinitialised own use =>
    have packs := s.reinitialised_packs.1
    have mounts : isMount c = false := by
      cases c <;> first | rfl | cases use
    refine ⟨by rw [packs]; exact List.nodup_nil, .inr ⟨packs, use⟩, .inr (.inr ⟨mounts, fun x hx => ?_⟩)⟩
    rw [packs] at hx
    cases hx
  | _ => exact absurd touched (by decide)

/-- A mounted pack whose remaining count falls to the threshold leaves its lane's notice (05 R112). -/
theorem exec_stockLowPosts (power : isPower c = false) (run : exec c s = .next t)
    (stock : s.stockHolds) {k q : Pack} (hk : k ∈ s.packs) (hq : q ∈ t.packs)
    (number : q.number = k.number) (mounted : k.state = .mounted) (lane : k.lane = some l)
    (still : q.state = .mounted) (above : s.limits.stockLow < k.counters.unused)
    (below : q.counters.unused ≤ s.limits.stockLow) (p : Port) :
    laneNotice l ∈ (t.port p).queue := by
  cases limits : isLimits c with
  | true =>
    have packs : t.packs = s.packs := by
      cases c with
      | setLimits => exact exec_same run .packs (Part.not_mem_of_contains rfl)
      | _ => cases limits
    obtain rfl : q = k := List.inj_on_of_nodup_map stock.2.2.1 (packs ▸ hq) hk number
    omega
  | false =>
    obtain ⟨u, queues, deeds⟩ := exec_deeds power run
    have packs : u.packs = s.packs := queues .packs (by decide)
    have limit : u.limits = s.limits := queues .limits (by decide)
    have watched : u.lowWatched k.number l s.limits.stockLow c :=
      ⟨packs ▸ stock.2.2.1, .inl (congrArg Limits.stockLow limit),
        .inl ⟨k, packs ▸ hk, rfl, mounted, lane, above⟩⟩
    obtain ⟨-, nodup, -, watch⟩ := Deeds.keeps
      (P := fun v => v.stockHolds ∧ v.lowWatched k.number l s.limits.stockLow c)
      (fun _ _ _ d h => ⟨(d.stockStep h.1).1, d.lowWatched limits h.1 h.2⟩) deeds
      ⟨queues.stockHolds stock, watched⟩
    rcases watch with ⟨x, hx, named, -, -, high⟩ | posted | ⟨-, gone⟩
    · obtain rfl : q = x := List.inj_on_of_nodup_map nodup hq hx (number.trans named.symm)
      exact absurd below (not_le.2 high)
    · exact posted p
    · exact absurd still (gone q hq number)

end

/-- Settles O42: each change is posted by the deed that makes it, and no later deed of the command loses
the notice. -/
theorem otherChangesArePosted : Obligations.OtherChangesArePosted := by
  unfold Obligations.OtherChangesArePosted
  intro c s t power run
  have told := exec_tellsAll power run
  refine ⟨fun w changed => changed.elim (told .sessions w) (told .journal w), told .packs, ?_,
    told .census, told .faults, fun faults l moved => exec_activePosts power run faults moved,
    fun changed => changed.elim (told .limits) (told .store), told .grants, told .forms,
    fun w k o now before => exec_outcomesPosted power run now before⟩
  intro stock k hk q hq number l mounted lane still above below
  exact exec_stockLowPosts power run stock hk hq number mounted lane still above below

end Sys2Proof.Machine
end

section
/-! SUPPORT. What a lane's operations leave in its record: faults, holding and claiming, feeds, and the
blank marked at a feed (04 R72 to R78; 10 R180). -/

-- One proof at a time: the check's memory limit holds few threads.
set_option Elab.async false

namespace Sys2Proof.Machine

/-- Lane `l` becomes `x`, no other lane changes, and of the other parts those of `a` alone may. -/
structure State.laneTo (s t : State) (l : LaneId) (x : Lane) (a : List Part) : Prop where
  self : t.lane l = x
  others : s.otherLanes t l
  frame : s.changesOnly t a

section
variable {s t u : State} {l : LaneId} {x y : Lane} {a b c : List Part}

theorem State.laneTo_refl (s : State) (l : LaneId) (a : List Part) : s.laneTo s l (s.lane l) a :=
  ⟨rfl, fun _ _ => rfl, s.changesOnly_refl a⟩

theorem State.laneTo.andThen (h : s.laneTo t l x a) (h' : t.laneTo u l y b)
    (sub : a ++ b ⊆ c := by decide) : s.laneTo u l y c :=
  ⟨h'.self, fun m other => (h'.others m other).trans (h.others m other),
    State.changesOnly_then h.frame h'.frame sub⟩

theorem State.laneTo.mono (h : s.laneTo t l x a) (sub : a ⊆ c := by decide) : s.laneTo t l x c :=
  ⟨h.self, h.others, State.changesOnly_mono h.frame sub⟩

theorem State.laneTo_of_frame (h : s.changesOnly t a) (out : .lanes ∉ a := by decide) :
    s.laneTo t l (s.lane l) a := ⟨h.lane l out, fun m _ => h.lane m out, h⟩

theorem State.moveLane_to (s : State) (l : LaneId) (f : Lane → Lane) :
    s.laneTo (s.moveLane l f) l (f (s.lane l)) [.lanes, .queues] :=
  ⟨s.moveLane_lane_self l f, s.moveLane_otherLanes l f, s.moveLane_frame l f⟩

/-- A change R70 does not name posts nothing (04 R70). -/
theorem State.moveLane_unseen_to {f : Lane → Lane}
    (unseen : (s.lane l).visiblyChanged (f (s.lane l)) = false) :
    s.laneTo (s.moveLane l f) l (f (s.lane l)) [.lanes] :=
  ⟨s.moveLane_lane_self l f, s.moveLane_otherLanes l f, State.moveLane_unseen_frame unseen⟩

/-! ## The pack under a lane -/

theorem State.mounted_congr (packs : t.packs = s.packs) (pack : (t.lane l).pack = (s.lane l).pack) :
    t.mounted l = s.mounted l := by
  unfold State.mounted State.findPack
  rw [packs, pack]

theorem State.expected_congr (mounted : t.mounted l = s.mounted l)
    (position : (t.lane l).position = (s.lane l).position) : t.expected l = s.expected l := by
  unfold State.expected
  rw [mounted, position]

theorem State.remaining_congr (mounted : t.mounted l = s.mounted l) :
    t.remaining l = s.remaining l := by
  unfold State.remaining
  rw [mounted]

theorem State.stockOut_eq (s : State) (l : LaneId) :
    s.stockOut l = (s.remaining l == 0 || (s.expected l).isNone) := rfl

theorem State.stockOut_eq_false (some_ : 0 < s.remaining l) {e : Nat} (next : s.expected l = some e) :
    s.stockOut l = false := by
  rw [State.stockOut_eq, next]
  simp only [Option.isNone_some, Bool.or_false]
  exact beq_false_of_ne (by omega)

theorem State.stockOut_eq_true (out : s.remaining l = 0 ∨ s.expected l = none) :
    s.stockOut l = true := by
  rw [State.stockOut_eq]
  rcases out with out | out <;> simp [out]

theorem State.remaining_of_mounted {p : Pack} (mounted : s.mounted l = some p) :
    s.remaining l = p.counters.unused := by
  unfold State.remaining
  rw [mounted]
  rfl

theorem State.mountedClass_of_mounted {p : Pack} (mounted : s.mounted l = some p) :
    s.mountedClass l = p.cls := by
  unfold State.mountedClass
  rw [mounted]
  rfl

theorem State.mountedPack_eq {p : Pack} (mounted : s.mounted l = some p) :
    (s.lane l).pack = some p.number ∧ s.findPack p.number = some p := by
  obtain ⟨n, pack, found⟩ := State.mounted_eq_some_iff.1 mounted
  obtain ⟨-, number⟩ := State.mem_of_findPack found
  exact ⟨number ▸ pack, number ▸ found⟩

/-! ## A fault with no ticket under way (10 R180) -/

theorem State.settle_of_none (idle : (s.lane l).inflight = none) : s.settle l = s := by
  unfold State.settle
  rw [idle]

/-- A fault of a lane with no ticket: FAULTED, its operation stopped, and the report raised. -/
theorem State.laneFault_to (k : FaultKind) (ctx : FaultContext) (idle : (s.lane l).inflight = none) :
    s.laneTo (s.laneFault l k ctx) l (s.lane l).stopped.lockedIn [.lanes, .queues, .faults] ∧
      (s.laneFault l k ctx).faults = (s.raiseLane l k ctx).faults := by
  obtain ⟨u, hu⟩ : ∃ u, u = s.moveLane l Lane.stopped := ⟨_, rfl⟩
  have stopped : s.laneTo u l (s.lane l).stopped [.lanes, .queues] := hu ▸ s.moveLane_to l Lane.stopped
  have settled : u.settle l = u := State.settle_of_none (by rw [stopped.self]; exact idle)
  have fault : s.laneFault l k ctx = (u.raiseLane l k ctx).moveLane l Lane.lockedIn := by
    rw [State.laneFault, ← hu, settled]
  have raised : u.laneTo (u.raiseLane l k ctx) l (u.lane l) [.faults, .queues] :=
    State.laneTo_of_frame (State.changesOnly_mono (u.raiseLane_frame l k ctx))
  have locked := State.moveLane_to (u.raiseLane l k ctx) l Lane.lockedIn
  rw [raised.self, stopped.self] at locked
  rw [fault]
  refine ⟨(stopped.andThen raised (c := [.lanes, .queues, .faults])).andThen locked, ?_⟩
  exact (locked.frame .faults (by decide)).1.trans (stopped.frame.raiseLane l k ctx)

/-! ## Holding, claiming (04 R72, R78) -/

theorem State.enterHolding_to (holds : HoldCauses) (free : s.isLocked l = false) :
    s.laneTo (s.enterHolding l holds) l ((s.lane l).heldFor holds) [.lanes, .queues] := by
  have moved := s.moveLane_to l fun x => if s.isLocked l then x.lockedIn else x.heldFor holds
  rw [free] at moved
  unfold State.enterHolding
  rw [free]
  exact moved

theorem State.enterHolding_locked_to (holds : HoldCauses) (locked : s.isLocked l = true) :
    s.laneTo (s.enterHolding l holds) l (s.lane l).lockedIn [.lanes, .queues] := by
  have moved := s.moveLane_to l fun x => if s.isLocked l then x.lockedIn else x.heldFor holds
  rw [locked] at moved
  unfold State.enterHolding
  rw [locked]
  exact moved

theorem State.stockOutEnd_to (free : s.isLocked l = false) : s.laneTo (s.stockOutEnd l) l
    { (s.lane l).heldFor ⟨(s.lane l).holdAfter, true⟩ with head := .notPositioned }
    [.lanes, .queues] := by
  have moved := s.moveLane_to l fun x => if s.isLocked l then x.lockedIn
    else { x.heldFor ⟨x.holdAfter, true⟩ with head := .notPositioned }
  rw [free] at moved
  unfold State.stockOutEnd
  rw [free]
  exact moved

/-! ## Feeds (04 R75) -/

/-- Step 5: the feed issued, its stock input showing stock or its count at 0. -/
theorem State.issueFeed_to (stock : (s.lane l).stockPin = true ∨ s.remaining l = 0) :
    s.laneTo (s.issueFeed l) l
      { s.lane l with head := .notPositioned, awaiting := some .feed, deferred := none } [.lanes] := by
  have issued : s.issueFeed l = s.moveLane l fun x =>
      { x with head := .notPositioned, awaiting := some .feed, deferred := none } :=
    if_neg (by rcases stock with h | h <;> simp [h])
  rw [issued]
  exact State.moveLane_unseen_to (f := fun x =>
      { x with head := .notPositioned, awaiting := some .feed, deferred := none })
    (Lane.visiblyChanged_eq_false rfl rfl rfl nofun)

/-- Step 4: no stock at the input. -/
theorem State.issueFeed_absent_to (absent : (s.lane l).stockPin = false) (some_ : 0 < s.remaining l)
    (idle : (s.lane l).inflight = none) :
    s.laneTo (s.issueFeed l) l (s.lane l).stopped.lockedIn [.lanes, .queues, .faults] ∧
      (s.issueFeed l).faults = (s.raiseLane l .stockDiscrepancy
        { reason := some .stockAbsent, pack := (s.lane l).pack, expected := s.expected l }).faults := by
  have faulted : s.issueFeed l =
      s.laneFault l .stockDiscrepancy { s.stockContext l with reason := some .stockAbsent } :=
    if_pos (by simp [absent, some_])
  rw [faulted]
  exact State.laneFault_to _ _ idle

/-- What a feed attempt makes of the state after its first step (04 R75). -/
theorem State.feedAttempt_eq (s : State) (l : LaneId) : s.feedAttempt l =
    if (s.advanceHead l).stockOut l then (s.advanceHead l).stockOutEnd l
    else if (s.advanceHead l).powerFail then
      (s.advanceHead l).moveLane l fun x => { x with deferred := some .feed }
    else (s.advanceHead l).issueFeed l := rfl

theorem State.deferFeed_to (s : State) (l : LaneId) :
    s.laneTo (s.moveLane l fun x => { x with deferred := some .feed }) l
      { s.lane l with deferred := some .feed } [.lanes] :=
  State.moveLane_unseen_to (f := fun x => { x with deferred := some .feed })
    (Lane.visiblyChanged_eq_false rfl rfl rfl fun _ h => h)

/-- No blank to advance: step 1 does nothing. -/
theorem State.advanceHead_of_not_verified (head : ∀ e, (s.lane l).head ≠ .verified e) :
    s.advanceHead l = s := by
  unfold State.advanceHead
  split
  · exact absurd ‹_› (head _)
  · rfl

/-- A feed attempt with stock left, from the state after its first step. -/
theorem State.feedAttempt_to (hu : u = s.advanceHead l) (some_ : 0 < u.remaining l) {e : Nat}
    (next : u.expected l = some e) :
    (s.powerFail = false → (u.lane l).stockPin = true → u.laneTo (s.feedAttempt l) l
      { u.lane l with head := .notPositioned, awaiting := some .feed, deferred := none } [.lanes]) ∧
    (s.powerFail = true → u.laneTo (s.feedAttempt l) l { u.lane l with deferred := some .feed }
      [.lanes]) ∧
    (s.powerFail = false → (u.lane l).stockPin = false → (u.lane l).inflight = none →
      u.laneTo (s.feedAttempt l) l (u.lane l).stopped.lockedIn [.lanes, .queues, .faults] ∧
        (s.feedAttempt l).faults = (u.raiseLane l .stockDiscrepancy
          { reason := some .stockAbsent, pack := (u.lane l).pack, expected := some e }).faults) := by
  have warning : u.powerFail = s.powerFail := by
    rw [hu]
    exact (s.advanceHead_frame l) .powerFail (by decide)
  have attempt := s.feedAttempt_eq l
  rw [← hu, State.stockOut_eq_false some_ next, warning] at attempt
  refine ⟨fun on stock => ?_, fun off => ?_, fun on absent idle => ?_⟩
  · rw [on] at attempt
    exact attempt ▸ State.issueFeed_to (.inl stock)
  · rw [off] at attempt
    exact attempt ▸ u.deferFeed_to l
  · rw [on] at attempt
    have issued := State.issueFeed_absent_to absent some_ idle
    rw [next] at issued
    exact attempt ▸ issued

/-- A feed attempt with no stock left (04 R78). -/
theorem State.feedAttempt_out (hu : u = s.advanceHead l)
    (out : u.remaining l = 0 ∨ u.expected l = none) (free : u.isLocked l = false) :
    u.laneTo (s.feedAttempt l) l
      { (u.lane l).heldFor ⟨(u.lane l).holdAfter, true⟩ with head := .notPositioned }
      [.lanes, .queues] := by
  have attempt := s.feedAttempt_eq l
  rw [← hu, State.stockOut_eq_true out] at attempt
  exact attempt ▸ State.stockOutEnd_to free

end

end Sys2Proof.Machine
end

section
/-! SUPPORT. The lane events awaited and not (04 R72), a blank advanced at a feed (04 R75), and a record
that matches (04 R77, R78). -/

-- One proof at a time: the check's memory limit holds few threads.
set_option Elab.async false

namespace Sys2Proof.Machine

/-! ## Events awaited and not (04 R72) -/

section
variable {s : State} {c : Instr} {l : LaneId} {op : LaneOp} {f : State → State}

theorem exec_whenAwaiting (running : s.phase = .running) (h : exec c s = .next (s.whenAwaiting l op f))
    (awaited : (s.lane l).awaiting = some op) : exec c s = .next (f s) :=
  (exec_whenRunning running h).trans (congrArg Host.Outcome.next (if_pos awaited))

theorem exec_notAwaiting (running : s.phase = .running) (h : exec c s = .next (s.whenAwaiting l op f))
    (other : (s.lane l).awaiting ≠ some op) : exec c s = .next s :=
  (exec_whenRunning running h).trans (congrArg Host.Outcome.next (if_neg other))

end

/-! ## Strobes (04 R80) -/

section
variable {s t u : State} {l : LaneId} {x y : Lane} {a b : List Part}

theorem State.linesFor_congr (job : (t.lane l).job = (s.lane l).job) (slots : t.slots = s.slots) :
    t.linesFor l = s.linesFor l := by
  unfold State.linesFor State.job State.slot
  rw [job, slots]

theorem Lane.strobe_unseen (x : Lane) (lines : List Text) :
    x.visiblyChanged (x.strobe lines) = false :=
  Lane.visiblyChanged_eq_false rfl rfl rfl fun _ h => h

/-- The line due is printed, or deferred under the warning. -/
theorem State.strobeLine_to (s : State) (l : LaneId) :
    (s.powerFail = false → s.laneTo (s.strobeLine l) l ((s.lane l).strobe (s.linesFor l)) [.lanes]) ∧
      (s.powerFail = true → s.laneTo (s.strobeLine l) l { s.lane l with deferred := some .strobe }
        [.lanes]) := by
  constructor
  · intro on
    have put : s.strobeLine l = s.moveLane l fun x => x.strobe (s.linesFor l) := by
      unfold State.strobeLine
      rw [on]
      rfl
    rw [put]
    exact State.moveLane_unseen_to (f := fun x => x.strobe (s.linesFor l)) (Lane.strobe_unseen _ _)
  · intro off
    have put : s.strobeLine l = s.moveLane l fun x => { x with deferred := some .strobe } := by
      unfold State.strobeLine
      rw [off]
      rfl
    rw [put]
    exact State.moveLane_unseen_to (f := fun x => { x with deferred := some .strobe })
      (Lane.visiblyChanged_eq_false rfl rfl rfl fun _ h => h)

theorem State.findPack_congr (h : t.packs = s.packs) (n : Nat) : t.findPack n = s.findPack n := by
  unfold State.findPack
  rw [h]

/-! ## A blank advanced (04 R75 step 1) -/

/-- The lane and its pack after the first step of a feed attempt from a VERIFIED blank. -/
theorem State.advanceHead_to {k : Pack} {e : Nat} (head : (s.lane l).head = .verified e)
    (mounted : s.mounted l = some k) (found : s.packOf k.cls e = some k)
    (held : k.markOf e = some .unused) :
    s.laneTo (s.advanceHead l) l { s.lane l with head := .notPositioned }
      [.lanes, .queues, .packs, .census] ∧
    (s.advanceHead l).mounted l = some (k.remark e .unused .advanced) ∧
    (s.advanceHead l).findPack k.number = some (k.remark e .unused .advanced) ∧
    s.otherPacks (s.advanceHead l) k.number := by
  have marked := State.changeMark_eq found held (new := .advanced) rfl
  have step : s.advanceHead l = (s.remark k e .unused .advanced).moveLane l fun x =>
      { x with head := .notPositioned } := by
    unfold State.advanceHead
    rw [head]
    dsimp only
    rw [if_pos (by rw [mounted]; exact held), State.mountedClass_of_mounted mounted, marked]
  obtain ⟨pack, numbered⟩ := State.mountedPack_eq mounted
  obtain ⟨now, others⟩ := State.remark_pack (n := e) (old := .unused) (new := .advanced) numbered
  have moved : s.laneTo (s.remark k e .unused .advanced) l (s.lane l) [.packs, .queues, .census] :=
    State.laneTo_of_frame (s.remark_frame k e .unused .advanced)
  have put := (s.remark k e .unused .advanced).moveLane_to l fun x => { x with head := .notPositioned }
  have packs := put.frame .packs (by decide)
  have kept : ∀ n, (s.advanceHead l).findPack n = (s.remark k e .unused .advanced).findPack n :=
    State.findPack_congr (by rw [step]; exact packs)
  rw [moved.self] at put
  refine ⟨step ▸ moved.andThen put, ?_, (kept _).trans now, fun n other => (kept n).trans (others n other)⟩
  have at_ : ((s.advanceHead l).lane l).pack = some k.number := by
    rw [step, put.self]
    exact pack
  exact State.mounted_eq_some_iff.2 ⟨k.number, at_, (kept _).trans now⟩

/-- The first UNUSED serial at or after the position is the expected one. -/
theorem Pack.lowestUnused_of_first {p : Pack} {low n : Nat} (held : p.markOf n = some .unused)
    (at_ : low ≤ n) (least : ∀ m, low ≤ m → m < n → p.markOf m ≠ some .unused) :
    p.lowestUnused low = some n := by
  have inside : p.first ≤ n ∧ n < p.first + p.count := by
    unfold Pack.markOf at held
    split at held
    · rename_i inRange
      simpa [Pack.inRange] using inRange
    · cases held
  have marked : ∀ m, m ≤ n → (p.markOf m = some .unused ↔
      p.first ≤ m ∧ p.marks[m - p.first]? = some .unused) := fun m hm => by
    unfold Pack.markOf Pack.inRange
    by_cases low : p.first ≤ m
    · rw [if_pos (by simp only [Bool.and_eq_true, decide_eq_true_eq]; omega)]
      simp [low]
    · rw [if_neg (by simp [low])]
      simp [low]
  rw [Pack.lowestUnused, firstUnused_eq_some_iff]
  exact ⟨(marked n le_rfl).1 held, at_, fun m from_ before unused =>
    least m from_ before ((marked m (by omega)).2 unused)⟩

/-- A serial is expected wherever one UNUSED stands at or after the position. -/
theorem Pack.exists_lowestUnused {p : Pack} {low n : Nat} (held : p.markOf n = some .unused)
    (at_ : low ≤ n) : ∃ e, p.lowestUnused low = some e := by
  have some_ : ∃ m, low ≤ m ∧ p.markOf m = some .unused := ⟨n, at_, held⟩
  obtain ⟨from_, unused⟩ := Nat.find_spec some_
  refine ⟨_, Pack.lowestUnused_of_first unused from_ fun m low' before unused' => ?_⟩
  exact Nat.find_min some_ before ⟨low', unused'⟩

theorem State.expected_of_mounted {p : Pack} (mounted : s.mounted l = some p) :
    s.expected l = p.lowestUnused (s.lane l).position := by
  unfold State.expected
  rw [mounted]
  rfl

theorem State.mountedPack_stays (h : s.laneTo t l x a) (pack : x.pack = (s.lane l).pack)
    (out : .packs ∉ a := by decide) : t.mounted l = s.mounted l :=
  State.mounted_congr (h.frame .packs out) (by rw [h.self, pack])

end

/-- A mark moved away from UNUSED counts down, and leaves the pack's other serials. -/
theorem Pack.remark_unused {k : Pack} {e : Nat} {new : Mark} (held : k.markOf e = some .unused)
    (other : new ≠ .unused) :
    (k.remark e .unused new).markOf e = some new ∧
      (∀ r, r ≠ e → (k.remark e .unused new).markOf r = k.markOf r) ∧
      (k.remark e .unused new).remaining = k.counters.unused - 1 := by
  have marks := fun r => Pack.remark_markOf (new := new) held r
  refine ⟨by rw [marks, if_pos rfl], fun r ne => by rw [marks, if_neg ne], ?_⟩
  cases new <;> first | rfl | exact absurd rfl other

/-! ## The feed after a blank has gone (04 R75) -/

section
variable {s : State} {l : LaneId} {k q : Pack} {e : Nat} {new : Mark}

/-- What is expected once a blank is no longer UNUSED. -/
theorem State.expected_after (mounted : s.mounted l = some (k.remark e .unused new))
    (held : k.markOf e = some .unused) (other : new ≠ .unused) :
    ((∃ n, n ≠ e ∧ (s.lane l).position ≤ n ∧ k.markOf n = some .unused) → ∃ n, s.expected l = some n) ∧
      ∀ n, n ≠ e → (s.lane l).position ≤ n → k.markOf n = some .unused →
        (∀ m, (s.lane l).position ≤ m → m < n → m ≠ e → k.markOf m ≠ some .unused) →
        s.expected l = some n := by
  obtain ⟨gone, others, -⟩ := Pack.remark_unused held other
  rw [State.expected_of_mounted mounted]
  constructor
  · rintro ⟨n, ne, low, unused⟩
    exact Pack.exists_lowestUnused ((others n ne).trans unused) low
  · intro n ne low unused least
    refine Pack.lowestUnused_of_first ((others n ne).trans unused) low fun m from_ before => ?_
    by_cases same : m = e
    · subst same
      rw [gone]
      exact fun h => other (Option.some.inj h)
    · rw [others m same]
      exact least m from_ before same

/-- A feed attempt that advances its VERIFIED blank, with stock left after it. -/
theorem State.feedAttempt_advances (idle : (s.lane l).inflight = none)
    (head : (s.lane l).head = .verified e) (mounted : s.mounted l = some k) (found : s.packOf k.cls e = some k)
    (held : k.markOf e = some .unused) (some_ : 1 < k.counters.unused)
    (left : ∃ n, n ≠ e ∧ (s.lane l).position ≤ n ∧ k.markOf n = some .unused) (t : State)
    (ht : t = s.feedAttempt l) :
    t.findPack k.number = some (k.remark e .unused .advanced) ∧ s.otherPacks t k.number ∧
    (s.powerFail = false → (s.lane l).stockPin = true → s.laneTo t l
      { s.lane l with head := .notPositioned, awaiting := some .feed, deferred := none }
      [.lanes, .queues, .packs, .census]) ∧
    (s.powerFail = true → s.laneTo t l
      { s.lane l with head := .notPositioned, deferred := some .feed }
      [.lanes, .queues, .packs, .census]) ∧
    ∀ n, s.powerFail = false → (s.lane l).stockPin = false → n ≠ e →
      (s.lane l).position ≤ n → k.markOf n = some .unused →
      (∀ m, (s.lane l).position ≤ m → m < n → m ≠ e → k.markOf m ≠ some .unused) →
      s.laneTo t l { (s.lane l).stopped.lockedIn with head := .notPositioned }
        [.lanes, .queues, .packs, .census, .faults] ∧
      t.faults = (s.raiseLane l .stockDiscrepancy
        { reason := some .stockAbsent, pack := some k.number, expected := some n }).faults := by
  obtain ⟨u, hu⟩ : ∃ u, u = s.advanceHead l := ⟨_, rfl⟩
  obtain ⟨first, under, number, others⟩ := State.advanceHead_to head mounted found held
  obtain ⟨-, -, count⟩ := Pack.remark_unused held (new := .advanced) (by decide)
  rw [← hu] at first under number others
  have stock : 0 < u.remaining l := by
    rw [State.remaining_of_mounted under]
    have : (k.remark e .unused .advanced).counters.unused = k.counters.unused - 1 := count
    omega
  have position : (u.lane l).position = (s.lane l).position := by rw [first.self]
  obtain ⟨exists_, least⟩ := State.expected_after under held (by decide)
  rw [position] at exists_ least
  obtain ⟨m, next⟩ := exists_ left
  obtain ⟨issued, deferred, -⟩ := State.feedAttempt_to hu stock next
  have under_ := fun n next => (State.feedAttempt_to (e := n) hu stock next).2.2
  rw [← ht, first.self] at issued deferred
  rw [← ht, first.self] at under_
  have kept : t.packs = u.packs := by
    cases warning : s.powerFail with
    | true => exact (deferred warning).frame .packs (by decide)
    | false =>
      cases pin : (s.lane l).stockPin with
      | true => exact (issued warning pin).frame .packs (by decide)
      | false => exact (under_ m next warning pin idle).1.frame .packs (by decide)
  have packs : ∀ n, t.findPack n = u.findPack n := State.findPack_congr kept
  refine ⟨(packs _).trans number, fun n other => (packs n).trans (others n other),
    fun on stock => first.andThen (issued on stock), fun off => first.andThen (deferred off), ?_⟩
  intro n on absent ne low unused first_
  obtain ⟨faulted, raised⟩ := under_ n (least n ne low unused first_) on absent idle
  refine ⟨first.andThen faulted, raised.trans ?_⟩
  rw [show (s.lane l).pack = some k.number from (State.mountedPack_eq mounted).1]
  exact first.frame.raiseLane l _ _

/-- A feed attempt that advances the last blank. -/
theorem State.feedAttempt_advances_last (head : (s.lane l).head = .verified e)
    (mounted : s.mounted l = some k) (found : s.packOf k.cls e = some k)
    (held : k.markOf e = some .unused) (last : k.counters.unused = 1)
    (free : s.isLocked l = false) (t : State) (ht : t = s.feedAttempt l) :
    t.findPack k.number = some (k.remark e .unused .advanced) ∧ s.otherPacks t k.number ∧
    s.laneTo t l { (s.lane l).heldFor ⟨(s.lane l).holdAfter, true⟩ with head := .notPositioned }
      [.lanes, .queues, .packs, .census] := by
  obtain ⟨u, hu⟩ : ∃ u, u = s.advanceHead l := ⟨_, rfl⟩
  obtain ⟨first, under, number, others⟩ := State.advanceHead_to head mounted found held
  obtain ⟨-, -, count⟩ := Pack.remark_unused held (new := .advanced) (by decide)
  rw [← hu] at first under number others
  have stock : u.remaining l = 0 := by
    rw [State.remaining_of_mounted under]
    have : (k.remark e .unused .advanced).counters.unused = k.counters.unused - 1 := count
    omega
  have ended := State.feedAttempt_out hu (.inl stock) ((first.frame.isLocked l).trans free)
  rw [← ht, first.self] at ended
  have packs : ∀ n, t.findPack n = u.findPack n := ended.frame.findPack
  exact ⟨(packs _).trans number, fun n other => (packs n).trans (others n other),
    first.andThen ended⟩

end

end Sys2Proof.Machine
end

section
/-! SUPPORT. Two statements about a feed that advances a blank, refuted: each names the pack after the feed
with no rule on the pack table or on the lane's record, and a feed that finds no stock at its input spoils
a ticket left in flight. -/

-- One proof at a time: the check's memory limit holds few threads.
set_option Elab.async false

namespace Sys2Proof.Machine

/-- Pack 1, its blanks 10 and 11 UNUSED, under L1. -/
def twinUnderLane : Pack :=
  ⟨1, 0, 10, 2, [], .mounted, some 0, ⟨2, 0, 0, 0, 0, 0, 0⟩, 0, 0, .none, [.unused, .unused]⟩

/-- A second pack with the number 1, its blank 5 UNUSED: no table that keeps R96 (05) holds both. -/
def twinBeside : Pack :=
  ⟨1, 0, 5, 1, [], .declared, none, ⟨1, 0, 0, 0, 0, 0, 0⟩, 0, 0, .none, [.unused]⟩

/-- A lane with a begun ticket on blank 5 though it is in no state that has one, over blank 10. -/
def strayTicketLane : Lane :=
  { Lane.offline with
    state := .idle, pack := some 1, position := 10, head := .verified 10
    inflight := some ⟨0, 0, 0, 1, 5, 0, .cash, 3, true⟩
    stockPin := false }

/-- The two packs of one number, and the lane `x`. -/
def twinState (x : Lane) : State :=
  { State.reset with packs := [twinUnderLane, twinBeside], lanes := State.reset.lanes.set 0 x }

/-- The mark of blank 10 in pack 1 after a command. -/
def twinMark (o : Host.Outcome State Fault Refusal) : Option Mark :=
  match o with
  | .next t => (t.findPack 1).bind fun q => q.markOf 10
  | _ => none

theorem twinMark_next {t : State} {o : Host.Outcome State Fault Refusal} {q : Pack} {m : Mark}
    (run : o = .next t) (found : t.findPack 1 = some q) (held : q.markOf 10 = some m) :
    twinMark o = some m := by
  rw [run]
  show (t.findPack 1).bind _ = _
  rw [found]
  exact held

/-- Refutes O39: on a table with two packs of one number, the fault of a feed with no stock at its input
spoils the stray ticket's blank 5 in both, which leaves the advanced blank 10 of the first SPOILED. -/
theorem not_advanceBlankFeedsOut : ¬ Obligations.AdvanceBlankFeedsOut := by
  unfold Obligations.AdvanceBlankFeedsOut
  intro h
  have spoiled : twinMark (exec (.advanceBlank .office 7 (some ⟨1, 1⟩)) (twinState strayTicketLane)) =
      some .spoiled := by decide +kernel
  obtain ⟨-, lanes⟩ := h (twinState strayTicketLane) .office 7 1 1 (by decide +kernel)
  obtain ⟨-, -, -, -, feeds⟩ := lanes 0 rfl (by decide) (by decide)
  obtain ⟨t, q, run, -, found, advanced, -⟩ := feeds twinUnderLane 10 rfl rfl rfl rfl rfl
    (by decide) ⟨11, by decide, by decide, rfl⟩
  rw [twinMark_next run found advanced] at spoiled
  cases spoiled

/-- The mark record of blank 10 of class 0 (01 R20). -/
def twinRecord : Vector Byte 6 := markRecordOf 0 10

/-- The same lane ADVANCING, its next mark read awaited. -/
def strayAdvancingLane : Lane :=
  { strayTicketLane with
    state := .advancing, head := .unverified, advances := 2, awaiting := some .read }

/-- Refutes O34 on the same table: the record that matches advances blank 10, and the fault of the feed
that follows spoils it. -/
theorem not_matchingRecordVerifiesTheBlank : ¬ Obligations.MatchingRecordVerifiesTheBlank := by
  unfold Obligations.MatchingRecordVerifiesTheBlank
  intro h
  have spoiled : twinMark (exec (.markRecord 0 twinRecord) (twinState strayAdvancingLane)) =
      some .spoiled := by decide +kernel
  obtain ⟨-, -, -, feeds⟩ := h (twinState strayAdvancingLane) 0 twinRecord twinUnderLane 10 rfl rfl rfl
    (by decide +kernel) (by decide +kernel)
  obtain ⟨t, q, run, found, advanced, -⟩ := feeds (by decide +kernel) rfl rfl (by decide) rfl rfl
    (by decide) ⟨11, by decide, rfl⟩
  rw [twinMark_next run found advanced] at spoiled
  cases spoiled

end Sys2Proof.Machine
end

section
/-! SUPPORT. POSITIONED and HEAD_READY (04 R75, R80, R81), an opening observed (04 R85), and a handed job
taken or handed back (04 R79; 03 R61). -/

-- One proof at a time: the check's memory limit holds few threads.
set_option Elab.async false

namespace Sys2Proof.Machine

section
variable {s : State} {l : LaneId}

theorem State.queuesAfter_of_frame {t : State} {a : List Part} (h : s.changesOnly t a)
    (out : .queues ∉ a := by decide) : s.queuesAfter t fun x => x := h .queues out

/-- The blank fed stands unverified, and its mark read is asked for (04 R75). -/
theorem State.positioned_leaves (s : State) (l : LaneId) :
    s.laneTo (s.moveLane l Lane.positioned) l (s.lane l).positioned [.lanes, .queues] ∧
      s.queuesAfter (s.moveLane l Lane.positioned) fun x =>
        if (s.lane l).state = .feeding then x.postLane l else x := by
  refine ⟨s.moveLane_to l _, ?_⟩
  by_cases feeding : (s.lane l).state = .feeding
  · have seen : (s.lane l).visiblyChanged (s.lane l).positioned = true := by
      rw [Lane.visiblyChanged_iff]
      refine .inl ?_
      simp [Lane.positioned, Lane.reading, feeding]
    simp only [if_pos feeding]
    exact State.moveLane_posts_seen seen
  · simp only [if_neg feeding]
    refine State.queuesAfter_of_frame (a := [.lanes]) (State.moveLane_unseen_frame ?_)
    refine Lane.visiblyChanged_eq_false ?_ rfl rfl nofun
    simp [Lane.positioned, Lane.reading, feeding]

/-- A line taken: the next is strobed, or deferred under the warning (04 R80). -/
theorem State.afterStrobe_next {d : FormDef} (awaited : (s.lane l).awaiting = some .strobe)
    (copy : (s.lane l).composer.copy = some d) (more : (s.lane l).line + 1 < d.lineCount) :
    (s.powerFail = false → s.laneTo (s.afterStrobe l) l { s.lane l with
        line := (s.lane l).line + 1
        inflight := (s.lane l).inflight.map fun r => { r with begun := true }
        composer := ((s.lane l).composer.compose (s.linesFor l) ((s.lane l).line + 1)).1
        printData := some ((s.lane l).composer.compose (s.linesFor l) ((s.lane l).line + 1)).2
        deferred := none } [.lanes]) ∧
      (s.powerFail = true → s.laneTo (s.afterStrobe l) l { s.lane l with
        line := (s.lane l).line + 1, awaiting := none, deferred := some .strobe } [.lanes]) := by
  obtain ⟨u, hu⟩ : ∃ u, u = s.moveLane l fun y => { y with line := y.line + 1, awaiting := none } :=
    ⟨_, rfl⟩
  have moved : s.laneTo u l { s.lane l with line := (s.lane l).line + 1, awaiting := none } [.lanes] :=
    hu ▸ State.moveLane_unseen_to (Lane.visiblyChanged_eq_false rfl rfl rfl fun _ h => h)
  have step : s.afterStrobe l = u.strobeLine l := by
    unfold State.afterStrobe
    dsimp only
    have count : (s.lane l).lineCount = d.lineCount := by
      unfold Lane.lineCount
      rw [copy]
      rfl
    rw [if_pos (by rw [count]; exact more), hu]
  have lines : u.linesFor l = s.linesFor l :=
    State.linesFor_congr (by rw [moved.self]) (moved.frame .slots (by decide))
  have warning : u.powerFail = s.powerFail := moved.frame .powerFail (by decide)
  obtain ⟨on, off⟩ := u.strobeLine_to l
  rw [moved.self, lines, warning] at on
  rw [moved.self, warning] at off
  rw [step]
  refine ⟨fun h => ?_, fun h => moved.andThen (off h)⟩
  have put := moved.andThen (on h) (c := [.lanes])
  refine ⟨put.self.trans ?_, put.others, put.frame⟩
  rw [Lane.strobe, ← awaited]

/-- The last line taken: the cut is issued (04 R81). -/
theorem State.afterStrobe_last {d : FormDef} (state : (s.lane l).state = .printing)
    (copy : (s.lane l).composer.copy = some d) (last : d.lineCount ≤ (s.lane l).line + 1) :
    s.laneTo (s.afterStrobe l) l { s.lane l with state := .cutting, awaiting := some .cut }
      [.lanes, .queues] ∧ s.queuesAfter (s.afterStrobe l) fun x => x.postLane l := by
  have step : s.afterStrobe l =
      s.moveLane l fun y => { y with state := .cutting, awaiting := some .cut } := by
    unfold State.afterStrobe
    dsimp only
    have count : (s.lane l).lineCount = d.lineCount := by
      unfold Lane.lineCount
      rw [copy]
      rfl
    exact if_neg (by rw [count]; omega)
  rw [step]
  refine ⟨s.moveLane_to l _, State.moveLane_posts_seen ?_⟩
  rw [Lane.visiblyChanged_iff]
  exact .inl (by simp [state])

end

/-- Settles O31: each event by whether its operation is awaited, and the next line by
`State.afterStrobe_next`. -/
theorem feedAndStrobeEvents : Obligations.FeedAndStrobeEvents := by
  unfold Obligations.FeedAndStrobeEvents
  intro s l running
  refine ⟨exec_notAwaiting running rfl, fun awaited => ?_, exec_notAwaiting running rfl,
    fun d awaited state copy => ⟨fun more on => ?_, fun more off => ?_, fun last => ?_⟩⟩
  · obtain ⟨⟨self, others, frame⟩, posts⟩ := s.positioned_leaves l
    exact ⟨_, exec_whenAwaiting running rfl awaited, self, others, posts, frame⟩
  · obtain ⟨self, others, frame⟩ := (State.afterStrobe_next awaited copy more).1 on
    exact ⟨_, _, exec_whenAwaiting running rfl awaited, rfl, self, others, frame⟩
  · obtain ⟨self, others, frame⟩ := (State.afterStrobe_next awaited copy more).2 off
    exact ⟨_, exec_whenAwaiting running rfl awaited, self, others, frame⟩
  · obtain ⟨⟨self, others, frame⟩, posts⟩ := State.afterStrobe_last state copy last
    exact ⟨_, exec_whenAwaiting running rfl awaited, self, others, posts, frame⟩

/-! ## An opening observed (04 R85; 10 R177) -/

section
variable {s t : State} {l : LaneId}

/-- The kinds a lane's CABINET_OPEN leaves ACTIVE. -/
theorem faultPlaced_locked (list : List Report) (counter : Nat) (at_ : Stamp) (l : LaneId)
    (c : FaultContext) :
    ((activeIn (faultPlaced list counter at_ l .cabinetOpen c).1 (.lane l)).any fun r =>
      r.kind != .cabinetOpen) =
    (activeIn list (.lane l)).any fun r => r.kind != .cabinetOpen := by
  have mapped : ∀ n o, ((activeIn list (.lane l)).map (occurred n o)).any (fun r =>
      r.kind != FaultKind.cabinetOpen) =
      (activeIn list (.lane l)).any fun r => r.kind != .cabinetOpen := fun n o => by
    rw [List.any_map]
    refine congrArg (List.any _) (funext fun r => ?_)
    simp [(occurred_keeps n o r).2.2.2]
  have appended : ∀ primary, (activeIn (reportAdded list counter at_ l .cabinetOpen primary c).1
      (.lane l)).any (fun r => r.kind != FaultKind.cabinetOpen) =
      (activeIn list (.lane l)).any fun r => r.kind != .cabinetOpen := fun primary => by
    obtain ⟨n, active⟩ := activeIn_reportAdded list counter at_ l .cabinetOpen c primary
    rw [active, List.any_append]
    simp
  unfold faultPlaced
  split
  · dsimp only
    rw [activeIn_map_occurred, mapped]
  · split
    · exact appended _
    · exact appended _
    · dsimp only
      rw [activeIn_map_occurred, mapped]

/-- CABINET_OPEN neither locks a lane nor unlocks it (04 R72). -/
theorem State.raiseCabinet_isLocked : (s.raiseCabinet l).isLocked l = s.isLocked l := by
  have placed := s.raiseLane_faults l .cabinetOpen {}
  have locked := faultPlaced_locked s.faults s.faultCounter s.stamp l {}
  rw [← placed] at locked
  exact locked

/-- An unlocked lane's shown fault is its CABINET_OPEN report. -/
theorem State.cabinet_of_unlocked (free : t.isLocked l = false)
    (raised : t.faults = (s.raiseLane l .cabinetOpen {}).faults) :
    ∃ r ∈ t.activeOf (.lane l), r.kind = .cabinetOpen := by
  obtain ⟨r, hr, -⟩ := State.shows_of_raised raised
  refine ⟨r, hr, ?_⟩
  have all := List.any_eq_false.1 free r hr
  simpa using all

theorem State.raiseCabinet_to (s : State) (l : LaneId) :
    s.laneTo (s.raiseCabinet l) l (s.lane l) [.faults, .queues] :=
  State.laneTo_of_frame (State.changesOnly_mono (s.raiseLane_frame l _ _))

/-- The opening taken into the lane's record. -/
theorem State.seeOpening_to (s : State) (l : LaneId) :
    s.laneTo (s.moveLane l fun x => { x with cabinetSeen := .opened }) l
      { s.lane l with cabinetSeen := .opened } [.lanes] :=
  State.moveLane_unseen_to (f := fun x => { x with cabinetSeen := .opened })
    (Lane.visiblyChanged_eq_false rfl rfl rfl fun _ h => h)

/-- What an observed opening leaves in a lane that stands in IDLE (04 R85). -/
theorem State.observeOpening_idle (idle : (s.lane l).state = .idle) (t : State)
    (ht : t = s.observeOpening l) :
    (s.isLocked l = false → s.laneTo t l
      (Lane.heldFor { s.lane l with cabinetSeen := .opened } ⟨true, false⟩)
      [.lanes, .queues, .faults]) ∧
    (s.isLocked l = true → s.laneTo t l
      (Lane.lockedIn { s.lane l with cabinetSeen := .opened }) [.lanes, .queues, .faults]) ∧
    t.faults = (s.raiseLane l .cabinetOpen {}).faults ∧ t.isLocked l = s.isLocked l := by
  obtain ⟨u, hu⟩ : ∃ u, u = s.moveLane l fun x => { x with cabinetSeen := .opened } := ⟨_, rfl⟩
  have seen := s.seeOpening_to l
  rw [← hu] at seen
  have raised := u.raiseCabinet_to l
  rw [seen.self] at raised
  have lock : (u.raiseCabinet l).isLocked l = s.isLocked l :=
    State.raiseCabinet_isLocked.trans (seen.frame.isLocked l)
  have entered : t = (u.raiseCabinet l).enterHolding l ⟨true, false⟩ := by
    rw [ht]
    unfold State.observeOpening
    rw [idle, hu]
  have frame := State.enterHolding_frame (u.raiseCabinet l) l ⟨true, false⟩
  rw [← entered] at frame
  refine ⟨fun free => ?_, fun locked => ?_, ?_, ?_⟩
  · have held := State.enterHolding_to (l := l) ⟨true, false⟩ (lock.trans free)
    rw [raised.self, ← entered] at held
    exact (seen.andThen raised (c := [.lanes, .queues, .faults])).andThen held
  · have held := State.enterHolding_locked_to (l := l) ⟨true, false⟩ (lock.trans locked)
    rw [raised.self, ← entered] at held
    exact (seen.andThen raised (c := [.lanes, .queues, .faults])).andThen held
  · exact (frame .faults (by decide)).1.trans (seen.frame.raiseLane l _ _)
  · exact (frame.isLocked l).trans lock

/-! ## A job handed back (03 R61) -/

/-- A job handed back is QUEUED again, under no lane. -/
theorem State.handBack_leaves {w : Window} {k : SlotId} {j : Job} (held : s.job w k = some j) (t : State)
    (ht : t = s.handBack w k) :
    t.slot w k = ⟨(s.slot w k).unread, some { j with state := .queued, lane := none }⟩ ∧
      s.otherSlots t w k ∧ (∃ told, s.lanesTold t told) ∧ s.changesOnly t [.slots, .lanes] := by
  subst ht
  obtain ⟨u, hu⟩ : ∃ u, u = s.mapJob w k fun j => { j with state := .queued, lane := none } := ⟨_, rfl⟩
  have moved := s.mapJob_frame w k fun j => { j with state := .queued, lane := none }
  have self := s.mapJob_slot_self w k (fun j => { j with state := .queued, lane := none }) held
  have others := s.mapJob_otherSlots w k fun j => { j with state := .queued, lane := none }
  rw [← hu] at moved self others
  have told := u.reportJob_told w k (congrArg Slot.job self)
  have frame := u.reportJob_frame w k
  have back : s.handBack w k = u.reportJob w k := by rw [State.handBack, ← hu]
  rw [back]
  refine ⟨(frame.slot w k).trans self, fun v i other => (frame.slot v i).trans (others v i other),
    ⟨_, State.lanesTold.before moved told⟩, State.changesOnly_then moved frame⟩

/-- Under the warning no lane claims (04 R89). -/
theorem Lane.claiming_of_warning (x : Lane) : x.claiming true = x := by
  unfold Lane.claiming Lane.mayClaim
  simp

theorem State.lanesTold.stands {told : Bool} (h : s.lanesTold t told) (warning : s.powerFail = true)
    (m : LaneId) : t.lane m = s.lane m := by
  rcases h.cases m with e | e
  · exact e
  · rw [e, warning, Lane.claiming_of_warning]

/-- A lane's record but for its claim. -/
theorem Lane.claiming_fields (x : Lane) (p : Bool) : (x.claiming p).state = x.state ∧
    (x.claiming p).causes = x.causes ∧ (x.claiming p).cabinetSeen = x.cabinetSeen ∧
    (x.claiming p).head = x.head ∧ (x.claiming p).handed = x.handed ∧
    (x.claiming p).inflight = x.inflight ∧ (x.claiming p).job = x.job := by
  rcases Lane.claiming_cases x p with e | e <;> rw [e] <;> simp

/-! ## A handed job taken (04 R79) -/

variable {h : Handed} {serial : Nat}

/-- The lane lets go of the job it was handed. -/
theorem State.takeHanded_to (s : State) (l : LaneId) :
    s.laneTo (s.moveLane l fun x => { x with handed := none }) l { s.lane l with handed := none }
      [.lanes] :=
  State.moveLane_unseen_to (f := fun x => { x with handed := none })
    (Lane.visiblyChanged_eq_false rfl rfl rfl fun _ h => h)

theorem exec_claimAnswer (running : s.phase = .running) (handed : (s.lane l).handed = some h) :
    exec (.claimAnswer l) s =
      .next ((s.moveLane l fun x => { x with handed := none }).answerClaim l h) := by
  refine (exec_whenRunning running rfl).trans ?_
  unfold State.takeAnswer
  rw [handed]

/-- The answer to a claim, by the lane that takes it. -/
theorem State.answerClaim_eq (idle : (s.lane l).state = .idle) (head : (s.lane l).head = .verified serial) :
    s.answerClaim l h = if (s.lane l).cabinetPin = .opened then (s.openAtStart l).handBack h.window h.slot
      else if s.powerFail then s.handBack h.window h.slot
      else match s.handedDef l h with
        | some d => s.startTicket l h d serial
        | none => s.handBack h.window h.slot := by
  unfold State.answerClaim
  rw [idle, head] <;> rfl

/-- The ticket of a handed job started, its first line strobed (04 R79, R80). -/
theorem State.startTicket_to (d : FormDef) (cls : s.mountedClass l = d.cls) (idle : (s.lane l).state = .idle)
    (on : s.powerFail = false) (c : Composer × Text)
    (hc : c = (Composer.begin d (serialStamp d.cls serial) (timeStamp s.clockStamp)
      (priceText s.limits.currencyMark h.value) h.declared).compose
        (((s.job h.window h.slot).map Job.lines).getD []) 0) :
    s.laneTo (s.startTicket l h d serial) l { s.lane l with
        state := .printing
        claimSent := false
        job := some (h.window, h.slot)
        line := 0
        inflight := some
          ⟨h.window, h.slot, h.form, h.quantity, serial, h.value, h.tender, h.reserved, true⟩
        composer := c.1
        printData := some c.2
        awaiting := some .strobe
        deferred := none } [.lanes, .queues] ∧
      s.queuesAfter (s.startTicket l h d serial) fun x => x.postLane l := by
  obtain ⟨u, hu⟩ : ∃ u, u = s.moveLane l fun x =>
      x.startTicket h d (s.mountedClass l) serial s.clockStamp s.limits.currencyMark := ⟨_, rfl⟩
  have begun : s.laneTo u l ((s.lane l).startTicket h d d.cls serial s.clockStamp s.limits.currencyMark)
      [.lanes, .queues] := by
    rw [hu, ← cls]
    exact s.moveLane_to l _
  have posted : s.queuesAfter u fun x => x.postLane l := by
    rw [hu]
    refine State.moveLane_posts_seen ?_
    rw [Lane.visiblyChanged_iff]
    exact .inl (by simp [Lane.startTicket, idle])
  have warning : u.powerFail = false := (begun.frame .powerFail (by decide)).trans on
  have strobed := (u.strobeLine_to l).1 warning
  have lines : u.linesFor l = ((s.job h.window h.slot).map Job.lines).getD [] := by
    unfold State.linesFor
    rw [begun.self]
    show ((u.job h.window h.slot).map Job.lines).getD [] = _
    rw [begun.frame.job]
  rw [begun.self, lines] at strobed
  have whole : s.startTicket l h d serial = u.strobeLine l := by rw [State.startTicket, ← hu]
  rw [whole]
  have put := begun.andThen strobed (c := [.lanes, .queues])
  refine ⟨⟨put.self.trans ?_, put.others, put.frame⟩, fun q =>
    (strobed.frame .queues (by decide) q).trans (posted q)⟩
  rw [hc]
  rfl

end

/-- Settles O30: a handed job by the cabinet's input and the warning. -/
theorem claimAnswerStartsTheTicket : Obligations.ClaimAnswerStartsTheTicket := by
  unfold Obligations.ClaimAnswerStartsTheTicket
  intro s l h serial running handed idle head
  have run := exec_claimAnswer running handed
  have taken := s.takeHanded_to l
  obtain ⟨u, hu⟩ : ∃ u, u = s.moveLane l fun x => { x with handed := none } := ⟨_, rfl⟩
  rw [← hu] at run taken
  have idle' : (u.lane l).state = .idle := by rw [taken.self]; exact idle
  have head' : (u.lane l).head = .verified serial := by rw [taken.self]; exact head
  rw [State.answerClaim_eq idle' head'] at run
  have warning : u.powerFail = s.powerFail := taken.frame .powerFail (by decide)
  have pin : (u.lane l).cabinetPin = (s.lane l).cabinetPin := by rw [taken.self]
  rw [pin, warning] at run
  refine ⟨fun d c locked on bound cls hc => ?_, fun j opened seen free held => ?_,
    fun j locked off held => ?_⟩
  · have mounted : u.mounted l = s.mounted l :=
      State.mounted_congr (taken.frame .packs (by decide)) (by rw [taken.self])
    have defined : u.handedDef l h = some d := by
      unfold State.handedDef
      rw [taken.frame.form, bound, mounted, cls]
      exact if_pos rfl
    have own : u.mountedClass l = d.cls := by
      unfold State.mountedClass
      rw [mounted, cls]
      rfl
    have clock : u.clockStamp = s.clockStamp := by
      unfold State.clockStamp
      rw [show u.clock = s.clock from taken.frame .clock (by decide)]
    rw [locked, on, defined] at run
    obtain ⟨ticket, posts⟩ := State.startTicket_to (s := u) (h := h) (serial := serial) d own idle'
      (warning.trans on) c (by
        rw [hc, clock, taken.frame.job, show u.limits = s.limits from taken.frame .limits (by decide)])
    rw [taken.self] at ticket
    have put := taken.andThen ticket (c := [.lanes, .queues])
    refine ⟨_, run, put.self, put.others, fun q => (posts q).trans ?_, put.frame⟩
    rw [State.postLane_queue, State.postLane_queue, taken.frame .queues (by decide) q]
  · rw [opened] at run
    have seen' : (u.lane l).cabinetSeen = .locked := by rw [taken.self]; exact seen
    have opening : u.openAtStart l = u.observeOpening l := by
      unfold State.openAtStart
      rw [seen']
    rw [opening] at run
    obtain ⟨v, hv⟩ : ∃ v, v = u.observeOpening l := ⟨_, rfl⟩
    obtain ⟨holds, -, raised, lock⟩ := State.observeOpening_idle idle' v hv
    have unlocked : u.isLocked l = false := (taken.frame.isLocked l).trans free
    have held_ := holds unlocked
    have jobs : v.job h.window h.slot = some j :=
      (held_.frame.job _ _).trans ((taken.frame.job _ _).trans held)
    rw [if_pos rfl, ← hv] at run
    obtain ⟨t, ht⟩ : ∃ t, t = v.handBack h.window h.slot := ⟨_, rfl⟩
    obtain ⟨slot, -, ⟨told, tells⟩, back⟩ := State.handBack_leaves jobs t ht
    rw [← ht] at run
    have lane : ∃ p, t.lane l = (v.lane l).claiming p ∨ t.lane l = v.lane l :=
      ⟨v.powerFail, (tells.cases l).symm⟩
    obtain ⟨p, lane⟩ := lane
    have fields : (t.lane l).state = (v.lane l).state ∧ (t.lane l).causes = (v.lane l).causes ∧
        (t.lane l).cabinetSeen = (v.lane l).cabinetSeen ∧ (t.lane l).head = (v.lane l).head ∧
        (t.lane l).handed = (v.lane l).handed ∧ (t.lane l).inflight = (v.lane l).inflight ∧
        (t.lane l).job = (v.lane l).job := by
      rcases lane with e | e
      · rw [e]
        exact Lane.claiming_fields _ _
      · rw [e]
        exact ⟨rfl, rfl, rfl, rfl, rfl, rfl, rfl⟩
    obtain ⟨state, causes, observed, under, taken_, flight, -⟩ := fields
    rw [held_.self, taken.self] at state causes observed under taken_ flight
    obtain ⟨r, hr, cabinet⟩ := State.cabinet_of_unlocked (lock.trans unlocked) raised
    refine ⟨t, run, state, causes, observed, under.trans head, taken_, flight, congrArg Slot.job slot,
      ⟨r, ?_, cabinet⟩, ?_⟩
    · rw [State.activeOf, (back .faults (by decide)).1]
      exact hr
    · exact State.changesOnly_then (c := [.lanes, .queues, .faults, .slots])
        (State.changesOnly_then (c := [.lanes, .queues, .faults]) taken.frame held_.frame) back
  · rw [locked, off, if_neg (by decide), if_pos rfl] at run
    obtain ⟨t, ht⟩ : ∃ t, t = u.handBack h.window h.slot := ⟨_, rfl⟩
    obtain ⟨slot, others, ⟨told, tells⟩, back⟩ :=
      State.handBack_leaves ((taken.frame.job _ _).trans held) t ht
    rw [← ht] at run
    have stands := fun m => tells.stands (warning.trans off) m
    refine ⟨t, run, (stands l).trans taken.self, fun m other => (stands m).trans (taken.others m other),
      congrArg Slot.job slot, fun v i other => (others v i other).trans (taken.frame.slot v i),
      State.changesOnly_then taken.frame back⟩

end Sys2Proof.Machine
end

section
/-! SUPPORT. The end of the power-fail warning (04 R89): the operations deferred under it are issued, lane
by lane. -/

-- One proof at a time: the check's memory limit holds few threads.
set_option Elab.async false

namespace Sys2Proof.Machine

section
variable {s t u : State} {l : LaneId} {k : FaultKind}

/-- A further occurrence of a kind leaves the lanes that show it showing it (10 R177). -/
theorem faultPlaced_keeps_shown {list : List Report} {counter : Nat} {at_ : Stamp} {m : LaneId}
    {c : FaultContext} (shown : ∃ x ∈ activeIn list (.lane l), x.kind = k ∨ x.lastOther = some k) :
    ∃ x ∈ activeIn (faultPlaced list counter at_ m k c).1 (.lane l),
      x.kind = k ∨ x.lastOther = some k := by
  obtain ⟨x, hx, kind⟩ := shown
  have mapped : ∀ n o, (o = none ∨ o = some k) →
      ∃ y ∈ activeIn (list.map (occurred n o)) (.lane l), y.kind = k ∨ y.lastOther = some k := by
    intro n o ho
    refine ⟨occurred n o x, ?_, kind.imp (occurred_keeps n o x).2.2.2.trans fun other => ?_⟩
    · rw [activeIn_map_occurred]
      exact List.mem_map_of_mem hx
    · rcases ho with rfl | rfl <;> unfold occurred <;> split <;> simp [other]
  have added : ∀ primary, ∃ y ∈ activeIn (reportAdded list counter at_ m k primary c).1 (.lane l),
      y.kind = k ∨ y.lastOther = some k := by
    intro primary
    refine ⟨x, ?_, kind⟩
    have own := activeIn_agedList list (.lane l)
    unfold activeIn at own hx ⊢
    rw [reportAdded, List.filter_append, own]
    exact List.mem_append_left _ hx
  unfold faultPlaced
  split
  · exact mapped _ _ (.inl rfl)
  · split
    · exact added _
    · exact added _
    · exact mapped _ _ (.inr rfl)

/-! ## One lane's deferred operation (04 R89) -/

/-- The lane's deferred feed finds no stock at its input (04 R75). -/
def State.feedAbsent (s : State) (l : LaneId) : Prop :=
  (s.lane l).deferred = some .feed ∧ (s.lane l).stockPin = false ∧ 0 < s.remaining l

/-- A lane's record once its deferred operation is issued (04 R89). -/
def State.issued (s : State) (l : LaneId) : Lane :=
  match (s.lane l).deferred with
  | none => s.lane l
  | some .feed => { s.lane l with
    head := .notPositioned, awaiting := some .feed, deferred := none }
  | some .strobe => (s.lane l).strobe (s.linesFor l)

theorem State.feedAbsent_congr (lane : t.lane l = s.lane l) (packs : t.packs = s.packs) :
    t.feedAbsent l ↔ s.feedAbsent l := by
  unfold State.feedAbsent
  rw [lane, State.remaining_congr (State.mounted_congr packs (by rw [lane]))]

theorem State.issued_congr (lane : t.lane l = s.lane l) (slots : t.slots = s.slots) :
    t.issued l = s.issued l := by
  unfold State.issued
  rw [lane, State.linesFor_congr (by rw [lane]) slots]

theorem State.resume_to (on : s.powerFail = false) (present : ¬s.feedAbsent l) :
    s.laneTo (s.resume l) l (s.issued l) [.lanes] := by
  unfold State.resume State.issued
  split
  case h_1 deferred =>
    rw [deferred]
    refine State.issueFeed_to ?_
    by_contra neither
    simp only [not_or, Bool.not_eq_true] at neither
    exact present ⟨deferred, neither.1, by omega⟩
  case h_2 deferred =>
    rw [deferred]
    exact (s.strobeLine_to l).1 on
  case h_3 deferred =>
    rw [deferred]
    exact s.laneTo_refl l _

theorem State.resume_absent_to (absent : s.feedAbsent l) (idle : (s.lane l).inflight = none) :
    s.laneTo (s.resume l) l (s.lane l).stopped.lockedIn [.lanes, .queues, .faults] ∧
      ∃ x ∈ (s.resume l).activeOf (.lane l),
        x.kind = .stockDiscrepancy ∨ x.lastOther = some .stockDiscrepancy := by
  obtain ⟨deferred, pin, some_⟩ := absent
  have step : s.resume l = s.issueFeed l := by
    unfold State.resume
    rw [deferred]
  obtain ⟨moved, raised⟩ := State.issueFeed_absent_to pin some_ idle
  exact step ▸ ⟨moved, State.shows_of_raised raised⟩

/-- Another lane's resumed operation keeps a shown STOCK_DISCREPANCY. -/
theorem State.resume_keeps_shown {m : LaneId} (on : s.powerFail = false)
    (idle : s.feedAbsent m → (s.lane m).inflight = none)
    (shown : ∃ x ∈ s.activeOf (.lane l),
      x.kind = .stockDiscrepancy ∨ x.lastOther = some .stockDiscrepancy) :
    ∃ x ∈ (s.resume m).activeOf (.lane l),
      x.kind = .stockDiscrepancy ∨ x.lastOther = some .stockDiscrepancy := by
  by_cases absent : s.feedAbsent m
  · obtain ⟨deferred, pin, some_⟩ := absent
    have step : s.resume m = s.issueFeed m := by
      unfold State.resume
      rw [deferred]
    obtain ⟨-, raised⟩ := State.issueFeed_absent_to pin some_ (idle ⟨deferred, pin, some_⟩)
    have list : (s.resume m).activeOf (.lane l) = activeIn (s.resume m).faults (.lane l) := rfl
    rw [list, step, raised, State.raiseLane_faults]
    exact faultPlaced_keeps_shown shown
  · have kept : (s.resume m).faults = s.faults :=
      ((State.resume_to on absent).frame .faults (by decide)).1
    have list : (s.resume m).activeOf (.lane l) = activeIn (s.resume m).faults (.lane l) := rfl
    rw [list, kept]
    exact shown

/-! ## Every lane's (04 R89) -/

/-- What the lanes of a list come to as their deferred operations are issued in turn. -/
structure State.resumed (s t : State) (xs : List LaneId) : Prop where
  frame : s.changesOnly t [.lanes, .queues, .faults]
  quiet : (∀ l ∈ xs, ¬s.feedAbsent l) → s.changesOnly t [.lanes]
  other : ∀ l, l ∉ xs → t.lane l = s.lane l
  issued : ∀ l ∈ xs, ¬s.feedAbsent l → t.lane l = s.issued l
  absent : ∀ l ∈ xs, s.feedAbsent l → t.lane l = (s.lane l).stopped.lockedIn ∧
    ∃ x ∈ t.activeOf (.lane l), x.kind = .stockDiscrepancy ∨ x.lastOther = some .stockDiscrepancy
  shown : ∀ l, (∃ x ∈ s.activeOf (.lane l),
      x.kind = .stockDiscrepancy ∨ x.lastOther = some .stockDiscrepancy) →
    ∃ x ∈ t.activeOf (.lane l), x.kind = .stockDiscrepancy ∨ x.lastOther = some .stockDiscrepancy

theorem State.resumed_foldl (xs : List LaneId) (distinct : xs.Nodup) (on : s.powerFail = false)
    (idle : ∀ l ∈ xs, s.feedAbsent l → (s.lane l).inflight = none) :
    s.resumed (xs.foldl State.resume s) xs := by
  induction xs generalizing s with
  | nil => exact ⟨s.changesOnly_refl _, fun _ => s.changesOnly_refl _, fun _ _ => rfl, nofun, nofun,
      fun _ h => h⟩
  | cons m rest ih =>
    obtain ⟨fresh, distinct⟩ := List.nodup_cons.1 distinct
    obtain ⟨u, hu⟩ : ∃ u, u = s.resume m := ⟨_, rfl⟩
    have step : s.changesOnly u [.lanes, .queues, .faults] ∧ s.otherLanes u m := by
      by_cases absent : s.feedAbsent m
      · obtain ⟨moved, -⟩ := State.resume_absent_to absent (idle m (by simp) absent)
        exact hu ▸ ⟨moved.frame, moved.others⟩
      · have moved := State.resume_to on absent
        exact hu ▸ ⟨State.changesOnly_mono moved.frame, moved.others⟩
    obtain ⟨frame, others⟩ := step
    have packs : u.packs = s.packs := frame .packs (by decide)
    have slots : u.slots = s.slots := frame .slots (by decide)
    have ne : ∀ l ∈ rest, l ≠ m := fun l hl same => fresh (same ▸ hl)
    have absents : ∀ l ∈ rest, (u.feedAbsent l ↔ s.feedAbsent l) := fun l hl =>
      State.feedAbsent_congr (others l (ne l hl)) packs
    have after := ih (s := u) distinct ((frame .powerFail (by decide)).trans on) fun l hl h => by
      rw [others l (ne l hl)]
      exact idle l (by simp [hl]) ((absents l hl).1 h)
    rw [List.foldl_cons, ← hu]
    refine ⟨State.changesOnly_then frame after.frame, fun quiet => ?_, fun l out => ?_,
      fun l hl present => ?_, fun l hl absent => ?_, fun l h => ?_⟩
    · have here := (State.resume_to on (quiet m (by simp))).frame
      rw [← hu] at here
      exact State.changesOnly_then here (after.quiet fun l hl h =>
        quiet l (by simp [hl]) ((absents l hl).1 h))
    · obtain ⟨notHere, notLater⟩ := not_or.1 (mt List.mem_cons.2 out)
      exact (after.other l notLater).trans (others l notHere)
    · rcases List.mem_cons.1 hl with rfl | later
      · have here := State.resume_to on present
        rw [after.other l fresh, hu]
        exact here.self
      · rw [after.issued l later fun h => present ((absents l later).1 h)]
        exact State.issued_congr (others l (ne l later)) slots
    · rcases List.mem_cons.1 hl with rfl | later
      · obtain ⟨here, shows_⟩ := State.resume_absent_to absent (idle l (by simp) absent)
        rw [← hu] at here shows_
        exact ⟨(after.other l fresh).trans here.self, after.shown l shows_⟩
      · obtain ⟨lane, shows_⟩ := after.absent l later ((absents l later).2 absent)
        exact ⟨by rw [lane, others l (ne l later)], shows_⟩
    · refine after.shown l ?_
      rw [hu]
      exact State.resume_keeps_shown on (idle m (by simp)) h

/-- The warning gone, the deferred operations issued, and every lane that may claim told. -/
theorem State.warningEnds (run : s.phase = .running)
    (idle : ∀ l, s.feedAbsent l → (s.lane l).inflight = none) :
    ∃ u t, exec .powerFailWarningDeassert s = .next t ∧ t = u.reportEligible ∧
      { s with powerFail := false }.resumed u allLanes ∧ u.powerFail = false := by
  have resumed := State.resumed_foldl (s := { s with powerFail := false }) allLanes (by decide) rfl
    fun l _ => idle l
  exact ⟨_, _, congrArg Host.Outcome.next (if_pos run), rfl, resumed,
    resumed.frame .powerFail (by decide)⟩

end

/-- Settles O38: the deferred operations issued in turn by `State.resumed_foldl`, and the claims that
follow. -/
theorem powerFailWarning : Obligations.PowerFailWarning := by
  unfold Obligations.PowerFailWarning
  intro s
  have warned : s.changesOnly { s with powerFail := false } [.powerFail] :=
    s.setPowerFail_frame false
  refine ⟨⟨_, rfl, rfl, s.setPowerFail_frame true⟩, fun running stock => ?_, fun running lanes faults => ?_⟩
  · have present : ∀ l, ¬s.feedAbsent l := fun l ⟨deferred, pin, some_⟩ => by
      rcases stock l deferred with h | h
      · rw [pin] at h; cases h
      · omega
    obtain ⟨u, t, run, rfl, resumed, on⟩ := State.warningEnds running fun l h => absurd h (present l)
    have frame := State.changesOnly_then (resumed.quiet fun l _ => present l) u.reportEligible_frame
      (c := [.lanes])
    refine ⟨_, run, on, State.changesOnly_then warned frame, fun l => ?_⟩
    rw [State.reportEligible_lane, on, resumed.issued l (mem_allLanes l) (present l)]
    rfl
  · have wf : ∀ l, (s.lane l).wf = true := lanes.1 (by rw [running]; decide)
    have fits : ∀ l, s.feedAbsent l → (s.lane l).inflight = none ∧ (s.lane l).state ≠ .faulted :=
      fun l ⟨deferred, _, _⟩ => by
        have ok := wf l
        rw [Lane.wf, deferred] at ok
        cases state : (s.lane l).state <;> simp_all [DeferredOp.fits, LaneState.hasTicket]
    obtain ⟨u, t, run, ht, resumed, on⟩ := State.warningEnds running fun l h => (fits l h).1
    have frame := State.changesOnly_then resumed.frame u.reportEligible_frame
      (c := [.lanes, .queues, .faults])
    have told : ∀ l, t.lane l = (u.lane l).claiming false := fun l => by
      rw [ht, State.reportEligible_lane, on]
    refine ⟨t, run, by rw [ht]; exact on, State.changesOnly_then warned (ht ▸ frame), fun l => ?_⟩
    split
    case isTrue absent =>
      obtain ⟨lane, shown⟩ := resumed.absent l (mem_allLanes l) absent
      have self : t.lane l = (s.lane l).stopped.lockedIn := by
        rw [told, lane]
        rfl
      refine ⟨self, ?_, fun p => exec_lanesPosted (by decide) run l p (.inl ?_)⟩
      · have list : t.activeOf (.lane l) = u.activeOf (.lane l) := by rw [ht]; rfl
        rw [list]
        exact shown
      · rw [self]
        exact fun h => (fits l absent).2 h.symm
    case isFalse present =>
      rw [told, resumed.issued l (mem_allLanes l) present]
      rfl

end Sys2Proof.Machine
end

section
/-! SUPPORT. A run of blanks marked in one pack (04 R77, 05 R104), and the mark records that do not match
(04 R76, R77). -/

-- One proof at a time: the check's memory limit holds few threads.
set_option Elab.async false

namespace Sys2Proof.Machine

/-! ## A run of blanks marked -/

/-- The pack once each of a list of UNUSED blanks has taken a mark (05 R93). -/
def Pack.remarkAll (p : Pack) (new : Mark) (xs : List Nat) : Pack :=
  xs.foldl (fun q r => q.remark r .unused new) p

section
variable {s t : State} {p : Pack} {new : Mark} {n : Nat} {xs : List Nat}

theorem Pack.remarkAll_cons (p : Pack) (new : Mark) (n : Nat) (xs : List Nat) :
    p.remarkAll new (n :: xs) = (p.remark n .unused new).remarkAll new xs := rfl

theorem Pack.remarkAll_kept (p : Pack) (new : Mark) (xs : List Nat) :
    (p.remarkAll new xs).number = p.number ∧ (p.remarkAll new xs).state = p.state ∧
      (p.remarkAll new xs).lane = p.lane ∧ (p.remarkAll new xs).references = p.references ∧
      (p.remarkAll new xs).sequence = p.sequence + xs.length ∧
      (p.remarkAll new xs).verdict = (if xs = [] then p.verdict else .none) := by
  induction xs generalizing p with
  | nil => exact ⟨rfl, rfl, rfl, rfl, rfl, rfl⟩
  | cons x xs ih =>
    obtain ⟨number, state, lane, references, sequence, verdict⟩ := ih (p.remark x .unused new)
    refine ⟨number, state, lane, references, ?_, ?_⟩
    · rw [Pack.remarkAll_cons, sequence, List.length_cons]
      show p.sequence + 1 + xs.length = _
      omega
    · rw [Pack.remarkAll_cons, verdict, if_neg (List.cons_ne_nil _ _)]
      split <;> rfl

/-- The marks of the run, and the others, as they stand after it. -/
theorem Pack.remarkAll_markOf (distinct : xs.Nodup) (held : ∀ r ∈ xs, p.markOf r = some .unused)
    (r : Nat) : (p.remarkAll new xs).markOf r = if r ∈ xs then some new else p.markOf r := by
  induction xs generalizing p with
  | nil => rfl
  | cons x xs ih =>
    obtain ⟨fresh, distinct⟩ := List.nodup_cons.1 distinct
    have one := Pack.remark_markOf (new := new) (held x (by simp))
    rw [Pack.remarkAll_cons, ih distinct fun y hy => ?_, one]
    · by_cases here : r = x
      · subst here
        simp [fresh]
      · simp [here]
    · rw [one, if_neg (ne_of_mem_of_not_mem hy fresh)]
      exact held y (by simp [hy])

theorem Pack.remarkAll_wf (edge : markEdge .unused new = true) (distinct : xs.Nodup)
    (held : ∀ r ∈ xs, p.markOf r = some .unused) (wf : p.wf = true) :
    (p.remarkAll new xs).wf = true := by
  induction xs generalizing p with
  | nil => exact wf
  | cons x xs ih =>
    obtain ⟨fresh, distinct⟩ := List.nodup_cons.1 distinct
    have first := held x (by simp)
    refine ih distinct (fun y hy => ?_) (Pack.remark_wf first edge wf)
    rw [Pack.remark_markOf first, if_neg (ne_of_mem_of_not_mem hy fresh)]
    exact held y (by simp [hy])

/-! ## The pack that holds a blank -/

theorem State.packOf_map {f : Pack → Pack} {cls : Nat} (packs : t.packs = s.packs.map f)
    (holds : ∀ q : Pack, (f q).holds cls n = q.holds cls n) :
    t.packOf cls n = (s.packOf cls n).map f := by
  unfold State.packOf
  rw [packs, List.find?_map]
  exact congrArg (Option.map f) (List.find?_congr fun q _ => holds q)

theorem State.packOf_congr (packs : t.packs = s.packs) (cls n : Nat) :
    t.packOf cls n = s.packOf cls n := by
  unfold State.packOf
  rw [packs]

/-- A blank of a pack in the table is found in it alone (05 R95). -/
theorem State.packOf_of_holds (h : s.stockHolds) (mem : p ∈ s.packs) {cls : Nat}
    (holds : p.holds cls n = true) : s.packOf cls n = some p := by
  cases found : s.packOf cls n with
  | none => exact absurd holds (List.find?_eq_none.1 found p mem)
  | some q =>
    have there := List.mem_of_find?_eq_some found
    have held := List.find?_some found
    exact congrArg some (State.eq_of_holds h there mem held holds)

theorem Pack.holds_of_markOf {m : Mark} (held : p.markOf n = some m) : p.holds p.cls n = true := by
  obtain ⟨range, -, -⟩ := Pack.markOf_eq_some held
  simp [Pack.holds, range]

theorem State.packOf_of_markOf (h : s.stockHolds) (found : s.findPack p.number = some p) {m : Mark}
    (held : p.markOf n = some m) : s.packOf p.cls n = some p :=
  State.packOf_of_holds h (State.mem_of_findPack found).1 (Pack.holds_of_markOf held)

/-- The run marked: its pack remarked, the others as they stood. -/
theorem State.markUnused_pack (number : s.findPack p.number = some p) (edge : markEdge .unused new = true)
    (distinct : xs.Nodup) (held : ∀ r ∈ xs, p.markOf r = some .unused)
    (found : ∀ r ∈ xs, s.packOf p.cls r = some p) :
    (s.markUnused p.cls new xs).findPack p.number = some (p.remarkAll new xs) ∧
      s.otherPacks (s.markUnused p.cls new xs) p.number := by
  induction xs generalizing s p with
  | nil => exact ⟨number, fun _ _ => rfl⟩
  | cons x xs ih =>
    obtain ⟨fresh, distinct⟩ := List.nodup_cons.1 distinct
    have first := held x (by simp)
    have here := found x (by simp)
    have step : s.markUnused p.cls new (x :: xs) =
        (s.remark p x .unused new).markUnused p.cls new xs := by
      unfold State.markUnused
      rw [List.foldl_cons, here, Option.bind_some, if_pos first, State.changeMark_eq here first edge]
    obtain ⟨now, others⟩ := State.remark_pack (n := x) (old := .unused) (new := new) number
    have later : ∀ r ∈ xs, (s.remark p x .unused new).packOf p.cls r =
        some (p.remark x .unused new) := fun r hr => by
      rw [State.packOf_map State.remark_packs (fun q => by split <;> rfl), found r (by simp [hr]),
        Option.map_some, if_pos rfl]
    obtain ⟨there, others'⟩ := ih (s := s.remark p x .unused new) (p := p.remark x .unused new) now
      distinct (fun r hr => by
        rw [Pack.remark_markOf first, if_neg (ne_of_mem_of_not_mem hr fresh)]
        exact held r (by simp [hr])) later
    rw [step]
    exact ⟨there, fun m other => (others' m other).trans (others m other)⟩

/-- The serials of a range that hold UNUSED. -/
theorem Pack.mem_unusedIn {low high : Nat} :
    n ∈ p.unusedIn low high ↔ low ≤ n ∧ n ≤ high ∧ p.markOf n = some .unused := by
  simp only [Pack.unusedIn, List.mem_filter, List.mem_map, List.mem_range, Bool.and_eq_true,
    decide_eq_true_eq, beq_iff_eq, and_assoc]
  refine ⟨fun ⟨_, h⟩ => h, fun h => ⟨?_, h⟩⟩
  obtain ⟨range, -, -⟩ := Pack.markOf_eq_some h.2.2
  simp only [Pack.inRange, Bool.and_eq_true, decide_eq_true_eq] at range
  exact ⟨n - p.first, by omega, by omega⟩

theorem Pack.nodup_unusedIn (low high : Nat) : (p.unusedIn low high).Nodup := by
  refine List.Nodup.filter _ (List.Nodup.map (fun a b h => ?_) List.nodup_range)
  exact Nat.add_left_cancel h

end

/-! ## Mark records that do not match (04 R76, R77) -/

section
variable {s t u : State} {l : LaneId} {p : Pack} {e c r : Nat}

/-- The read's timer stops (04 R76). -/
theorem State.stopRead_to (s : State) (l : LaneId) :
    s.laneTo (s.moveLane l fun x => { x with awaiting := none }) l { s.lane l with awaiting := none }
      [.lanes] :=
  State.moveLane_unseen_to (f := fun x => { x with awaiting := none })
    (Lane.visiblyChanged_eq_false rfl rfl rfl fun _ h => h)

theorem State.unverified_to (s : State) (l : LaneId) :
    s.laneTo (s.moveLane l Lane.unverified) l (s.lane l).unverified [.lanes] :=
  State.moveLane_unseen_to (Lane.visiblyChanged_eq_false rfl rfl rfl nofun)

/-- A read ahead: the run passed over MISSING, the blank VERIFIED, and the fault (04 R77). -/
theorem State.readAhead_to (idle : (s.lane l).inflight = none) (mounted : s.mounted l = some p)
    (stock : s.stockHolds) (cls : Nat) (same : cls = p.cls) :
    s.laneTo (s.readAhead l cls r e) l ((s.lane l).verify r).stopped.lockedIn
      [.lanes, .queues, .packs, .census, .faults] ∧
    (s.readAhead l cls r e).findPack p.number = some (p.remarkAll .missing (p.unusedIn e (r - 1))) ∧
    (s.readAhead l cls r e).faults = (s.raiseLane l .stockDiscrepancy
      { reason := some .readAhead
        pack := some p.number
        expected := some e
        readSerial := some r
        markedMissing := some (p.unusedIn e (r - 1)).length }).faults := by
  obtain ⟨pack, found⟩ := State.mountedPack_eq mounted
  subst same
  have held : ∀ n ∈ p.unusedIn e (r - 1), p.markOf n = some .unused := fun n hn =>
    (Pack.mem_unusedIn.1 hn).2.2
  obtain ⟨now, -⟩ := State.markUnused_pack found (new := .missing) rfl (Pack.nodup_unusedIn e (r - 1))
    held fun n hn => State.packOf_of_markOf stock found (held n hn)
  obtain ⟨v, hv⟩ : ∃ v, v = s.markUnused p.cls .missing (p.unusedIn e (r - 1)) := ⟨_, rfl⟩
  have marked : s.laneTo v l (s.lane l) [.packs, .queues, .census] :=
    hv ▸ State.laneTo_of_frame (State.changesOnly_mono (State.markUnused_frame s p.cls .missing _))
  obtain ⟨w, hw⟩ : ∃ w, w = v.moveLane l fun x => x.verify r := ⟨_, rfl⟩
  have verified : v.laneTo w l ((v.lane l).verify r) [.lanes, .queues] := hw ▸ v.moveLane_to l _
  rw [marked.self] at verified
  obtain ⟨fault, raised⟩ := State.laneFault_to (s := w) (l := l) .stockDiscrepancy
    { reason := some .readAhead, pack := some p.number, expected := some e, readSerial := some r,
      markedMissing := some (p.unusedIn e (r - 1)).length } (by rw [verified.self]; exact idle)
  have step : s.readAhead l p.cls r e = w.laneFault l .stockDiscrepancy
      { reason := some .readAhead, pack := some p.number, expected := some e, readSerial := some r,
        markedMissing := some (p.unusedIn e (r - 1)).length } := by
    rw [hw, hv, State.readAhead, mounted, pack]
  rw [verified.self] at fault
  have before := marked.andThen verified (c := [.lanes, .queues, .packs, .census])
  rw [step]
  refine ⟨before.andThen fault, ?_, raised.trans (before.frame.raiseLane l _ _)⟩
  rw [← hv] at now
  exact (State.findPack_congr (fault.frame .packs (by decide)) _).trans
    ((State.findPack_congr (verified.frame .packs (by decide)) _).trans now)

/-- A wrong read: the head unverified, and the fault (04 R77). -/
theorem State.wrongStock_to (idle : (s.lane l).inflight = none) (pack : (s.lane l).pack = some p.number)
    (expected : s.expected l = some e) (cls : Nat) :
    s.laneTo (s.wrongStock l cls r) l (s.lane l).unverified.stopped.lockedIn
      [.lanes, .queues, .faults] ∧
    (s.wrongStock l cls r).faults = (s.raiseLane l .wrongStock
      { pack := some p.number
        expected := some e
        readClass := some cls
        readSerial := some r }).faults := by
  obtain ⟨v, hv⟩ : ∃ v, v = s.moveLane l Lane.unverified := ⟨_, rfl⟩
  have seen := s.unverified_to l
  rw [← hv] at seen
  obtain ⟨fault, raised⟩ := State.laneFault_to (s := v) (l := l) .wrongStock
    { pack := some p.number, expected := some e, readClass := some cls, readSerial := some r }
    (by rw [seen.self]; exact idle)
  have step : s.wrongStock l cls r = v.laneFault l .wrongStock
      { pack := some p.number, expected := some e, readClass := some cls, readSerial := some r } := by
    rw [hv, State.wrongStock, State.stockContext, pack, expected]
  rw [seen.self] at fault
  rw [step]
  exact ⟨seen.andThen fault, raised.trans (seen.frame.raiseLane l _ _)⟩

/-- A failed read before the third asks again; the third is a fault (04 R76). -/
theorem State.failedRead_to (idle : (s.lane l).inflight = none) :
    ((s.lane l).failedReads < 2 → s.laneTo (s.failedRead l) l
      (Lane.reading { (s.lane l).unverified with failedReads := (s.lane l).failedReads + 1 })
      [.lanes]) ∧
    (2 ≤ (s.lane l).failedReads →
      s.laneTo (s.failedRead l) l
        (Lane.stopped { (s.lane l).unverified with failedReads := 3 }).lockedIn
        [.lanes, .queues, .faults] ∧
      (s.failedRead l).faults = (s.raiseLane l .markUnreadable
        { pack := (s.lane l).pack, expected := s.expected l }).faults) := by
  constructor
  · intro few
    have step : s.failedRead l = s.moveLane l fun x =>
        Lane.reading { x.unverified with failedReads := (s.lane l).failedReads + 1 } := by
      unfold State.failedRead
      exact if_pos (by omega)
    rw [step]
    exact State.moveLane_unseen_to (f := fun x =>
        Lane.reading { x.unverified with failedReads := (s.lane l).failedReads + 1 })
      (Lane.visiblyChanged_eq_false rfl rfl rfl nofun)
  · intro many
    obtain ⟨v, hv⟩ : ∃ v, v = s.moveLane l fun x => { x.unverified with failedReads := 3 } := ⟨_, rfl⟩
    have seen : s.laneTo v l { (s.lane l).unverified with failedReads := 3 } [.lanes] :=
      hv ▸ State.moveLane_unseen_to (f := fun x => { x.unverified with failedReads := 3 })
        (Lane.visiblyChanged_eq_false rfl rfl rfl nofun)
    obtain ⟨fault, raised⟩ := State.laneFault_to (s := v) (l := l) .markUnreadable (s.stockContext l)
      (by rw [seen.self]; exact idle)
    have step : s.failedRead l = v.laneFault l .markUnreadable (s.stockContext l) := by
      rw [hv]
      unfold State.failedRead
      exact if_neg (by omega)
    rw [seen.self] at fault
    rw [step]
    exact ⟨seen.andThen fault, raised.trans (seen.frame.raiseLane l _ _)⟩

theorem State.compareRead_ahead (mounted : s.mounted l = some p) (expected : s.expected l = some e)
    (later : e < r) (held : p.markOf r = some .unused) :
    s.compareRead l p.cls r = s.readAhead l p.cls r e := by
  obtain ⟨range, -, -⟩ := Pack.markOf_eq_some held
  unfold State.compareRead State.readsAhead
  rw [expected, mounted]
  dsimp only
  rw [if_neg (by omega), if_pos (by simp [later, range, held])]

theorem State.compareRead_wrong (mounted : s.mounted l = some p) (expected : s.expected l = some e)
    (unmatched : c = p.cls → r ≠ e) (behind : c = p.cls → e < r → p.markOf r ≠ some .unused) :
    s.compareRead l c r = s.wrongStock l c r := by
  have first : ¬(c = s.mountedClass l ∧ r = e) := fun ⟨cls, same⟩ =>
    unmatched (cls.trans (State.mountedClass_of_mounted mounted)) same
  have second : ¬s.readsAhead l c r e = true := by
    unfold State.readsAhead
    rw [mounted]
    simp only [Bool.and_eq_true, beq_iff_eq, decide_eq_true_eq]
    exact fun ⟨⟨⟨cls, later⟩, _⟩, held⟩ => behind cls later held
  unfold State.compareRead
  rw [expected]
  dsimp only
  rw [if_neg first, if_neg second]

end

/-- Settles O35: the read ahead by `State.readAhead_to`, the wrong read by `State.wrongStock_to`, and a
failed read or an expiry by `State.failedRead_to`. -/
theorem otherRecordsAreAskedAgainOrFaulted : Obligations.OtherRecordsAreAskedAgainOrFaulted := by
  unfold Obligations.OtherRecordsAreAskedAgainOrFaulted
  intro s l record p e running awaited idle mounted expected stock
  obtain ⟨u, hu⟩ : ∃ u, u = s.moveLane l fun x => { x with awaiting := none } := ⟨_, rfl⟩
  have stopped := s.stopRead_to l
  rw [← hu] at stopped
  have idle' : (u.lane l).inflight = none := by rw [stopped.self]; exact idle
  have mounted' : u.mounted l = some p :=
    (State.mountedPack_stays stopped rfl).trans mounted
  have expected' : u.expected l = some e :=
    (State.expected_congr (mounted'.trans mounted.symm) (by rw [stopped.self])).trans expected
  have pack : (u.lane l).pack = some p.number := (State.mountedPack_eq mounted').1
  have packs : u.packs = s.packs := stopped.frame .packs (by decide)
  have stock' : u.stockHolds := stopped.frame.stockHolds stock
  have record_ : ∀ x, goodRead record = some x →
      exec (.markRecord l record) s = .next (u.compareRead l x.1 x.2) := fun x good => by
    refine (exec_whenAwaiting running rfl awaited).trans (congrArg Host.Outcome.next ?_)
    unfold State.takeRecord
    rw [good, ← hu]
  refine ⟨fun r run good later held hrun => ?_, fun c r good unmatched behind => ?_, fun ev either => ?_⟩
  · subst hrun
    obtain ⟨moved, now, raised⟩ := State.readAhead_to (e := e) (r := r) idle' mounted' stock' p.cls rfl
    rw [stopped.self] at moved
    have whole := stopped.andThen moved (c := [.lanes, .queues, .packs, .census, .faults])
    have placed := raised.trans (stopped.frame.raiseLane l _ _)
    have ok : ∀ n ∈ p.unusedIn e (r - 1), p.markOf n = some .unused := fun n hn =>
      (Pack.mem_unusedIn.1 hn).2.2
    have marks := Pack.remarkAll_markOf (new := .missing) (Pack.nodup_unusedIn e (r - 1)) ok
    rw [← State.compareRead_ahead mounted' expected' later held] at whole now placed
    refine ⟨_, _, record_ _ good, now, fun n hn => (marks n).trans (if_pos hn),
      fun n hn => (marks n).trans (if_neg hn), ?_, ?_, ?_, ?_, whole.others,
      State.shows_of_raised placed, State.context_of_raised placed, placed, whole.frame⟩ <;>
      rw [whole.self] <;> rfl
  · obtain ⟨moved, raised⟩ := State.wrongStock_to (r := r) idle' pack expected' c
    rw [stopped.self] at moved
    have whole := stopped.andThen moved (c := [.lanes, .queues, .faults])
    have placed := raised.trans (stopped.frame.raiseLane l _ _)
    rw [← State.compareRead_wrong mounted' expected' unmatched behind] at whole placed
    refine ⟨_, record_ _ good, ?_, ?_, ?_, ?_, whole.others, State.shows_of_raised placed,
      State.context_of_raised placed, placed, whole.frame⟩ <;> rw [whole.self] <;> rfl
  · have run : exec ev s = .next (u.failedRead l) := by
      rcases either with rfl | ⟨rfl, bad⟩
      · exact (exec_whenAwaiting running rfl awaited).trans (by rw [hu])
      · refine (exec_whenAwaiting running rfl awaited).trans (congrArg Host.Outcome.next ?_)
        unfold State.takeRecord
        rw [bad, hu]
    obtain ⟨again, third⟩ := State.failedRead_to idle'
    rw [stopped.self] at again third
    refine ⟨fun few => ?_, fun many => ?_⟩
    · have whole := stopped.andThen (again few) (c := [.lanes])
      refine ⟨_, run, whole.self.trans ?_, whole.others, whole.frame⟩
      rw [Lane.reading, Lane.unverified, ← awaited]
    · obtain ⟨moved, raised⟩ := third many
      have whole := stopped.andThen moved (c := [.lanes, .queues, .faults])
      have placed := raised.trans (stopped.frame.raiseLane l _ _)
      rw [expected', show (s.lane l).pack = some p.number from (State.mountedPack_eq mounted).1]
        at placed
      refine ⟨_, run, ?_, ?_, ?_, ?_, whole.others, State.shows_of_raised placed, placed,
        whole.frame⟩ <;> rw [whole.self] <;> rfl

end Sys2Proof.Machine
end

section
/-! SUPPORT. The notices posted one after another (01 R11), priming (04 R74), and MOUNT_PACK (05 R100,
R101). -/

-- One proof at a time: the check's memory limit holds few threads.
set_option Elab.async false

namespace Sys2Proof.Machine

/-! ## Notices posted one after another -/

section
variable {s t u v : State} {l : LaneId} {f : State → State}

theorem State.postStock_congr (h : s.same t .queues) : s.postStock.same t.postStock .queues := fun q => by
  cases q with
  | office => rw [State.postStock, State.postStock, State.postOffice_queue, State.postOffice_queue, h]
  | window w => rw [State.postStock, State.postStock, State.postOffice_queue_window,
      State.postOffice_queue_window, h]

theorem State.postFaults_congr (h : s.same t .queues) : s.postFaults.same t.postFaults .queues := fun q => by
  cases q with
  | office => rw [State.postFaults, State.postFaults, State.postOffice_queue, State.postOffice_queue, h]
  | window w => rw [State.postFaults, State.postFaults, State.postOffice_queue_window,
      State.postOffice_queue_window, h]

/-- LANE_CHANGE posted after what `f` posts. -/
theorem State.queuesAfter_thenLane (first : s.queuesAfter t f)
    (last : t.queuesAfter u fun x => x.postLane l) : s.queuesAfter u fun x => (f x).postLane l :=
  fun q => by rw [last q, State.postLane_queue, State.postLane_queue, first q]

/-- A changed lane posts its LANE_CHANGE or nothing. -/
theorem State.moveLane_posts_or (s : State) (l : LaneId) (g : Lane → Lane) :
    (s.queuesAfter (s.moveLane l g) fun x => x.postLane l) ∨
      s.queuesAfter (s.moveLane l g) fun x => x := by
  cases seen : (s.lane l).visiblyChanged (g (s.lane l)) with
  | true => exact .inl (State.moveLane_posts_seen seen)
  | false => exact .inr (State.queuesAfter_of_frame (State.moveLane_unseen_frame seen))

theorem State.postReport_congr (h : s.same t .queues) (src : FaultSource) :
    (s.postReport src).same (t.postReport src) .queues := by
  cases src with
  | controller => exact State.postFaults_congr h
  | lane l =>
    intro q
    rw [State.postReport, State.postReport, State.postLane_queue, State.postLane_queue,
      State.postFaults_congr h q]

end

/-! ## A refusal counted (10 R186) -/

section
variable {s : State} {l : LaneId} {r : Report}

theorem State.countRefusal_none (none_ : (s.activeOf (.lane l)).all (·.primary.isSome) = true) :
    s.countRefusal l = s := by
  have found : ((s.activeReports l).find? fun r => r.primary.isNone) = none :=
    List.find?_eq_none.2 fun x hx => by
      simpa [Option.isSome_iff_ne_none] using List.all_eq_true.1 none_ x hx
  unfold State.countRefusal
  rw [found]

theorem State.countRefusal_one (mem : r ∈ s.activeOf (.lane l)) (primary : r.primary = none)
    (only : ∀ x ∈ s.activeOf (.lane l), x.primary = none → x = r) :
    (s.countRefusal l).faults = s.faults.map (fun x => if x.number = r.number then
        { x with refused := min (x.refused + 1) 255 } else x) ∧
      (s.queuesAfter (s.countRefusal l) fun x => x.postFaults.postLane l) ∧
      s.changesOnly (s.countRefusal l) [.faults, .queues] := by
  have found : ((s.activeReports l).find? fun r => r.primary.isNone) = some r := by
    cases first : (s.activeReports l).find? fun r => r.primary.isNone with
    | some x =>
      rw [only x (List.mem_of_find?_eq_some first) (by simpa using List.find?_some first)]
    | none => exact absurd primary (by simpa using List.find?_eq_none.1 first r mem)
  have step : s.countRefusal l = (s.mapReports fun q =>
      if q.number = r.number then { q with refused := held255 (q.refused + 1) }
      else q).postReport (.lane l) := by
    unfold State.countRefusal
    rw [found]
  refine ⟨?_, ?_, s.countRefusal_frame l⟩
  · rw [step, (State.postReport_faults _ _).1]
    rfl
  · rw [step]
    exact State.postReport_congr ((s.mapReports_frame _) .queues (by decide)) (.lane l)

end

/-! ## Priming (04 R74) -/

section
variable {s : State} {l : LaneId}

/-- The lane's record once the cabinet is sampled (04 R74). -/
def Lane.sampled (x : Lane) : Lane :=
  { x with cabinetSeen := if x.cabinetPin = .opened then .opened else x.cabinetSeen }

/-- An opening already observed, or none, is not observed again. -/
theorem State.sampleAtPriming_none (none_ : (s.lane l).cabinetPin = .locked ∨
    (s.lane l).cabinetSeen = .opened) : s.sampleAtPriming l = s := by
  refine if_neg ?_
  rintro ⟨opened, locked⟩
  rcases none_ with h | h
  · rw [h] at opened; cases opened
  · rw [h] at locked; cases locked

theorem Lane.sampled_none {x : Lane} (none_ : x.cabinetPin = .locked ∨ x.cabinetSeen = .opened) :
    x.sampled = x := by
  cases x
  rcases none_ with h | h <;> cases h <;> simp [Lane.sampled]

/-- A new opening found at the sample. -/
theorem State.sampleAtPriming_opened (opened : (s.lane l).cabinetPin = .opened)
    (locked : (s.lane l).cabinetSeen = .locked) :
    s.laneTo (s.sampleAtPriming l) l (s.lane l).sampled [.lanes, .queues, .faults] ∧
      (s.sampleAtPriming l).faults = (s.raiseLane l .cabinetOpen {}).faults ∧
      (s.sampleAtPriming l).isLocked l = s.isLocked l := by
  obtain ⟨u, hu⟩ : ∃ u, u = s.moveLane l fun x => { x with cabinetSeen := .opened } := ⟨_, rfl⟩
  have seen := s.seeOpening_to l
  rw [← hu] at seen
  have raised := u.raiseCabinet_to l
  rw [seen.self] at raised
  have step : s.sampleAtPriming l = u.raiseCabinet l := by
    rw [hu]
    exact if_pos ⟨opened, locked⟩
  have self : (s.lane l).sampled = { s.lane l with cabinetSeen := .opened } := by
    rw [Lane.sampled, if_pos opened]
  rw [step, self]
  exact ⟨seen.andThen raised, seen.frame.raiseLane l _ _,
    State.raiseCabinet_isLocked.trans (seen.frame.isLocked l)⟩

theorem State.sampleAtPriming_to (s : State) (l : LaneId) :
    s.laneTo (s.sampleAtPriming l) l (s.lane l).sampled [.lanes, .queues, .faults] ∧
      (s.sampleAtPriming l).isLocked l = s.isLocked l := by
  by_cases none_ : (s.lane l).cabinetPin = .locked ∨ (s.lane l).cabinetSeen = .opened
  · rw [State.sampleAtPriming_none none_, Lane.sampled_none none_]
    exact ⟨s.laneTo_refl l _, rfl⟩
  · have opened : (s.lane l).cabinetPin = .opened := by
      cases h : (s.lane l).cabinetPin <;> simp_all
    have locked : (s.lane l).cabinetSeen = .locked := by
      cases h : (s.lane l).cabinetSeen <;> simp_all
    obtain ⟨to_, -, lock⟩ := State.sampleAtPriming_opened opened locked
    exact ⟨to_, lock⟩

/-- The stock as the sample leaves it. -/
theorem State.sampleAtPriming_stockOut : (s.sampleAtPriming l).stockOut l = s.stockOut l := by
  obtain ⟨sampled, -⟩ := s.sampleAtPriming_to l
  have mounted := State.mountedPack_stays sampled rfl
  rw [State.stockOut_eq, State.stockOut_eq, State.remaining_congr mounted,
    State.expected_congr mounted (by rw [sampled.self]; rfl)]

/-- A lane that may not go on holds, for the causes found (04 R74). -/
theorem State.startPriming_holds (holds : (s.lane l).cabinetPin = .opened ∨ s.stockOut l = true) :
    s.startPriming l = (s.sampleAtPriming l).enterHolding l
      ⟨(s.lane l).cabinetPin == .opened, s.stockOut l⟩ := by
  unfold State.startPriming
  dsimp only
  rw [State.sampleAtPriming_stockOut, if_pos (by rcases holds with h | h <;> simp [h])]

/-- A lane that may go on, with a blank under its head, reads it (04 R74). -/
theorem State.startPriming_reads (locked : (s.lane l).cabinetPin = .locked)
    (stock : s.stockOut l = false) (head : (s.lane l).head ≠ .notPositioned) :
    s.startPriming l = s.moveLane l fun x =>
      Lane.reading { x with state := .priming, causes := .empty, failedReads := 0 } := by
  unfold State.startPriming
  dsimp only
  rw [State.sampleAtPriming_none (.inl locked), stock, locked, if_neg (by decide), if_neg head]

/-- A lane that may go on, with no blank under its head, feeds one (04 R74). -/
theorem State.startPriming_feeds (locked : (s.lane l).cabinetPin = .locked)
    (stock : s.stockOut l = false) (head : (s.lane l).head = .notPositioned) :
    s.startPriming l =
      (s.moveLane l fun x => { x with state := .feeding, causes := .empty }).feedAttempt l := by
  unfold State.startPriming
  dsimp only
  rw [State.sampleAtPriming_none (.inl locked), stock, locked, if_neg (by decide), if_pos head]

theorem State.startPriming_reads_to (locked : (s.lane l).cabinetPin = .locked)
    (stock : s.stockOut l = false) (head : (s.lane l).head ≠ .notPositioned) :
    s.laneTo (s.startPriming l) l
      (Lane.reading { s.lane l with state := .priming, causes := .empty, failedReads := 0 })
      [.lanes, .queues] ∧
    ((s.lane l).state ≠ .priming → s.queuesAfter (s.startPriming l) fun x => x.postLane l) := by
  rw [State.startPriming_reads locked stock head]
  refine ⟨s.moveLane_to l _, fun other => State.moveLane_posts_seen ?_⟩
  rw [Lane.visiblyChanged_iff]
  exact .inl (Ne.symm other)

/-- What a lane that holds at its priming is left with (04 R74). -/
theorem State.startPriming_holds_to (holds : (s.lane l).cabinetPin = .opened ∨ s.stockOut l = true)
    (t : State) (ht : t = s.startPriming l) :
    (s.isLocked l = false → s.laneTo t l
      ((s.lane l).sampled.heldFor ⟨(s.lane l).cabinetPin == .opened, s.stockOut l⟩)
      [.lanes, .queues, .faults]) ∧
    (s.isLocked l = true → s.laneTo t l (s.lane l).sampled.lockedIn [.lanes, .queues, .faults]) ∧
    ((s.lane l).cabinetPin = .opened → (s.lane l).cabinetSeen = .locked →
      t.faults = (s.raiseLane l .cabinetOpen {}).faults) ∧
    t.isLocked l = s.isLocked l ∧
    ((s.lane l).cabinetPin = .locked ∨ (s.lane l).cabinetSeen = .opened →
      s.changesOnly t [.lanes, .queues] ∧ (s.isLocked l = false → (s.lane l).state ≠ .holding →
        s.queuesAfter t fun x => x.postLane l)) := by
  have entered := ht.trans (State.startPriming_holds holds)
  obtain ⟨sampled, lock⟩ := s.sampleAtPriming_to l
  have frame := (s.sampleAtPriming l).enterHolding_frame l
    ⟨(s.lane l).cabinetPin == .opened, s.stockOut l⟩
  rw [← entered] at frame
  refine ⟨fun free => ?_, fun locked => ?_, fun opened seen => ?_, ?_, fun none_ => ?_⟩
  · have held := State.enterHolding_to (l := l) ⟨(s.lane l).cabinetPin == .opened, s.stockOut l⟩
      (lock.trans free)
    rw [sampled.self, ← entered] at held
    exact sampled.andThen held
  · have held := State.enterHolding_locked_to (l := l)
      ⟨(s.lane l).cabinetPin == .opened, s.stockOut l⟩ (lock.trans locked)
    rw [sampled.self, ← entered] at held
    exact sampled.andThen held
  · obtain ⟨-, faults, -⟩ := State.sampleAtPriming_opened opened seen
    exact (frame .faults (by decide)).1.trans faults
  · exact (frame.isLocked l).trans lock
  · rw [State.sampleAtPriming_none none_] at entered frame
    refine ⟨frame, fun free other => ?_⟩
    rw [entered]
    unfold State.enterHolding
    rw [free]
    refine State.moveLane_posts_seen ?_
    rw [Lane.visiblyChanged_iff]
    exact .inl (Ne.symm other)

end

/-! ## MOUNT_PACK (05 R100, R101) -/

theorem laneOf_eq_ofNat {n : Nat} (h : ¬(n < 1 ∨ 4 < n)) : laneOf n = some (Fin.ofNat 4 (n - 1)) := by
  rw [laneOf, dif_pos (by omega)]
  exact congrArg some (Fin.ext (Nat.mod_eq_of_lt (by omega)).symm)

theorem Census.blocks_iff (c : Census) (n : Nat) : c.blocks n = true ↔
    c.state = .running ∨ c.state = .suspending ∨ (c.state = .suspended ∧ c.pack = n) := by
  simp [Census.blocks, Census.blocksAll, or_assoc]

theorem Census.blocks_eq_false {c : Census} {n : Nat}
    (idle : c.state ∉ [CensusState.running, .suspending]) (other : c.state = .suspended → c.pack ≠ n) :
    c.blocks n = false := by
  rw [← Bool.not_eq_true, Census.blocks_iff]
  rintro (h | h | ⟨h, same⟩)
  · exact idle (by simp [h])
  · exact idle (by simp [h])
  · exact other h same

section
variable {s : State} {b : MountBody} {l : LaneId} {k : Pack}

/-- The code a MOUNT_PACK is refused with, by its checks in order (05 R100). -/
def State.mountCode (s : State) (b : MountBody) : Option ResultCode :=
  if b.lane < 1 ∨ 4 < b.lane then some ResultCode.badArgument
  else match s.findPack b.pack with
    | none => some .noPack
    | some k =>
      if k.state = .mounted then some .packMounted
      else if k.state = .withdrawn then some .packWithdrawn
      else if s.census.state = .running ∨ s.census.state = .suspending ∨
          (s.census.state = .suspended ∧ s.census.pack = b.pack) then some .censusBusy
      else match (s.lane (Fin.ofNat 4 (b.lane - 1))).state with
        | .offline => none
        | .faulted =>
          if (s.activeOf (.lane (Fin.ofNat 4 (b.lane - 1)))).all (·.primary.isSome) then
            some .laneLocked
          else none
        | _ => some .laneBusy

theorem State.mountPack_of_code {code : ResultCode} (h : s.mountCode b = some code) :
    s.mountPack b = (s, refusal code) := by
  unfold State.mountCode at h
  unfold State.mountPack
  by_cases range : b.lane < 1 ∨ 4 < b.lane
  · rw [if_pos range] at h
    cases h
    rw [laneOf_eq_none range]
  rw [if_neg range] at h
  rw [laneOf_eq_ofNat range]
  dsimp only
  cases found : s.findPack b.pack with
  | none =>
    rw [found] at h
    cases h
    rfl
  | some k =>
    rw [found] at h
    dsimp only at h ⊢
    unfold State.mountRefusal
    obtain ⟨-, number⟩ := State.mem_of_findPack found
    have busy_iff := s.census.blocks_iff k.number
    rw [number] at busy_iff ⊢
    by_cases mounted : k.state = .mounted
    · rw [if_pos mounted] at h ⊢
      cases h
      rfl
    by_cases withdrawn : k.state = .withdrawn
    · rw [if_neg mounted, if_pos withdrawn] at h ⊢
      cases h
      rfl
    by_cases busy : s.census.blocks b.pack = true
    · rw [if_neg mounted, if_neg withdrawn, if_pos (busy_iff.1 busy)] at h
      cases h
      rw [if_neg mounted, if_neg withdrawn, if_pos busy]
    rw [if_neg mounted, if_neg withdrawn, if_neg (mt busy_iff.2 busy)] at h
    rw [if_neg mounted, if_neg withdrawn, if_neg busy]
    dsimp only
    cases state : (s.lane (Fin.ofNat 4 (b.lane - 1))).state with
    | offline =>
      rw [state] at h
      cases h
    | faulted =>
      rw [state] at h
      dsimp only at h ⊢
      split_ifs at h with none_
      cases h
      rw [State.countRefusal_none none_]
    | _ =>
      rw [state] at h
      cases h
      rfl

variable (lane : b.lane = l.val + 1) (found : s.findPack b.pack = some k)
  (loose : k.state = .declared ∨ k.state = .parked)
  (idle : s.census.state ∉ [CensusState.running, .suspending])
  (other : s.census.state = .suspended → s.census.pack ≠ b.pack)

include lane found loose idle other

/-- A mount that no check but the lane's refuses. -/
theorem State.mountPack_eq : s.mountPack b =
    match (s.lane l).state with
    | .faulted => (s.countRefusal l, refusal .laneLocked)
    | .offline => (s.bindPack k l, accepted (.packMounted k.first k.givenUnused))
    | _ => (s, refusal .laneBusy) := by
  have number := (State.mem_of_findPack found).2
  have passed : s.mountRefusal k = none := by
    unfold State.mountRefusal
    rw [number, Census.blocks_eq_false idle other]
    rcases loose with h | h <;> simp [h]
  unfold State.mountPack
  rw [lane, laneOf_val_add_one, found]
  dsimp only
  rw [passed] <;> rfl

end

section
variable {s : State} {l : LaneId} {k : Pack}

/-- The pack bound, and the lane's record before its priming (05 R101, 04 R73). -/
theorem State.bound_to (found : s.findPack k.number = some k) (u : State)
    (hu : u = (s.updatePack k.number fun q => { q with state := .mounted, lane := some l }).moveLane l
      fun x => x.mount k.number k.first) :
    s.laneTo u l ((s.lane l).mount k.number k.first) [.packs, .queues, .lanes] ∧
      u.findPack k.number = some { k with state := .mounted, lane := some l } ∧
      s.otherPacks u k.number ∧
      ((s.queuesAfter u fun x => x.postStock.postLane l) ∨ s.queuesAfter u State.postStock) := by
  obtain ⟨v, hv⟩ : ∃ v, v = s.updatePack k.number fun q =>
      { q with state := PackState.mounted, lane := some l } := ⟨_, rfl⟩
  have packs : ∀ m, v.findPack m = (s.findPack m).map fun q => if q.number = k.number then
      { q with state := .mounted, lane := some l } else q :=
    fun m => by
      rw [hv]
      exact State.findPack_updatePack s
        (f := fun q => { q with state := PackState.mounted, lane := some l }) (fun _ => rfl) m
  have placed : s.laneTo v l (s.lane l) [.packs, .queues] :=
    hv ▸ State.laneTo_of_frame (s.updatePack_frame _ _)
  have posted : s.queuesAfter v State.postStock := hv ▸ s.updatePack_posts _ _
  rw [← hv] at hu
  have moved : v.laneTo u l ((v.lane l).mount k.number k.first) [.lanes, .queues] :=
    hu ▸ v.moveLane_to l _
  rw [placed.self] at moved
  have kept : ∀ m, u.findPack m = v.findPack m := State.findPack_congr (moved.frame .packs (by decide))
  refine ⟨placed.andThen moved, ?_, fun m ne => ?_, ?_⟩
  · rw [kept, packs, found, Option.map_some, if_pos rfl]
  · rw [kept, packs]
    cases held : s.findPack m with
    | none => rfl
    | some q => rw [Option.map_some, if_neg ((State.mem_of_findPack held).2 ▸ ne)]
  · rcases v.moveLane_posts_or l fun x => x.mount k.number k.first with h | h
    · exact .inl (hu ▸ State.queuesAfter_thenLane posted h)
    · exact .inr (hu ▸ fun q => (h q).trans (posted q))

/-- The lane's change of state after the binding posts its one LANE_CHANGE. -/
theorem State.queuesAfter_stockLane {u t : State}
    (first : (s.queuesAfter u fun x => x.postStock.postLane l) ∨ s.queuesAfter u State.postStock)
    (last : u.queuesAfter t fun x => x.postLane l) :
    s.queuesAfter t fun x => x.postStock.postLane l := by
  rcases first with first | first
  · exact fun q => by
      rw [last q, State.postLane_queue, first q, State.postLane_queue, coalesce_coalesce]
  · exact State.queuesAfter_thenLane first last

end

/-- Settles O44: the refusals by `State.mountPack_of_code`, the counted one by
`State.countRefusal_one`, and the binding by `State.bound_to` with the priming that follows. -/
theorem mountPackBindsThePack : Obligations.MountPackBindsThePack := by
  unfold Obligations.MountPackBindsThePack
  intro s p tag b admits
  refine ⟨fun code h => ?_, fun l k r lane found loose idle other faulted mem primary only => ?_,
    fun l k lane found loose idle other offline => ?_⟩
  · exact exec_unmoved (exec_plain (.mountPack p tag (some b)) admits
      (congrArg some (State.mountPack_of_code (s := s) (b := b) (code := code) h)))
  · have block := State.mountPack_eq lane found loose idle other
    rw [faulted] at block
    have run := exec_plain (.mountPack p tag (some b)) admits (congrArg some block)
    obtain ⟨faults, posts, frame⟩ := State.countRefusal_one mem primary only
    obtain ⟨answered, moved⟩ := State.answered_moved (p := p) (k := .mountPack) (tag := tag)
      (all := [.receivers, .faults, .queues]) frame (refusal .laneLocked)
    refine ⟨_, run, answered, ?_, State.queuesAfter_answerWith p _ _ _ posts, moved⟩
    exact ((State.answerWith_frame _ p _ _ _) .faults (by decide)).1.trans faults
  · have block := State.mountPack_eq lane found loose idle other
    rw [offline] at block
    have run := exec_plain (.mountPack p tag (some b)) admits (congrArg some block)
    obtain ⟨-, number⟩ := State.mem_of_findPack found
    rw [← number] at found
    obtain ⟨u, hu⟩ : ∃ u, u = (s.updatePack k.number fun q =>
      { q with state := .mounted, lane := some l }).moveLane l fun x => x.mount k.number k.first :=
      ⟨_, rfl⟩
    obtain ⟨bound, now, others, posts⟩ := State.bound_to found u hu
    obtain ⟨v, hv⟩ : ∃ v, v = u.startPriming l := ⟨_, rfl⟩
    have binds : s.bindPack k l = v := by rw [hv, hu]; rfl
    rw [binds] at run
    have mounted : u.mounted l = some { k with state := .mounted, lane := some l } :=
      State.mounted_eq_some_iff.2 ⟨k.number, by rw [bound.self]; rfl, now⟩
    have expected : u.expected l = k.lowestUnused k.first :=
      (State.expected_of_mounted mounted).trans (by rw [bound.self]; rfl)
    have remaining : u.remaining l = k.counters.unused :=
      (State.remaining_of_mounted mounted).trans rfl
    have stock : u.stockOut l = (k.counters.unused == 0 || (k.lowestUnused k.first).isNone) := by
      rw [State.stockOut_eq, remaining, expected]
    have pin : (u.lane l).cabinetPin = (s.lane l).cabinetPin := by rw [bound.self]; rfl
    have seen : (u.lane l).cabinetSeen = (s.lane l).cabinetSeen := by rw [bound.self]; rfl
    have state : (u.lane l).state = .offline := by rw [bound.self]; exact offline
    have lock : u.isLocked l = s.isLocked l := bound.frame.isLocked l
    have position : (u.lane l).head ≠ .notPositioned := by rw [bound.self]; nofun
    -- the parts of the state the answer leaves as they are
    obtain ⟨a, ha⟩ : ∃ a, a = v.answerWith p RequestKind.mountPack.byte tag
      (accepted (.packMounted k.first k.givenUnused)) := ⟨_, rfl⟩
    have answers : v.changesOnly a [.receivers] := ha ▸ v.answerWith_frame p _ _ _
    rw [← ha] at run
    have primes : u.changesOnly v [.lanes, .queues, .faults] ∧ u.otherLanes v l ∧
        (v.lane l).pack = some k.number ∧ (v.lane l).position = k.first ∧
        (v.lane l).advances = 0 ∧ (v.lane l).holdAfter = false := by
      by_cases holds : (u.lane l).cabinetPin = .opened ∨ u.stockOut l = true
      · obtain ⟨free_, locked_, -⟩ := State.startPriming_holds_to holds v hv
        cases locks : u.isLocked l with
        | false =>
          have to_ := free_ locks
          refine ⟨to_.frame, to_.others, ?_, ?_, ?_, ?_⟩ <;>
            rw [to_.self, bound.self] <;> rfl
        | true =>
          have to_ := locked_ locks
          refine ⟨to_.frame, to_.others, ?_, ?_, ?_, ?_⟩ <;>
            rw [to_.self, bound.self] <;> rfl
      · rw [not_or, Bool.not_eq_true] at holds
        have locked : (u.lane l).cabinetPin = .locked := by
          cases h : (u.lane l).cabinetPin <;> simp_all
        obtain ⟨to_, -⟩ := State.startPriming_reads_to locked holds.2 position
        rw [← hv] at to_
        refine ⟨State.changesOnly_mono to_.frame, to_.others, ?_, ?_, ?_, ?_⟩ <;> rw [to_.self, bound.self] <;> rfl
    obtain ⟨frame, lanes, pack, place, advances, flag⟩ := primes
    have whole := State.changesOnly_then bound.frame frame (c := [.queues, .packs, .lanes, .faults])
    obtain ⟨answered, moved⟩ := State.answered_moved (p := p) (k := .mountPack) (tag := tag)
      (all := [.receivers, .queues, .packs, .lanes, .faults]) whole
      (accepted (.packMounted k.first k.givenUnused))
    rw [← ha] at answered moved
    have packs : ∀ m, a.findPack m = u.findPack m := fun m =>
      (answers.findPack m).trans (frame.findPack m)
    have lanes_ : ∀ m, a.lane m = v.lane m := fun m => answers.lane m
    rw [← number]
    refine ⟨a, run, Pack.givenUnused_eq k ▸ answered, (packs _).trans now, fun m ne => (packs m).trans
      (others m ne), fun m ne => (lanes_ m).trans ((lanes m ne).trans (bound.others m ne)),
      by rw [lanes_, pack], by rw [lanes_, place], by rw [lanes_, advances], by rw [lanes_, flag],
      fun locked some_ next => ?_, fun holds free => ?_, moved⟩
    · obtain ⟨e, next⟩ := next
      have none_ : u.stockOut l = false := by rw [stock, next]; simpa using some_
      obtain ⟨to_, last⟩ := State.startPriming_reads_to (pin.trans locked) none_ position
      rw [← hv] at to_ last
      have both := bound.andThen to_ (c := [.queues, .packs, .lanes])
      refine ⟨?_, fun q => ?_, State.changesOnly_then both.frame answers⟩
      · rw [lanes_, to_.self, bound.self]
        rfl
      · exact (answers .queues (by decide) q).trans
          (State.queuesAfter_stockLane posts (last (by rw [state]; nofun)) q)
    · have holds' : (u.lane l).cabinetPin = .opened ∨ u.stockOut l = true := by
        rw [pin, stock]
        rcases holds with h | h | h <;> simp [h]
      obtain ⟨to_, -, raised, lock', quiet⟩ := State.startPriming_holds_to holds' v hv
      rw [lock] at to_ quiet
      refine ⟨?_, fun opened locked => ?_, fun none_ => ?_⟩
      · rw [lanes_, (to_ free).self, stock, bound.self]
        rfl
      · have faults : a.faults = (s.raiseLane l .cabinetOpen {}).faults :=
          (answers .faults (by decide)).1.trans ((raised (pin.trans opened) (seen.trans locked)).trans
            (bound.frame.raiseLane l _ _))
        exact ⟨faults, State.cabinet_of_unlocked ((answers.isLocked l).trans
          (lock'.trans (lock.trans free))) faults⟩
      · obtain ⟨frame', last⟩ := quiet (by rwa [pin, seen])
        have both := State.changesOnly_then bound.frame frame' (c := [.queues, .packs, .lanes])
        refine ⟨fun q => ?_, State.changesOnly_then both answers⟩
        exact (answers .queues (by decide) q).trans
          (State.queuesAfter_stockLane posts (last free (by rw [state]; nofun)) q)

end Sys2Proof.Machine
end

section
/-! SUPPORT. The lanes told of a job while another lane's operation runs (03 R54), a ticket settled (10
R180), and the cabinet's relock (04 R87; 10 R181). -/

-- One proof at a time: the check's memory limit holds few threads.
set_option Elab.async false

namespace Sys2Proof.Machine

/-! ## Claims sent on the way -/

/-- A lane's record but for its claim request. -/
def Lane.unclaimed (x : Lane) : Lane := { x with claimSent := false }

theorem Lane.claiming_unclaimed (x : Lane) (p : Bool) : (x.claiming p).unclaimed = x.unclaimed := by
  rcases Lane.claiming_cases x p with e | e <;> rw [e] <;> rfl

theorem Lane.claiming_claiming (x : Lane) (p : Bool) : (x.claiming p).claiming p = x.claiming p := by
  by_cases may : x.mayClaim p = true
  · have claims : x.claiming p = { x with claimSent := true } := if_pos may
    rw [claims]
    exact if_pos may
  · have stands : x.claiming p = x := if_neg may
    rw [stands, stands]

/-- Every lane stands, or has sent a claim request. -/
def State.lanesClaimed (s t : State) : Prop :=
  ∀ m, t.lane m = s.lane m ∨ t.lane m = (s.lane m).claiming s.powerFail

section
variable {s t u : State} {l : LaneId} {x y : Lane} {a : List Part}

theorem State.lanesTold.claimed {told : Bool} (h : s.lanesTold t told) : s.lanesClaimed t := h.cases

theorem State.lanesClaimed_refl (s : State) : s.lanesClaimed s := fun _ => .inl rfl

theorem State.changesOnly.claimed (h : s.changesOnly t a) (out : .lanes ∉ a := by decide) :
    s.lanesClaimed t := fun m => .inl (h.lane m out)

theorem State.lanesClaimed.andThen (h : s.lanesClaimed t) (warning : t.powerFail = s.powerFail)
    (h' : t.lanesClaimed u) : s.lanesClaimed u := fun m => by
  rcases h m with e | e <;> rcases h' m with e' | e'
  · exact .inl (e'.trans e)
  · exact .inr (by rw [e', e, warning])
  · exact .inr (e'.trans e)
  · exact .inr (by rw [e', e, warning, Lane.claiming_claiming])

theorem State.lanesClaimed.unclaimed (h : s.lanesClaimed t) (m : LaneId) :
    (t.lane m).unclaimed = (s.lane m).unclaimed := by
  rcases h m with e | e
  · rw [e]
  · rw [e, Lane.claiming_unclaimed]

/-- Lane `l` becomes `x` but for its claim request; another may have sent one; of the other parts those
of `a` alone may change. -/
structure State.toldTo (s t : State) (l : LaneId) (x : Lane) (a : List Part) : Prop where
  self : (t.lane l).unclaimed = x.unclaimed
  others : s.otherLanesTold t l
  frame : s.changesOnly t a

theorem State.laneTo.told (h : s.laneTo t l x a) : s.toldTo t l x a :=
  ⟨congrArg Lane.unclaimed h.self, fun m other => .inl (h.others m other), h.frame⟩

theorem State.lanesClaimed.told (h : s.lanesClaimed t) (frame : s.changesOnly t a) :
    s.toldTo t l (s.lane l) a := ⟨h.unclaimed l, fun m _ => h m, frame⟩

variable {b c : List Part}

theorem State.toldTo.andThen (h : s.toldTo t l x a) (h' : t.toldTo u l y b)
    (sub : a ++ b ⊆ c := by decide) (warning : .powerFail ∉ a := by decide) : s.toldTo u l y c := by
  refine ⟨h'.self, fun m other => ?_, State.changesOnly_then h.frame h'.frame sub⟩
  have same : t.powerFail = s.powerFail := h.frame .powerFail warning
  rcases h.others m other with e | e <;> rcases h'.others m other with e' | e'
  · exact .inl (e'.trans e)
  · exact .inr (by rw [e', e, same])
  · exact .inr (e'.trans e)
  · exact .inr (by rw [e', e, same, Lane.claiming_claiming])

/-- The lane's own record changed by `f`, which does not read its claim. -/
theorem State.toldTo.map {f : Lane → Lane} (h : s.toldTo t l x a) (h' : t.toldTo u l (f (t.lane l)) b)
    (blind : ∀ y, (f y).unclaimed = (f y.unclaimed).unclaimed) (sub : a ++ b ⊆ c := by decide)
    (warning : .powerFail ∉ a := by decide) : s.toldTo u l (f x) c := by
  have whole := h.andThen h' sub warning
  refine ⟨whole.self.trans ?_, whole.others, whole.frame⟩
  rw [blind, h.self, ← blind]

/-- A field of the lane's record but its claim. -/
theorem State.toldTo.field {α : Type} (f : Lane → α) (h : s.toldTo t l x a)
    (blind : ∀ y : Lane, f y.unclaimed = f y := by intro _; rfl) : f (t.lane l) = f x := by
  rw [← blind, h.self, blind]

theorem State.toldTo.mono (h : s.toldTo t l x a) (sub : a ⊆ c := by decide) : s.toldTo t l x c :=
  ⟨h.self, h.others, State.changesOnly_mono h.frame sub⟩

end

/-! ## A job's end or return (03 R57 to R61) -/

section
variable (s : State) (w : Window) (k : SlotId)

theorem State.endJob_claimed (st : JobState) (o : SlotOutcome) : s.lanesClaimed (s.endJob w k st o) := by
  cases held : s.job w k with
  | none =>
    have step : s.endJob w k st o = s := by
      unfold State.endJob
      rw [held]
    rw [step]
    exact s.lanesClaimed_refl
  | some j =>
    obtain ⟨-, -, -, -, -, -, -, -, -, told, tells⟩ := State.endJob_leaves held st o _ rfl
    exact tells.claimed

theorem State.reportJob_claimed : s.lanesClaimed (s.reportJob w k) := by
  cases held : s.job w k with
  | none =>
    have step : s.reportJob w k = s := by
      unfold State.reportJob
      rw [held]
    rw [step]
    exact s.lanesClaimed_refl
  | some j => exact (s.reportJob_told w k held).claimed

theorem State.handBack_claimed : s.lanesClaimed (s.handBack w k) :=
  (s.mapJob_frame w k _).claimed.andThen ((s.mapJob_frame w k _) .powerFail (by decide))
    (State.reportJob_claimed _ w k)

theorem State.spoilJob_claimed (reason : OutcomeReason) (cls serial : Nat) :
    s.lanesClaimed (s.spoilJob w k reason cls serial) := by
  unfold State.spoilJob
  split
  · exact s.lanesClaimed_refl
  · rename_i j held
    obtain ⟨u, hu⟩ : ∃ u, u = s.mapJob w k fun i => { i with attempts := j.attempts + 1 } := ⟨_, rfl⟩
    have counted : s.changesOnly u [.slots] := hu ▸ s.mapJob_frame w k _
    dsimp only
    rw [← hu]
    split
    · exact counted.claimed.andThen (counted .powerFail (by decide)) (u.endJob_claimed w k _ _)
    · obtain ⟨v, hv⟩ : ∃ v, v = (u.mapJob w k fun i =>
          { i with state := afterSpoil reason (j.attempts + 1), lane := none }).postOutcome w k
            ⟨.spoiled, reason, j.attempts + 1, cls, serial, 0⟩ := ⟨_, rfl⟩
      have posted : u.changesOnly v [.slots, .queues] := by
        rw [hv]
        exact State.changesOnly_then (u.mapJob_frame w k _) (State.postOutcome_frame _ w k _)
      have whole := State.changesOnly_then (c := [.slots, .queues]) counted posted
      rw [← hv]
      exact whole.claimed.andThen (whole .powerFail (by decide)) (v.reportJob_claimed w k)

end

/-! ## A ticket settled (10 R180) -/

/-- A lane's record once its ticket is settled: let go, and the blank gone with a spoiled one. -/
def Lane.settled (x : Lane) : Lane :=
  match x.inflight with
  | none => x
  | some r => x.endTicket (if r.begun then .notPositioned else x.head)

section
variable (s : State) (l : LaneId)

theorem State.spoilTicket_told (r : InFlight) (reason : OutcomeReason) :
    s.toldTo (s.spoilTicket l r reason) l ((s.lane l).endTicket .notPositioned)
      [.lanes, .queues, .packs, .census, .slots, .sessions, .journal, .forms] := by
  obtain ⟨u, hu⟩ : ∃ u, u = (s.changeMark (s.mountedClass l) r.serial .spoiled).writeJobEntry r.window
    r.slot (r.spoilEntry (s.mountedClass l) ((s.lane l).pack.getD 0)) := ⟨_, rfl⟩
  have written : s.changesOnly u [.queues, .packs, .census, .slots, .sessions, .journal] :=
    hu ▸ State.changesOnly_then (s.changeMark_frame _ _ _) (State.writeJobEntry_frame _ _ _ _)
  obtain ⟨v, hv⟩ : ∃ v, v = u.spoilJob r.window r.slot reason (s.mountedClass l) r.serial := ⟨_, rfl⟩
  have job : u.changesOnly v [.queues, .slots, .sessions, .journal, .forms, .lanes] :=
    hv ▸ State.changesOnly_mono (State.spoilJob_frame u _ _ _ _ _)
  have told : u.lanesClaimed v := hv ▸ u.spoilJob_claimed _ _ _ _ _
  have step : s.spoilTicket l r reason = v.moveLane l fun x => x.endTicket .notPositioned := by
    rw [hv, hu]
    rfl
  rw [step]
  have before := written.claimed.andThen (written .powerFail (by decide)) told
  have frame := State.changesOnly_then (c := [.lanes, .queues, .packs, .census, .slots, .sessions,
    .journal, .forms]) written job
  exact State.toldTo.map (f := fun x => x.endTicket .notPositioned) (before.told frame)
    (v.moveLane_to l _).told fun _ => rfl

theorem State.settle_of_begun {r : InFlight} (held : (s.lane l).inflight = some r)
    (begun : r.begun = true) : s.settle l = s.spoilTicket l r .mechanical := by
  unfold State.settle
  rw [held]
  exact if_pos begun

theorem State.settle_of_handed {r : InFlight} (held : (s.lane l).inflight = some r)
    (handed : r.begun = false) :
    s.settle l = (s.handBack r.window r.slot).moveLane l fun x => x.endTicket x.head := by
  unfold State.settle
  rw [held]
  exact if_neg (by rw [handed]; decide)

theorem Lane.settled_of_some {x : Lane} {r : InFlight} (held : x.inflight = some r) :
    x.settled = x.endTicket (if r.begun then .notPositioned else x.head) := by
  unfold Lane.settled
  rw [held]

theorem State.settle_told : s.toldTo (s.settle l) l (s.lane l).settled
    [.lanes, .queues, .packs, .census, .slots, .sessions, .journal, .forms] := by
  cases held : (s.lane l).inflight with
  | none =>
    have kept : (s.lane l).settled = s.lane l := by
      unfold Lane.settled
      rw [held]
    rw [State.settle_of_none held, kept]
    exact (s.laneTo_refl l _).told
  | some r =>
    rw [Lane.settled_of_some held]
    cases begun : r.begun with
    | true =>
      rw [s.settle_of_begun l held begun]
      exact s.spoilTicket_told l r .mechanical
    | false =>
      rw [s.settle_of_handed l held begun]
      exact State.toldTo.map (f := fun x => x.endTicket x.head) (a := [.slots, .lanes])
        (b := [.lanes, .queues])
        ((s.handBack_claimed r.window r.slot).told (s.handBack_frame r.window r.slot))
        (State.moveLane_to _ l fun x => x.endTicket x.head).told fun _ => rfl

/-- A fault leaves its lane FAULTED, with its ticket settled (10 R180). -/
theorem State.laneFault_told (k : FaultKind) (c : FaultContext) :
    s.toldTo (s.laneFault l k c) l (s.lane l).stopped.settled.lockedIn
      [.lanes, .queues, .packs, .census, .slots, .sessions, .journal, .forms, .faults] := by
  obtain ⟨u, hu⟩ : ∃ u, u = s.moveLane l Lane.stopped := ⟨_, rfl⟩
  have stopped : s.laneTo u l (s.lane l).stopped [.lanes, .queues] := hu ▸ s.moveLane_to l Lane.stopped
  have settled := u.settle_told l
  rw [stopped.self] at settled
  obtain ⟨v, hv⟩ : ∃ v, v = (u.settle l).raiseLane l k c := ⟨_, rfl⟩
  have raised : (u.settle l).laneTo v l ((u.settle l).lane l) [.faults, .queues] :=
    hv ▸ State.laneTo_of_frame (State.changesOnly_mono ((u.settle l).raiseLane_frame l k c))
  have step : s.laneFault l k c = v.moveLane l Lane.lockedIn := by
    rw [hv, hu]
    rfl
  have first := State.toldTo.map (f := id) (stopped.told.andThen settled (c := [.lanes, .queues, .packs,
    .census, .slots, .sessions, .journal, .forms])) raised.told (fun _ => rfl)
    (c := [.lanes, .queues, .packs, .census, .slots, .sessions, .journal, .forms, .faults])
  rw [step]
  exact first.map (v.moveLane_to l Lane.lockedIn).told fun _ => rfl

theorem State.laneFault_faults (k : FaultKind) (c : FaultContext) :
    (s.laneFault l k c).faults = (s.raiseLane l k c).faults := by
  obtain ⟨u, hu⟩ : ∃ u, u = (s.moveLane l Lane.stopped).settle l := ⟨_, rfl⟩
  have before : s.changesOnly u [.lanes, .queues, .packs, .census, .slots, .sessions, .journal,
      .forms] := hu ▸ State.changesOnly_then (s.moveLane_frame l _) (State.settle_frame _ l)
  have step : s.laneFault l k c = (u.raiseLane l k c).moveLane l Lane.lockedIn := by
    rw [hu]
    rfl
  rw [step]
  exact ((State.moveLane_frame _ l _) .faults (by decide)).1.trans (before.raiseLane l k c)

end

/-! ## A lane's inputs -/

/-- The lane's cabinet inputs stand. -/
def State.pinsStand (s t : State) (l : LaneId) : Prop :=
  (t.lane l).cabinetPin = (s.lane l).cabinetPin ∧ (t.lane l).cabinetSeen = (s.lane l).cabinetSeen

section
variable {s t u : State} {l : LaneId} {x : Lane} {a : List Part}

theorem State.toldTo.pins (h : s.toldTo t l x a) (pin : x.cabinetPin = (s.lane l).cabinetPin)
    (seen : x.cabinetSeen = (s.lane l).cabinetSeen) : s.pinsStand t l :=
  ⟨(congrArg Lane.cabinetPin h.self).trans pin, (congrArg Lane.cabinetSeen h.self).trans seen⟩

theorem State.pinsStand.andThen (h : s.pinsStand t l) (h' : t.pinsStand u l) : s.pinsStand u l :=
  ⟨h'.1.trans h.1, h'.2.trans h.2⟩

theorem Lane.settled_pins (x : Lane) :
    x.settled.cabinetPin = x.cabinetPin ∧ x.settled.cabinetSeen = x.cabinetSeen := by
  unfold Lane.settled
  split <;> exact ⟨rfl, rfl⟩

theorem State.advanceHead_pins : s.pinsStand (s.advanceHead l) l := by
  unfold State.advanceHead
  split
  · split
    · have marked := State.changeMark_frame s (s.mountedClass l)
      exact ((State.laneTo_of_frame (marked _ _)).told.pins rfl rfl).andThen
        ((State.moveLane_to _ l _).told.pins rfl rfl)
    · exact ⟨rfl, rfl⟩
  · exact ⟨rfl, rfl⟩

theorem State.issueFeed_pins : s.pinsStand (s.issueFeed l) l := by
  unfold State.issueFeed
  split
  · exact (s.laneFault_told l _ _).pins (Lane.settled_pins _).1 (Lane.settled_pins _).2
  · exact (s.moveLane_to l _).told.pins rfl rfl

theorem State.feedAttempt_pins : s.pinsStand (s.feedAttempt l) l := by
  rw [State.feedAttempt_eq]
  refine State.advanceHead_pins.andThen ?_
  split
  · refine (State.moveLane_to _ l _).told.pins ?_ ?_ <;> split <;> rfl
  · split
    · exact (State.moveLane_to _ l _).told.pins rfl rfl
    · exact State.issueFeed_pins

theorem State.startPriming_pins (locked : (s.lane l).cabinetPin = .locked) :
    s.pinsStand (s.startPriming l) l := by
  by_cases holds : (s.lane l).cabinetPin = .opened ∨ s.stockOut l = true
  · rw [State.startPriming_holds holds, State.sampleAtPriming_none (.inl locked)]
    refine (State.moveLane_to _ l _).told.pins ?_ ?_ <;> split <;> rfl
  · rw [not_or, Bool.not_eq_true] at holds
    by_cases head : (s.lane l).head = .notPositioned
    · rw [State.startPriming_feeds locked holds.2 head]
      exact ((State.moveLane_to _ l _).told.pins rfl rfl).andThen State.feedAttempt_pins
    · rw [State.startPriming_reads locked holds.2 head]
      exact (State.moveLane_to _ l _).told.pins rfl rfl

/-! ## No CABINET_OPEN report of a lane -/

/-- The lane has no ACTIVE CABINET_OPEN report. -/
def State.noCabinet (s : State) (l : LaneId) : Prop := ∀ r ∈ s.activeOf (.lane l), r.kind ≠ .cabinetOpen

theorem State.noCabinet_of_faults (same : t.faults = s.faults) (h : s.noCabinet l) : t.noCabinet l := by
  unfold State.noCabinet State.activeOf
  rw [same]
  exact h

theorem faultPlaced_kinds (list : List Report) (counter : Nat) (at_ : Stamp) (l : LaneId)
    (k : FaultKind) (c : FaultContext) : ∀ r ∈ activeIn (faultPlaced list counter at_ l k c).1 (.lane l),
      r.kind = k ∨ ∃ q ∈ activeIn list (.lane l), r.kind = q.kind := by
  have mapped : ∀ n o, ∀ r ∈ activeIn (list.map (occurred n o)) (.lane l),
      r.kind = k ∨ ∃ q ∈ activeIn list (.lane l), r.kind = q.kind := fun n o r hr => by
    rw [activeIn_map_occurred] at hr
    obtain ⟨q, hq, rfl⟩ := List.mem_map.1 hr
    exact .inr ⟨q, hq, (occurred_keeps n o q).2.2.2⟩
  have added : ∀ primary, ∀ r ∈ activeIn (reportAdded list counter at_ l k primary c).1 (.lane l),
      r.kind = k ∨ ∃ q ∈ activeIn list (.lane l), r.kind = q.kind := fun primary r hr => by
    obtain ⟨n, active⟩ := activeIn_reportAdded list counter at_ l k c primary
    rw [active] at hr
    rcases List.mem_append.1 hr with old | new
    · exact .inr ⟨r, old, rfl⟩
    · rw [List.mem_singleton.1 new]
      exact .inl rfl
  unfold faultPlaced
  split
  · exact mapped _ _
  · split
    · exact added _
    · exact added _
    · exact mapped _ _

theorem State.laneFault_noCabinet {k : FaultKind} (other : k ≠ .cabinetOpen) (c : FaultContext)
    (h : s.noCabinet l) : (s.laneFault l k c).noCabinet l := by
  intro r hr
  have list : (s.laneFault l k c).activeOf (.lane l) =
      activeIn (s.laneFault l k c).faults (.lane l) := rfl
  rw [list, State.laneFault_faults, State.raiseLane_faults] at hr
  rcases faultPlaced_kinds _ _ _ _ _ _ r hr with e | ⟨q, hq, e⟩
  · exact e ▸ other
  · exact e ▸ h q hq

theorem State.feedAttempt_noCabinet (h : s.noCabinet l) : (s.feedAttempt l).noCabinet l := by
  rw [State.feedAttempt_eq]
  have first : (s.advanceHead l).noCabinet l :=
    State.noCabinet_of_faults ((s.advanceHead_frame l) .faults (by decide)).1 h
  split
  · exact State.noCabinet_of_faults ((State.stockOutEnd_frame _ l) .faults (by decide)).1 first
  · split
    · exact State.noCabinet_of_faults ((State.moveLane_frame _ l _) .faults (by decide)).1 first
    · unfold State.issueFeed
      split
      · exact State.laneFault_noCabinet (by decide) _ first
      · exact State.noCabinet_of_faults ((State.moveLane_frame _ l _) .faults (by decide)).1 first

theorem State.startPriming_noCabinet (locked : (s.lane l).cabinetPin = .locked) (h : s.noCabinet l) :
    (s.startPriming l).noCabinet l := by
  by_cases holds : (s.lane l).cabinetPin = .opened ∨ s.stockOut l = true
  · rw [State.startPriming_holds holds, State.sampleAtPriming_none (.inl locked)]
    exact State.noCabinet_of_faults ((State.moveLane_frame _ l _) .faults (by decide)).1 h
  · rw [not_or, Bool.not_eq_true] at holds
    have moved : ∀ f, (s.moveLane l f).noCabinet l := fun f =>
      State.noCabinet_of_faults ((s.moveLane_frame l f) .faults (by decide)).1 h
    by_cases head : (s.lane l).head = .notPositioned
    · rw [State.startPriming_feeds locked holds.2 head]
      exact State.feedAttempt_noCabinet (moved _)
    · rw [State.startPriming_reads locked holds.2 head]
      exact moved _

end

end Sys2Proof.Machine
end

section
/-! SUPPORT. The reports a relock takes (10 R181), and the cabinet's two events (04 R85 to R87). -/

-- One proof at a time: the check's memory limit holds few threads.
set_option Elab.async false

namespace Sys2Proof.Machine

section
variable (s : State) (l : LaneId)

/-! ## The reports a relock takes (10 R181) -/

/-- The fault list after a relock (10 R181). -/
def State.relocked : List Report :=
  s.faults.map fun r =>
    if r.state = .active ∧ r.source = .lane l ∧
        ∃ x ∈ s.activeOf (.lane l), x.kind = .cabinetOpen then
      if r.kind = .cabinetOpen ∧ r.lastOther = none then
        { r with
          state := .cleared
          how := some .self
          cleared := some s.stamp
          primary := none }
      else { r with
        kind := if r.kind = .cabinetOpen then r.lastOther.getD r.kind else r.kind
        lastOther := if r.kind = .cabinetOpen then none else r.lastOther
        primary :=
          if ∃ x ∈ s.activeOf (.lane l), x.primary = none ∧
            (x.kind = .cabinetOpen → x.lastOther ≠ none) then r.primary else none }
    else r

variable {s l}

theorem Report.isActive_iff {r : Report} : r.isActive = true ↔ r.state = .active := by
  simp [Report.isActive]

/-- Another lane's report, or one that is not ACTIVE, is left by a relock. -/
theorem Report.relock_of_not {r : Report} {at_ : Stamp} (other : ¬(r.state = .active ∧ r.source = .lane l)) :
    r.relock l at_ = r := by
  rcases r.relock_cases l at_ with ⟨e, -⟩ | ⟨active, source, -⟩
  · exact e
  · exact absurd ⟨Report.isActive_iff.1 active, source⟩ other

/-- An ACTIVE report of the lane after a relock. -/
theorem Report.relock_own {r : Report} {at_ : Stamp} (active : r.state = .active)
    (source : r.source = .lane l) : r.relock l at_ =
      if r.kind = .cabinetOpen ∧ r.lastOther = none then
        { r with state := .cleared, how := some .self, cleared := some at_, primary := none }
      else { r with
        kind := if r.kind = .cabinetOpen then r.lastOther.getD r.kind else r.kind
        lastOther := if r.kind = .cabinetOpen then none else r.lastOther } := by
  rcases r.relock_cases l at_ with ⟨e, not⟩ | ⟨-, -, cabinet, ⟨last, e⟩ | ⟨k, last, e⟩⟩
  · have other : r.kind ≠ .cabinetOpen := fun cabinet =>
      not ⟨Report.isActive_iff.2 active, source, cabinet⟩
    rw [e, if_neg fun h => other h.1, if_neg other, if_neg other]
  · rw [e, if_pos ⟨cabinet, last⟩]
    rfl
  · have stays : ¬(r.kind = .cabinetOpen ∧ r.lastOther = none) := fun h => by
      rw [last] at h
      exact Option.some_ne_none k h.2
    rw [e, if_neg stays]
    simp only [if_pos cabinet, last, Option.getD_some]

/-- A lane's ACTIVE report is its primary where it has no other. -/
def Report.promoted (r : Report) (l : LaneId) (kept : Bool) : Report :=
  if r.state = .active ∧ r.source = .lane l then { r with primary := if kept then r.primary else none }
  else r

theorem State.promote_faults (s : State) (l : LaneId) : (s.promote l).faults =
    s.faults.map fun r => r.promoted l ((s.activeReports l).any fun r => r.primary.isNone) := by
  unfold State.promote Report.promoted
  cases (s.activeReports l).any fun r => r.primary.isNone with
  | true => exact (List.map_id'' (fun r => by split <;> rfl) _).symm
  | false =>
    refine List.map_congr_left fun r _ => ?_
    simp [Report.isActive]

/-- Whether the relock leaves the lane a primary report. -/
theorem State.primary_after_relock : ((s.mapReports fun r => r.relock l s.stamp).activeReports l).any
      (fun r => r.primary.isNone) = true ↔
    ∃ x ∈ s.activeOf (.lane l), x.primary = none ∧ (x.kind = .cabinetOpen → x.lastOther ≠ none) := by
  have members : ∀ r, r ∈ (s.mapReports fun r => r.relock l s.stamp).activeReports l ↔
      ∃ x ∈ s.faults, x.relock l s.stamp = r ∧ r.state = .active ∧ r.source = .lane l := fun r => by
    unfold State.activeReports State.mapReports
    simp only [List.mem_filter, List.mem_map, Bool.and_eq_true, beq_iff_eq, Report.isActive]
    exact ⟨fun ⟨⟨x, hx, e⟩, active, source⟩ => ⟨x, hx, e, active, source⟩,
      fun ⟨x, hx, e, active, source⟩ => ⟨⟨x, hx, e⟩, active, source⟩⟩
  have own : ∀ x, x ∈ s.activeOf (.lane l) ↔ x ∈ s.faults ∧ x.state = .active ∧ x.source = .lane l :=
    fun x => by
      rw [show s.activeOf (.lane l) = activeIn s.faults (.lane l) from rfl, mem_activeIn,
        Report.isActive_iff]
  rw [List.any_eq_true]
  constructor
  · rintro ⟨r, hr, none_⟩
    obtain ⟨x, hx, rfl, active, source⟩ := (members r).1 hr
    have mine : x.state = .active ∧ x.source = .lane l := by
      by_contra other
      rw [Report.relock_of_not other] at active source
      exact other ⟨active, source⟩
    rw [Report.relock_own mine.1 mine.2] at active none_
    refine ⟨x, (own x).2 ⟨hx, mine⟩, ?_, fun cabinet last => ?_⟩
    · split at none_
      · rename_i gone
        rw [if_pos gone] at active
        cases active
      · simpa using none_
    · rw [if_pos ⟨cabinet, last⟩] at active
      cases active
  · rintro ⟨x, hx, primary, stays⟩
    obtain ⟨mem, active, source⟩ := (own x).1 hx
    have kept := Report.relock_own (at_ := s.stamp) active source
    rw [if_neg fun gone => stays gone.1 gone.2] at kept
    refine ⟨x.relock l s.stamp, (members _).2 ⟨x, mem, rfl, ?_, ?_⟩, ?_⟩
    · rw [kept]
      exact active
    · rw [kept]
      exact source
    · rw [kept]
      simp [primary]

/-- What a relock leaves in the fault list (10 R181). -/
theorem State.selfClear_faults : (s.selfClear l).faults = s.relocked l := by
  have any_iff : ((s.activeReports l).any fun r => r.kind == .cabinetOpen) = true ↔
      ∃ x ∈ s.activeOf (.lane l), x.kind = .cabinetOpen := by
    rw [List.any_eq_true]
    simp only [beq_iff_eq]
    rfl
  unfold State.selfClear State.relocked
  split
  · rename_i some_
    have cabinet := any_iff.1 some_
    rw [(State.postReport_faults _ _).1, State.promote_faults]
    have mapped : (s.mapReports fun r => r.relock l s.stamp).faults =
      s.faults.map fun r => r.relock l s.stamp := rfl
    rw [mapped, List.map_map]
    refine List.map_congr_left fun r _ => ?_
    have primary := State.primary_after_relock (s := s) (l := l)
    by_cases mine : r.state = .active ∧ r.source = .lane l
    · rw [Function.comp_apply, if_pos ⟨mine.1, mine.2, cabinet⟩, Report.relock_own mine.1 mine.2]
      by_cases gone : r.kind = .cabinetOpen ∧ r.lastOther = none
      · rw [if_pos gone, if_pos gone]
        exact if_neg fun h => nomatch h.1
      · rw [if_neg gone, if_neg gone]
        refine (if_pos mine).trans ?_
        by_cases left : ∃ x ∈ s.activeOf (.lane l), x.primary = none ∧
            (x.kind = .cabinetOpen → x.lastOther ≠ none)
        · rw [if_pos left, if_pos (primary.2 left)]
        · rw [if_neg left, if_neg (mt primary.1 left)]
    · rw [Function.comp_apply, Report.relock_of_not mine, if_neg fun h => mine ⟨h.1, h.2.1⟩]
      exact if_neg mine
  · rename_i none_
    refine (List.map_id'' (fun r => ?_) _).symm
    exact if_neg fun h => none_ (any_iff.2 h.2.2)

/-- With no kind folded into them, a relock leaves no CABINET_OPEN report ACTIVE. -/
theorem State.relocked_noCabinet {t : State} (left : t.faults = s.relocked l)
    (unfolded : ∀ r ∈ s.activeOf (.lane l), r.lastOther = none) : t.noCabinet l := by
  intro r hr cabinet
  have own : ∀ x, x ∈ s.activeOf (.lane l) ↔ x ∈ s.faults ∧ x.state = .active ∧ x.source = .lane l :=
    fun x => by
      rw [show s.activeOf (.lane l) = activeIn s.faults (.lane l) from rfl, mem_activeIn,
        Report.isActive_iff]
  rw [show t.activeOf (.lane l) = activeIn t.faults (.lane l) from rfl, mem_activeIn, left] at hr
  obtain ⟨mem, active, source⟩ := hr
  obtain ⟨x, hx, rfl⟩ := List.mem_map.1 mem
  split at active
  · rename_i mine
    have none_ := unfolded x ((own x).2 ⟨hx, mine.1, mine.2.1⟩)
    by_cases kind : x.kind = .cabinetOpen
    · rw [if_pos ⟨kind, none_⟩] at active
      cases active
    · rw [if_pos mine, if_neg fun h => kind h.1] at cabinet
      simp [kind] at cabinet
  · rename_i other
    rw [if_neg other] at source cabinet
    exact other ⟨Report.isActive_iff.1 active, source, x,
      (own x).2 ⟨hx, Report.isActive_iff.1 active, source⟩, cabinet⟩

end

/-! ## The cabinet's events (04 R85 to R87) -/

section
variable {s t : State} {l : LaneId}

theorem State.pinned_to (s : State) (l : LaneId) (pin : Cabinet) :
    s.laneTo (s.moveLane l fun x => { x with cabinetPin := pin }) l { s.lane l with cabinetPin := pin }
      [.lanes] :=
  State.moveLane_unseen_to (f := fun x => { x with cabinetPin := pin })
    (Lane.visiblyChanged_eq_false rfl rfl rfl fun _ h => h)

/-- The lane's record, its cabinet locked. -/
def Lane.shut (x : Lane) : Lane := { x with cabinetPin := .locked, cabinetSeen := .locked }

/-- A relock observed: the input taken and the reports (04 R87; 10 R181). -/
theorem State.shut_to (u v : State) (hu : u = s.moveLane l fun x => { x with cabinetPin := .locked })
    (hv : v = (u.moveLane l fun x => { x with cabinetSeen := .locked }).selfClear l) :
    s.laneTo v l (s.lane l).shut [.lanes, .queues, .faults] ∧ v.faults = s.relocked l ∧
      v.faultCounter = s.faultCounter := by
  have pinned := s.pinned_to l .locked
  rw [← hu] at pinned
  obtain ⟨w, hw⟩ : ∃ w, w = u.moveLane l fun x => { x with cabinetSeen := .locked } := ⟨_, rfl⟩
  have seen : u.laneTo w l { u.lane l with cabinetSeen := .locked } [.lanes] :=
    hw ▸ State.moveLane_unseen_to (f := fun x => { x with cabinetSeen := .locked })
      (Lane.visiblyChanged_eq_false rfl rfl rfl fun _ h => h)
  rw [pinned.self] at seen
  have both := pinned.andThen seen (c := [.lanes])
  have cleared : w.laneTo v l (w.lane l) [.faults, .queues] :=
    hv ▸ hw ▸ State.laneTo_of_frame (State.changesOnly_mono (State.selfClear_frame _ l))
  rw [both.self] at cleared
  obtain ⟨faults, counter⟩ := both.frame .faults (by decide)
  have stamp : w.stamp = s.stamp := by
    unfold State.stamp State.clockStamp
    rw [show w.runTime = s.runTime from both.frame .runTime (by decide),
      show w.clock = s.clock from both.frame .clock (by decide)]
  have counters : ∀ x : State, (x.selfClear l).faultCounter = x.faultCounter := fun x => by
    unfold State.selfClear State.promote
    split
    · rw [(State.postReport_faults _ _).2]
      split <;> rfl
    · rfl
  refine ⟨both.andThen cleared, ?_, ?_⟩
  · rw [hv, ← hw, State.selfClear_faults]
    unfold State.relocked State.activeOf
    rw [faults, stamp]
  · rw [hv, ← hw, counters, counter]

theorem exec_cabinetRelock (running : s.phase = .running) (seen : (s.lane l).cabinetSeen = .opened)
    (u : State) (hu : u = s.moveLane l fun x => { x with cabinetPin := .locked }) :
    exec (.cabinetRelock l) s = .next (u.relock l) := by
  have pinned := s.pinned_to l .locked
  rw [← hu] at pinned
  refine congrArg Host.Outcome.next ?_
  rw [← hu]
  refine (if_pos ((pinned.frame .phase (by decide)).trans running)).trans (if_pos ?_)
  rw [pinned.self]
  exact seen

theorem exec_cabinetOpening (running : s.phase = .running) (u : State)
    (hu : u = s.moveLane l fun x => { x with cabinetPin := .opened }) :
    exec (.cabinetOpening l) s = .next
      (if (s.lane l).cabinetSeen = .locked then u.observeOpening l else u) := by
  have pinned := s.pinned_to l .opened
  rw [← hu] at pinned
  refine congrArg Host.Outcome.next ?_
  rw [← hu]
  refine (if_pos ((pinned.frame .phase (by decide)).trans running)).trans ?_
  dsimp only
  rw [pinned.self]

/-- The lane's record once an opening is observed, by its state (04 R85, R86). -/
def Lane.opening (x : Lane) (locked : Bool) (state : LaneState) : Lane :=
  match state with
  | .idle => if locked then x.lockedIn else x.heldFor ⟨true, false⟩
  | .holding => { x with causes := { x.causes with cabinetOpen := true } }
  | .offline | .faulted => x
  | .priming | .feeding | .verifying | .advancing | .purging | .printing | .cutting =>
    { x with holdAfter := true }

theorem Lane.opening_kept (x : Lane) (locked : Bool) (state : LaneState) :
    (x.opening locked state).cabinetPin = x.cabinetPin ∧
      (x.opening locked state).cabinetSeen = x.cabinetSeen ∧
      (x.opening locked state).head = x.head := by
  cases state <;> cases locked <;> exact ⟨rfl, rfl, rfl⟩

/-- Any other lane goes on with its operation, to hold after it (04 R86). -/
theorem Lane.opening_of_operating (x : Lane) (locked : Bool) {state : LaneState}
    (other : state ∉ [LaneState.offline, .idle, .holding, .faulted]) :
    x.opening locked state = { x with holdAfter := true } := by
  cases state <;> first | rfl | exact absurd (by decide) other

/-- What an observed opening leaves (04 R85, R86; 10 R177). -/
theorem State.observeOpening_to (t : State) (ht : t = s.observeOpening l) {st : LaneState}
    (state : (s.lane l).state = st) :
    s.laneTo t l (Lane.opening { s.lane l with cabinetSeen := .opened } (s.isLocked l) st)
      [.lanes, .queues, .faults] ∧
    (st = .offline → s.changesOnly t [.lanes]) ∧
    (st ≠ .offline → t.faults = (s.raiseLane l .cabinetOpen {}).faults ∧
      t.isLocked l = s.isLocked l) := by
  obtain ⟨u, hu⟩ : ∃ u, u = s.moveLane l fun x => { x with cabinetSeen := .opened } := ⟨_, rfl⟩
  have seen := s.seeOpening_to l
  rw [← hu] at seen
  obtain ⟨v, hv⟩ : ∃ v, v = u.raiseCabinet l := ⟨_, rfl⟩
  have raised : u.laneTo v l (u.lane l) [.faults, .queues] := hv ▸ u.raiseCabinet_to l
  rw [seen.self] at raised
  have before := seen.andThen raised (c := [.lanes, .queues, .faults])
  have faults : v.faults = (s.raiseLane l .cabinetOpen {}).faults := by
    rw [hv]
    exact seen.frame.raiseLane l _ _
  have lock : v.isLocked l = s.isLocked l := by
    rw [hv]
    exact State.raiseCabinet_isLocked.trans (seen.frame.isLocked l)
  -- a lane's own record changed after the report
  have then_ : ∀ f : Lane → Lane, t = v.moveLane l f →
      s.laneTo t l (f { s.lane l with cabinetSeen := .opened }) [.lanes, .queues, .faults] ∧
      t.faults = (s.raiseLane l .cabinetOpen {}).faults ∧ t.isLocked l = s.isLocked l := by
    intro f step
    have moved := v.moveLane_to l f
    rw [before.self, ← step] at moved
    exact ⟨before.andThen moved, (moved.frame .faults (by decide)).1.trans faults,
      (moved.frame.isLocked l).trans lock⟩
  unfold State.observeOpening at ht
  dsimp only at ht
  rw [← hu, ← hv] at ht
  rw [state] at ht
  cases st with
  | offline =>
    subst ht
    exact ⟨State.laneTo.mono seen, fun _ => seen.frame, fun other => absurd rfl other⟩
  | idle =>
    obtain ⟨free, locked, faults, lock⟩ := State.observeOpening_idle state t (by
      rw [ht, hv, hu]
      unfold State.observeOpening
      rw [state])
    refine ⟨?_, nofun, fun _ => ⟨faults, lock⟩⟩
    cases h : s.isLocked l with
    | true => exact locked h
    | false => exact free h
  | holding =>
    obtain ⟨to_, rest⟩ := then_ _ ht
    exact ⟨to_, nofun, fun _ => rest⟩
  | faulted =>
    subst ht
    exact ⟨before, nofun, fun _ => ⟨faults, lock⟩⟩
  | _ =>
    obtain ⟨to_, rest⟩ := then_ _ ht
    exact ⟨to_, nofun, fun _ => rest⟩

/-- What follows the observed relock, by the lane's state (04 R87). -/
def State.afterRelock (s : State) (l : LaneId) (state : LaneState) : State :=
  match state with
  | .holding =>
    let u := s.moveLane l fun x => { x with causes := { x.causes with cabinetOpen := false } }
    if (u.lane l).causes = .empty then u.startPriming l else u
  | .priming | .feeding | .verifying | .advancing | .purging | .printing | .cutting =>
    s.moveLane l fun x => { x with holdAfter := false }
  | .idle | .offline | .faulted => s

theorem State.relock_eq (s : State) (l : LaneId) : s.relock l =
    ((s.moveLane l fun x => { x with cabinetSeen := .locked }).selfClear l).afterRelock l
      (s.lane l).state := by
  unfold State.relock State.afterRelock
  cases (s.lane l).state <;> rfl

/-- The causes of a HOLDING lane without its cabinet (04 R87). -/
theorem State.uncaused_to (s : State) (l : LaneId) :
    s.laneTo (s.moveLane l fun x => { x with causes := { x.causes with cabinetOpen := false } }) l
      { s.lane l with causes := ⟨false, (s.lane l).causes.stockOut⟩ } [.lanes, .queues] :=
  s.moveLane_to l _

theorem State.afterRelock_holding (s : State) (l : LaneId) (u : State)
    (hu : u = s.moveLane l fun x => { x with causes := { x.causes with cabinetOpen := false } }) :
    s.afterRelock l .holding = if (s.lane l).causes.stockOut then u else u.startPriming l := by
  have self := (s.uncaused_to l).self
  rw [← hu] at self
  unfold State.afterRelock
  dsimp only
  rw [← hu, self]
  cases (s.lane l).causes.stockOut <;> rfl

theorem State.afterRelock_operating (s : State) (l : LaneId) {state : LaneState}
    (operating : state ∈ [LaneState.priming, .feeding, .verifying, .advancing, .purging, .printing,
      .cutting]) : s.afterRelock l state = s.moveLane l fun x => { x with holdAfter := false } := by
  cases state <;> first | rfl | exact absurd operating (by decide)

theorem State.afterRelock_resting (s : State) (l : LaneId) {state : LaneState}
    (resting : state ∈ [LaneState.idle, .offline, .faulted]) : s.afterRelock l state = s := by
  cases state <;> first | rfl | exact absurd resting (by decide)

/-- The cabinet stays locked, and a lane without a CABINET_OPEN report gets none. -/
theorem State.afterRelock_keeps (locked : (s.lane l).cabinetPin = .locked) (state : LaneState) :
    s.pinsStand (s.afterRelock l state) l ∧ (s.noCabinet l → (s.afterRelock l state).noCabinet l) := by
  have moved : ∀ f : Lane → Lane, (s.noCabinet l → (s.moveLane l f).noCabinet l) := fun f =>
    State.noCabinet_of_faults ((s.moveLane_frame l f) .faults (by decide)).1
  by_cases operating : state ∈ [LaneState.priming, .feeding, .verifying, .advancing, .purging,
      .printing, .cutting]
  · rw [s.afterRelock_operating l operating]
    exact ⟨(s.moveLane_to l _).told.pins rfl rfl, moved _⟩
  by_cases resting : state ∈ [LaneState.idle, .offline, .faulted]
  · rw [s.afterRelock_resting l resting]
    exact ⟨⟨rfl, rfl⟩, id⟩
  have holding : state = .holding := by
    cases state <;> first | rfl | exact absurd (by decide) operating | exact absurd (by decide) resting
  subst holding
  have uncaused := s.uncaused_to l
  rw [s.afterRelock_holding l _ rfl]
  split
  · exact ⟨uncaused.told.pins rfl rfl, moved _⟩
  · have pin := uncaused.told.pins rfl rfl
    have still := pin.1.trans locked
    exact ⟨pin.andThen (State.startPriming_pins still), fun h =>
      State.startPriming_noCabinet still (moved _ h)⟩

end

/-- Settles O37: an opening by `State.observeOpening_to`; a relock by the lane's state, the reports by
`State.selfClear_faults`, and the priming that may follow. -/
theorem cabinetEvents : Obligations.CabinetEvents := by
  unfold Obligations.CabinetEvents
  intro s l running
  refine ⟨fun seen => ?_, fun seen => ?_, fun seen left hleft => ?_⟩
  · have run := exec_cabinetOpening (l := l) running _ rfl
    rw [seen, if_neg (by decide)] at run
    obtain ⟨self, others, frame⟩ := s.pinned_to l .opened
    exact ⟨_, run, self, others, frame⟩
  · obtain ⟨u, hu⟩ : ∃ u, u = s.moveLane l fun x => { x with cabinetPin := .opened } := ⟨_, rfl⟩
    have run := exec_cabinetOpening (l := l) running u hu
    rw [seen, if_pos rfl] at run
    have pinned := s.pinned_to l .opened
    rw [← hu] at pinned
    obtain ⟨t, ht⟩ : ∃ t, t = u.observeOpening l := ⟨_, rfl⟩
    rw [← ht] at run
    obtain ⟨opened, quiet, raised⟩ := State.observeOpening_to t ht rfl
    have lock : u.isLocked l = s.isLocked l := pinned.frame.isLocked l
    have state : (u.lane l).state = (s.lane l).state := by rw [pinned.self]
    rw [state, pinned.self, lock] at opened
    rw [state, lock] at raised
    rw [state] at quiet
    have whole := pinned.andThen opened (c := [.lanes, .queues, .faults])
    have self := whole.self
    have kept := Lane.opening_kept { s.lane l with cabinetPin := .opened, cabinetSeen := .opened }
      (s.isLocked l) (s.lane l).state
    refine ⟨t, run, by rw [self]; exact kept.1, by rw [self]; exact kept.2.1,
      by rw [self]; exact kept.2.2, whole.others, fun off => ⟨?_, ?_⟩, fun on => ?_, fun idle free => ?_,
      fun idle locked => ?_, fun holding => ?_, fun faulted => ?_, fun other => ?_, whole.frame⟩
    · rw [self, off]
      rfl
    · exact State.changesOnly_then pinned.frame (quiet off)
    · obtain ⟨faults, locks⟩ := raised on
      have placed := faults.trans (pinned.frame.raiseLane l _ _)
      exact ⟨placed, State.shows_of_raised placed, fun free =>
        State.cabinet_of_unlocked (locks.trans free) placed⟩
    · rw [self, idle, free]
      rfl
    · rw [self, idle, locked]
      rfl
    · rw [self, holding]
      rfl
    · rw [self, faulted]
      rfl
    · rw [self, Lane.opening_of_operating _ _ other]
  · obtain ⟨u, hu⟩ : ∃ u, u = s.moveLane l fun x => { x with cabinetPin := .locked } := ⟨_, rfl⟩
    have run := exec_cabinetRelock running seen u hu
    obtain ⟨v, hv⟩ : ∃ v, v = (u.moveLane l fun x => { x with cabinetSeen := .locked }).selfClear l :=
      ⟨_, rfl⟩
    obtain ⟨shut, faults, counter⟩ := State.shut_to u v hu hv
    have same : left = s.relocked l := hleft
    rw [← same] at faults
    have pinned := s.pinned_to l .locked
    rw [← hu] at pinned
    have state : (u.lane l).state = (s.lane l).state := by rw [pinned.self]
    have causes : (u.lane l).causes = (s.lane l).causes := by rw [pinned.self]
    have still : (v.lane l).cabinetPin = .locked := by rw [shut.self]; rfl
    have step : u.relock l = v.afterRelock l (s.lane l).state := by rw [State.relock_eq, ← hv, state]
    obtain ⟨pins, bare⟩ := State.afterRelock_keeps still (s.lane l).state
    have lane : v.lane l = (s.lane l).shut := shut.self
    rw [step] at run
    refine ⟨_, run, pins.1.trans still, pins.2.trans (by rw [lane]; rfl),
      fun unfolded => bare (State.relocked_noCabinet (faults.trans same) unfolded),
      fun operating => ?_, fun resting => ?_, fun holding out => ?_, fun holding on out => ?_,
      fun holding on some_ next head => ?_, fun holding on some_ next head idle => ?_⟩
    · have flagged := v.moveLane_to l fun x => { x with holdAfter := false }
      rw [← v.afterRelock_operating l operating, lane] at flagged
      have whole := shut.andThen flagged (c := [.lanes, .queues, .faults])
      exact ⟨whole.self, (flagged.frame .faults (by decide)).1.trans faults, whole.others, whole.frame⟩
    · rw [v.afterRelock_resting l resting]
      exact ⟨lane, faults, shut.others, shut.frame⟩
    all_goals
      obtain ⟨w, hw⟩ : ∃ w, w = v.moveLane l fun x =>
        { x with causes := { x.causes with cabinetOpen := false } } := ⟨_, rfl⟩
      have uncaused := v.uncaused_to l
      have primes := v.afterRelock_holding l w hw
      rw [← hw, lane] at uncaused
      rw [lane, show (s.lane l).shut.causes.stockOut = (s.lane l).causes.stockOut from rfl] at primes
      have before := shut.andThen uncaused (c := [.lanes, .queues, .faults])
      have placed : w.faults = left := (uncaused.frame .faults (by decide)).1.trans faults
      rw [holding]
    · rw [primes, if_pos out]
      refine ⟨before.self.trans ?_, placed, before.others, before.frame⟩
      rw [← out]
      rfl
    all_goals
      rw [on, if_neg (by decide)] at primes
      have record : w.lane l = { (s.lane l).shut with causes := .empty } := by
        rw [before.self, show (s.lane l).shut.causes.stockOut = (s.lane l).causes.stockOut from rfl, on]
        rfl
      have locked : (w.lane l).cabinetPin = .locked := by rw [record]; rfl
      have mounted : w.mounted l = s.mounted l :=
        State.mounted_congr (before.frame .packs (by decide)) (by rw [record]; rfl)
      have expected : w.expected l = s.expected l :=
        State.expected_congr mounted (by rw [record]; rfl)
      have remaining : w.remaining l = s.remaining l := State.remaining_congr mounted
    · obtain ⟨free, locks, -, lock, quiet⟩ := State.startPriming_holds_to
        (.inr (State.stockOut_eq_true (by rw [remaining, expected]; exact out))) _ primes
      obtain ⟨frame, -⟩ := quiet (.inl locked)
      rw [Lane.sampled_none (.inl locked)] at free locks
      rw [lock]
      have whole := State.changesOnly_then (c := [.lanes, .queues, .faults]) before.frame frame
      refine ⟨?_, (frame .faults (by decide)).1.trans placed, fun m other => ?_, whole⟩
      · cases h : w.isLocked l with
        | true =>
          rw [(locks h).self, record]
          rfl
        | false =>
          rw [(free h).self, locked,
            State.stockOut_eq_true (by rw [remaining, expected]; exact out), record]
          rfl
      · cases h : w.isLocked l with
        | true => exact ((locks h).others m other).trans (before.others m other)
        | false => exact ((free h).others m other).trans (before.others m other)
    all_goals
      obtain ⟨e, next⟩ := next
      have stock : w.stockOut l = false :=
        State.stockOut_eq_false (by rw [remaining]; exact some_) (by rw [expected]; exact next)
    · obtain ⟨reads, -⟩ := State.startPriming_reads_to locked stock (by rw [record]; exact head)
      rw [← primes, record] at reads
      have whole := before.andThen reads (c := [.lanes, .queues, .faults])
      exact ⟨whole.self, (reads.frame .faults (by decide)).1.trans placed, whole.others, whole.frame⟩
    · obtain ⟨x, hx⟩ : ∃ x, x = w.moveLane l fun x => { x with state := .feeding, causes := .empty } :=
        ⟨_, rfl⟩
      have feeding := w.moveLane_to l fun x => { x with state := .feeding, causes := .empty }
      rw [← hx, record] at feeding
      rw [State.startPriming_feeds locked stock (by rw [record]; exact head), ← hx] at primes
      have bare_ : x.advanceHead l = x := State.advanceHead_of_not_verified fun n => by
        rw [feeding.self]
        exact fun h => by rw [show (s.lane l).shut.head = (s.lane l).head from rfl, head] at h; cases h
      have under : x.mounted l = w.mounted l := State.mountedPack_stays feeding (by rw [record])
      obtain ⟨issued, deferred, absent⟩ := State.feedAttempt_to bare_.symm
        (by rw [State.remaining_congr under, remaining]; exact some_)
        ((State.expected_congr under (by rw [feeding.self, record])).trans (expected.trans next))
      rw [← primes, feeding.self] at issued deferred absent
      have upTo := before.andThen feeding (c := [.lanes, .queues, .faults])
      have warning : x.powerFail = s.powerFail := upTo.frame .powerFail (by decide)
      have list : x.faults = left := (feeding.frame .faults (by decide)).1.trans placed
      rw [warning] at issued deferred absent
      have ends : s.otherLanes (v.afterRelock l .holding) l ∧
          s.changesOnly (v.afterRelock l .holding) [.lanes, .queues, .faults] := by
        cases warned : s.powerFail with
        | true =>
          have whole := upTo.andThen (deferred warned) (c := [.lanes, .queues, .faults])
          exact ⟨whole.others, whole.frame⟩
        | false =>
          cases pin : (s.lane l).stockPin with
          | true =>
            have whole := upTo.andThen (issued warned pin) (c := [.lanes, .queues, .faults])
            exact ⟨whole.others, whole.frame⟩
          | false =>
            have whole := upTo.andThen (absent warned pin idle).1 (c := [.lanes, .queues, .faults])
            exact ⟨whole.others, whole.frame⟩
      refine ⟨ends.1, ends.2, fun on_ pin => ?_, fun off => ?_, fun on_ pin => ?_⟩
      · have put := issued on_ pin
        refine ⟨(put.frame .faults (by decide)).1.trans list, put.self.trans ?_⟩
        rw [← head]
        rfl
      · have put := deferred off
        exact ⟨(put.frame .faults (by decide)).1.trans list, put.self⟩
      · obtain ⟨put, raised⟩ := absent on_ pin idle
        refine ⟨put.self, raised.trans ?_⟩
        have counters : x.faultCounter = s.faultCounter :=
          (feeding.frame .faults (by decide)).2.trans
            ((uncaused.frame .faults (by decide)).2.trans counter)
        have stamps : x.stamp = s.stamp := by
          unfold State.stamp State.clockStamp
          rw [show x.runTime = s.runTime from upTo.frame .runTime (by decide),
            show x.clock = s.clock from upTo.frame .clock (by decide)]
        rw [State.raiseLane_faults, State.raiseLane_faults, list, counters, stamps, next]
        rfl

end Sys2Proof.Machine
end

section
/-! SUPPORT. A ticket's mark and its journal entry (04 R82, R83; 08 R145, R149), a spoiled ticket's job
(03 R59, R60), and what follows a ticket (04 R84). -/

-- One proof at a time: the check's memory limit holds few threads.
set_option Elab.async false

namespace Sys2Proof.Machine

/-! ## The mark and the entry of a ticket -/

section
variable {s t u : State} {l : LaneId} {p : Pack} {n : Nat} {new : Mark} {d : EntryData} {w : Window}
  {k : SlotId}

/-- An entry written from a job's reservation (08 R149). -/
theorem State.writeJobEntry_leaves (found : s.findPack d.pack = some p) (u : State)
    (hu : u = s.writeJobEntry w k d) :
    u.findPack d.pack = some { p with references := p.references + 1 } ∧ s.otherPacks u d.pack ∧
    u.journal = s.journal ++ [⟨w, (s.entriesOf w).length + 1, d, s.stamp, false⟩] ∧
    u.journalInUse = s.journalInUse + 1 ∧
    u.session w = Session.withEntry { s.session w with reserved := (s.session w).reserved - 1 } d ∧
    s.otherSessions u w ∧
    (∀ j, s.job w k = some j →
      u.slot w k = ⟨(s.slot w k).unread, some { j with reserved := j.reserved - 1 }⟩) ∧
    s.otherSlots u w k := by
  obtain ⟨a, ha⟩ : ∃ a, a = s.unreserve w 1 := ⟨_, rfl⟩
  have freed : s.changesOnly a [.sessions, .journal] := ha ▸ s.unreserve_frame w 1
  obtain ⟨b, hb⟩ : ∃ b, b = a.mapJob w k fun j => { j with reserved := j.reserved - 1 } := ⟨_, rfl⟩
  have mapped : a.changesOnly b [.slots] := hb ▸ a.mapJob_frame w k _
  have step : u = b.writeEntry w d := by rw [hu, hb, ha]; rfl
  have journal : b.journal = s.journal := (mapped .journal (by decide)).1.trans (by rw [ha]; rfl)
  have inUse : b.journalInUse = s.journalInUse :=
    (mapped .journal (by decide)).2.1.trans (by rw [ha]; rfl)
  have before := State.changesOnly_then (c := [.sessions, .journal, .slots]) freed mapped
  have stamp : b.stamp = s.stamp := by
    unfold State.stamp State.clockStamp
    rw [show b.runTime = s.runTime from before .runTime (by decide),
      show b.clock = s.clock from before .clock (by decide)]
  have session : b.session w = { s.session w with reserved := (s.session w).reserved - 1 } :=
    (mapped.session w).trans (ha ▸ s.unreserve_session w 1)
  have packs : ∀ m, b.findPack m = s.findPack m := fun m => before.findPack m
  obtain ⟨number, others⟩ := b.writeEntry_pack w d ((packs _).trans found)
  obtain ⟨here, rest⟩ := b.writeEntry_session w d
  obtain ⟨written, used⟩ := b.writeEntry_journal w d
  have frame := b.writeEntry_frame w d
  rw [← step] at number others here rest written used frame
  have entries : b.entriesOf w = s.entriesOf w := by
    unfold State.entriesOf
    rw [journal]
  refine ⟨number, fun m other => (others m other).trans (packs m), ?_, ?_, ?_, fun v other => ?_,
    fun j held => ?_, fun v i other => ?_⟩
  · rw [written, journal, State.entryFor, entries, stamp]
  · rw [used, inUse]
  · rw [here, session]
  · rw [rest v other, mapped.session, ha, s.unreserve_otherSessions w 1 v other]
  · refine (frame.slot w k).trans ?_
    rw [hb, a.mapJob_slot_self w k _ ((freed.job w k).trans held), freed.slot]
  · rw [frame.slot, hb, a.mapJob_otherSlots w k _ v i other, freed.slot]

/-- The mark of a ticket's blank and its entry: steps 1 and 2 of R82 and R83 (04). -/
theorem State.ticketEntry_leaves {r : InFlight} (mounted : s.mounted l = some p)
    (found : s.packOf p.cls r.serial = some p) (held : p.markOf r.serial = some .unused)
    (edge : markEdge .unused new = true) (named : d.pack = p.number) (u : State)
    (hu : u = (s.changeMark (s.mountedClass l) r.serial new).writeJobEntry r.window r.slot d) :
    u.findPack p.number =
      some { p.remark r.serial .unused new with references := p.references + 1 } ∧
    s.otherPacks u p.number ∧
    u.journal = s.journal ++ [⟨r.window, (s.entriesOf r.window).length + 1, d, s.stamp, false⟩] ∧
    u.journalInUse = s.journalInUse + 1 ∧
    u.session r.window = Session.withEntry
      { s.session r.window with reserved := (s.session r.window).reserved - 1 } d ∧
    s.otherSessions u r.window ∧
    (∀ j, s.job r.window r.slot = some j →
      u.slot r.window r.slot =
        ⟨(s.slot r.window r.slot).unread, some { j with reserved := j.reserved - 1 }⟩) ∧
    s.otherSlots u r.window r.slot ∧
    s.changesOnly u [.queues, .packs, .census, .slots, .sessions, .journal] := by
  obtain ⟨a, ha⟩ : ∃ a, a = s.remark p r.serial .unused new := ⟨_, rfl⟩
  have marked : s.changesOnly a [.packs, .queues, .census] := ha ▸ s.remark_frame p r.serial .unused new
  have step : u = a.writeJobEntry r.window r.slot d := by
    rw [hu, State.mountedClass_of_mounted mounted, State.changeMark_eq found held edge, ha]
  obtain ⟨-, numbered⟩ := State.mountedPack_eq mounted
  obtain ⟨now, others⟩ := State.remark_pack (n := r.serial) (old := .unused) (new := new) numbered
  rw [← ha] at now others
  rw [← named] at now others ⊢
  obtain ⟨pack, packs, journal, inUse, session, sessions, slot, slots⟩ :=
    State.writeJobEntry_leaves now u step
  have same : a.journal = s.journal := (marked .journal (by decide)).1
  have entries : a.entriesOf r.window = s.entriesOf r.window := by
    unfold State.entriesOf
    rw [same]
  have stamp : a.stamp = s.stamp := by
    unfold State.stamp State.clockStamp
    rw [show a.runTime = s.runTime from marked .runTime (by decide),
      show a.clock = s.clock from marked .clock (by decide)]
  refine ⟨pack, fun m other => (packs m other).trans (others m other), ?_, ?_, ?_, fun v other => ?_,
    fun j job => ?_, fun v i other => ?_, ?_⟩
  · rw [journal, same, entries, stamp]
  · rw [inUse, (marked .journal (by decide)).2.1]
  · rw [session, marked.session]
  · rw [sessions v other, marked.session]
  · rw [slot j ((marked.job _ _).trans job), marked.slot]
  · rw [slots v i other, marked.slot]
  · rw [step]
    exact State.changesOnly_then marked (a.writeJobEntry_frame _ _ _)

/-- A spoiled ticket's job: attempt count up by one, and QUEUED, RETRY_WAIT or FAILED (03 R59, R60). -/
theorem State.spoilJob_leaves {j : Job} (held : s.job w k = some j) (reason : OutcomeReason)
    (cls serial : Nat) (o : SlotOutcome) (ho : o = ⟨if 3 ≤ j.attempts + 1 then .failed else .spoiled,
      reason, j.attempts + 1, cls, serial, 0⟩) (t : State) (ht : t = s.spoilJob w k reason cls serial) :
    (j.attempts + 1 < 3 → t.slot w k = ⟨true, some { j with
      state := afterSpoil reason (j.attempts + 1), lane := none, attempts := j.attempts + 1,
      latest := some o }⟩) ∧
    (3 ≤ j.attempts + 1 → t.slot w k = ⟨true, some { j with
      state := .failed, lane := none, deadline := none, attempts := j.attempts + 1, reserved := 0,
      latest := some o }⟩) ∧
    s.otherSlots t w k ∧ (∃ x, t.session w = { s.session w with reserved := x }) ∧
    s.otherSessions t w ∧ t.journal = s.journal ∧ t.journalInUse = s.journalInUse ∧
    outcomeNotice k o ∈ (t.port (.window w)).queue := by
  obtain ⟨u, hu⟩ : ∃ u, u = s.mapJob w k fun i => { i with attempts := j.attempts + 1 } := ⟨_, rfl⟩
  have counted : s.changesOnly u [.slots] := hu ▸ s.mapJob_frame w k _
  have self : u.slot w k = ⟨(s.slot w k).unread, some { j with attempts := j.attempts + 1 }⟩ :=
    hu ▸ s.mapJob_slot_self w k _ held
  have others : s.otherSlots u w k := hu ▸ s.mapJob_otherSlots w k _
  have job : u.job w k = some { j with attempts := j.attempts + 1 } := congrArg Slot.job self
  have step : t = if 3 ≤ j.attempts + 1 then
      u.endJob w k .failed ⟨.failed, reason, j.attempts + 1, cls, serial, 0⟩
    else ((u.mapJob w k fun i =>
        { i with state := afterSpoil reason (j.attempts + 1), lane := none }).postOutcome w k
          ⟨.spoiled, reason, j.attempts + 1, cls, serial, 0⟩).reportJob w k := by
    rw [ht, hu]
    unfold State.spoilJob
    rw [held]
  by_cases last : 3 ≤ j.attempts + 1
  · rw [if_pos last] at step ho
    rw [← ho] at step
    obtain ⟨slot, slots, session, sessions, -, journal, inUse, queue, -, -⟩ :=
      State.endJob_leaves job .failed o t step
    refine ⟨fun few => absurd last (by omega), fun _ => slot, fun v i other => ?_,
      ⟨(s.session w).reserved - j.reserved, ?_⟩,
      fun v other => ?_, ?_, ?_, ?_⟩
    · rw [slots v i other, others v i other]
    · rw [session, counted.session]
    · rw [sessions v other, counted.session]
    · rw [journal, (counted .journal (by decide)).1]
    · rw [inUse, (counted .journal (by decide)).2.1]
    · rw [queue w, if_pos rfl]
      exact mem_coalesce_self _ (outcomeNotice k o)
  · rw [if_neg last] at step ho
    rw [← ho] at step
    obtain ⟨a, ha⟩ : ∃ a, a = u.mapJob w k fun i =>
        { i with state := afterSpoil reason (j.attempts + 1), lane := none } := ⟨_, rfl⟩
    have sent : u.changesOnly a [.slots] := ha ▸ u.mapJob_frame w k _
    have slotA : a.slot w k = ⟨(u.slot w k).unread, some { j with
        attempts := j.attempts + 1, state := afterSpoil reason (j.attempts + 1), lane := none }⟩ :=
      ha ▸ u.mapJob_slot_self w k _ job
    have othersA : u.otherSlots a w k := ha ▸ u.mapJob_otherSlots w k _
    obtain ⟨b, hb⟩ : ∃ b, b = a.postOutcome w k o := ⟨_, rfl⟩
    have posted : a.changesOnly b [.slots, .queues] := hb ▸ a.postOutcome_frame w k o
    have slotB := State.postOutcome_slot a w k o (congrArg Slot.job slotA)
    have othersB := State.postOutcome_otherSlots a w k o
    rw [← hb] at slotB othersB
    have reported := b.reportJob_frame w k
    rw [← ha, ← hb] at step
    rw [← step] at reported
    have whole := State.changesOnly_then (c := [.slots, .queues, .lanes])
      (State.changesOnly_then (c := [.slots]) counted sent)
      (State.changesOnly_then (c := [.slots, .queues, .lanes]) posted reported)
    refine ⟨fun _ => (reported.slot w k).trans slotB, fun last' => absurd last' last,
      fun v i other => ?_, ⟨_, whole.session w⟩, fun v _ => whole.session v,
      (whole .journal (by decide)).1, (whole .journal (by decide)).2.1, ?_⟩
    · rw [reported.slot, othersB v i other, othersA v i other, others v i other]
    · rw [reported .queues (by decide), hb, State.postOutcome_queue_window, if_pos rfl]
      exact mem_coalesce_self _ (outcomeNotice k o)

end

end Sys2Proof.Machine
end

section
/-! SUPPORT. A ticket spoiled or issued (04 R82, R83), and what follows it (04 R84). -/

-- One proof at a time: the check's memory limit holds few threads.
set_option Elab.async false

namespace Sys2Proof.Machine

section
variable {s t : State} {l : LaneId} {p : Pack} {r : InFlight} {j : Job} {o : SlotOutcome}

/-- A ticket's end leaves its blank, its entry, its session and its job so (04 R83; 10 R180). -/
theorem State.spoilTicket_leaves (mounted : s.mounted l = some p)
    (found : s.packOf p.cls r.serial = some p) (held : p.markOf r.serial = some .unused)
    (job : s.job r.window r.slot = some j) (reason : OutcomeReason)
    (ho : o = ⟨if 3 ≤ j.attempts + 1 then .failed else .spoiled, reason, j.attempts + 1, p.cls,
      r.serial, 0⟩) (t : State) (ht : t = s.spoilTicket l r reason) :
    t.findPack p.number =
      some { p.remark r.serial .unused .spoiled with references := p.references + 1 } ∧
    s.otherPacks t p.number ∧
    t.journal = s.journal ++ [⟨r.window, (s.entriesOf r.window).length + 1,
      ⟨.spoil, p.cls, r.serial, p.number, 0, none, r.quantity, r.form, r.slot⟩, s.stamp, false⟩] ∧
    (t.session r.window).spoiledCount = (s.session r.window).spoiledCount + 1 ∧
    (t.session r.window).issued = (s.session r.window).issued ∧ s.otherSessions t r.window ∧
    (j.attempts + 1 < 3 → t.slot r.window r.slot = ⟨true, some { j with
      state := afterSpoil reason (j.attempts + 1), lane := none, attempts := j.attempts + 1,
      reserved := j.reserved - 1, latest := some o }⟩) ∧
    (3 ≤ j.attempts + 1 → t.slot r.window r.slot = ⟨true, some { j with
      state := .failed, lane := none, deadline := none, attempts := j.attempts + 1, reserved := 0,
      latest := some o }⟩) ∧
    s.otherSlots t r.window r.slot ∧
    outcomeNotice r.slot o ∈ (t.port (.window r.window)).queue := by
  obtain ⟨pack, numbered⟩ := State.mountedPack_eq mounted
  obtain ⟨u, hu⟩ : ∃ u, u = (s.changeMark (s.mountedClass l) r.serial .spoiled).writeJobEntry r.window
    r.slot (r.spoilEntry (s.mountedClass l) ((s.lane l).pack.getD 0)) := ⟨_, rfl⟩
  obtain ⟨v, hv⟩ : ∃ v, v = u.spoilJob r.window r.slot reason (s.mountedClass l) r.serial := ⟨_, rfl⟩
  have step : t = v.moveLane l fun x => x.endTicket .notPositioned := by
    rw [ht, hv, hu]
    rfl
  rw [State.mountedClass_of_mounted mounted] at hv
  have entry : r.spoilEntry (s.mountedClass l) ((s.lane l).pack.getD 0) =
      ⟨.spoil, p.cls, r.serial, p.number, 0, none, r.quantity, r.form, r.slot⟩ := by
    rw [pack, State.mountedClass_of_mounted mounted]
    rfl
  rw [entry] at hu
  obtain ⟨now, others, journal, -, session, sessions, slot, slots, -⟩ :=
    State.ticketEntry_leaves mounted found held rfl rfl u hu
  have jobU : u.job r.window r.slot = some { j with reserved := j.reserved - 1 } :=
    congrArg Slot.job (slot j job)
  obtain ⟨again, last, slots', ⟨x, session'⟩, sessions', journal', -, notice⟩ :=
    State.spoilJob_leaves jobU reason p.cls r.serial o ho v hv
  have frame := hv ▸ u.spoilJob_frame r.window r.slot reason p.cls r.serial
  have moved : v.changesOnly t [.lanes, .queues] := step ▸ v.moveLane_frame l _
  have packs : ∀ m, t.findPack m = u.findPack m := fun m =>
    (moved.findPack m).trans (frame.findPack m)
  refine ⟨(packs _).trans now, fun m other => (packs m).trans (others m other), ?_, ?_, ?_,
    fun v other => ?_, fun few => (moved.slot _ _).trans (again few), fun many => (moved.slot _ _).trans
    (last many), fun v i other => ?_, ?_⟩
  · rw [(moved .journal (by decide)).1, journal', journal]
  · rw [moved.session, session', session]
    rfl
  · rw [moved.session, session', session]
    rfl
  · rw [moved.session, sessions' v other, sessions v other]
  · rw [moved.slot, slots' v i other, slots v i other]
  · rw [step]
    exact State.moveLane_outcomesWait v l _ _ _ _ notice

theorem Run.outcomesTold (h : Run l s t) : s.outcomesTold t := by
  induction h with
  | refl => exact s.outcomesTold_refl
  | tail _ move ih => exact ih.andThen move.outcomesTold

/-- An outcome's notice waits through what follows it. -/
theorem Run.keeps_outcome (h : Run l s t) {w : Window} {k : SlotId} {x : Job}
    (slots : t.slots = s.slots) (job : s.job w k = some x) (latest : x.latest = some o)
    (waits : outcomeNotice k o ∈ (s.port (.window w)).queue) :
    outcomeNotice k o ∈ (t.port (.window w)).queue := by
  have before : s.latest w k = some o := by
    unfold State.latest
    rw [job]
    exact latest
  have now : t.latest w k = some o := by
    unfold State.latest State.job State.slot at before ⊢
    rw [slots]
    exact before
  exact (h.outcomesTold w k o now).1 before waits

/-! ## What follows a ticket (04 R84) -/

/-- A lane without a ticket and without a blank under its head. -/
structure Lane.bare (x y : Lane) : Prop where
  inflight : x.inflight = y.inflight
  job : x.job = y.job
  composer : x.composer = y.composer
  head : x.head = .notPositioned
  advances : x.advances = 0 ∨ x.advances = y.advances

/-- A feed attempt with no blank to advance. -/
theorem State.feedAttempt_keeps (idle : (s.lane l).inflight = none)
    (head : (s.lane l).head = .notPositioned) :
    ∃ x, s.laneTo (s.feedAttempt l) l x [.lanes, .queues, .faults] ∧ x.bare (s.lane l) ∧
      (x.state = (s.lane l).state ∨ x.state = .holding ∨ x.state = .faulted) ∧
      (s.remaining l = 0 ∨ s.powerFail = true ∨ (s.lane l).stockPin = true →
        (s.feedAttempt l).faults = s.faults) := by
  have first : s.advanceHead l = s := State.advanceHead_of_not_verified fun n h => by
    rw [head] at h
    cases h
  rw [State.feedAttempt_eq, first]
  by_cases out : s.stockOut l = true
  · rw [if_pos out]
    have faults : (s.stockOutEnd l).faults = s.faults := ((s.stockOutEnd_frame l) .faults (by decide)).1
    have moved := s.moveLane_to l fun x => if s.isLocked l then x.lockedIn
      else { x.heldFor ⟨x.holdAfter, true⟩ with head := .notPositioned }
    refine ⟨_, State.laneTo.mono moved, ?_, ?_, fun _ => faults⟩
    · split
      · exact ⟨rfl, rfl, rfl, head, .inl rfl⟩
      · exact ⟨rfl, rfl, rfl, rfl, .inl rfl⟩
    · split
      · exact .inr (.inr rfl)
      · exact .inr (.inl rfl)
  rw [if_neg out]
  by_cases warning : s.powerFail = true
  · rw [if_pos warning]
    have put := s.deferFeed_to l
    exact ⟨_, put.mono, ⟨rfl, rfl, rfl, head, .inr rfl⟩, .inl rfl,
      fun _ => (put.frame .faults (by decide)).1⟩
  rw [if_neg warning]
  by_cases present : (s.lane l).stockPin = true ∨ s.remaining l = 0
  · have put := State.issueFeed_to present
    exact ⟨_, put.mono, ⟨rfl, rfl, rfl, rfl, .inr rfl⟩, .inl rfl,
      fun _ => (put.frame .faults (by decide)).1⟩
  · rw [not_or, Bool.not_eq_true] at present
    have put := State.issueFeed_absent_to present.1 (Nat.pos_of_ne_zero present.2) idle
    refine ⟨_, put.1, ⟨rfl, rfl, rfl, head, .inl rfl⟩, .inr (.inr rfl), fun quiet => ?_⟩
    rcases quiet with h | h | h
    · exact absurd h present.2
    · exact absurd h warning
    · rw [present.1] at h
      cases h

/-- What follows a ticket leaves its lane without one (04 R84). -/
theorem State.afterTicket_keeps (idle : (s.lane l).inflight = none)
    (head : (s.lane l).head = .notPositioned) :
    ∃ x, s.laneTo (s.afterTicket l) l x [.lanes, .queues, .faults] ∧ x.bare (s.lane l) ∧
      (x.state = .feeding ∨ x.state = .holding ∨ x.state = .faulted) ∧
      ((s.lane l).holdAfter = true ∨ s.remaining l = 0 ∨ s.powerFail = true ∨
        (s.lane l).stockPin = true → (s.afterTicket l).faults = s.faults) := by
  unfold State.afterTicket
  by_cases hold : (s.lane l).holdAfter = true
  · rw [if_pos hold]
    have moved := s.moveLane_to l fun x => if s.isLocked l then x.lockedIn
      else x.heldFor ⟨true, s.remaining l == 0⟩
    have faults : (s.enterHolding l ⟨true, s.remaining l == 0⟩).faults = s.faults :=
      ((s.enterHolding_frame l _) .faults (by decide)).1
    refine ⟨_, State.laneTo.mono moved, ?_, ?_, fun _ => faults⟩
    · split <;> exact ⟨rfl, rfl, rfl, head, .inl rfl⟩
    · split
      · exact .inr (.inr rfl)
      · exact .inr (.inl rfl)
  rw [if_neg hold]
  by_cases out : s.remaining l = 0
  · rw [if_pos out]
    have moved := s.moveLane_to l fun x => if s.isLocked l then x.lockedIn
      else { x.heldFor ⟨x.holdAfter, true⟩ with head := .notPositioned }
    have faults : (s.stockOutEnd l).faults = s.faults := ((s.stockOutEnd_frame l) .faults (by decide)).1
    refine ⟨_, State.laneTo.mono moved, ?_, ?_, fun _ => faults⟩
    · split
      · exact ⟨rfl, rfl, rfl, head, .inl rfl⟩
      · exact ⟨rfl, rfl, rfl, rfl, .inl rfl⟩
    · split
      · exact .inr (.inr rfl)
      · exact .inr (.inl rfl)
  rw [if_neg out]
  obtain ⟨u, hu⟩ : ∃ u, u = s.moveLane l fun x => { x with state := .feeding } := ⟨_, rfl⟩
  have feeding := s.moveLane_to l fun x => { x with state := .feeding }
  rw [← hu] at feeding ⊢
  obtain ⟨x, put, bare, states, quiet⟩ := State.feedAttempt_keeps (s := u) (l := l)
    (by rw [feeding.self]; exact idle) (by rw [feeding.self]; exact head)
  rw [feeding.self] at bare states quiet
  refine ⟨x, feeding.andThen put, ⟨bare.inflight, bare.job, bare.composer, bare.head, bare.advances⟩, states, fun h => ?_⟩
  have same : u.faults = s.faults := (feeding.frame .faults (by decide)).1
  refine (quiet ?_).trans same
  rcases h with h | h | h | h
  · exact absurd h hold
  · exact absurd h out
  · exact .inr (.inl ((feeding.frame .powerFail (by decide)).trans h))
  · exact .inr (.inr h)

end

end Sys2Proof.Machine
end

section
/-! SUPPORT. A lane's fault with its ticket spoiled (10 R180), and the cut's completion (04 R81 to R84). -/

-- One proof at a time: the check's memory limit holds few threads.
set_option Elab.async false

namespace Sys2Proof.Machine

section
variable {s t : State} {l : LaneId} {p : Pack} {r : InFlight} {j : Job} {o : SlotOutcome}

/-- A fault that spoils a ticket (10 R180). -/
theorem State.laneFault_spoils (inflight : (s.lane l).inflight = some r) (begun : r.begun = true)
    (mounted : s.mounted l = some p) (found : s.packOf p.cls r.serial = some p)
    (held : p.markOf r.serial = some .unused) (job : s.job r.window r.slot = some j)
    (ho : o = ⟨if 3 ≤ j.attempts + 1 then .failed else .spoiled, .mechanical, j.attempts + 1, p.cls,
      r.serial, 0⟩) (k : FaultKind) (c : FaultContext) (t : State) (ht : t = s.laneFault l k c) :
    t.findPack p.number =
      some { p.remark r.serial .unused .spoiled with references := p.references + 1 } ∧
    s.otherPacks t p.number ∧
    t.journal = s.journal ++ [⟨r.window, (s.entriesOf r.window).length + 1,
      ⟨.spoil, p.cls, r.serial, p.number, 0, none, r.quantity, r.form, r.slot⟩, s.stamp, false⟩] ∧
    s.otherSessions t r.window ∧
    (t.job r.window r.slot).map Job.attempts = some (j.attempts + 1) ∧
    (t.job r.window r.slot).map Job.state = some (if 3 ≤ j.attempts + 1 then .failed else .queued) ∧
    s.otherSlots t r.window r.slot ∧
    outcomeNotice r.slot o ∈ (t.port (.window r.window)).queue := by
  obtain ⟨u, hu⟩ : ∃ u, u = s.moveLane l Lane.stopped := ⟨_, rfl⟩
  have stopped := s.moveLane_to l Lane.stopped
  rw [← hu] at stopped
  have frame := stopped.frame
  have under : u.mounted l = some p := (State.mountedPack_stays stopped rfl).trans mounted
  obtain ⟨v, hv⟩ : ∃ v, v = u.spoilTicket l r .mechanical := ⟨_, rfl⟩
  have settles : u.settle l = v :=
    (u.settle_of_begun l (by rw [stopped.self]; exact inflight) begun).trans hv.symm
  obtain ⟨now, others, journal, -, -, sessions, again, last, slots, notice⟩ :=
    State.spoilTicket_leaves under
      ((State.packOf_congr (frame .packs (by decide)) _ _).trans found) held
      ((frame.job _ _).trans job) .mechanical ho v hv
  have step : t = (v.raiseLane l k c).moveLane l Lane.lockedIn := by
    rw [ht, ← settles, hu]
    rfl
  have rest : v.changesOnly t [.faults, .queues, .lanes] := by
    rw [step]
    exact State.changesOnly_then (v.raiseLane_frame l k c) (State.moveLane_frame _ l _)
  have same : u.journal = s.journal := (frame .journal (by decide)).1
  have stamp : u.stamp = s.stamp := by
    unfold State.stamp State.clockStamp
    rw [show u.runTime = s.runTime from frame .runTime (by decide),
      show u.clock = s.clock from frame .clock (by decide)]
  have slot : ∃ x, t.slot r.window r.slot = ⟨true, some x⟩ ∧ x.attempts = j.attempts + 1 ∧
      x.state = if 3 ≤ j.attempts + 1 then .failed else .queued := by
    by_cases many : 3 ≤ j.attempts + 1
    · exact ⟨_, (rest.slot _ _).trans (last many), rfl, (if_pos many).symm⟩
    · refine ⟨_, (rest.slot _ _).trans (again (by omega)), rfl, ?_⟩
      rw [if_neg many]
      exact if_neg many
  obtain ⟨x, slot, attempts, state⟩ := slot
  have here : t.job r.window r.slot = some x := congrArg Slot.job slot
  refine ⟨(rest.findPack _).trans now, fun m other => ?_, ?_, fun w other => ?_, ?_, ?_,
    fun w i other => ?_, ?_⟩
  · rw [rest.findPack, others m other, frame.findPack]
  · rw [(rest .journal (by decide)).1, journal, State.entriesOf, same, stamp]
    rfl
  · rw [rest.session, sessions w other, frame.session]
  · rw [here, Option.map_some, attempts]
  · rw [here, Option.map_some, state]
  · rw [rest.slot, slots w i other, frame.slot]
  · rw [step]
    exact State.moveLane_outcomesWait _ l _ _ _ _ (State.raiseLane_outcomesWait v l k c _ _ _ notice)

end

/-- Settles O36: the placing by the cases of `State.raiseLane`, the timeouts by `State.laneFault_to` and
`State.laneFault_spoils`. -/
theorem timeoutsRaiseTheirFaults : Obligations.TimeoutsRaiseTheirFaults := by
  unfold Obligations.TimeoutsRaiseTheirFaults
  refine ⟨fun s t l k c a holds ha ht => ?_, fun s l running => ?_⟩
  · subst ha ht
    obtain ⟨ok, low, high⟩ := s.faultsHold_iff.1 holds
    refine ⟨fun r mem kind only => State.raiseLane_again mem kind only,
      fun r mem two fresh second only => State.raiseLane_folded mem two fresh second only,
      fun primary shape => ?_⟩
    have added := State.raiseLane_added (c := c) primary shape
    obtain ⟨rest, n, i, list, short, full, few, number, fresh, passed, next⟩ :=
      reportAdded_placed ok low high s.stamp l k primary c
    exact ⟨rest, n, i, (congrArg Prod.fst added).trans list, short, full, few, number, fresh, passed,
      (congrArg Prod.snd added).trans next⟩
  · refine ⟨exec_notAwaiting running rfl, exec_notAwaiting running rfl, exec_notAwaiting running rfl,
      exec_notAwaiting running rfl, fun awaited idle => ?_, fun c kind line r p j event inflight begun
      mounted found held job => ?_⟩
    · obtain ⟨moved, raised⟩ := State.laneFault_to (s := s) (l := l) .feedJam (s.stockContext l) idle
      exact ⟨_, exec_whenAwaiting running rfl awaited, moved.self, moved.others,
        State.shows_of_raised raised, State.context_of_raised raised, raised, moved.frame⟩
    · have run : exec c s = .next (s.laneFault l kind (s.ticketContext l line)) := by
        rcases event with ⟨rfl, rfl, awaited, rfl⟩ | ⟨rfl, rfl, awaited, rfl⟩
        · exact exec_whenAwaiting (f := fun t => t.laneFault l .headStall
            (t.ticketContext l (some (t.lane l).line))) running rfl awaited
        · exact exec_whenAwaiting (f := fun t => t.laneFault l .cutJam (t.ticketContext l none))
            running rfl awaited
      obtain ⟨x, hx⟩ : ∃ x : FaultContext, x =
          { pack := (s.lane l).pack, serial := some r.serial, job := (s.lane l).job, line := line } :=
        ⟨_, rfl⟩
      have context : s.ticketContext l line = x := by
        rw [State.ticketContext, inflight, hx]
        rfl
      obtain ⟨t, ht⟩ : ∃ t, t = s.laneFault l kind x := ⟨_, rfl⟩
      rw [context, ← ht] at run
      obtain ⟨now, others, journal, sessions, attempts, state, slots, notice⟩ :=
        State.laneFault_spoils inflight begun mounted found held job rfl kind _ t ht
      have raised := s.laneFault_faults l kind x
      have told := s.laneFault_told l kind x
      rw [← ht] at raised told
      rw [← hx]
      rw [Lane.settled_of_some (x := (s.lane l).stopped) inflight, begun] at told
      have self := told.self
      have mark : Pack.markOf { p.remark r.serial .unused .spoiled with
          references := p.references + 1 } r.serial = some .spoiled :=
        (Pack.remark_unused held (by decide)).1
      exact ⟨t, _, run, congrArg Lane.state self, congrArg Lane.awaiting self,
        congrArg Lane.head self, congrArg Lane.inflight self, congrArg Lane.job self,
        by
          rw [show (t.lane l).composer = .idle from congrArg Lane.composer self]
          exact ⟨rfl, rfl, rfl, rfl, rfl⟩,
        congrArg (fun x => x.composer.lostLine) self,
        congrArg Lane.holdAfter self, congrArg Lane.advances self, now, mark, journal, attempts, state,
        notice, State.shows_of_raised raised, State.context_of_raised raised, raised, told.others,
        others, sessions, slots, State.changesOnly_mono told.frame⟩

/-! ## The cut's completion (04 R81 to R84) -/

section
variable {s t : State} {l : LaneId} {p : Pack} {r : InFlight} {j : Job} {o : SlotOutcome}

/-- The cut is no longer awaited. -/
theorem State.stopCut_to (s : State) (l : LaneId) :
    s.laneTo (s.moveLane l fun x => { x with awaiting := none }) l { s.lane l with awaiting := none }
      [.lanes] := s.stopRead_to l

theorem State.cutCompletion_eq (inflight : (s.lane l).inflight = some r) (u : State)
    (hu : u = s.moveLane l fun x => { x with awaiting := none }) : s.cutCompletion l =
    (if (s.lane l).composer.lostLine then u.spoilTicket l r .lostLine
      else u.issueTicket l r).afterTicket l := by
  unfold State.cutCompletion
  rw [inflight, ← hu]

theorem State.issueTicket_told (s : State) (l : LaneId) (r : InFlight) :
    s.toldTo (s.issueTicket l r) l ((s.lane l).endTicket .notPositioned)
      [.lanes, .queues, .packs, .census, .slots, .sessions, .journal, .forms] := by
  obtain ⟨u, hu⟩ : ∃ u, u = (s.changeMark (s.mountedClass l) r.serial .issued).writeJobEntry r.window
    r.slot (r.issueEntry (s.mountedClass l) ((s.lane l).pack.getD 0)) := ⟨_, rfl⟩
  have written : s.changesOnly u [.queues, .packs, .census, .slots, .sessions, .journal] :=
    hu ▸ State.changesOnly_then (s.changeMark_frame _ _ _) (State.writeJobEntry_frame _ _ _ _)
  obtain ⟨v, hv⟩ : ∃ v, v = u.endJob r.window r.slot .done ⟨.done, .none,
    s.attemptsOf r.window r.slot, s.mountedClass l, r.serial, r.value⟩ := ⟨_, rfl⟩
  have job : u.changesOnly v [.queues, .slots, .sessions, .journal, .forms, .lanes] :=
    hv ▸ State.changesOnly_mono (State.endJob_frame u _ _ _ _)
  have told : u.lanesClaimed v := hv ▸ u.endJob_claimed _ _ _ _
  have step : s.issueTicket l r = v.moveLane l fun x => x.endTicket .notPositioned := by
    rw [hv, hu]
    rfl
  rw [step]
  have before := written.claimed.andThen (written .powerFail (by decide)) told
  have frame := State.changesOnly_then (c := [.lanes, .queues, .packs, .census, .slots, .sessions,
    .journal, .forms]) written job
  exact State.toldTo.map (f := fun x => x.endTicket .notPositioned) (before.told frame)
    (v.moveLane_to l _).told fun _ => rfl

/-- A ticket issued leaves its blank, its entry, its session and its job so (04 R82). -/
theorem State.issueTicket_leaves (mounted : s.mounted l = some p)
    (found : s.packOf p.cls r.serial = some p) (held : p.markOf r.serial = some .unused)
    (job : s.job r.window r.slot = some j)
    (ho : o = ⟨.done, .none, j.attempts, p.cls, r.serial, r.value⟩) (t : State)
    (ht : t = s.issueTicket l r) :
    t.findPack p.number =
      some { p.remark r.serial .unused .issued with references := p.references + 1 } ∧
    s.otherPacks t p.number ∧
    t.journal = s.journal ++ [⟨r.window, (s.entriesOf r.window).length + 1,
      ⟨.issue, p.cls, r.serial, p.number, r.value, some r.tender, r.quantity, r.form, r.slot⟩,
      s.stamp, false⟩] ∧
    t.journalInUse = s.journalInUse + 1 ∧
    t.session r.window = { s.session r.window with
      issued := (s.session r.window).issued.set r.tender
        (min ((s.session r.window).issued.get r.tender + r.value) 2147483647)
      issuedCount := (s.session r.window).issuedCount + 1
      saturated := (s.session r.window).saturated ||
        decide (2147483647 < (s.session r.window).issued.get r.tender + r.value)
      reserved := (s.session r.window).reserved - 1 - (j.reserved - 1) } ∧
    s.otherSessions t r.window ∧
    t.slot r.window r.slot = ⟨true, some { j with
      state := .done, lane := none, deadline := none, reserved := 0, latest := some o }⟩ ∧
    s.otherSlots t r.window r.slot ∧
    outcomeNotice r.slot o ∈ (t.port (.window r.window)).queue := by
  obtain ⟨pack, numbered⟩ := State.mountedPack_eq mounted
  obtain ⟨u, hu⟩ : ∃ u, u = (s.changeMark (s.mountedClass l) r.serial .issued).writeJobEntry r.window
    r.slot (r.issueEntry (s.mountedClass l) ((s.lane l).pack.getD 0)) := ⟨_, rfl⟩
  have outcome : (⟨.done, .none, s.attemptsOf r.window r.slot, s.mountedClass l, r.serial, r.value⟩ :
      SlotOutcome) = o := by
    rw [ho, State.mountedClass_of_mounted mounted, State.attemptsOf, job]
    rfl
  obtain ⟨v, hv⟩ : ∃ v, v = u.endJob r.window r.slot .done o := ⟨_, rfl⟩
  have step : t = v.moveLane l fun x => x.endTicket .notPositioned := by
    rw [ht, hv, hu, ← outcome]
    rfl
  have entry : r.issueEntry (s.mountedClass l) ((s.lane l).pack.getD 0) =
      ⟨.issue, p.cls, r.serial, p.number, r.value, some r.tender, r.quantity, r.form, r.slot⟩ := by
    rw [pack, State.mountedClass_of_mounted mounted]
    rfl
  rw [entry] at hu
  obtain ⟨now, others, journal, inUse, session, sessions, slot, slots, -⟩ :=
    State.ticketEntry_leaves mounted found held rfl rfl u hu
  obtain ⟨slot', slots', session', sessions', -, journal', inUse', queue, -, -⟩ :=
    State.endJob_leaves (congrArg Slot.job (slot j job)) .done o v hv
  have frame := hv ▸ u.endJob_frame r.window r.slot .done o
  have moved : v.changesOnly t [.lanes, .queues] := step ▸ v.moveLane_frame l _
  have packs : ∀ m, t.findPack m = u.findPack m := fun m =>
    (moved.findPack m).trans (frame.findPack m)
  refine ⟨(packs _).trans now, fun m other => (packs m).trans (others m other), ?_, ?_, ?_,
    fun v other => ?_, (moved.slot _ _).trans slot', fun v i other => ?_, ?_⟩
  · rw [(moved .journal (by decide)).1, journal', journal]
  · rw [(moved .journal (by decide)).2.1, inUse', inUse]
  · rw [moved.session, session', session]
    rfl
  · rw [moved.session, sessions' v other, sessions v other]
  · rw [moved.slot, slots' v i other, slots v i other]
  · rw [step]
    refine State.moveLane_outcomesWait v l _ _ _ _ ?_
    rw [queue r.window, if_pos rfl]
    exact mem_coalesce_self _ (outcomeNotice r.slot o)

end

end Sys2Proof.Machine
end

section
/-! SUPPORT. The lane after its ticket's end (04 R84), for a ticket spoiled and for one issued. -/

-- One proof at a time: the check's memory limit holds few threads.
set_option Elab.async false

namespace Sys2Proof.Machine

section
variable {s u : State} {l : LaneId} {p : Pack} {n : Nat}

/-- A lane that is to hold after its ticket (04 R84). -/
theorem State.afterTicket_holds (hold : (s.lane l).holdAfter = true) (free : s.isLocked l = false) :
    s.laneTo (s.afterTicket l) l ((s.lane l).heldFor ⟨true, s.remaining l == 0⟩) [.lanes, .queues] := by
  unfold State.afterTicket
  rw [if_pos hold]
  exact State.enterHolding_to _ free

/-- A lane whose last blank has gone (04 R84, R78). -/
theorem State.afterTicket_out (on : (s.lane l).holdAfter = false) (out : s.remaining l = 0)
    (free : s.isLocked l = false) : s.laneTo (s.afterTicket l) l
      { (s.lane l).heldFor ⟨(s.lane l).holdAfter, true⟩ with head := .notPositioned }
      [.lanes, .queues] := by
  unfold State.afterTicket
  rw [on, if_neg (by decide), if_pos out]
  exact on ▸ State.stockOutEnd_to free

/-- A lane with stock left feeds its next blank (04 R84, R75). -/
theorem State.afterTicket_feeds (on : (s.lane l).holdAfter = false)
    (head : (s.lane l).head = .notPositioned) (idle : (s.lane l).inflight = none)
    (stock : 0 < s.remaining l) (next : s.expected l = some n) :
    (s.powerFail = false → (s.lane l).stockPin = true → s.laneTo (s.afterTicket l) l
      { s.lane l with
        state := .feeding, head := .notPositioned, awaiting := some .feed, deferred := none }
      [.lanes, .queues]) ∧
    (s.powerFail = true → s.laneTo (s.afterTicket l) l
      { s.lane l with state := .feeding, deferred := some .feed } [.lanes, .queues]) ∧
    (s.powerFail = false → (s.lane l).stockPin = false →
      s.laneTo (s.afterTicket l) l (s.lane l).stopped.lockedIn [.lanes, .queues, .faults] ∧
      (s.afterTicket l).faults = (s.raiseLane l .stockDiscrepancy
        { reason := some .stockAbsent, pack := (s.lane l).pack, expected := some n }).faults) := by
  obtain ⟨u, hu⟩ : ∃ u, u = s.moveLane l fun x => { x with state := .feeding } := ⟨_, rfl⟩
  have feeding := s.moveLane_to l fun x => { x with state := .feeding }
  rw [← hu] at feeding
  have step : s.afterTicket l = u.feedAttempt l := by
    unfold State.afterTicket
    rw [on, if_neg (by decide), if_neg (by omega), hu]
  have first : u.advanceHead l = u := State.advanceHead_of_not_verified fun m h => by
    rw [feeding.self] at h
    rw [show (s.lane l).head = .verified m from h] at head
    cases head
  have under : u.mounted l = s.mounted l := State.mountedPack_stays feeding rfl
  obtain ⟨issued, deferred, absent⟩ := State.feedAttempt_to first.symm
    (by rw [State.remaining_congr under]; exact stock)
    ((State.expected_congr under (by rw [feeding.self])).trans next)
  rw [← step, feeding.self, show u.powerFail = s.powerFail from feeding.frame .powerFail (by decide)]
    at issued deferred absent
  refine ⟨fun h pin => feeding.andThen (issued h pin), fun h => feeding.andThen (deferred h),
    fun h pin => ?_⟩
  obtain ⟨put, raised⟩ := absent h pin idle
  exact ⟨feeding.andThen put, raised.trans (feeding.frame.raiseLane l _ _)⟩

end

/-- Settles O33: the ticket's end by `State.spoilTicket_leaves`, and its lane after it by
`State.afterTicket_keeps`. -/
theorem lostLineSpoilsTheTicket : Obligations.LostLineSpoilsTheTicket := by
  unfold Obligations.LostLineSpoilsTheTicket
  intro s l r p j o running awaited inflight lost mounted found held job ho
  obtain ⟨u, hu⟩ : ∃ u, u = s.moveLane l fun x => { x with awaiting := none } := ⟨_, rfl⟩
  have stopped := s.stopCut_to l
  rw [← hu] at stopped
  have frame := stopped.frame
  have under : u.mounted l = some p := (State.mountedPack_stays stopped rfl).trans mounted
  obtain ⟨v, hv⟩ : ∃ v, v = u.spoilTicket l r .lostLine := ⟨_, rfl⟩
  have told := u.spoilTicket_told l r .lostLine
  rw [← hv, stopped.self] at told
  obtain ⟨now, others, journal, spoiled, issued, sessions, again, last, slots, notice⟩ :=
    State.spoilTicket_leaves under ((State.packOf_congr (frame .packs (by decide)) _ _).trans found)
      held ((frame.job _ _).trans job) .lostLine ho v hv
  obtain ⟨x, put, bare, -, -⟩ := State.afterTicket_keeps (s := v) (l := l)
    (told.field Lane.inflight) (told.field Lane.head)
  obtain ⟨t, ht⟩ : ∃ t, t = v.afterTicket l := ⟨_, rfl⟩
  have run : exec (.cutDone l) s = .next t := by
    rw [ht, hv]
    refine (exec_whenAwaiting running rfl awaited).trans (congrArg Host.Outcome.next ?_)
    rw [State.cutCompletion_eq inflight u hu, lost, if_pos rfl]
  rw [← ht] at put
  have whole := (stopped.told.andThen told (c := [.lanes, .queues, .packs, .census, .slots, .sessions,
    .journal, .forms])).andThen put.told (c := [.lanes, .queues, .packs, .census, .sessions, .journal,
    .slots, .forms, .faults])
  have same : u.journal = s.journal := (frame .journal (by decide)).1
  have stamp : u.stamp = s.stamp := by
    unfold State.stamp State.clockStamp
    rw [show u.runTime = s.runTime from frame .runTime (by decide),
      show u.clock = s.clock from frame .clock (by decide)]
  have slot : ∃ y, t.slot r.window r.slot = ⟨true, some y⟩ ∧ y.latest = some o := by
    by_cases many : 3 ≤ j.attempts + 1
    · exact ⟨_, (put.frame.slot _ _).trans (last many), rfl⟩
    · exact ⟨_, (put.frame.slot _ _).trans (again (by omega)), rfl⟩
  obtain ⟨y, at_, latest⟩ := slot
  have mark : Pack.markOf { p.remark r.serial .unused .spoiled with
      references := p.references + 1 } r.serial = some .spoiled :=
    (Pack.remark_unused held (by decide)).1
  refine ⟨t, _, run, (put.frame.findPack _).trans now, mark, rfl, rfl, ?_, ?_, ?_, fun few => ?_,
    fun many => (put.frame.slot _ _).trans (last many), ?_, whole.others, fun m other => ?_, whole.frame,
    fun w other => ?_, fun w i other => ?_, ?_, ?_, ?_, ?_⟩
  · rw [(put.frame .journal (by decide)).1, journal, State.entriesOf, same, stamp]
    rfl
  · rw [put.frame.session, spoiled, frame.session]
  · rw [put.frame.session, issued, frame.session]
  · refine (put.frame.slot _ _).trans ((again few).trans ?_)
    rw [afterSpoil, if_neg (by omega), if_pos rfl]
  · exact (ht ▸ Run.afterTicket v l : Run l v t).keeps_outcome (put.frame .slots (by decide))
      ((put.frame.job _ _).symm.trans (congrArg Slot.job at_)) latest notice
  · rw [put.frame.findPack, others m other, frame.findPack]
  · rw [put.frame.session, sessions w other, frame.session]
  · rw [put.frame.slot, slots w i other, frame.slot]
  · rw [put.self, bare.inflight]
    exact told.field Lane.inflight
  · rw [put.self, bare.job]
    exact told.field Lane.job
  · rw [put.self, bare.composer, show (v.lane l).composer = .idle from told.field Lane.composer]
    exact ⟨rfl, rfl, rfl, rfl, rfl⟩
  · rw [put.self, bare.head]

/-- Settles O32: the ticket's end by `State.issueTicket_leaves`, and its lane after it by
`State.afterTicket_holds`, `State.afterTicket_out` and `State.afterTicket_feeds`. -/
theorem cutDoneIssuesTheTicket : Obligations.CutDoneIssuesTheTicket := by
  unfold Obligations.CutDoneIssuesTheTicket
  intro s l r p j o running cutting awaited inflight whole_ mounted found held job free ho
  obtain ⟨u, hu⟩ : ∃ u, u = s.moveLane l fun x => { x with awaiting := none } := ⟨_, rfl⟩
  have stopped := s.stopCut_to l
  rw [← hu] at stopped
  have frame := stopped.frame
  have under : u.mounted l = some p := (State.mountedPack_stays stopped rfl).trans mounted
  obtain ⟨v, hv⟩ : ∃ v, v = u.issueTicket l r := ⟨_, rfl⟩
  have told := u.issueTicket_told l r
  rw [← hv, stopped.self] at told
  obtain ⟨now, others, journal, inUse, session, sessions, slot, slots, notice⟩ :=
    State.issueTicket_leaves under ((State.packOf_congr (frame .packs (by decide)) _ _).trans found)
      held ((frame.job _ _).trans job) ho v hv
  have idle : (v.lane l).inflight = none := told.field Lane.inflight
  have head : (v.lane l).head = .notPositioned := told.field Lane.head
  have gone : (v.lane l).awaiting = none := told.field Lane.awaiting
  have hold : (v.lane l).holdAfter = (s.lane l).holdAfter := told.field Lane.holdAfter
  have pin : (v.lane l).stockPin = (s.lane l).stockPin := told.field Lane.stockPin
  have position : (v.lane l).position = (s.lane l).position := told.field Lane.position
  have pack : (v.lane l).pack = some p.number :=
    Eq.trans (told.field Lane.pack) (State.mountedPack_eq mounted).1
  have mountedV : v.mounted l = some
      { p.remark r.serial .unused .issued with references := p.references + 1 } :=
    State.mounted_eq_some_iff.2 ⟨p.number, pack, now⟩
  obtain ⟨mark, marks, count⟩ := Pack.remark_unused held (new := .issued) (by decide)
  have remaining : v.remaining l = p.counters.unused - 1 :=
    (State.remaining_of_mounted mountedV).trans count
  have before := stopped.told.andThen told (c := [.lanes, .queues, .packs, .census, .slots, .sessions,
    .journal, .forms])
  have freeV : v.isLocked l = false := (before.frame.isLocked l).trans free
  have warning : v.powerFail = s.powerFail := before.frame .powerFail (by decide)
  obtain ⟨x, put, bare, states, quiet⟩ := State.afterTicket_keeps idle head
  have holds := State.afterTicket_holds (s := v) (l := l)
  have outs := State.afterTicket_out (s := v) (l := l)
  have feeds := fun n => State.afterTicket_feeds (s := v) (l := l) (n := n)
  obtain ⟨t, ht⟩ : ∃ t, t = v.afterTicket l := ⟨_, rfl⟩
  have run : exec (.cutDone l) s = .next t := by
    rw [ht, hv]
    refine (exec_whenAwaiting running rfl awaited).trans (congrArg Host.Outcome.next ?_)
    rw [State.cutCompletion_eq inflight u hu, whole_, if_neg (by decide)]
  rw [← ht] at put quiet holds outs feeds
  rw [hold, remaining, warning, pin] at quiet
  have whole := before.andThen put.told (c := [.lanes, .queues, .packs, .census, .sessions, .journal,
    .slots, .forms, .faults])
  have same : u.journal = s.journal := (frame .journal (by decide)).1
  have stamp : u.stamp = s.stamp := by
    unfold State.stamp State.clockStamp
    rw [show u.runTime = s.runTime from frame .runTime (by decide),
      show u.clock = s.clock from frame .clock (by decide)]
  have written : t.journal = s.journal ++ [⟨r.window, (s.entriesOf r.window).length + 1,
      ⟨.issue, p.cls, r.serial, p.number, r.value, some r.tender, r.quantity, r.form, r.slot⟩,
      s.stamp, false⟩] := by
    rw [(put.frame .journal (by decide)).1, journal, State.entriesOf, same, stamp]
    rfl
  have packs : t.findPack p.number =
      some { p.remark r.serial .unused .issued with references := p.references + 1 } :=
    (put.frame.findPack _).trans now
  have numbered := (State.mountedPack_eq mounted).2
  -- the blank expected next
  have expects : ∀ n, n ≠ r.serial → (s.lane l).position ≤ n → p.markOf n = some .unused →
      (∃ m, v.expected l = some m) ∧ ((∀ m, (s.lane l).position ≤ m → m < n → m ≠ r.serial →
        p.markOf m ≠ some .unused) → v.expected l = some n) := fun n ne low unused => by
    have still : ∀ m, Pack.markOf { p.remark r.serial .unused .issued with
        references := p.references + 1 } m = (p.remark r.serial .unused .issued).markOf m :=
      fun _ => rfl
    rw [State.expected_of_mounted mountedV, position]
    refine ⟨Pack.exists_lowestUnused ((still n).trans ((marks n ne).trans unused)) low, fun least => ?_⟩
    refine Pack.lowestUnused_of_first ((still n).trans ((marks n ne).trans unused)) low
      fun m from_ before' => ?_
    rw [still]
    by_cases here : m = r.serial
    · rw [here, mark]
      nofun
    · rw [marks m here]
      exact least m from_ before' here
  have moved : (t.lane l).state ≠ (s.lane l).state := by
    rw [put.self, cutting]
    rcases states with h | h | h <;> rw [h] <;> decide
  have numbers : (s.entriesOf r.window).length < (t.entriesOf r.window).length := by
    rw [State.entriesOf, State.entriesOf, written, List.filter_append, List.length_append]
    simp
  have changed : t.packs ≠ s.packs := fun h => by
    have stands := (State.findPack_congr h p.number).symm.trans packs
    rw [numbered] at stands
    have back := congrArg (Option.map fun q => q.markOf r.serial) stands
    rw [Option.map_some, Option.map_some, held] at back
    exact absurd (back.trans (congrArg some mark)) (by simp)
  refine ⟨t, _, run, packs, mark, marks, rfl, rfl, rfl, rfl, written, ?_, ?_, fun w other => ?_,
    (put.frame.slot _ _).trans slot, fun w i other => ?_,
    (ht ▸ Run.afterTicket v l : Run l v t).keeps_outcome (put.frame .slots (by decide))
      (congrArg Slot.job slot) rfl notice,
    (exec_tellsAll rfl run .journal r.window numbers).1, exec_tellsAll rfl run .packs changed,
    fun a => exec_lanesPosted rfl run l a (.inl moved), whole.others, fun m other => ?_, whole.frame,
    ?_, ?_, ?_, fun hold_ => ?_, fun on last => ?_,
    fun on more left powered stock => ?_, fun on more left powered => ?_,
    fun n on more ne low unused least powered stock => ?_, fun calm => ?_⟩
  · rw [(put.frame .journal (by decide)).2.1, inUse, (frame .journal (by decide)).2.1]
  · rw [put.frame.session, session, frame.session]
  · rw [put.frame.session, sessions w other, frame.session]
  · rw [put.frame.slot, slots w i other, frame.slot]
  · rw [put.frame.findPack, others m other, frame.findPack]
  · rw [put.self, bare.inflight, idle]
  · rw [put.self, bare.job]
    exact told.field Lane.job
  · rw [put.self, bare.composer, show (v.lane l).composer = .idle from told.field Lane.composer]
    exact ⟨rfl, rfl, rfl, rfl, rfl⟩
  · have at_ := (holds (hold.trans hold_) freeV).self
    rw [remaining] at at_
    rw [at_]
    exact ⟨rfl, rfl, rfl, gone, head⟩
  · have at_ := (outs (hold.trans on) (by rw [remaining]; omega) freeV).self
    rw [hold, on] at at_
    rw [at_]
    exact ⟨rfl, rfl, gone, rfl⟩
  · obtain ⟨n, ne, low, unused⟩ := left
    obtain ⟨⟨m, next⟩, -⟩ := expects n ne low unused
    have at_ := ((feeds m (hold.trans on) head idle (by rw [remaining]; omega) next).1
      (warning.trans powered) (pin.trans stock)).self
    rw [at_]
    exact ⟨rfl, rfl, rfl⟩
  · obtain ⟨n, ne, low, unused⟩ := left
    obtain ⟨⟨m, next⟩, -⟩ := expects n ne low unused
    have at_ := ((feeds m (hold.trans on) head idle (by rw [remaining]; omega) next).2.1
      (warning.trans powered)).self
    rw [at_]
    exact ⟨rfl, gone, rfl, head⟩
  · obtain ⟨-, first⟩ := expects n ne low unused
    obtain ⟨at_, raised⟩ := (feeds n (hold.trans on) head idle (by rw [remaining]; omega)
      (first least)).2.2 (warning.trans powered) (pin.trans stock)
    rw [at_.self]
    refine ⟨rfl, rfl, rfl, head, raised.trans ?_⟩
    rw [pack]
    exact before.frame.raiseLane l _ _
  · refine (quiet ?_).trans (before.frame .faults (by decide)).1
    rcases calm with h | h | h | h
    · exact .inl h
    · exact .inr (.inl (by omega))
    · exact .inr (.inr (.inl h))
    · exact .inr (.inr (.inr h))

end Sys2Proof.Machine
end

section
/-! SUPPORT. The reports a recovery takes, and CLEAR_LANE and ACK_FAULT (10 R182, R183, R187). -/

-- One proof at a time: the check's memory limit holds few threads.
set_option Elab.async false

namespace Sys2Proof.Machine

/-! ## Posting again -/

section
variable {s t u : State} {l : LaneId} {f : State → State}

/-- A lane's LANE_CHANGE that follows one already posted stands in its place. -/
theorem State.queuesAfter_again (first : s.queuesAfter t fun x => (f x).postLane l)
    (last : (t.queuesAfter u fun x => x.postLane l) ∨ t.queuesAfter u fun x => x) :
    s.queuesAfter u fun x => (f x).postLane l := fun q => by
  rcases last with last | last
  · rw [last q, State.postLane_queue, first q, State.postLane_queue, coalesce_coalesce]
  · rw [last q]
    exact first q

theorem State.queuesAfter_still {a : List Part} (first : s.queuesAfter t f) (rest : t.changesOnly u a)
    (out : .queues ∉ a := by decide) : s.queuesAfter u f := fun q => (rest .queues out q).trans (first q)

end

/-! ## The reports a recovery takes (10 R183, R184) -/

section
variable {s t : State} {l : LaneId} {how : HowCleared}

/-- The fault list after a recovery. -/
def State.recovered (s : State) (l : LaneId) (how : HowCleared) : List Report :=
  s.faults.map fun r =>
    if r.state = .active ∧ r.source = .lane l then
      if r.kind = .cabinetOpen then { r with primary := none, lastOther := none }
      else { r with
        state := .cleared
        how := some how
        cleared := some s.stamp
        primary := none }
    else r

theorem State.recoverReports_faults : (s.recoverReports l how).faults = s.recovered l how := by
  refine List.map_congr_left fun r _ => ?_
  unfold Report.recover
  by_cases own : r.state = .active ∧ r.source = .lane l
  · rw [if_pos own, if_pos (by simp [Report.isActive, own.1, own.2])]
    rfl
  · rw [if_neg own]
    refine if_neg fun h => own ?_
    simpa [Report.isActive] using h

/-- What a recovery leaves of the state: its reports, with their notices (10 R179). -/
theorem State.recover_to (v : State) (hv : v = (s.recoverReports l how).postReport (.lane l)) :
    s.laneTo v l (s.lane l) [.faults, .queues] ∧ v.faults = s.recovered l how ∧
      v.faultCounter = s.faultCounter ∧ v.isLocked l = false ∧
      s.queuesAfter v fun x => x.postFaults.postLane l := by
  have recovered := s.mapReports_frame fun r => r.recover l how s.stamp
  have posted := State.postReport_frame (s.recoverReports l how) (.lane l)
  have faults : v.faults = s.recovered l how := by
    rw [hv, (State.postReport_faults _ _).1, State.recoverReports_faults]
  refine ⟨?_, faults, ?_, ?_, ?_⟩
  · rw [hv]
    exact State.laneTo_of_frame (State.changesOnly_then recovered posted)
  · rw [hv, (State.postReport_faults _ _).2]
    rfl
  · rw [← Bool.not_eq_true]
    unfold State.isLocked State.activeReports
    rw [faults, List.any_eq_true]
    rintro ⟨r, hr, other⟩
    obtain ⟨mem, own⟩ := List.mem_filter.1 hr
    obtain ⟨q, -, rfl⟩ := List.mem_map.1 mem
    simp only [Bool.and_eq_true, beq_iff_eq, Report.isActive_iff, bne_iff_ne] at own other
    by_cases mine : q.state = .active ∧ q.source = .lane l
    · rw [if_pos mine] at own other
      by_cases cabinet : q.kind = .cabinetOpen
      · rw [if_pos cabinet] at other
        exact other cabinet
      · rw [if_neg cabinet] at own
        cases own.1
    · rw [if_neg mine] at own
      exact mine own
  · rw [hv]
    exact State.postReport_congr (recovered .queues (by decide)) (.lane l)

/-- A fault raised on the list a recovery leaves. -/
theorem State.raiseLane_on {left : List Report} (faults : t.faults = left)
    (counter : t.faultCounter = s.faultCounter) (stamp : t.stamp = s.stamp) (k : FaultKind)
    (c : FaultContext) :
    (t.raiseLane l k c).faults = (State.raiseLane { s with faults := left } l k c).faults := by
  rw [State.raiseLane_faults, State.raiseLane_faults, faults, counter, stamp]
  rfl

theorem State.changesOnly.stamp {a : List Part} (h : s.changesOnly t a)
    (runTime : .runTime ∉ a := by decide) (clock : .clock ∉ a := by decide) : t.stamp = s.stamp := by
  unfold State.stamp State.clockStamp
  rw [show t.runTime = s.runTime from h .runTime runTime, show t.clock = s.clock from h .clock clock]

end

/-! ## CLEAR_LANE (10 R182, R183) -/

section
variable {s : State} {l : LaneId}

theorem Report.needsPurge_iff {r : Report} : r.needsPurge = true ↔
    r.kind ∈ [FaultKind.feedJam, .cutJam, .headStall] ∨
      r.lastOther ∈ [some FaultKind.feedJam, some .cutJam, some .headStall] := by
  have kinds : ∀ k : FaultKind, k.purgeOnly = true ↔ k ∈ [FaultKind.feedJam, .cutJam, .headStall] :=
    fun k => by cases k <;> decide
  unfold Report.needsPurge
  rw [Bool.or_eq_true, kinds]
  refine or_congr_right ?_
  cases r.lastOther with
  | none => decide
  | some k =>
    rw [Option.map_some, Option.getD_some, kinds]
    simp

theorem State.clearLane_refused {n : Nat} {a : Reply} (h : (if n < 1 ∨ 4 < n then
      some (refusal .badArgument)
    else match (s.lane (Fin.ofNat 4 (n - 1))).state with
      | .purging => some (refusal .laneBusy)
      | .faulted => none
      | _ => some (refusal .notFaulted)) = some a) : s.clearLane n = (s, a) := by
  unfold State.clearLane
  by_cases range : n < 1 ∨ 4 < n
  · rw [if_pos range] at h
    cases h
    rw [laneOf_eq_none range]
  · rw [if_neg range] at h
    rw [laneOf_eq_ofNat range]
    dsimp only
    cases state : (s.lane (Fin.ofNat 4 (n - 1))).state with
    | faulted =>
      rw [state] at h
      cases h
    | _ =>
      rw [state] at h
      cases h
      rfl

/-- A lane FAULTED: a purge is needed, or its reports are cleared (10 R182, R183). -/
theorem State.clearLane_faulted (faulted : (s.lane l).state = .faulted) : s.clearLane (l.val + 1) =
    match (s.activeReports l).find? Report.needsPurge with
    | some r => (s, ⟨.purgeNeeded, .reportNumber r.number⟩)
    | none => (s.clearTaken l, accepted (.reportsCleared (s.recoverable l))) := by
  unfold State.clearLane
  rw [laneOf_val_add_one]
  dsimp only
  rw [faulted] <;> rfl

end

/-! ## ACK_FAULT (10 R187) -/

section
variable {s : State} {n : Nat} {r : Report}

theorem State.ackFault_none (none_ : ∀ r ∈ s.faults, r.number ≠ n) :
    s.ackFault n = (s, refusal .noReport) := by
  have found : (s.faults.find? fun r => r.number == n) = none :=
    List.find?_eq_none.2 fun x hx => by simpa using none_ x hx
  unfold State.ackFault
  rw [found]

/-- What an acknowledgment makes of the report found (10 R187). -/
theorem State.ackFault_eq (found : (s.faults.find? fun x => x.number == n) = some r) : s.ackFault n =
    if r.stillActive then (s, refusal .stillActive)
    else if r.state = .acknowledged then (s, accepted (.reportState .acknowledged))
    else ((s.mapReports fun q => if q.number = n then q.acknowledge s.stamp else q).postReport r.source,
      accepted (.reportState .acknowledged)) := by
  unfold State.ackFault
  rw [found]

theorem Report.stillActive_iff {r : Report} : r.stillActive = true ↔
    r.state = .active ∧ (r.source ≠ .controller ∨ r.kind = .storeLost) := by
  simp [Report.stillActive, Report.isActive]

/-- The acknowledged report, in its place. -/
theorem State.ackFault_taken (found : (s.faults.find? fun x => x.number == n) = some r)
    (free : r.state = .cleared ∨
      (r.state = .active ∧ r.source = .controller ∧ r.kind ≠ .storeLost)) :
    ∃ t, s.ackFault n = (t, accepted (.reportState .acknowledged)) ∧
      t.faults = s.faults.map (fun x => if x.number ≠ n then x else
        match x.state with
        | .active => { x with
          state := .acknowledged
          how := some .ack
          cleared := some s.stamp
          primary := none }
        | .cleared => { x with state := .acknowledged }
        | .acknowledged => x) ∧
      (s.queuesAfter t fun x => match r.source with
        | .lane l => x.postFaults.postLane l
        | .controller => x.postFaults) ∧
      s.changesOnly t [.queues, .faults] := by
  have still : ¬r.stillActive = true := by
    rw [Report.stillActive_iff]
    rintro ⟨active, other⟩
    rcases free with h | ⟨-, source, kind⟩
    · rw [h] at active
      cases active
    · exact other.elim (fun h => h source) kind
  have fresh : ¬r.state = .acknowledged := fun h => by
    rcases free with e | ⟨e, -⟩ <;> rw [e] at h <;> cases h
  have taken := State.ackFault_eq found
  rw [if_neg still, if_neg fresh] at taken
  obtain ⟨u, hu⟩ : ∃ u, u = s.mapReports fun q => if q.number = n then q.acknowledge s.stamp else q :=
    ⟨_, rfl⟩
  rw [← hu] at taken
  have mapped : s.changesOnly u [.faults] := hu ▸ s.mapReports_frame _
  refine ⟨_, taken, ?_, ?_, State.changesOnly_then mapped (State.postReport_frame u r.source)⟩
  · rw [(State.postReport_faults _ _).1, hu]
    refine List.map_congr_left fun x _ => ?_
    by_cases here : x.number = n
    · rw [if_pos here, if_neg (fun other => other here)]
      unfold Report.acknowledge
      cases x.state <;> rfl
    · rw [if_neg here, if_pos here]
  · have posts := State.postReport_congr (mapped .queues (by decide)) r.source
    intro q
    rw [posts q]
    cases r.source <;> rfl

end

end Sys2Proof.Machine
end

section
/-! SUPPORT. A lane cleared and primed (10 R183), and a lane purged (10 R184). -/

-- One proof at a time: the check's memory limit holds few threads.
set_option Elab.async false

namespace Sys2Proof.Machine

section
variable {s t u v : State} {l : LaneId} {x : Lane} {a b c : List Part}

/-- The lane's record stands through operations that write no lane. -/
theorem State.laneTo.through (h : s.laneTo t l x a) (rest : t.changesOnly u b)
    (sub : a ++ b ⊆ c := by decide) (out : .lanes ∉ b := by decide) : s.laneTo u l x c :=
  ⟨(rest.lane l out).trans h.self, fun m other => (rest.lane m out).trans (h.others m other),
    State.changesOnly_then h.frame rest sub⟩

theorem State.toldTo.through (h : s.toldTo t l x a) (rest : t.changesOnly u b)
    (sub : a ++ b ⊆ c := by decide) (out : .lanes ∉ b := by decide) : s.toldTo u l x c := by
  refine ⟨(congrArg Lane.unclaimed (rest.lane l out)).trans h.self, fun m other => ?_,
    State.changesOnly_then h.frame rest sub⟩
  rw [rest.lane m out]
  exact h.others m other

/-- The stock under a lane, as its pack and position give it. -/
theorem State.laneTo.stock (h : s.laneTo t l x a) (pack : x.pack = (s.lane l).pack)
    (position : x.position = (s.lane l).position) (out : .packs ∉ a := by decide) :
    t.mounted l = s.mounted l ∧ t.remaining l = s.remaining l ∧ t.expected l = s.expected l ∧
      t.stockOut l = s.stockOut l := by
  have mounted := State.mountedPack_stays h pack out
  have remaining := State.remaining_congr mounted
  have expected := State.expected_congr mounted (by rw [h.self, position])
  refine ⟨mounted, remaining, expected, ?_⟩
  rw [State.stockOut_eq, State.stockOut_eq, remaining, expected]

/-! ## A lane cleared (10 R183) -/

/-- A cleared lane with a blank under its head reads it. -/
theorem State.clearTaken_reads (locked : (s.lane l).cabinetPin = .locked)
    (head : (s.lane l).head ≠ .notPositioned) (stock : s.stockOut l = false)
    (faulted : (s.lane l).state = .faulted) (t : State) (ht : t = s.clearTaken l) :
    s.laneTo t l
      { s.lane l with state := .priming, causes := .empty, awaiting := some .read, failedReads := 0 }
      [.queues, .lanes, .faults] ∧
    t.faults = s.recovered l .clear ∧ s.queuesAfter t fun x => x.postFaults.postLane l := by
  obtain ⟨v, hv⟩ : ∃ v, v = (s.recoverReports l .clear).postReport (.lane l) := ⟨_, rfl⟩
  obtain ⟨lane, faults, -, -, posts⟩ := State.recover_to v hv
  obtain ⟨-, -, -, stocked⟩ := lane.stock rfl rfl
  obtain ⟨reads, again⟩ := State.startPriming_reads_to (s := v) (l := l) (by rw [lane.self]; exact locked)
    (stocked.trans stock) (by rw [lane.self]; exact head)
  have step : t = v.startPriming l := by rw [ht, hv]; rfl
  rw [← step] at reads again
  rw [lane.self] at reads again
  exact ⟨lane.andThen reads, (reads.frame .faults (by decide)).1.trans faults,
    State.queuesAfter_again posts (.inl (again (by rw [faulted]; decide)))⟩

/-- A cleared lane with no blank under its head feeds one. -/
theorem State.clearTaken_feeds (locked : (s.lane l).cabinetPin = .locked)
    (head : (s.lane l).head = .notPositioned) (idle : (s.lane l).inflight = none)
    (some_ : 0 < s.remaining l) {e : Nat} (next : s.expected l = some e) (t : State)
    (ht : t = s.clearTaken l) :
    s.otherLanes t l ∧ s.changesOnly t [.queues, .lanes, .faults] ∧
    (s.powerFail = false → (s.lane l).stockPin = true →
      t.faults = s.recovered l .clear ∧ (s.queuesAfter t fun x => x.postFaults.postLane l) ∧
      t.lane l = { s.lane l with
        state := .feeding, causes := .empty, awaiting := some .feed, deferred := none }) ∧
    (s.powerFail = true →
      t.faults = s.recovered l .clear ∧ (s.queuesAfter t fun x => x.postFaults.postLane l) ∧
      t.lane l = { s.lane l with
        state := .feeding, causes := .empty, deferred := some .feed }) ∧
    (s.powerFail = false → (s.lane l).stockPin = false →
      t.faults = (State.raiseLane { s with faults := s.recovered l .clear } l .stockDiscrepancy
        { reason := some .stockAbsent, pack := (s.lane l).pack, expected := s.expected l }).faults ∧
      t.lane l = { s.lane l with
        state := .faulted, causes := .empty, holdAfter := false, advances := 0,
        awaiting := none, deferred := none }) := by
  obtain ⟨v, hv⟩ : ∃ v, v = (s.recoverReports l .clear).postReport (.lane l) := ⟨_, rfl⟩
  obtain ⟨lane, faults, counter, -, posts⟩ := State.recover_to v hv
  obtain ⟨-, remaining, expected, stocked⟩ := lane.stock rfl rfl
  have stock : v.stockOut l = false := stocked.trans (State.stockOut_eq_false some_ next)
  obtain ⟨u, hu⟩ : ∃ u, u = v.moveLane l fun x => { x with state := .feeding, causes := .empty } :=
    ⟨_, rfl⟩
  have step : t = u.feedAttempt l := by
    rw [ht, hu, hv]
    exact State.startPriming_feeds (by rw [← hv, lane.self]; exact locked) (by rw [← hv]; exact stock)
      (by rw [← hv, lane.self]; exact head)
  have feeding := v.moveLane_to l fun x => { x with state := .feeding, causes := .empty }
  have again := v.moveLane_posts_or l fun x => { x with state := .feeding, causes := .empty }
  rw [← hu] at feeding again
  rw [lane.self] at feeding
  have upTo := lane.andThen feeding (c := [.queues, .lanes, .faults])
  obtain ⟨-, remaining', expected', -⟩ := feeding.stock (by rw [lane.self]) (by rw [lane.self])
  have bare : u.advanceHead l = u := State.advanceHead_of_not_verified fun n h => by
    rw [feeding.self] at h
    rw [show (s.lane l).head = .verified n from h] at head
    cases head
  obtain ⟨issued, deferred, absent⟩ := State.feedAttempt_to bare.symm
    (by rw [remaining', remaining]; exact some_) (expected'.trans (expected.trans next))
  rw [← step, feeding.self, show u.powerFail = s.powerFail from upTo.frame .powerFail (by decide)]
    at issued deferred absent
  have list : u.faults = s.recovered l .clear := (feeding.frame .faults (by decide)).1.trans faults
  have posted := State.queuesAfter_again posts again
  have ends : s.otherLanes t l ∧ s.changesOnly t [.queues, .lanes, .faults] := by
    cases warned : s.powerFail with
    | true =>
      have whole := upTo.andThen (deferred warned) (c := [.queues, .lanes, .faults])
      exact ⟨whole.others, whole.frame⟩
    | false =>
      cases pin : (s.lane l).stockPin with
      | true =>
        have whole := upTo.andThen (issued warned pin) (c := [.queues, .lanes, .faults])
        exact ⟨whole.others, whole.frame⟩
      | false =>
        have whole := upTo.andThen (absent warned pin idle).1 (c := [.queues, .lanes, .faults])
        exact ⟨whole.others, whole.frame⟩
  refine ⟨ends.1, ends.2, fun on pin => ?_, fun off => ?_, fun on pin => ?_⟩
  · have put := issued on pin
    refine ⟨(put.frame .faults (by decide)).1.trans list, State.queuesAfter_still posted put.frame,
      put.self.trans ?_⟩
    rw [← head]
  · have put := deferred off
    exact ⟨(put.frame .faults (by decide)).1.trans list, State.queuesAfter_still posted put.frame,
      put.self⟩
  · obtain ⟨put, raised⟩ := absent on pin idle
    refine ⟨raised.trans ?_, put.self⟩
    rw [next]
    exact State.raiseLane_on list ((feeding.frame .faults (by decide)).2.trans counter)
      upTo.frame.stamp _ _

/-- A cleared lane that may not go on holds. -/
theorem State.clearTaken_holds (holds : (s.lane l).cabinetPin = .opened ∨ s.stockOut l = true)
    (faulted : (s.lane l).state = .faulted) (t : State) (ht : t = s.clearTaken l) :
    s.laneTo t l ((s.lane l).sampled.heldFor ⟨(s.lane l).cabinetPin == .opened, s.stockOut l⟩)
      [.queues, .lanes, .faults] ∧
    t.faults = (if (s.lane l).cabinetPin = .opened ∧ (s.lane l).cabinetSeen = .locked then
        (State.raiseLane { s with faults := s.recovered l .clear } l .cabinetOpen {}).faults
      else s.recovered l .clear) ∧
    ⟨.faultsChange, .faultList, none⟩ ∈ (t.port .office).queue ∧
    (∀ q, laneNotice l ∈ (t.port q).queue) ∧
    ((s.lane l).cabinetPin = .locked ∨ (s.lane l).cabinetSeen = .opened →
      s.queuesAfter t fun x => x.postFaults.postLane l) := by
  obtain ⟨v, hv⟩ : ∃ v, v = (s.recoverReports l .clear).postReport (.lane l) := ⟨_, rfl⟩
  obtain ⟨lane, faults, counter, free, posts⟩ := State.recover_to v hv
  obtain ⟨-, -, -, stocked⟩ := lane.stock rfl rfl
  have step : t = v.startPriming l := by rw [ht, hv]; rfl
  obtain ⟨held, -, raised, -, quiet⟩ := State.startPriming_holds_to (s := v) (l := l)
    (by rw [lane.self, stocked]; exact holds) t step
  rw [lane.self, stocked] at held
  rw [lane.self] at raised quiet
  have grow : v.queuesGrow t := step ▸ (Run.startPriming v l).queuesGrow
  refine ⟨lane.andThen (held free), ?_, (grow .office).2 _ ⟨rfl, rfl⟩ ?_,
    fun q => (grow q).2 _ (laneNotice_plain l) ?_, fun none_ => ?_⟩
  · by_cases new : (s.lane l).cabinetPin = .opened ∧ (s.lane l).cabinetSeen = .locked
    · rw [if_pos new, raised new.1 new.2]
      exact State.raiseLane_on faults counter lane.frame.stamp _ _
    · rw [if_neg new]
      have calm : (s.lane l).cabinetPin = .locked ∨ (s.lane l).cabinetSeen = .opened := by
        cases pin : (s.lane l).cabinetPin <;> cases seen : (s.lane l).cabinetSeen <;> simp_all
      exact ((quiet calm).1 .faults (by decide)).1.trans faults
  · rw [posts .office, State.postLane_queue]
    refine mem_coalesce_of_plain ?_ ⟨rfl, rfl⟩ rfl
    rw [State.postFaults, State.postOffice_queue]
    exact mem_coalesce_self _ _
  · rw [posts q, State.postLane_queue]
    exact mem_coalesce_self _ (laneNotice l)
  · exact State.queuesAfter_again posts (.inl ((quiet none_).2 free (by rw [faulted]; decide)))

/-! ## A lane purged (10 R184) -/

/-- What a purge comes to before its feed attempt, with no ticket under way. -/
theorem State.purge_to (idle : (s.lane l).inflight = none) : ∃ u, s.purge l = u.feedAttempt l ∧
    s.laneTo u l (s.lane l).abandon.purge [.queues, .lanes, .faults] ∧
    u.faults = s.recovered l .purge ∧ u.faultCounter = s.faultCounter ∧ u.isLocked l = false ∧
    s.queuesAfter u fun x => x.postFaults.postLane l := by
  obtain ⟨a, ha⟩ : ∃ a, a = s.moveLane l Lane.abandon := ⟨_, rfl⟩
  have abandoned : s.laneTo a l (s.lane l).abandon [.lanes] :=
    ha ▸ State.moveLane_unseen_to (Lane.visiblyChanged_eq_false rfl rfl rfl fun _ h => h)
  have settled : a.settle l = a := State.settle_of_none (by rw [abandoned.self]; exact idle)
  obtain ⟨v, hv⟩ : ∃ v, v = (a.recoverReports l .purge).postReport (.lane l) := ⟨_, rfl⟩
  obtain ⟨lane, faults, counter, free, posts⟩ := State.recover_to v hv
  rw [abandoned.self] at lane
  have purging := v.moveLane_to l Lane.purge
  have again := v.moveLane_posts_or l Lane.purge
  rw [lane.self] at purging
  have same : a.recovered l .purge = s.recovered l .purge := by
    unfold State.recovered
    rw [(abandoned.frame .faults (by decide)).1, abandoned.frame.stamp]
  have placed : s.queuesAfter v fun x => x.postFaults.postLane l := fun q => by
    rw [posts q]
    exact State.postReport_congr (abandoned.frame .queues (by decide)) (.lane l) q
  refine ⟨_, ?_, (abandoned.andThen lane (c := [.queues, .lanes, .faults])).andThen purging, ?_, ?_,
    (purging.frame.isLocked l).trans free, State.queuesAfter_again placed again⟩
  · unfold State.purge
    rw [← ha, settled]
    dsimp only
    rw [← hv]
  · exact (purging.frame .faults (by decide)).1.trans (faults.trans same)
  · exact (purging.frame .faults (by decide)).2.trans
      (counter.trans (abandoned.frame .faults (by decide)).2)

theorem State.recoverable_length : (s.recoverable l).length =
    ((s.activeOf (.lane l)).filter fun r => r.kind != .cabinetOpen).length := by
  unfold State.recoverable
  rw [List.length_map]
  rfl

theorem State.purgeLane_refused {n : Nat} {code : ResultCode} (h : (if n < 1 ∨ 4 < n then
      some ResultCode.badArgument
    else if (s.lane (Fin.ofNat 4 (n - 1))).state = .offline then some .noPack
    else none) = some code) : s.purgeLane n = (s, refusal code) := by
  unfold State.purgeLane
  by_cases range : n < 1 ∨ 4 < n
  · rw [if_pos range] at h
    cases h
    rw [laneOf_eq_none range]
  · rw [if_neg range] at h
    rw [laneOf_eq_ofNat range]
    split_ifs at h with offline
    cases h
    exact if_pos offline

theorem State.purgeLane_taken (on : (s.lane l).state ≠ .offline) : s.purgeLane (l.val + 1) =
    (s.purge l, accepted (.purged (s.recoverable l).length (s.lane l).spoiledByPurge
      (s.lane l).handedBackByPurge)) := by
  unfold State.purgeLane
  rw [laneOf_val_add_one]
  exact if_neg on

/-- A feed attempt of a lane without a ticket. -/
theorem State.feedAttempt_idle (idle : (s.lane l).inflight = none) :
    ∃ x, s.laneTo (s.feedAttempt l) l x [.queues, .lanes, .packs, .census, .faults] ∧
      x.inflight = none ∧ x.job = (s.lane l).job ∧ x.composer = (s.lane l).composer := by
  obtain ⟨u, hu⟩ : ∃ u, u = s.advanceHead l := ⟨_, rfl⟩
  have first : ∃ y, s.laneTo u l y [.queues, .lanes, .packs, .census] ∧ y.inflight = none ∧
      y.job = (s.lane l).job ∧ y.composer = (s.lane l).composer := by
    rw [hu]
    unfold State.advanceHead
    split
    · split
      · rename_i r _ _
        have marked := State.laneTo_of_frame (l := l) (s.changeMark_frame (s.mountedClass l) r .advanced)
        have moved := (s.changeMark (s.mountedClass l) r .advanced).moveLane_to l fun x =>
          { x with head := .notPositioned }
        rw [marked.self] at moved
        exact ⟨_, marked.andThen moved, idle, rfl, rfl⟩
      · exact ⟨_, s.laneTo_refl l _, idle, rfl, rfl⟩
    · exact ⟨_, s.laneTo_refl l _, idle, rfl, rfl⟩
  obtain ⟨y, to_, idleU, job, composer⟩ := first
  rw [State.feedAttempt_eq, ← hu]
  have then_ : ∀ {z : Lane} {w : State}, u.laneTo w l z [.lanes, .queues, .faults] →
      z.inflight = y.inflight → z.job = y.job → z.composer = y.composer →
      ∃ x, s.laneTo w l x [.queues, .lanes, .packs, .census, .faults] ∧ x.inflight = none ∧
        x.job = (s.lane l).job ∧ x.composer = (s.lane l).composer := fun next h1 h2 h3 =>
    ⟨_, to_.andThen next, h1.trans idleU, h2.trans job, h3.trans composer⟩
  split
  · have moved := u.moveLane_to l fun x => if u.isLocked l then x.lockedIn
      else { x.heldFor ⟨x.holdAfter, true⟩ with head := .notPositioned }
    rw [to_.self] at moved
    refine then_ (State.laneTo.mono moved) ?_ ?_ ?_ <;> split <;> rfl
  · split
    · have moved := u.deferFeed_to l
      rw [to_.self] at moved
      exact then_ moved.mono rfl rfl rfl
    · by_cases present : (u.lane l).stockPin = true ∨ u.remaining l = 0
      · have moved := State.issueFeed_to present
        rw [to_.self] at moved
        exact then_ moved.mono rfl rfl rfl
      · rw [not_or, Bool.not_eq_true] at present
        have moved := (State.issueFeed_absent_to present.1 (Nat.pos_of_ne_zero present.2)
          (by rw [to_.self]; exact idleU)).1
        rw [to_.self] at moved
        exact then_ moved rfl rfl rfl

end

end Sys2Proof.Machine
end

section
/-! SUPPORT. The feed of a purged lane, and its ticket settled (10 R184). -/

-- One proof at a time: the check's memory limit holds few threads.
set_option Elab.async false

namespace Sys2Proof.Machine

section
variable {s t u v w : State} {l : LaneId} {x : Lane}

/-- A purged lane with no blank to advance, and stock left. -/
theorem State.purge_feeds (idle : (s.lane l).inflight = none) (head : ∀ e, (s.lane l).head ≠ .verified e)
    (some_ : 0 < s.remaining l) {e : Nat} (next : s.expected l = some e) (t : State) (ht : t = s.purge l) :
    s.otherLanes t l ∧ s.changesOnly t [.queues, .lanes, .faults] ∧
    (s.powerFail = false → (s.lane l).stockPin = true →
      t.faults = s.recovered l .purge ∧ (s.queuesAfter t fun x => x.postFaults.postLane l) ∧
      t.lane l = { (s.lane l).abandon.purge with
        head := .notPositioned, awaiting := some .feed, deferred := none }) ∧
    (s.powerFail = true →
      t.faults = s.recovered l .purge ∧ (s.queuesAfter t fun x => x.postFaults.postLane l) ∧
      t.lane l = { (s.lane l).abandon.purge with deferred := some .feed }) ∧
    (s.powerFail = false → (s.lane l).stockPin = false →
      t.faults = (State.raiseLane { s with faults := s.recovered l .purge } l .stockDiscrepancy
        { reason := some .stockAbsent, pack := (s.lane l).pack, expected := s.expected l }).faults ∧
      t.lane l = (s.lane l).abandon.purge.stopped.lockedIn) := by
  obtain ⟨u, step, purged, faults, counter, -, posts⟩ := State.purge_to idle
  rw [← ht] at step
  obtain ⟨-, remaining, expected, -⟩ := purged.stock rfl rfl
  have bare : u.advanceHead l = u := State.advanceHead_of_not_verified fun n h => by
    rw [purged.self] at h
    exact head n h
  obtain ⟨issued, deferred, absent⟩ := State.feedAttempt_to bare.symm (by rw [remaining]; exact some_)
    (expected.trans next)
  rw [← step, purged.self, show u.powerFail = s.powerFail from purged.frame .powerFail (by decide)]
    at issued deferred absent
  have ends : s.otherLanes t l ∧ s.changesOnly t [.queues, .lanes, .faults] := by
    cases warned : s.powerFail with
    | true =>
      have whole := purged.andThen (deferred warned) (c := [.queues, .lanes, .faults])
      exact ⟨whole.others, whole.frame⟩
    | false =>
      cases pin : (s.lane l).stockPin with
      | true =>
        have whole := purged.andThen (issued warned pin) (c := [.queues, .lanes, .faults])
        exact ⟨whole.others, whole.frame⟩
      | false =>
        have whole := purged.andThen (absent warned pin idle).1 (c := [.queues, .lanes, .faults])
        exact ⟨whole.others, whole.frame⟩
  refine ⟨ends.1, ends.2, fun on pin => ?_, fun off => ?_, fun on pin => ?_⟩
  · have put := issued on pin
    exact ⟨(put.frame .faults (by decide)).1.trans faults, State.queuesAfter_still posts put.frame,
      put.self⟩
  · have put := deferred off
    exact ⟨(put.frame .faults (by decide)).1.trans faults, State.queuesAfter_still posts put.frame,
      put.self⟩
  · obtain ⟨put, raised⟩ := absent on pin idle
    refine ⟨raised.trans ?_, put.self⟩
    rw [next]
    exact State.raiseLane_on faults counter purged.frame.stamp _ _

/-- A purged lane with no blank to advance and no stock left. -/
theorem State.purge_out (idle : (s.lane l).inflight = none) (head : ∀ e, (s.lane l).head ≠ .verified e)
    (out : s.remaining l = 0 ∨ s.expected l = none) (t : State) (ht : t = s.purge l) :
    s.laneTo t l { (s.lane l).abandon.purge.heldFor ⟨(s.lane l).cabinetSeen == .opened, true⟩ with
      head := .notPositioned } [.queues, .lanes, .faults] ∧
    t.faults = s.recovered l .purge ∧ s.queuesAfter t fun x => x.postFaults.postLane l := by
  obtain ⟨u, step, purged, faults, -, free, posts⟩ := State.purge_to idle
  rw [← ht] at step
  obtain ⟨-, remaining, expected, -⟩ := purged.stock rfl rfl
  have bare : u.advanceHead l = u := State.advanceHead_of_not_verified fun n h => by
    rw [purged.self] at h
    exact head n h
  have gone : u.remaining l = 0 ∨ u.expected l = none := by rw [remaining, expected]; exact out
  have ended := State.feedAttempt_out bare.symm gone free
  have again : (u.queuesAfter t fun x => x.postLane l) ∨ u.queuesAfter t fun x => x := by
    rw [step, State.feedAttempt_eq, bare, State.stockOut_eq_true gone, if_pos rfl]
    exact u.moveLane_posts_or l _
  rw [← step, purged.self] at ended
  exact ⟨purged.andThen ended, (ended.frame .faults (by decide)).1.trans faults,
    State.queuesAfter_again posts again⟩

/-- A feed attempt that has advanced its blank goes on as one with none. -/
theorem State.feedAttempt_advanced {y : Lane} {a : List Part} (hu : u = s.advanceHead l)
    (to_ : s.laneTo u l y a) (head : y.head = .notPositioned) : s.feedAttempt l = u.feedAttempt l := by
  have bare : u.advanceHead l = u := State.advanceHead_of_not_verified fun n h => by
    rw [to_.self, head] at h
    cases h
  rw [State.feedAttempt_eq, State.feedAttempt_eq, bare, ← hu]

section
variable {k : Pack} {e : Nat} (idle : (s.lane l).inflight = none)
  (head : (s.lane l).head = .verified e) (mounted : s.mounted l = some k)
  (found : s.packOf k.cls e = some k) (held : k.markOf e = some .unused)

include idle head mounted found held

/-- A purged lane's VERIFIED blank is ADVANCED (10 R184, 04 R75). -/
theorem State.purge_advances (t : State) (ht : t = s.purge l) :
    t.findPack k.number = some (k.remark e .unused .advanced) ∧ s.otherPacks t k.number ∧
    s.otherLanes t l ∧ s.changesOnly t [.queues, .lanes, .packs, .census, .faults] := by
  obtain ⟨u, step, purged, -, -, -, -⟩ := State.purge_to idle
  rw [← ht] at step
  obtain ⟨under, -, -, -⟩ := purged.stock rfl rfl
  have packs : u.packs = s.packs := purged.frame .packs (by decide)
  obtain ⟨w, hw⟩ : ∃ w, w = u.advanceHead l := ⟨_, rfl⟩
  obtain ⟨advanced, -, now, others⟩ := State.advanceHead_to (by rw [purged.self]; exact head)
    (under.trans mounted) ((State.packOf_congr packs _ _).trans found) held
  rw [← hw] at advanced now others
  obtain ⟨x, fed, -⟩ := State.feedAttempt_keeps (s := w) (l := l)
    (by rw [advanced.self, purged.self]; exact idle) (by rw [advanced.self])
  rw [← State.feedAttempt_advanced hw advanced rfl, ← step] at fed
  have whole := (purged.andThen advanced (c := [.queues, .lanes, .packs, .census, .faults])).andThen fed
    (c := [.queues, .lanes, .packs, .census, .faults])
  exact ⟨(fed.frame.findPack _).trans now, fun m other => by
    rw [fed.frame.findPack, others m other, purged.frame.findPack], whole.others, whole.frame⟩

/-- A purged lane whose VERIFIED blank was its last. -/
theorem State.purge_last (last : k.counters.unused = 1) (t : State) (ht : t = s.purge l) :
    t.faults = s.recovered l .purge ∧
    t.lane l = { (s.lane l).abandon.purge.heldFor ⟨(s.lane l).cabinetSeen == .opened, true⟩ with
      head := .notPositioned } := by
  obtain ⟨u, step, purged, faults, -, free, -⟩ := State.purge_to idle
  rw [← ht] at step
  obtain ⟨under, -, -, -⟩ := purged.stock rfl rfl
  obtain ⟨-, -, ended⟩ := State.feedAttempt_advances_last (by rw [purged.self]; exact head)
    (under.trans mounted) ((State.packOf_congr (purged.frame .packs (by decide)) _ _).trans found) held
    last free t step
  rw [purged.self] at ended
  exact ⟨(ended.frame .faults (by decide)).1.trans faults, ended.self⟩

/-- A purged lane whose VERIFIED blank is followed by another. -/
theorem State.purge_next {n : Nat} (more : 1 < k.counters.unused) (ne : n ≠ e)
    (low : (s.lane l).position ≤ n) (unused : k.markOf n = some .unused)
    (least : ∀ m, (s.lane l).position ≤ m → m < n → m ≠ e → k.markOf m ≠ some .unused) (t : State)
    (ht : t = s.purge l) :
    (s.powerFail = false → (s.lane l).stockPin = false →
      t.faults = (State.raiseLane { s with faults := s.recovered l .purge } l .stockDiscrepancy
        { reason := some .stockAbsent, pack := some k.number, expected := some n }).faults ∧
      t.lane l = { (s.lane l).abandon.purge.stopped.lockedIn with head := .notPositioned }) ∧
    ((s.powerFail = true ∨ (s.lane l).stockPin = true) →
      t.faults = s.recovered l .purge ∧
      t.lane l = { (s.lane l).abandon.purge with
        head := .notPositioned
        awaiting := if s.powerFail = true then none else some .feed
        deferred := if s.powerFail = true then some .feed else none }) := by
  obtain ⟨u, step, purged, faults, counter, -, -⟩ := State.purge_to idle
  rw [← ht] at step
  obtain ⟨under, -, -, -⟩ := purged.stock rfl rfl
  have warning : u.powerFail = s.powerFail := purged.frame .powerFail (by decide)
  obtain ⟨-, -, issued, deferred, absent⟩ := State.feedAttempt_advances
    (by rw [purged.self]; exact idle) (by rw [purged.self]; exact head) (under.trans mounted)
    ((State.packOf_congr (purged.frame .packs (by decide)) _ _).trans found) held more
    ⟨n, ne, by rw [purged.self]; exact low, unused⟩ t step
  rw [purged.self, warning] at issued deferred absent
  refine ⟨fun on pin => ?_, fun calm => ?_⟩
  · obtain ⟨put, raised⟩ := absent n on pin ne low unused least
    refine ⟨raised.trans (State.raiseLane_on faults counter purged.frame.stamp _ _), put.self⟩
  · cases warned : s.powerFail with
    | true =>
      have put := deferred warned
      exact ⟨(put.frame .faults (by decide)).1.trans faults, put.self⟩
    | false =>
      have put := issued warned (calm.resolve_left (by rw [warned]; decide))
      exact ⟨(put.frame .faults (by decide)).1.trans faults, put.self⟩

end

/-! ## A ticket settled by a purge -/

/-- What follows the settling of a purge, before its feed attempt. -/
theorem State.purge_settled (hw : w = (s.moveLane l Lane.abandon).settle l) :
    ∃ u, s.purge l = u.feedAttempt l ∧ w.laneTo u l (w.lane l).purge [.faults, .queues, .lanes] := by
  obtain ⟨v, hv⟩ : ∃ v, v = (w.recoverReports l .purge).postReport (.lane l) := ⟨_, rfl⟩
  obtain ⟨lane, -⟩ := State.recover_to v hv
  have purging := v.moveLane_to l Lane.purge
  rw [lane.self] at purging
  refine ⟨_, ?_, lane.andThen purging⟩
  unfold State.purge
  rw [← hw]
  dsimp only
  rw [← hv]

theorem State.abandon_to (s : State) (l : LaneId) :
    s.laneTo (s.moveLane l Lane.abandon) l (s.lane l).abandon [.lanes] :=
  State.moveLane_unseen_to (Lane.visiblyChanged_eq_false rfl rfl rfl fun _ h => h)

variable {r : InFlight} {j : Job}

/-- A purge that hands a claim back (03 R61). -/
theorem State.purge_handsBack (held : (s.lane l).inflight = some r)
    (job : s.job r.window r.slot = some j) (handed : r.begun = false) (t : State)
    (ht : t = s.purge l) :
    t.job r.window r.slot = some { j with state := .queued, lane := none } ∧
    (t.lane l).inflight = none ∧ (t.lane l).job = none ∧ s.otherSlots t r.window r.slot ∧
    s.otherLanesTold t l ∧
    s.changesOnly t [.queues, .lanes, .slots, .packs, .census, .faults] := by
  obtain ⟨a, ha⟩ : ∃ a, a = s.moveLane l Lane.abandon := ⟨_, rfl⟩
  have abandoned := s.abandon_to l
  rw [← ha] at abandoned
  obtain ⟨w, hw⟩ : ∃ w, w = a.settle l := ⟨_, rfl⟩
  obtain ⟨u, step, purging⟩ := State.purge_settled (s := s) (l := l) (w := w) (by rw [hw, ha])
  rw [← ht] at step
  obtain ⟨b, hb⟩ : ∃ b, b = a.handBack r.window r.slot := ⟨_, rfl⟩
  obtain ⟨slot, slots, -, frame⟩ := State.handBack_leaves ((abandoned.frame.job _ _).trans job) b hb
  have settles : w = b.moveLane l fun x => x.endTicket x.head := by
    rw [hw, hb]
    exact a.settle_of_handed l (by rw [abandoned.self]; exact held) handed
  have ended := b.moveLane_to l fun x => x.endTicket x.head
  rw [← settles] at ended
  have claimed : a.toldTo b l (a.lane l) [.slots, .lanes] :=
    (hb ▸ a.handBack_claimed r.window r.slot).told frame
  have told := State.toldTo.map (f := fun x => x.endTicket x.head) (c := [.slots, .lanes, .queues])
    (abandoned.told.andThen claimed (c := [.slots, .lanes])) ended.told fun _ => rfl
  obtain ⟨x, fed, inflight, job', -⟩ := State.feedAttempt_idle (s := u) (l := l)
    (by rw [purging.self]; exact told.field Lane.inflight)
  rw [← step] at fed
  have rest := State.changesOnly_then (c := [.faults, .queues, .lanes, .packs, .census])
    purging.frame fed.frame
  have whole := (told.andThen purging.told (c := [.slots, .lanes, .queues, .faults])).andThen fed.told
    (c := [.queues, .lanes, .slots, .packs, .census, .faults])
  refine ⟨?_, by rw [fed.self, inflight], ?_, fun v i other => ?_, whole.others, whole.frame⟩
  · rw [rest.job, ended.frame.job]
    exact congrArg Slot.job slot
  · rw [fed.self, job', purging.self]
    exact told.field Lane.job
  · rw [rest.slot, ended.frame.slot, slots v i other, abandoned.frame.slot]

/-- A purge that spoils a ticket (10 R180). -/
theorem State.purge_spoils {k : Pack} (held : (s.lane l).inflight = some r)
    (job : s.job r.window r.slot = some j) (begun : r.begun = true) (mounted : s.mounted l = some k)
    (found : s.packOf k.cls r.serial = some k) (mark : k.markOf r.serial = some .unused) (t : State)
    (ht : t = s.purge l) :
    t.findPack k.number =
      some { k.remark r.serial .unused .spoiled with references := k.references + 1 } ∧
    (t.job r.window r.slot).map Job.attempts = some (j.attempts + 1) ∧
    (t.job r.window r.slot).map Job.state = some (if 3 ≤ j.attempts + 1 then .failed else .queued) ∧
    t.journal = s.journal ++ [⟨r.window, (s.entriesOf r.window).length + 1,
      ⟨.spoil, k.cls, r.serial, k.number, 0, none, r.quantity, r.form, r.slot⟩, s.stamp, false⟩] ∧
    (t.lane l).inflight = none ∧ (t.lane l).job = none ∧ (t.lane l).composer = .idle ∧
    (t.lane l).advances = 0 ∧ s.otherSlots t r.window r.slot ∧ s.otherPacks t k.number ∧
    s.otherSessions t r.window ∧ s.otherLanesTold t l ∧
    s.changesOnly t [.queues, .lanes, .packs, .census, .sessions, .journal, .slots, .forms,
      .faults] := by
  obtain ⟨a, ha⟩ : ∃ a, a = s.moveLane l Lane.abandon := ⟨_, rfl⟩
  have abandoned := s.abandon_to l
  rw [← ha] at abandoned
  have frame := abandoned.frame
  obtain ⟨w, hw⟩ : ∃ w, w = a.settle l := ⟨_, rfl⟩
  obtain ⟨u, step, purging⟩ := State.purge_settled (s := s) (l := l) (w := w) (by rw [hw, ha])
  rw [← ht] at step
  have settles : w = a.spoilTicket l r .mechanical := by
    rw [hw]
    exact a.settle_of_begun l (by rw [abandoned.self]; exact held) begun
  obtain ⟨now, others, journal, -, -, sessions, again, last, slots, -⟩ :=
    State.spoilTicket_leaves ((abandoned.stock rfl rfl).1.trans mounted)
      ((State.packOf_congr (frame .packs (by decide)) _ _).trans found) mark
      ((frame.job _ _).trans job) .mechanical rfl w settles
  have told := a.spoilTicket_told l r .mechanical
  rw [← settles, abandoned.self] at told
  obtain ⟨x, fed, bare, -⟩ := State.feedAttempt_keeps (s := u) (l := l)
    (by rw [purging.self]; exact told.field Lane.inflight)
    (by rw [purging.self]; exact told.field Lane.head)
  rw [← step] at fed
  rw [purging.self] at bare
  have rest := State.changesOnly_then (c := [.faults, .queues, .lanes]) purging.frame fed.frame
  have whole := ((abandoned.told.andThen told (c := [.lanes, .queues, .packs, .census, .slots,
    .sessions, .journal, .forms])).andThen purging.told (c := [.queues, .lanes, .packs, .census,
    .sessions, .journal, .slots, .forms, .faults])).andThen fed.told (c := [.queues, .lanes, .packs,
    .census, .sessions, .journal, .slots, .forms, .faults])
  have same : a.journal = s.journal := (frame .journal (by decide)).1
  have slot : ∃ y, t.slot r.window r.slot = ⟨true, some y⟩ ∧ y.attempts = j.attempts + 1 ∧
      y.state = if 3 ≤ j.attempts + 1 then .failed else .queued := by
    by_cases many : 3 ≤ j.attempts + 1
    · exact ⟨_, (rest.slot _ _).trans (last many), rfl, (if_pos many).symm⟩
    · refine ⟨_, (rest.slot _ _).trans (again (by omega)), rfl, ?_⟩
      have queued : afterSpoil .mechanical (j.attempts + 1) = .queued :=
        (if_neg many).trans (if_neg (by decide))
      exact queued.trans (if_neg many).symm
  obtain ⟨y, slot, attempts, state⟩ := slot
  have here : t.job r.window r.slot = some y := congrArg Slot.job slot
  have advances : (w.lane l).purge.advances = 0 := told.field Lane.advances
  refine ⟨(rest.findPack _).trans now, ?_, ?_, ?_, ?_, ?_, ?_, ?_, fun v i other => ?_,
    fun m other => ?_, fun v other => ?_, whole.others, whole.frame⟩
  · rw [here, Option.map_some, attempts]
  · rw [here, Option.map_some, state]
  · rw [(rest .journal (by decide)).1, journal, State.entriesOf, same, frame.stamp]
    rfl
  · rw [fed.self, bare.inflight]
    exact told.field Lane.inflight
  · rw [fed.self, bare.job]
    exact told.field Lane.job
  · rw [fed.self, bare.composer]
    exact told.field Lane.composer
  · rw [fed.self]
    rcases bare.advances with h | h
    · exact h
    · exact h.trans advances
  · rw [rest.slot, slots v i other, frame.slot]
  · rw [rest.findPack, others m other, frame.findPack]
  · rw [rest.session, sessions v other, frame.session]

end

end Sys2Proof.Machine
end

section
/-! SUPPORT. CLEAR_LANE, PURGE_LANE and ACK_FAULT as requests (10 R182 to R187): O54. -/

-- One proof at a time: the check's memory limit holds few threads.
set_option Elab.async false

namespace Sys2Proof.Machine

section
variable {s t : State} {c : Instr} {p : Port} {k : RequestKind} {tag : Byte} {reply : Reply}
  {parts : List Part}

/-- A request's last state is its block's, but for the answer at its port. -/
theorem exec_answers (run : exec c s = .next (t.answerWith p k.byte tag reply))
    (frame : s.changesOnly t parts) (out : .receivers ∉ parts := by decide) :
    ∃ a, exec c s = .next a ∧ s.answered a p k tag reply ∧ t.changesOnly a [.receivers] :=
  ⟨_, run, State.answered_answerWith p k tag (State.changesOnly_same frame .receivers out) reply,
    t.answerWith_frame p _ _ _⟩

end

section
variable {s : State} {l : LaneId}

/-- The stock stated by its two measures. -/
theorem State.stockOut_or_iff :
    s.stockOut l = true ↔ s.remaining l = 0 ∨ s.expected l = none := by
  rw [State.stockOut_eq, Bool.or_eq_true, beq_iff_eq, Option.isNone_iff_eq_none]

/-- The oldest report that needs a purge (10 R182 step 4). -/
theorem State.find_needsPurge
    (some_ : ∃ r ∈ s.activeOf (.lane l), r.kind ∈ [FaultKind.feedJam, .cutJam, .headStall] ∨
      r.lastOther ∈ [some FaultKind.feedJam, some .cutJam, some .headStall]) :
    ∃ pre r post, (s.activeReports l).find? Report.needsPurge = some r ∧
      s.activeOf (.lane l) = pre ++ r :: post ∧
      (r.kind ∈ [FaultKind.feedJam, .cutJam, .headStall] ∨
        r.lastOther ∈ [some FaultKind.feedJam, some .cutJam, some .headStall]) ∧
      ∀ x ∈ pre, x.kind ∉ [FaultKind.feedJam, .cutJam, .headStall] ∧
        x.lastOther ∉ [some FaultKind.feedJam, some .cutJam, some .headStall] := by
  obtain ⟨x, hx, needs⟩ := some_
  cases found : (s.activeReports l).find? Report.needsPurge with
  | none => exact absurd (Report.needsPurge_iff.2 needs) (List.find?_eq_none.1 found x hx)
  | some r =>
    obtain ⟨own, pre, post, split, before⟩ := List.find?_eq_some_iff_append.1 found
    refine ⟨pre, r, post, rfl, split, Report.needsPurge_iff.1 own, fun y hy => ?_⟩
    have calm := before y hy
    rw [Bool.not_eq_true'] at calm
    exact not_or.1 fun h => by
      rw [Report.needsPurge_iff.2 h] at calm
      cases calm

theorem State.find_needsPurge_none
    (none_ : ∀ r ∈ s.activeOf (.lane l), r.kind ∉ [FaultKind.feedJam, .cutJam, .headStall] ∧
      r.lastOther ∉ [some FaultKind.feedJam, some .cutJam, some .headStall]) :
    (s.activeReports l).find? Report.needsPurge = none :=
  List.find?_eq_none.2 fun r hr needs =>
    (Report.needsPurge_iff.1 needs).elim (none_ r hr).1 (none_ r hr).2

/-- A held lane's record, the pin told apart by its two positions. -/
theorem Lane.sampled_heldFor (x : Lane) (b : Bool) :
    x.sampled.heldFor ⟨x.cabinetPin == .opened, b⟩ = { x with
      state := .holding
      causes := ⟨x.cabinetPin == .opened, b⟩
      holdAfter := false
      advances := 0
      cabinetSeen := if x.cabinetPin = .opened then .opened else x.cabinetSeen } := by
  unfold Lane.sampled
  by_cases pin : x.cabinetPin = .opened
  · rw [if_pos pin]
    rfl
  · rw [if_neg pin]
    rfl

end

/-- Settles O54: the refusals by `State.clearLane_refused` and `State.purgeLane_refused`, a cleared lane
by the laws `State.clearTaken_…`, a purged one by `State.purge_…`, and an acknowledgment by
`State.ackFault_taken`. -/
theorem recoveryAndAcknowledgment : Obligations.RecoveryAndAcknowledgment := by
  unfold Obligations.RecoveryAndAcknowledgment
  intro s p tag
  refine ⟨fun admits => ⟨fun n a h => ?_, fun l faulted needs => ?_,
    fun l left a faulted free hleft ha => ?_⟩, fun admits => ⟨fun n code h => ?_,
    fun l cleared left on hcleared hleft => ?_⟩, fun admits n => ⟨fun none_ => ?_, fun r found =>
      ⟨fun active other => ?_, fun done => ?_, fun free => ?_⟩⟩⟩
  · exact exec_unmoved (exec_plain (.clearLane p tag (some n)) admits
      (congrArg some (State.clearLane_refused h)))
  · obtain ⟨pre, r, post, found, split, needs, calm⟩ := State.find_needsPurge needs
    have block := State.clearLane_faulted faulted
    rw [found] at block
    have run := exec_plain (.clearLane p tag (some (l.val + 1))) admits (congrArg some block)
    exact ⟨_, pre, r, post, run, split, needs, calm, State.answered_same _⟩
  · have block := State.clearLane_faulted faulted
    rw [State.find_needsPurge_none free] at block
    replace block : s.clearLane (l.val + 1) = (s.clearTaken l, a) := by
      rw [block, ha]
      rfl
    replace hleft : left = s.recovered l .clear := hleft
    subst hleft
    obtain ⟨u, hu⟩ : ∃ u, u = s.clearTaken l := ⟨_, rfl⟩
    rw [← hu] at block
    have run := exec_plain (.clearLane p tag (some (l.val + 1))) admits (congrArg some block)
    dsimp only at run
    refine ⟨fun locked head some_ next => ?_, fun locked head idle some_ next => ?_, fun holds => ?_⟩
    · obtain ⟨e, next⟩ := next
      obtain ⟨lane, faults, posts⟩ := State.clearTaken_reads locked head
        (State.stockOut_eq_false some_ next) faulted u hu
      obtain ⟨t, run, answered, answers⟩ := exec_answers run lane.frame
      have whole := lane.through answers (c := [.receivers, .queues, .lanes, .faults])
      exact ⟨t, run, answered, (answers .faults (by decide)).1.trans faults, whole.self, whole.others,
        State.queuesAfter_still posts answers, whole.frame⟩
    · obtain ⟨e, next⟩ := next
      obtain ⟨others, frame, issued, deferred, absent⟩ :=
        State.clearTaken_feeds locked head idle some_ next u hu
      obtain ⟨t, run, answered, answers⟩ := exec_answers run frame
      have faults : t.faults = u.faults := (answers .faults (by decide)).1
      refine ⟨t, run, answered, fun m other => (answers.lane m).trans (others m other),
        State.changesOnly_then frame answers, fun warning pin => ?_, fun warning => ?_,
        fun warning pin => ?_⟩
      · obtain ⟨list, posts, lane⟩ := issued warning pin
        exact ⟨faults.trans list, State.queuesAfter_still posts answers, (answers.lane l).trans lane⟩
      · obtain ⟨list, posts, lane⟩ := deferred warning
        exact ⟨faults.trans list, State.queuesAfter_still posts answers, (answers.lane l).trans lane⟩
      · obtain ⟨list, lane⟩ := absent warning pin
        exact ⟨faults.trans list, (answers.lane l).trans lane⟩
    · obtain ⟨lane, list, office, every, quiet⟩ := State.clearTaken_holds
        (holds.imp_right State.stockOut_or_iff.2) faulted u hu
      obtain ⟨t, run, answered, answers⟩ := exec_answers run lane.frame
      have whole := lane.through answers (c := [.receivers, .queues, .lanes, .faults])
      have queue : ∀ q, (t.port q).queue = (u.port q).queue :=
        answers .queues (by decide)
      refine ⟨t, run, answered, (answers .faults (by decide)).1.trans list, ?_, whole.others,
        by rw [queue]; exact office, fun q => by rw [queue]; exact every q,
        fun calm => State.queuesAfter_still (quiet calm) answers, whole.frame⟩
      rw [whole.self, Lane.sampled_heldFor, State.stockOut_eq]
  · exact exec_unmoved (exec_plain (.purgeLane p tag (some n)) admits
      (congrArg some (State.purgeLane_refused h)))
  · have block := State.purgeLane_taken on
    rw [State.recoverable_length, ← hcleared] at block
    replace hleft : left = s.recovered l .purge := hleft
    subst hleft
    obtain ⟨u, hu⟩ : ∃ u, u = s.purge l := ⟨_, rfl⟩
    rw [← hu] at block
    have run := exec_plain (.purgeLane p tag (some (l.val + 1))) admits (congrArg some block)
    dsimp only at run
    have spared : (s.lane l).inflight = none →
        (s.lane l).spoiledByPurge = none ∧ (s.lane l).handedBackByPurge = false := fun idle => by
      unfold Lane.spoiledByPurge Lane.handedBackByPurge
      rw [idle]
      exact ⟨rfl, rfl⟩
    refine ⟨fun idle head some_ next => ?_, fun idle head out => ?_,
      fun k e idle head mounted found held => ?_, fun r j held job =>
        ⟨fun handed => ?_, fun k begun mounted found mark => ?_⟩⟩
    · obtain ⟨e, next⟩ := next
      rw [(spared idle).1, (spared idle).2] at run
      obtain ⟨others, frame, issued, deferred, absent⟩ :=
        State.purge_feeds idle head some_ next u hu
      obtain ⟨t, run, answered, answers⟩ := exec_answers run frame
      have faults : t.faults = u.faults := (answers .faults (by decide)).1
      refine ⟨t, run, answered, fun m other => (answers.lane m).trans (others m other),
        State.changesOnly_then frame answers, fun warning pin => ?_, fun warning => ?_,
        fun warning pin => ?_⟩
      · obtain ⟨list, posts, lane⟩ := issued warning pin
        exact ⟨faults.trans list, State.queuesAfter_still posts answers, (answers.lane l).trans lane⟩
      · obtain ⟨list, posts, lane⟩ := deferred warning
        exact ⟨faults.trans list, State.queuesAfter_still posts answers, (answers.lane l).trans lane⟩
      · obtain ⟨list, lane⟩ := absent warning pin
        exact ⟨faults.trans list, (answers.lane l).trans lane⟩
    · rw [(spared idle).1, (spared idle).2] at run
      obtain ⟨lane, list, posts⟩ := State.purge_out idle head out u hu
      obtain ⟨t, run, answered, answers⟩ := exec_answers run lane.frame
      have whole := lane.through answers (c := [.receivers, .queues, .lanes, .faults])
      exact ⟨t, run, answered, (answers .faults (by decide)).1.trans list, whole.self, whole.others,
        State.queuesAfter_still posts answers, whole.frame⟩
    · rw [(spared idle).1, (spared idle).2] at run
      obtain ⟨now, packs, others, frame⟩ := State.purge_advances idle head mounted found held u hu
      have last := State.purge_last idle head mounted found held
      have next := fun n => State.purge_next (n := n) idle head mounted found held
      obtain ⟨t, run, answered, answers⟩ := exec_answers run frame
      have faults : t.faults = u.faults := (answers .faults (by decide)).1
      refine ⟨t, _, run, answered, (answers.findPack _).trans now, ?_, fun m other => ?_, ?_, ?_,
        fun m other => (answers.findPack m).trans (packs m other),
        fun m other => (answers.lane m).trans (others m other), State.changesOnly_then frame answers,
        fun one => ?_, fun n more ne low unused least => ⟨fun warning pin => ?_, fun calm => ?_⟩⟩
      · exact (Pack.remark_unused held (by decide)).1
      · exact (Pack.remark_unused held (by decide)).2.1 m other
      · rfl
      · rfl
      · obtain ⟨list, lane⟩ := last one u hu
        exact ⟨faults.trans list, (answers.lane l).trans lane⟩
      · obtain ⟨list, lane⟩ := (next n more ne low unused least u hu).1 warning pin
        exact ⟨faults.trans list, (answers.lane l).trans lane⟩
      · obtain ⟨list, lane⟩ := (next n more ne low unused least u hu).2 calm
        exact ⟨faults.trans list, (answers.lane l).trans lane⟩
    · have spoiled : (s.lane l).spoiledByPurge = none := by
        unfold Lane.spoiledByPurge
        rw [held]
        simp [handed]
      have back : (s.lane l).handedBackByPurge = true := by
        unfold Lane.handedBackByPurge
        rw [held]
        simp [handed]
      rw [spoiled, back] at run
      obtain ⟨now, inflight, job', slots, others, frame⟩ := State.purge_handsBack held job handed u hu
      obtain ⟨t, run, answered, answers⟩ := exec_answers run frame
      exact ⟨t, run, answered, (answers.job _ _).trans now, by rw [answers.lane, inflight],
        by rw [answers.lane, job'], fun v i other => (answers.slot v i).trans (slots v i other),
        fun m other => by rw [answers.lane]; exact others m other,
        State.changesOnly_then frame answers⟩
    · have spoiled : (s.lane l).spoiledByPurge = some r.serial := by
        unfold Lane.spoiledByPurge
        rw [held]
        exact if_pos begun
      have back : (s.lane l).handedBackByPurge = false := by
        unfold Lane.handedBackByPurge
        rw [held]
        simp [begun]
      rw [spoiled, back] at run
      obtain ⟨now, attempts, state, journal, inflight, job', composer, advances, slots, packs, sessions,
        others, frame⟩ := State.purge_spoils held job begun mounted found mark u hu
      obtain ⟨t, run, answered, answers⟩ := exec_answers run frame
      refine ⟨t, _, run, answered, (answers.findPack _).trans now, ?_, rfl,
        by rw [answers.job, attempts], by rw [answers.job, state],
        (answers .journal (by decide)).1.trans journal, by rw [answers.lane, inflight],
        by rw [answers.lane, job'], ?_, by rw [answers.lane, composer] <;> rfl, by rw [answers.lane, advances],
        fun v i other => (answers.slot v i).trans (slots v i other),
        fun m other => (answers.findPack m).trans (packs m other),
        fun v other => (answers.session v).trans (sessions v other),
        fun m other => by rw [answers.lane]; exact others m other,
        State.changesOnly_then frame answers⟩
      · exact (Pack.remark_unused mark (by decide)).1
      · rw [answers.lane, composer]
        exact ⟨rfl, rfl, rfl, rfl, rfl⟩
  · exact exec_unmoved (exec_plain (.ackFault p tag (some n)) admits
      (congrArg some (State.ackFault_none none_)))
  · have taken := State.ackFault_eq found
    rw [if_pos (Report.stillActive_iff.2 ⟨active, other⟩)] at taken
    exact exec_unmoved (exec_plain (.ackFault p tag (some n)) admits (congrArg some taken))
  · have taken := State.ackFault_eq found
    have calm : ¬r.stillActive = true := fun h => by
      rw [(Report.stillActive_iff.1 h).1] at done
      cases done
    rw [if_neg calm, if_pos done] at taken
    exact exec_unmoved (exec_plain (.ackFault p tag (some n)) admits (congrArg some taken))
  · obtain ⟨u, taken, list, posts, frame⟩ := State.ackFault_taken found free
    have run := exec_plain (.ackFault p tag (some n)) admits (congrArg some taken)
    obtain ⟨t, run, answered, answers⟩ := exec_answers run frame
    exact ⟨t, run, answered, (answers .faults (by decide)).1.trans list,
      State.queuesAfter_still posts answers, State.changesOnly_then frame answers⟩

end Sys2Proof.Machine
end

section
/-! SUPPORT. Packs withdrawn and collected (05 R102 to R108): O45. -/

-- One proof at a time: the check's memory limit holds few threads.
set_option Elab.async false

namespace Sys2Proof.Machine

/-! ## A run of blanks marked in a pack that is on no lane -/

section
variable {s t u : State} {p : Pack} {new : Mark} {xs : List Nat}

/-- A second STOCK_CHANGE stands in the place of the first. -/
theorem State.queuesAfter_stockTwice (first : s.queuesAfter t State.postStock)
    (last : (t.queuesAfter u State.postStock) ∨ t.queuesAfter u fun x => x) :
    s.queuesAfter u State.postStock := fun q => by
  rcases last with last | last
  · rw [last q]
    cases q with
    | office =>
      rw [State.postStock, State.postOffice_queue, first .office, State.postStock,
        State.postOffice_queue, coalesce_coalesce]
    | window w => exact first (.window w)
  · rw [last q]
    exact first q

theorem Census.told_of_not_blocks {c : Census} {n : Nat} (free : c.blocks n = false) (serial : Nat) :
    c.told n serial = c := by
  refine if_neg fun h => ?_
  rw [(Census.blocks_iff c n).2 (.inr (.inr ⟨h.1, h.2.1⟩))] at free
  cases free

/-- A mark moved in a pack on no lane, the census elsewhere: the stock's notice alone (05 R93). -/
theorem State.remark_loose {n : Nat} {old : Mark} (loose : p.lane = none)
    (free : s.census.blocks p.number = false) :
    s.remark p n old new = s.updatePack p.number fun q => q.remark n old new := by
  have low : (s.updatePack p.number fun q => q.remark n old new).stockLow p (p.remark n old new) =
      s.updatePack p.number fun q => q.remark n old new := by
    unfold State.stockLow
    rw [loose]
  have census : (s.updatePack p.number fun q => q.remark n old new).census = s.census :=
    s.updatePack_frame p.number _ .census (by decide)
  have told := Census.told_of_not_blocks free n
  rw [← census] at told
  unfold State.remark
  dsimp only
  rw [low, told]

/-- The run marked in such a pack: the stock's table and its notice alone. -/
theorem State.markUnused_loose (number : s.findPack p.number = some p) (loose : p.lane = none)
    (free : s.census.blocks p.number = false) (edge : markEdge .unused new = true)
    (distinct : xs.Nodup) (held : ∀ r ∈ xs, p.markOf r = some .unused)
    (found : ∀ r ∈ xs, s.packOf p.cls r = some p) :
    s.changesOnly (s.markUnused p.cls new xs) [.packs, .queues] ∧
      ((s.queuesAfter (s.markUnused p.cls new xs) State.postStock) ∨
        s.queuesAfter (s.markUnused p.cls new xs) fun x => x) := by
  induction xs generalizing s p with
  | nil => exact ⟨s.changesOnly_refl _, .inr fun _ => rfl⟩
  | cons x xs ih =>
    obtain ⟨fresh, distinct⟩ := List.nodup_cons.1 distinct
    have first := held x (by simp)
    have here := found x (by simp)
    obtain ⟨v, hv⟩ : ∃ v, v = s.updatePack p.number fun q => q.remark x .unused new := ⟨_, rfl⟩
    have step : s.markUnused p.cls new (x :: xs) = v.markUnused p.cls new xs := by
      unfold State.markUnused
      rw [List.foldl_cons, here, Option.bind_some, if_pos first, State.changeMark_eq here first edge,
        State.remark_loose loose free, hv]
    have moved : s.changesOnly v [.packs, .queues] := hv ▸ s.updatePack_frame _ _
    have posted : s.queuesAfter v State.postStock := hv ▸ s.updatePack_posts _ _
    have packs := hv ▸ s.updatePack_packs p.number fun q => q.remark x .unused new
    obtain ⟨frame, last⟩ := ih (s := v) (p := p.remark x .unused new)
      (by rw [hv]
          exact (State.findPack_updatePack s (f := fun q => q.remark x .unused new)
            (fun _ => rfl) p.number).trans (by rw [number, Option.map_some, if_pos rfl]))
      loose (by rw [show v.census = s.census from moved .census (by decide)]; exact free) distinct
      (fun r hr => by
        rw [Pack.remark_markOf first, if_neg (ne_of_mem_of_not_mem hr fresh)]
        exact held r (by simp [hr]))
      (fun r hr => by
        rw [State.packOf_map packs (fun q => by split <;> rfl)]
        exact (congrArg _ (found r (by simp [hr]))).trans (by rw [Option.map_some, if_pos rfl]))
    rw [step]
    exact ⟨State.changesOnly_then moved frame, .inl (State.queuesAfter_stockTwice posted last)⟩

end

/-! ## The mode of a withdrawal applied (05 R103, R104) -/

section
variable {s t : State} {k : Pack} {m : WithdrawMode}

/-- The mark a mode gives. -/
def givenMark (m : WithdrawMode) : Mark := if m = .returnStock then .returned else .missing

theorem Pack.toMark_eq (k : Pack) (m : WithdrawMode) :
    k.toMark m = if m = .park then [] else k.unusedIn k.first (k.first + k.count - 1) := by
  cases m <;> rfl

theorem withdrawnState_eq (m : WithdrawMode) :
    withdrawnState m = if m = .park then .parked else .withdrawn := by
  cases m <;> rfl

/-- A pack without an UNUSED blank counts none. -/
theorem Pack.unused_eq_zero (wf : k.wf = true) (none_ : ∀ n, k.markOf n ≠ some .unused) :
    k.counters.unused = 0 := by
  obtain ⟨length, counts⟩ := (Pack.wf_iff k).1 wf
  refine (counts .unused).trans (List.count_eq_zero.2 fun mem => ?_)
  obtain ⟨i, inside, mark⟩ := List.getElem_of_mem mem
  refine none_ (k.first + i) ?_
  unfold Pack.markOf
  rw [if_pos (by simp [Pack.inRange]; omega), Nat.add_sub_cancel_left, List.getElem?_eq_getElem inside,
    mark]

/-- The pack a mode leaves. -/
def Pack.withdrawnBy (k : Pack) (m : WithdrawMode) : Pack :=
  { k with state := withdrawnState m, lane := none }.remarkAll (givenMark m) (k.toMark m)

theorem Pack.toMark_unused {r : Nat} (hr : r ∈ k.toMark m) : k.markOf r = some .unused := by
  rw [Pack.toMark_eq] at hr
  split at hr
  · cases hr
  · exact (Pack.mem_unusedIn.1 hr).2.2

theorem Pack.toMark_nodup : (k.toMark m).Nodup := by
  rw [Pack.toMark_eq]
  split
  · exact List.nodup_nil
  · exact Pack.nodup_unusedIn _ _

theorem givenMark_edge : markEdge .unused (givenMark m) = true := by
  cases m <;> decide

theorem Pack.withdrawnBy_kept (k : Pack) (m : WithdrawMode) :
    (k.withdrawnBy m).number = k.number ∧ (k.withdrawnBy m).state = withdrawnState m ∧
      (k.withdrawnBy m).lane = none ∧ (k.withdrawnBy m).references = k.references ∧
      (k.withdrawnBy m).sequence = k.sequence + (k.toMark m).length ∧
      (k.withdrawnBy m).verdict = if k.toMark m = [] then k.verdict else .none :=
  Pack.remarkAll_kept { k with state := withdrawnState m, lane := none } (givenMark m) (k.toMark m)

theorem Pack.withdrawnBy_markOf (n : Nat) :
    (k.withdrawnBy m).markOf n = if n ∈ k.toMark m then some (givenMark m) else k.markOf n :=
  Pack.remarkAll_markOf (p := { k with state := withdrawnState m, lane := none })
    Pack.toMark_nodup (fun _ hr => Pack.toMark_unused hr) n

theorem Pack.withdrawnBy_counters (wf : k.wf = true) :
    (m ≠ .park → (k.withdrawnBy m).counters.unused = 0) ∧
      (m = .park → (k.withdrawnBy m).counters = k.counters) := by
  refine ⟨fun other => Pack.unused_eq_zero ?_ fun n => ?_, fun park => by rw [park]; rfl⟩
  · exact Pack.remarkAll_wf (p := { k with state := withdrawnState m, lane := none })
      givenMark_edge Pack.toMark_nodup (fun _ hr => Pack.toMark_unused hr) wf
  · rw [Pack.withdrawnBy_markOf]
    split
    · unfold givenMark
      split <;> decide
    · rename_i out
      intro held
      obtain ⟨range, -, -⟩ := Pack.markOf_eq_some held
      simp only [Pack.inRange, Bool.and_eq_true, decide_eq_true_eq] at range
      refine out ?_
      rw [Pack.toMark_eq, if_neg other]
      exact Pack.mem_unusedIn.2 ⟨range.1, by omega, held⟩

/-- A mode applied: the pack, and nothing else but the stock's notice. -/
theorem State.applyMode_leaves (stock : s.stockHolds) (found : s.findPack k.number = some k)
    (free : s.census.blocks k.number = false) (t : State) (ht : t = s.applyMode k m) :
    t.findPack k.number = some (k.withdrawnBy m) ∧ s.otherPacks t k.number ∧
      s.queuesAfter t State.postStock ∧ s.changesOnly t [.packs, .queues] := by
  obtain ⟨v, hv⟩ : ∃ v, v = s.updatePack k.number fun q =>
    { q with state := withdrawnState m, lane := none } := ⟨_, rfl⟩
  have moved : s.changesOnly v [.packs, .queues] := hv ▸ s.updatePack_frame _ _
  have posted : s.queuesAfter v State.postStock := hv ▸ s.updatePack_posts _ _
  have packs := hv ▸ s.updatePack_packs k.number fun q =>
    { q with state := withdrawnState m, lane := none }
  have find : ∀ n, v.findPack n = (s.findPack n).map fun q => if q.number = k.number then
      { q with state := withdrawnState m, lane := none } else q := fun n => by
    rw [hv]
    exact State.findPack_updatePack s (f := fun q =>
      { q with state := withdrawnState m, lane := none }) (fun _ => rfl) n
  have now : v.findPack k.number = some { k with state := withdrawnState m, lane := none } := by
    rw [find, found, Option.map_some, if_pos rfl]
  have others : s.otherPacks v k.number := fun n other => by
    rw [find]
    cases held : s.findPack n with
    | none => rfl
    | some q => rw [Option.map_some, if_neg ((State.mem_of_findPack held).2 ▸ other)]
  have applied : t = v.markUnused k.cls (givenMark m) (k.toMark m) := by
    rw [ht, hv]
    cases m <;> rfl
  have own : ∀ r ∈ k.toMark m, v.packOf k.cls r =
      some { k with state := withdrawnState m, lane := none } := fun r hr => by
    rw [State.packOf_map packs (fun q => by split <;> rfl),
      State.packOf_of_markOf stock found (Pack.toMark_unused hr), Option.map_some, if_pos rfl]
  have unused : ∀ r ∈ k.toMark m,
      Pack.markOf { k with state := withdrawnState m, lane := none } r = some .unused :=
    fun r hr => Pack.toMark_unused hr
  have census : v.census.blocks k.number = false := by
    rw [show v.census = s.census from moved .census (by decide)]
    exact free
  obtain ⟨there, rest⟩ := State.markUnused_pack now givenMark_edge Pack.toMark_nodup unused own
  obtain ⟨frame, last⟩ := State.markUnused_loose
    (p := { k with state := withdrawnState m, lane := none }) now rfl census givenMark_edge
    Pack.toMark_nodup unused own
  rw [applied]
  exact ⟨there, fun n other => (rest n other).trans (others n other),
    State.queuesAfter_stockTwice posted last, State.changesOnly_then moved frame⟩

end

end Sys2Proof.Machine
end

section
/-! SUPPORT. WITHDRAW_PACK and COLLECT_PACK as requests (05 R102 to R108): O45. -/

-- One proof at a time: the check's memory limit holds few threads.
set_option Elab.async false

namespace Sys2Proof.Machine

/-! ## A withdrawal by lane (05 R102, R103) -/

section
variable {s t : State} {k : Pack} {m : WithdrawMode} {l : LaneId}

theorem Lane.refusesWithdrawal_iff (x : Lane) : x.refusesWithdrawal = true ↔
    x.state = .printing ∨ x.state = .cutting ∨ x.awaiting = some .feed ∨ x.deferred = some .feed ∨
      x.inflight ≠ none := by
  simp [Lane.refusesWithdrawal, or_assoc, Option.isSome_iff_ne_none]

theorem State.withdrawPack_of_code {b : WithdrawBody} {code : ResultCode}
    (h : (match b.mode, b.target with
      | none, _ => some .badArgument
      | some _, .lane n =>
        if n < 1 ∨ 4 < n then some .badArgument
        else match s.mounted (Fin.ofNat 4 (n - 1)) with
          | none => some .noPack
          | some k =>
            if s.census.state = .running ∨ s.census.state = .suspending ∨
              (s.census.state = .suspended ∧ s.census.pack = k.number) then
              some .censusBusy
            else if (s.lane (Fin.ofNat 4 (n - 1))).state = .printing ∨
              (s.lane (Fin.ofNat 4 (n - 1))).state = .cutting ∨
              (s.lane (Fin.ofNat 4 (n - 1))).awaiting = some .feed ∨
              (s.lane (Fin.ofNat 4 (n - 1))).deferred = some .feed ∨
              (s.lane (Fin.ofNat 4 (n - 1))).inflight ≠ none then some .laneBusy
            else none
      | some m, .pack n => match s.findPack n with
        | none => some .noPack
        | some k =>
          if k.state = .mounted then some .packMounted
          else if k.state = .withdrawn then some .packWithdrawn
          else if m = .park then some .badArgument
          else if s.census.state = .running ∨ s.census.state = .suspending ∨
            (s.census.state = .suspended ∧ s.census.pack = n) then some .censusBusy
          else none) = some code) : s.withdrawPack b = (s, refusal code) := by
  obtain ⟨target, mode⟩ := b
  unfold State.withdrawPack
  cases mode with
  | none =>
    cases h
    rfl
  | some m =>
    cases target with
    | lane n =>
      dsimp only at h ⊢
      unfold State.withdrawFromLane
      by_cases range : n < 1 ∨ 4 < n
      · rw [if_pos range] at h
        cases h
        rw [laneOf_eq_none range]
      rw [if_neg range] at h
      rw [laneOf_eq_ofNat range]
      dsimp only
      cases mounted : s.mounted (Fin.ofNat 4 (n - 1)) with
      | none =>
        rw [mounted] at h
        cases h
        rfl
      | some k =>
        rw [mounted] at h
        dsimp only at h ⊢
        have busy_iff := s.census.blocks_iff k.number
        have held_iff := Lane.refusesWithdrawal_iff (s.lane (Fin.ofNat 4 (n - 1)))
        split_ifs at h with busy printing
        · cases h
          exact if_pos (busy_iff.2 busy)
        · cases h
          rw [if_neg (mt busy_iff.1 busy), if_pos (held_iff.2 printing)]
    | pack n =>
      dsimp only at h ⊢
      unfold State.withdrawByNumber
      cases found : s.findPack n with
      | none =>
        rw [found] at h
        cases h
        rfl
      | some k =>
        rw [found] at h
        dsimp only at h ⊢
        have busy_iff := s.census.blocks_iff k.number
        rw [(State.mem_of_findPack found).2] at busy_iff ⊢
        split_ifs at h with mounted withdrawn park busy <;> cases h
        · exact if_pos mounted
        · rw [if_neg mounted, if_pos withdrawn]
        · rw [if_neg mounted, if_neg withdrawn, if_pos park]
        · rw [if_neg mounted, if_neg withdrawn, if_neg park, if_pos (busy_iff.2 busy)]

/-- The lane's reports cleared by its pack's withdrawal (10 R183). -/
theorem State.clearByWithdrawal_leaves (t : State) (ht : t = s.clearByWithdrawal l) :
    t.activeOf (.lane l) = [] ∧
    (∀ r ∈ s.activeOf (.lane l), { r with
      state := .cleared
      how := some .withdraw
      cleared := some s.stamp
      primary := none } ∈ t.faults) ∧
    (s.queuesAfter t fun x => if s.activeOf (.lane l) = [] then x else x.postFaults) ∧
    s.changesOnly t [.faults, .queues] := by
  have frame : s.changesOnly t [.faults, .queues] := ht ▸ s.clearByWithdrawal_frame l
  by_cases none_ : s.activeOf (.lane l) = []
  · have same : t = s := by
      rw [ht]
      exact if_pos (List.isEmpty_iff.2 none_)
    rw [same]
    refine ⟨none_, fun r hr => ?_, fun q => ?_, same ▸ frame⟩
    · rw [none_] at hr
      cases hr
    · dsimp only
      rw [if_pos none_]
  · obtain ⟨u, hu⟩ : ∃ u, u = s.mapReports fun r =>
      if r.isActive && r.source == .lane l then r.leave .cleared .withdraw s.stamp else r := ⟨_, rfl⟩
    have step : t = u.postFaults := by
      rw [ht, hu]
      exact if_neg fun h => none_ (List.isEmpty_iff.1 h)
    have mapped : s.changesOnly u [.faults] := hu ▸ s.mapReports_frame _
    have faults : t.faults = s.faults.map fun r =>
        if r.isActive && r.source == .lane l then r.leave .cleared .withdraw s.stamp else r := by
      rw [step]
      refine Eq.trans ((State.postOffice_frame u .faultsChange .faultList) .faults (by decide)).1 ?_
      rw [hu]
      rfl
    refine ⟨?_, fun r hr => ?_, ?_, frame⟩
    · unfold State.activeOf
      rw [faults]
      refine List.filter_eq_nil_iff.2 fun r hr => ?_
      obtain ⟨q, -, rfl⟩ := List.mem_map.1 hr
      split
      · simp [Report.leave, Report.isActive]
      · rename_i other
        simpa [Report.isActive_iff] using other
    · obtain ⟨mem, own⟩ := List.mem_filter.1 hr
      rw [faults]
      exact List.mem_map.2 ⟨r, mem, if_pos own⟩
    · rw [step]
      have posts := State.queuesAfter_postOffice (mapped .queues (by decide)) .faultsChange .faultList
      intro q
      dsimp only
      rw [if_neg none_]
      exact posts q

/-- A withdrawal by lane (05 R103, 04 R73). -/
theorem State.withdrawLane_leaves (stock : s.stockHolds) (found : s.findPack k.number = some k)
    (free : s.census.blocks k.number = false) (t : State) (ht : t = s.withdrawLane l k m) :
    t.findPack k.number = some (k.withdrawnBy m) ∧ s.otherPacks t k.number ∧
    t.lane l = (s.lane l).stopped.unmount ∧ s.otherLanes t l ∧ t.activeOf (.lane l) = [] ∧
    (∀ r ∈ s.activeOf (.lane l), { r with
      state := .cleared
      how := some .withdraw
      cleared := some s.stamp
      primary := none } ∈ t.faults) ∧
    (s.queuesAfter t fun x =>
      ((if s.activeOf (.lane l) = [] then x else x.postFaults).postStock).postLane l) ∧
    s.changesOnly t [.queues, .packs, .lanes, .faults] := by
  obtain ⟨u, hu⟩ : ∃ u, u = s.moveLane l Lane.stopped := ⟨_, rfl⟩
  have stopped : s.laneTo u l (s.lane l).stopped [.lanes] :=
    hu ▸ State.moveLane_unseen_to (Lane.visiblyChanged_eq_false rfl rfl rfl fun _ h => h)
  obtain ⟨v, hv⟩ : ∃ v, v = u.applyMode k m := ⟨_, rfl⟩
  obtain ⟨now, packs, -, applied⟩ := State.applyMode_leaves (stopped.frame.stockHolds stock)
    ((stopped.frame.findPack _).trans found)
    (by rw [show u.census = s.census from stopped.frame .census (by decide)]; exact free) v hv
  have placed := stopped.through applied (c := [.lanes, .packs, .queues])
  have unmounted := v.moveLane_to l Lane.unmount
  rw [placed.self] at unmounted
  have whole := placed.andThen unmounted (c := [.queues, .receivers, .lanes, .packs])
  obtain ⟨w, hw⟩ : ∃ w, w = s.releaseLane l k m := ⟨_, rfl⟩
  have hw' : w = s.unposted fun x => ((x.moveLane l Lane.stopped).applyMode k m).moveLane l
    Lane.unmount := hw
  have frame : s.changesOnly w [.lanes, .packs] := by
    rw [hw']
    exact s.unposted_frame (by rw [← hu, ← hv]; exact whole.frame)
  have lane : ∀ a, w.lane a = (v.moveLane l Lane.unmount).lane a := fun a => by
    rw [hw', State.unposted_lane, ← hu, ← hv]
  have table : w.packs = v.packs := by
    rw [hw', State.unposted_packs, ← hu, ← hv]
    exact unmounted.frame .packs (by decide)
  have find : ∀ n, w.findPack n = v.findPack n := State.findPack_congr table
  obtain ⟨x, hx⟩ : ∃ x, x = w.clearByWithdrawal l := ⟨_, rfl⟩
  obtain ⟨empty, cleared, posts, rest⟩ := State.clearByWithdrawal_leaves x hx
  have active : w.activeOf (.lane l) = s.activeOf (.lane l) := by
    unfold State.activeOf
    rw [(frame .faults (by decide)).1]
  rw [active, frame.stamp] at cleared
  rw [active] at posts
  have step : t = (x.postStock).postLane l := by rw [ht, hx, hw]; rfl
  have told := State.changesOnly_then (c := [.queues]) (State.postOffice_frame x .stockChange .stock)
    (State.postLane_frame _ l)
  have after : x.changesOnly t [.queues] := step ▸ told
  have last := State.changesOnly_then (c := [.faults, .queues]) rest after
  refine ⟨?_, fun n other => ?_, ?_, fun a other => ?_, ?_, fun r hr => ?_, fun q => ?_,
    State.changesOnly_then frame last⟩
  · rw [last.findPack, find, now]
  · rw [last.findPack, find, packs n other, stopped.frame.findPack]
  · rw [last.lane, lane, unmounted.self]
  · rw [last.lane, lane]
    exact whole.others a other
  · unfold State.activeOf at empty ⊢
    rw [(after .faults (by decide)).1]
    exact empty
  · rw [(after .faults (by decide)).1]
    exact cleared r hr
  · have quiet : s.queuesAfter w fun y => y := frame .queues (by decide)
    have first : s.queuesAfter x fun y =>
        if s.activeOf (.lane l) = [] then y else y.postFaults := fun q => by
      rw [posts q]
      dsimp only
      by_cases none_ : s.activeOf (.lane l) = []
      · rw [if_pos none_, if_pos none_]
        exact quiet q
      · rw [if_neg none_, if_neg none_]
        exact State.postFaults_congr quiet q
    have second := State.postStock_congr first
    rw [step]
    exact State.queuesAfter_thenLane second (fun q => rfl) q

/-- The serials a mode marks are the run it is given. -/
theorem State.withdrawAnswer_eq (found : s.findPack k.number = some (k.withdrawnBy m)) :
    s.withdrawAnswer k m = accepted (.packWithdrawn k.number
      (if m = .park then .parked else .withdrawn) (k.toMark m).length (k.withdrawnBy m).counters) := by
  unfold State.withdrawAnswer
  rw [found, withdrawnState_eq]
  rfl

end

/-! ## COLLECT_PACK (05 R107, R108) -/

section
variable {s : State} {n : Nat} {k : Pack}

theorem State.collectPack_of_code {a : Reply} (h : (match s.findPack n with
      | none => some (refusal .noPack)
      | some k =>
        if s.census.state = .running ∨ s.census.state = .suspending ∨
          (s.census.state = .suspended ∧ s.census.pack = n) then some (refusal .censusBusy)
        else if k.state ≠ .withdrawn then some (refusal .notWithdrawn)
        else if 0 < k.references then some ⟨.packReferenced, .references k.references⟩
        else if k.verdict ≠ .matched then some (refusal .censusNeeded)
        else none) = some a) : s.collectPack n = (s, a) := by
  unfold State.collectPack
  cases found : s.findPack n with
  | none =>
    rw [found] at h
    cases h
    rfl
  | some k =>
    rw [found] at h
    dsimp only at h ⊢
    have busy_iff := s.census.blocks_iff k.number
    rw [(State.mem_of_findPack found).2] at busy_iff ⊢
    split_ifs at h with busy loose referenced unmatched <;> cases h
    · exact if_pos (busy_iff.2 busy)
    · rw [if_neg (mt busy_iff.1 busy), if_pos loose]
    · rw [if_neg (mt busy_iff.1 busy), if_neg loose, if_pos referenced]
    · rw [if_neg (mt busy_iff.1 busy), if_neg loose, if_neg referenced, if_pos unmatched]

theorem State.removePack_leaves (n : Nat) : (s.removePack n).packs = s.packs.filter (fun x => x.number != n) ∧
    (s.removePack n).findPack n = none ∧ s.otherPacks (s.removePack n) n ∧
    s.queuesAfter (s.removePack n) State.postStock ∧
    s.changesOnly (s.removePack n) [.queues, .packs] := by
  have packs := s.removePack_packs n
  have find : ∀ r, (s.removePack n).findPack r =
      (s.packs.filter fun x => x.number != n).find? fun p => p.number == r := fun r => by
    unfold State.findPack
    rw [packs]
  refine ⟨packs, ?_, fun r other => ?_, State.queuesAfter_postOffice (fun q => by cases q <;> rfl) _ _,
    ?_⟩
  · rw [find]
    refine List.find?_eq_none.2 fun x hx => ?_
    simpa using (List.mem_filter.1 hx).2
  · rw [find, List.find?_filter]
    refine List.find?_congr fun x _ => ?_
    by_cases here : x.number = r
    · simp [here, other]
    · simp [here]
  · have frame := s.removePack_frame n
    intro y out
    by_cases next : y = .nextPack
    · subst next
      exact (State.postOffice_frame _ .stockChange .stock) .nextPack (by decide)
    · exact frame y (by simp_all)

end

/-- Settles O45: the refusals by `State.withdrawPack_of_code` and `State.collectPack_of_code`, a
withdrawal by `State.withdrawLane_leaves` and `State.applyMode_leaves`, and a collection by
`State.removePack_leaves`. -/
theorem withdrawAndCollectPacks : Obligations.WithdrawAndCollectPacks := by
  unfold Obligations.WithdrawAndCollectPacks
  intro s p tag
  refine ⟨fun admits => ⟨fun b code h => ?_, fun m k run stock found idle other hrun =>
    ⟨fun l pack notPrinting notCutting notFeeding notDeferred noTicket => ?_, fun state notPark => ?_⟩⟩,
    fun admits n => ⟨fun a h => ?_, fun k found idle other withdrawn free matched => ?_⟩⟩
  · exact exec_unmoved (exec_plain (.withdrawPack p tag (some b)) admits
      (congrArg some (State.withdrawPack_of_code h)))
  · have census := Census.blocks_eq_false idle other
    rw [← Pack.toMark_eq] at hrun
    subst hrun
    obtain ⟨t, ht⟩ : ∃ t, t = s.withdrawLane l k m := ⟨_, rfl⟩
    obtain ⟨now, packs, lane, lanes, empty, cleared, posts, frame⟩ :=
      State.withdrawLane_leaves stock found census t ht
    have allowed : ¬(s.lane l).refusesWithdrawal = true := by
      rw [Lane.refusesWithdrawal_iff]
      simp [notPrinting, notCutting, notFeeding, notDeferred, noTicket]
    have block : s.withdrawPack ⟨.lane (l.val + 1), some m⟩ = (t, t.withdrawAnswer k m) := by
      unfold State.withdrawPack State.withdrawFromLane
      dsimp only
      rw [laneOf_val_add_one]
      dsimp only
      rw [State.mounted_eq_some_iff.2 ⟨_, pack, found⟩]
      dsimp only
      rw [census, if_neg (by decide), if_neg allowed, ht]
    rw [State.withdrawAnswer_eq now] at block
    have run := exec_plain (.withdrawPack p tag (some ⟨.lane (l.val + 1), some m⟩)) admits
      (congrArg some block)
    dsimp only at run
    obtain ⟨a, run, answered, answers⟩ := exec_answers run frame
    obtain ⟨-, state, none_, references, sequence, verdict⟩ := k.withdrawnBy_kept m
    obtain ⟨unused, same⟩ := Pack.withdrawnBy_counters (m := m) (State.wf_of_findPack stock found)
    have faults : a.faults = t.faults := (answers .faults (by decide)).1
    refine ⟨a, k.withdrawnBy m, run, answered, (answers.findPack _).trans now,
      state.trans (withdrawnState_eq m), none_, fun n => Pack.withdrawnBy_markOf n, sequence, verdict,
      unused, same, references, (answers.lane l).trans (lane.trans ?_),
      fun b ne => (answers.lane b).trans (lanes b ne), fun n ne => (answers.findPack n).trans (packs n ne),
      ?_, fun r hr => faults ▸ cleared r hr, State.queuesAfter_still posts answers,
      State.changesOnly_then frame answers⟩
    · unfold Lane.stopped Lane.unmount
      rw [← noTicket]
    · unfold State.activeOf at empty ⊢
      rw [faults]
      exact empty
  · have census := Census.blocks_eq_false idle other
    rw [← Pack.toMark_eq] at hrun
    subst hrun
    obtain ⟨t, ht⟩ : ∃ t, t = s.applyMode k m := ⟨_, rfl⟩
    obtain ⟨now, packs, posts, frame⟩ := State.applyMode_leaves stock found census t ht
    have block : s.withdrawPack ⟨.pack k.number, some m⟩ = (t, t.withdrawAnswer k m) := by
      unfold State.withdrawPack State.withdrawByNumber
      dsimp only
      rw [found]
      dsimp only
      have loose : k.state ≠ .mounted ∧ k.state ≠ .withdrawn := by
        rcases state with h | h <;> rw [h] <;> decide
      rw [if_neg loose.1, if_neg loose.2, if_neg notPark, census, if_neg (by decide), ht]
    rw [State.withdrawAnswer_eq now, if_neg notPark] at block
    have run := exec_plain (.withdrawPack p tag (some ⟨.pack k.number, some m⟩)) admits
      (congrArg some block)
    dsimp only at run
    obtain ⟨a, run, answered, answers⟩ := exec_answers run frame
    obtain ⟨-, state', none_, -, sequence, -⟩ := k.withdrawnBy_kept m
    obtain ⟨unused, -⟩ := Pack.withdrawnBy_counters (m := m) (State.wf_of_findPack stock found)
    exact ⟨a, k.withdrawnBy m, run, answered, (answers.findPack _).trans now,
      state'.trans ((withdrawnState_eq m).trans (if_neg notPark)), none_,
      fun n => Pack.withdrawnBy_markOf n, sequence, unused notPark,
      fun n ne => (answers.findPack n).trans (packs n ne), State.queuesAfter_still posts answers,
      State.changesOnly_then frame answers⟩
  · exact exec_unmoved (exec_plain (.collectPack p tag (some n)) admits
      (congrArg some (State.collectPack_of_code h)))
  · have census := Census.blocks_eq_false idle other
    obtain ⟨packs, gone, others, posts, frame⟩ := State.removePack_leaves (s := s) n
    have block : s.collectPack n = (s.removePack n, accepted (.packCollected k.final)) := by
      unfold State.collectPack
      rw [found]
      dsimp only
      rw [(State.mem_of_findPack found).2, census, if_neg (by decide), if_neg (not_not.2 withdrawn),
        if_neg (by omega), if_neg (not_not.2 matched)]
    have run := exec_plain (.collectPack p tag (some n)) admits (congrArg some block)
    dsimp only at run
    obtain ⟨a, run, answered, answers⟩ := exec_answers run frame
    exact ⟨a, run, answered, (answers .packs (by decide)).trans packs, (answers.findPack _).trans gone,
      fun r ne => (answers.findPack r).trans (others r ne), State.queuesAfter_still posts answers,
      State.changesOnly_then frame answers⟩

end Sys2Proof.Machine
end

section
/-! SUPPORT. RESTART: the jobs dropped, the census stopped and the queues begun again (11 R198). -/

-- One proof at a time: the check's memory limit holds few threads.
set_option Elab.async false

namespace Sys2Proof.Machine

/-! ## Sums over the jobs -/

theorem sum_map_filter {α : Type} (p : α → Bool) (g : α → Nat) : ∀ xs : List α,
    ((xs.filter p).map g).sum = (xs.map fun x => if p x then g x else 0).sum
  | [] => rfl
  | x :: xs => by
    have rest := sum_map_filter p g xs
    rw [List.filter_cons]
    split <;> rename_i h <;> simp [h, rest]

theorem sum_flatMap {α β : Type} (f : α → List β) (g : β → Nat) : ∀ xs : List α,
    ((xs.flatMap f).map g).sum = (xs.map fun x => ((f x).map g).sum).sum
  | [] => rfl
  | x :: xs => by simp [List.flatMap_cons, sum_flatMap f g xs]

theorem sum_filterMap {α β : Type} (f : α → Option β) (g : β → Nat) : ∀ xs : List α,
    ((xs.filterMap f).map g).sum = (xs.map fun x => ((f x).map g).getD 0).sum
  | [] => rfl
  | x :: xs => by
    have rest := sum_filterMap f g xs
    rw [List.filterMap_cons]
    split <;> rename_i h <;> simp [h, rest]

/-- What the jobs of a window come to, slot by slot. -/
theorem State.sum_jobs (s : State) (w : Window) (h : SlotId → Job → Nat) :
    (s.jobs.map fun x => if x.1 = w then h x.2.1 x.2.2 else 0).sum =
      ((List.finRange 8).map fun k => ((s.job w k).map (h k)).getD 0).sum := by
  have one : ∀ v : Window, (((allSlots.filterMap fun k => (s.job v k).map fun j => (v, k, j)).map
      fun x : Window × SlotId × Job => if x.1 = w then h x.2.1 x.2.2 else 0)).sum =
      if v = w then ((List.finRange 8).map fun k => ((s.job w k).map (h k)).getD 0).sum else 0 := by
    intro v
    rw [sum_filterMap]
    by_cases same : v = w
    · subst same
      rw [if_pos rfl, show allSlots = List.finRange 8 by decide]
      refine congrArg List.sum (List.map_congr_left fun k _ => ?_)
      cases s.job v k <;> simp
    · rw [if_neg same]
      refine List.sum_eq_zero fun n hn => ?_
      obtain ⟨k, -, rfl⟩ := List.mem_map.1 hn
      cases s.job v k <;> simp [same]
  unfold State.jobs
  rw [sum_flatMap, List.map_congr_left fun v _ => one v]
  generalize ((List.finRange 8).map fun k => ((s.job w k).map (h k)).getD 0).sum = total
  fin_cases w <;> simp [allWindows]

/-! ## The office's queue begun again -/

section
variable {s t u : State}

/-- The windows' queues stand, and the office's keeps its first notice (01 R17). -/
def State.keepsFirst (s t : State) : Prop :=
  (∀ w, (t.port (.window w)).queue = (s.port (.window w)).queue) ∧
    ∀ rest, (s.port .office).queue = .controllerStart :: rest →
      ∃ rest', (t.port .office).queue = .controllerStart :: rest'

theorem State.keepsFirst.andThen (h : s.keepsFirst t) (h' : t.keepsFirst u) : s.keepsFirst u := by
  refine ⟨fun w => (h'.1 w).trans (h.1 w), fun rest first => ?_⟩
  obtain ⟨rest', first'⟩ := h.2 rest first
  exact h'.2 rest' first'

theorem State.keepsFirst_of_same (h : s.same t .queues) : s.keepsFirst t :=
  ⟨fun w => h (.window w), fun rest first => ⟨rest, (h .office).trans first⟩⟩

theorem State.postOffice_keepsFirst (k : NoticeKind) (o : NoticeObject) (other : o ≠ .controller) :
    s.keepsFirst (s.postOffice k o) := by
  refine ⟨fun w => rfl, fun rest first => ?_⟩
  rw [State.postOffice_queue, first]
  unfold coalesce
  split
  · have kept : Notice.controllerStart.object ≠ o := fun e => other e.symm
    exact ⟨_, by rw [List.map_cons, if_neg kept]⟩
  · exact ⟨_, rfl⟩

end

/-! ## A job dropped (03 R64) -/

section
variable (s : State) (x : Window × SlotId × Job)

theorem State.unbind_keepsFirst (f : Fin 8) (g : Option Nat) : s.keepsFirst (s.unbind f g) := by
  obtain ⟨y, written | ⟨told, applied⟩⟩ := s.unbind_cases f g
  · rw [written]
    exact State.keepsFirst_of_same ((s.setForm_frame f y) .queues (by decide))
  · have posted := (State.keepsFirst_of_same ((s.setForm_frame f y) .queues (by decide))).andThen
      (State.postOffice_keepsFirst (s := s.setForm f y) .formsChange .forms nofun)
    rw [applied]
    cases told
    · exact posted
    · exact posted.andThen (State.keepsFirst_of_same
        ((State.reportEligible_frame (s := (s.setForm f y).postForms)) .queues (by decide)))

/-- A dropped job's reservation leaves its window's session. -/
theorem State.dropJob_session (w : Window) : (s.dropJob x).session w = { s.session w with
    reserved := (s.session w).reserved - if x.1 = w then x.2.2.reserved else 0 } := by
  unfold State.dropJob
  rw [(State.unbind_frame _ x.2.2.form x.2.2.generation).session w]
  by_cases same : x.1 = w
  · rw [same, if_pos rfl, State.unreserve_session]
  · rw [if_neg same, State.unreserve_otherSessions s x.1 _ w (Ne.symm same)]
    rfl

theorem State.dropJob_claimed : s.lanesClaimed (s.dropJob x) := by
  have released := s.unreserve_frame x.1 x.2.2.reserved
  obtain ⟨told, lanes⟩ := State.unbind_told (s.unreserve x.1 x.2.2.reserved) x.2.2.form
    x.2.2.generation
  exact fun l => (State.lanesTold.before released lanes).cases l

theorem State.dropJob_journal : (s.dropJob x).journal = s.journal ∧
    (s.dropJob x).journalInUse = s.journalInUse := by
  have unbound := State.unbind_frame (s := s.unreserve x.1 x.2.2.reserved) x.2.2.form x.2.2.generation
  obtain ⟨journal, used, -⟩ := unbound .journal (by decide)
  exact ⟨journal, used⟩

theorem State.dropJob_keepsFirst : s.keepsFirst (s.dropJob x) :=
  (State.keepsFirst_of_same ((s.unreserve_frame x.1 x.2.2.reserved) .queues (by decide))).andThen
    (State.unbind_keepsFirst _ _ _)

end

/-- Jobs dropped one after another. -/
theorem State.dropJobs_leaves : ∀ (xs : List (Window × SlotId × Job)) (s t : State),
    t = xs.foldl State.dropJob s →
    (∀ w, t.session w = { s.session w with reserved := (s.session w).reserved -
      (xs.map fun x => if x.1 = w then x.2.2.reserved else 0).sum }) ∧
    s.lanesClaimed t ∧ s.keepsFirst t ∧ t.journal = s.journal ∧ t.journalInUse = s.journalInUse ∧
    s.changesOnly t [.sessions, .journal, .forms, .queues, .lanes]
  | [], s, t, ht => by
    obtain rfl : t = s := ht
    exact ⟨fun w => rfl, fun l => .inl rfl, State.keepsFirst_of_same (t.same_refl .queues), rfl, rfl,
      t.changesOnly_refl _⟩
  | x :: xs, s, t, ht => by
    obtain ⟨u, hu⟩ : ∃ u, u = s.dropJob x := ⟨_, rfl⟩
    obtain ⟨sessions, lanes, queues, journal, used, frame⟩ :=
      State.dropJobs_leaves xs u t (by rw [ht, hu]; rfl)
    have first : s.changesOnly u [.sessions, .journal, .forms, .queues, .lanes] :=
      hu ▸ s.dropJob_frame x
    refine ⟨fun w => ?_, ?_, ?_, ?_, ?_, State.changesOnly_then first frame⟩
    · rw [sessions, hu, State.dropJob_session, List.map_cons, List.sum_cons, Nat.sub_sub]
    · exact (hu ▸ s.dropJob_claimed x : s.lanesClaimed u).andThen
        (first .powerFail (by decide)) lanes
    · exact (hu ▸ s.dropJob_keepsFirst x : s.keepsFirst u).andThen queues
    · rw [journal, hu, (s.dropJob_journal x).1]
    · rw [used, hu, (s.dropJob_journal x).2]

/-! ## RESTART (11 R198) -/

section
variable {s : State}

/-- The reservations of the jobs RESTART removes. -/
theorem State.restartedJobs_sum (s : State) (w : Window) :
    (s.restartedJobs.map fun x => if x.1 = w then x.2.2.reserved else 0).sum =
      ((List.finRange 8).map fun k => match s.job w k with
        | some j => if j.state ∈ [JobState.queued, .held, .retryWait] then j.reserved else 0
        | none => 0).sum := by
  unfold State.restartedJobs
  rw [sum_map_filter]
  refine Eq.trans (congrArg List.sum (List.map_congr_left fun x _ => ?_))
    ((s.sum_jobs w fun _ j => if j.state ∈ [JobState.queued, .held, .retryWait] then j.reserved
      else 0).trans (congrArg List.sum (List.map_congr_left fun k _ => ?_)))
  · by_cases same : x.1 = w
    · rw [if_pos same, if_pos same]
      cases h : x.2.2.state <;> simp [Job.isActive, h]
    · rw [if_neg same, if_neg same, ite_self]
  · cases s.job w k <;> rfl

theorem State.restart_slot (t : State) (ht : t = s.restartQueues.restartSlots) (w : Window)
    (k : SlotId) : t.slot w k = ⟨false, (s.job w k).filter fun j => j.state == .printing⟩ := by
  obtain ⟨-, -, -, -, -, frame⟩ := State.dropJobs_leaves s.restartQueues.restartedJobs
    { s.restartQueues with slots := s.restartQueues.slots.map fun v => v.map Slot.restarted } t ht
  rw [frame.slot]
  have slot : State.slot { s.restartQueues with
      slots := s.restartQueues.slots.map fun v => v.map Slot.restarted } w k =
      (s.slot w k).restarted := by
    unfold State.slot
    simp only [Fin.getElem_fin, Vector.getElem_map]
    rfl
  rw [slot]
  unfold Slot.restarted State.job
  cases held : (s.slot w k).job with
  | none => rfl
  | some j =>
    dsimp only
    by_cases printing : j.state = .printing
    · rw [if_pos printing]
      simp [Option.filter, printing]
    · rw [if_neg printing]
      simp [Option.filter, printing, Slot.empty]

/-- What RESTART leaves. -/
theorem State.restart_leaves (t : State) (ht : t = s.restart.1) :
    (∀ w k, t.slot w k = ⟨false, (s.job w k).filter fun j => j.state == .printing⟩) ∧
    (∀ w, t.session w = { s.session w with
      inProgress := none
      reserved := (s.session w).reserved - ((List.finRange 8).map fun k =>
        match s.job w k with
        | some j => if j.state ∈ [JobState.queued, .held, .retryWait] then j.reserved else 0
        | none => 0).sum }) ∧
    t.census = (if s.census.state = .idle then s.census else s.census.stopped .restart) ∧
    (∀ w, (t.port (.window w)).queue = [.controllerStart]) ∧
    (t.port .office).queue.head? = some .controllerStart ∧ t.journal = s.journal ∧
    t.journalInUse = s.journalInUse ∧
    (∀ l, t.lane l = s.lane l ∨ t.lane l = (s.lane l).claiming s.powerFail) ∧
    s.changesOnly t [.queues, .slots, .forms, .sessions, .journal, .census, .lanes] := by
  obtain ⟨u, hu⟩ : ∃ u, u = s.restartQueues.restartSlots := ⟨_, rfl⟩
  obtain ⟨base, hbase⟩ : ∃ base : State, base = { s.restartQueues with
    slots := s.restartQueues.slots.map fun v => v.map Slot.restarted } := ⟨_, rfl⟩
  have emptied : s.changesOnly base [.queues, .slots] :=
    hbase ▸ State.changesOnly_then s.restartQueues_frame (State.setSlots_frame _)
  obtain ⟨sessions, lanes, queues, journal, used, dropped⟩ :=
    State.dropJobs_leaves s.restartQueues.restartedJobs base u (by rw [hu, hbase]; rfl)
  have begun : ∀ q, (base.port q).queue = [.controllerStart] := fun q => by
    rw [hbase, (State.setSlots_frame _) .queues (by decide) q, State.restartQueues_port]
    rfl
  obtain ⟨v, hv⟩ : ∃ v, v = u.haltCensus .restart := ⟨_, rfl⟩
  have halted : u.changesOnly v [.census, .queues] := hv ▸ u.haltCensus_frame .restart
  have census : u.census = s.census :=
    (dropped .census (by decide)).trans (emptied .census (by decide))
  have halts : v.census = (if s.census.state = .idle then s.census else s.census.stopped .restart) := by
    rw [hv, State.haltCensus, census]
    split
    · exact census
    · rfl
  have stays : u.keepsFirst v := by
    rw [hv]
    unfold State.haltCensus
    split
    · exact State.keepsFirst_of_same (u.same_refl .queues)
    · exact (State.keepsFirst_of_same ((State.setCensus_frame u _) .queues (by decide))).andThen
        (State.postOffice_keepsFirst .censusChange .census nofun)
  have step : t = v.dropDeclarations := by rw [ht, hv, hu]; rfl
  have undeclared : v.changesOnly t [.sessions] := step ▸ State.setSessions_frame _
  have first := (queues.andThen stays).andThen
    (State.keepsFirst_of_same (undeclared .queues (by decide)))
  have rest := State.changesOnly_then halted undeclared (c := [.census, .queues, .sessions])
  have jobs : ∀ w k, s.restartQueues.job w k = s.job w k := fun w k =>
    (s.restartQueues_frame).job w k
  refine ⟨fun w k => ?_, fun w => ?_, ?_, fun w => (first.1 w).trans (begun _), ?_, ?_, ?_,
    fun l => ?_, State.changesOnly_then (State.changesOnly_then emptied dropped
      (c := [.queues, .slots, .forms, .sessions, .journal, .lanes])) rest⟩
  · rw [rest.slot]
    exact State.restart_slot u hu w k
  · have session : t.session w = (v.session w).undeclared := by
      rw [step]
      simp [State.dropDeclarations, State.session]
    rw [session, halted.session, sessions, emptied.session, State.restartedJobs_sum]
    simp only [jobs]
    rfl
  · exact (undeclared .census (by decide)).trans halts
  · obtain ⟨rest', head⟩ := first.2 [] (begun .office)
    rw [head]
    rfl
  · exact (rest .journal (by decide)).1.trans (journal.trans (emptied .journal (by decide)).1)
  · exact (rest .journal (by decide)).2.1.trans (used.trans (emptied .journal (by decide)).2.1)
  · rw [rest.lane, ← show base.lane l = s.lane l from emptied.lane l,
      ← show base.powerFail = s.powerFail from emptied .powerFail (by decide)]
    exact lanes l

end

end Sys2Proof.Machine
end

section
/-! SUPPORT. STORE_REINITIALISE: the jobs cancelled (03 R65), and O57. -/

-- One proof at a time: the check's memory limit holds few threads.
set_option Elab.async false

namespace Sys2Proof.Machine

/-! ## The jobs cancelled (03 R65) -/

section
variable {s t : State} {w : Window} {k : SlotId} {j : Job}

/-- A job's slot once the store is initialised again. -/
def Slot.cancelled (y : Slot) (j : Job) : Slot :=
  if j.isActive then ⟨true, some { j.cancelled with latest := some j.cancelOutcome }⟩
  else ⟨y.unread, some { j with generation := none }⟩

theorem State.cancelJob_otherSlots (x : Window × SlotId × Job) :
    s.otherSlots (s.cancelJob x) x.1 x.2.1 := fun v i other => by
  unfold State.cancelJob
  split
  · rw [State.postOutcome_otherSlots _ _ _ _ v i other, State.mapJob_otherSlots s _ _ _ v i other]
  · exact State.mapJob_otherSlots s _ _ _ v i other

/-- A job's slot cancelled, or already so. -/
theorem State.cancelJob_slot {y : Slot} (held : y.job = some j)
    (here : s.slot w k = y ∨ s.slot w k = y.cancelled j) :
    (s.cancelJob (w, k, j)).slot w k = y.cancelled j := by
  unfold State.cancelJob
  dsimp only
  by_cases active : j.isActive = true
  · have result : y.cancelled j = ⟨true, some { j.cancelled with latest := some j.cancelOutcome }⟩ :=
      if_pos active
    rw [if_pos active]
    rcases here with h | h
    · have job : s.job w k = some j := (congrArg Slot.job h).trans held
      rw [State.postOutcome_slot _ w k _ (congrArg Slot.job (State.mapJob_slot_self _ _ _ _ job)), result]
    · rw [result] at h ⊢
      rw [State.postOutcome_slot _ w k _ (congrArg Slot.job (State.mapJob_slot_self _ _ _ _
        (congrArg Slot.job h)))]
      rfl
  · have result : y.cancelled j = ⟨y.unread, some { j with generation := none }⟩ := if_neg active
    rw [if_neg active]
    rcases here with h | h
    · rw [State.mapJob_slot_self _ _ _ _ ((congrArg Slot.job h).trans held), result, h]
    · rw [result] at h ⊢
      rw [State.mapJob_slot_self _ _ _ _ (congrArg Slot.job h), h]

/-- The slot of a job among those cancelled, and of one that is not. -/
theorem State.cancelled_slot {y : Slot} (held : y.job = some j) :
    ∀ (xs : List (Window × SlotId × Job)) (s : State), (∀ x ∈ xs, x.1 = w → x.2.1 = k → x.2.2 = j) →
      (s.slot w k = y ∨ s.slot w k = y.cancelled j) →
      ((xs.foldl State.cancelJob s).slot w k = y ∨
        (xs.foldl State.cancelJob s).slot w k = y.cancelled j) ∧
      ((w, k, j) ∈ xs ∨ s.slot w k = y.cancelled j →
        (xs.foldl State.cancelJob s).slot w k = y.cancelled j)
  | [], s, _, here => ⟨here, fun h => h.resolve_left (List.not_mem_nil)⟩
  | x :: xs, s, own, here => by
    have rest := State.cancelled_slot held xs (s.cancelJob x)
      fun z hz => own z (List.mem_cons_of_mem _ hz)
    obtain ⟨v, i, z⟩ := x
    by_cases same : (w, k) = (v, i)
    · cases same
      obtain rfl : z = j := own _ (List.mem_cons_self ..) rfl rfl
      have step := State.cancelJob_slot held here
      exact ⟨(rest (.inr step)).1, fun _ => (rest (.inr step)).2 (.inr step)⟩
    · have step : (s.cancelJob (v, i, z)).slot w k = s.slot w k :=
        s.cancelJob_otherSlots (v, i, z) w k same
      rw [← step] at here
      refine ⟨(rest here).1, fun h => (rest here).2 ?_⟩
      rcases h with mem | now
      · rcases List.mem_cons.1 mem with e | mem
        · cases e
          exact absurd rfl same
        · exact .inl mem
      · exact .inr (step.trans now)

/-- A slot has one job among the table's. -/
theorem State.jobs_key (job : s.job w k = some j) : ∀ x ∈ s.jobs, x.1 = w → x.2.1 = k → x.2.2 = j := by
  rintro ⟨v, i, z⟩ hx rfl rfl
  exact Option.some.inj ((State.mem_jobs.1 hx).symm.trans job)

theorem State.cancelJobs_slot (job : s.job w k = some j) :
    s.cancelJobs.slot w k = (s.slot w k).cancelled j :=
  (State.cancelled_slot job s.jobs s (State.jobs_key job) (.inl rfl)).2 (.inl (State.mem_jobs.2 job))

theorem State.cancelJobs_slot_none (job : s.job w k = none) : s.cancelJobs.slot w k = s.slot w k := by
  have all : ∀ (xs : List (Window × SlotId × Job)) (t : State), (∀ x ∈ xs, (w, k) ≠ (x.1, x.2.1)) →
      (xs.foldl State.cancelJob t).slot w k = t.slot w k := by
    intro xs
    induction xs with
    | nil => exact fun t _ => rfl
    | cons x xs ih =>
      intro t other
      rw [List.foldl_cons, ih _ fun z hz => other z (List.mem_cons_of_mem _ hz)]
      exact t.cancelJob_otherSlots x w k (other x (List.mem_cons_self ..))
  refine all s.jobs s fun x hx same => ?_
  obtain ⟨v, i, z⟩ := x
  cases same
  rw [State.mem_jobs.1 hx] at job
  cases job

/-- A cancelled job's notice waits (03 R65). -/
theorem State.cancelJobs_posts (job : s.job w k = some j) (active : j.isActive = true) :
    outcomeNotice k j.cancelOutcome ∈ (s.cancelJobs.port (.window w)).queue := by
  have key := State.jobs_key job
  obtain ⟨pre, post, split⟩ := List.append_of_mem (State.mem_jobs.2 job)
  rw [split] at key
  obtain ⟨u, hu⟩ : ∃ u, u = pre.foldl State.cancelJob s := ⟨_, rfl⟩
  obtain ⟨v, hv⟩ : ∃ v, v = u.cancelJob (w, k, j) := ⟨_, rfl⟩
  have whole : s.cancelJobs = post.foldl State.cancelJob v := by
    rw [State.cancelJobs, split, List.foldl_append, hv, hu]
    rfl
  have before := (State.cancelled_slot job pre s
    (fun x hx => key x (List.mem_append_left _ hx)) (.inl rfl)).1
  rw [← hu] at before
  have here := State.cancelJob_slot job before
  rw [← hv] at here
  have posted : outcomeNotice k j.cancelOutcome ∈ (v.port (.window w)).queue := by
    rw [hv, State.cancelJob]
    dsimp only
    rw [if_pos active, State.postOutcome_queue_window, if_pos rfl]
    exact mem_coalesce_self _ _
  have latest : ∀ {t : State}, t.slot w k = (s.slot w k).cancelled j →
      t.latest w k = some j.cancelOutcome := fun {t} now => by
    have slot : (s.slot w k).cancelled j =
        ⟨true, some { j.cancelled with latest := some j.cancelOutcome }⟩ := if_pos active
    unfold State.latest State.job
    rw [now, slot]
    rfl
  rw [whole]
  exact (State.outcomesTold_foldl _ State.cancelJob_outcomesTold post v w k _
    (latest ((whole ▸ State.cancelJobs_slot job : _ = _)))).1 (latest here) posted

end

/-! ## The store initialised again (11 R196) -/

section
variable {s : State} {w : Window} {k : SlotId} {j : Job}

theorem State.reinitialised_slot (s : State) (w : Window) (k : SlotId) :
    s.reinitialised.slot w k = s.cancelJobs.slot w k :=
  (State.changesOnly_then (State.changesOnly_then (c := [.sessions, .queues, .journal, .lanes])
    State.emptySessions_frame State.reinitialiseLanes_frame) s.withoutJobs_reinitialised_frame
    (c := [.sessions, .queues, .journal, .lanes, .packs, .nextPack, .census, .forms, .discounts,
      .grants, .limits, .faults, .store])).slot w k

theorem State.anyPrinting_iff : s.anyPrinting = true ↔
    ∃ w k j, s.job w k = some j ∧ j.state = .printing := by
  unfold State.anyPrinting
  rw [List.any_eq_true]
  constructor
  · rintro ⟨⟨w, k, j⟩, mem, printing⟩
    exact ⟨w, k, j, State.mem_jobs.1 mem, eq_of_beq printing⟩
  · rintro ⟨w, k, j, job, printing⟩
    exact ⟨(w, k, j), State.mem_jobs.2 job, beq_iff_eq.2 printing⟩

theorem State.reinitialised_tells (l : LaneId) (a : Port) :
    laneNotice l ∈ (s.reinitialised.port a).queue := by
  rw [State.reinitialised_eq]
  exact (State.reinitialisedAfterLanes_grow _ a).2 _ (laneNotice_plain l)
    (State.reinitialiseLanes_posts _ l a)

end

/-- Settles O57: RESTART by `State.restart_leaves`, STORE_REINITIALISE by `State.cancelJobs_slot` and
the laws `State.reinitialised_…`. -/
theorem restartAndReinitialise : Obligations.RestartAndReinitialise := by
  unfold Obligations.RestartAndReinitialise
  intro s p tag
  refine ⟨fun admits => ?_, fun admits => ⟨fun printing => ?_, fun quiet => ?_⟩⟩
  · obtain ⟨u, hu⟩ : ∃ u, u = s.restart.1 := ⟨_, rfl⟩
    obtain ⟨slots, sessions, census, windows, office, journal, used, lanes, frame⟩ :=
      State.restart_leaves u hu
    have block : s.restart = (u, accepted .bare) := by rw [hu]; rfl
    have run := exec_plain (.restart p tag (some ())) admits (congrArg some block)
    dsimp only at run
    obtain ⟨t, run, answered, answers⟩ := exec_answers run frame
    have queue : ∀ q, (t.port q).queue = (u.port q).queue := answers .queues (by decide)
    have entries := answers .journal (by decide)
    exact ⟨t, run, answered, fun w k => (answers.slot w k).trans (slots w k),
      fun w => (answers.session w).trans (sessions w), (answers .census (by decide)).trans census,
      fun w => (queue _).trans (windows w), by rw [queue]; exact office, entries.1.trans journal,
      entries.2.1.trans used, fun l => by rw [answers.lane]; exact lanes l,
      State.changesOnly_then frame answers⟩
  · have block : s.storeReinitialise = (s, refusal .laneBusy) := if_pos (State.anyPrinting_iff.2 printing)
    exact exec_unmoved (exec_plain (.storeReinitialise p tag (some ())) admits (congrArg some block))
  · have idle : ¬s.anyPrinting = true := by
      rw [State.anyPrinting_iff]
      rintro ⟨w, k, j, job, printing⟩
      exact quiet w k j job printing
    obtain ⟨u, hu⟩ : ∃ u, u = s.reinitialised := ⟨_, rfl⟩
    have block : s.storeReinitialise = (u, accepted .bare) := by
      rw [hu]
      exact if_neg idle
    have frame : s.changesOnly u _ := hu ▸ s.reinitialised_frame
    have run := exec_plain (.storeReinitialise p tag (some ())) admits (congrArg some block)
    dsimp only at run
    obtain ⟨t, run, answered, answers⟩ := exec_answers run frame
    have queue : ∀ q, (t.port q).queue = (s.reinitialised.port q).queue :=
      hu ▸ answers .queues (by decide)
    have slot : ∀ w k, t.slot w k = s.cancelJobs.slot w k := fun w k => by
      rw [answers.slot, hu, State.reinitialised_slot]
    have census : t.census = if s.census.state = .idle then s.census
        else s.census.stopped .storeReinitialise :=
      (answers .census (by decide)).trans (hu ▸ s.reinitialised_census)
    have lane : ∀ l, t.lane l = (s.lane l).reinitialised := fun l => by
      rw [answers.lane, hu, State.reinitialised_lane]
    have discounts : t.discounts = emptyDiscounts :=
      (answers .discounts (by decide)).trans (hu ▸ s.reinitialised_discounts)
    have grants : t.grants = u.grants := answers .grants (by decide)
    obtain ⟨entries, used, reserved⟩ := s.reinitialised_journal
    obtain ⟨packs, next⟩ := s.reinitialised_packs
    obtain ⟨faults, counter⟩ := s.reinitialised_faults
    obtain ⟨valid, agrees⟩ := s.reinitialised_store
    rw [← hu] at entries used reserved packs next faults counter valid agrees
    obtain ⟨entries', used', reserved'⟩ := answers .journal (by decide)
    obtain ⟨faults', counter'⟩ := answers .faults (by decide)
    obtain ⟨valid', agrees'⟩ := answers .store (by decide)
    refine ⟨t, run, answered, fun w k none_ => (slot w k).trans (State.cancelJobs_slot_none none_),
      fun w k j o job ho => ⟨fun state => ⟨?_, ?_⟩, fun state => ?_⟩, fun w => ?_,
      entries'.trans entries, used'.trans used, reserved'.trans reserved, fun l => ?_,
      (answers .packs (by decide)).trans packs, (answers .nextPack (by decide)).trans next, ?_,
      fun other => ?_, fun f => ?_, ?_, fun c other => ?_, fun w => ?_,
      (answers .limits (by decide)).trans (hu ▸ s.reinitialised_limits), faults'.trans faults,
      counter'.trans counter, valid'.trans valid, agrees'.trans agrees,
      fun l a => by rw [queue]; exact State.reinitialised_tells l a, ?_,
      State.changesOnly_then frame answers⟩
    · have active : j.isActive = true := by
        rw [Job.isActive_iff]
        simp at state ⊢
        tauto
      rw [slot, State.cancelJobs_slot job, Slot.cancelled, if_pos active, ho]
      rfl
    · have active : j.isActive = true := by
        rw [Job.isActive_iff]
        simp at state ⊢
        tauto
      rw [queue, ho]
      exact s.reinitialised_outcomesWait w k _ (State.cancelJobs_posts job active)
    · have over_ : ¬j.isActive = true := by
        rw [Job.isActive_iff]
        intro active
        simp at state active
        rcases state with h | h | h | h <;> rw [h] at active <;> simp at active
      rw [slot, State.cancelJobs_slot job, Slot.cancelled, if_neg over_]
    · rw [answers.session, hu, State.reinitialised_session]
      rfl
    · rw [lane]
      exact ⟨rfl, rfl, rfl, rfl, rfl, rfl, rfl, rfl⟩
    · rw [census]
      split <;> rename_i idle
      · exact idle
      · rfl
    · rw [census, if_neg other]
      rfl
    · rw [answers.form, hu, State.reinitialised_form]
      rfl
    · rw [discounts]
      rfl
    · rw [discounts]
      exact (Vector.getElem_set_ne _ _ fun same => other (Fin.ext same.symm)).trans
        (Vector.getElem_replicate (n := 16) c.isLt)
    · rw [grants, hu, State.reinitialised_grants]
      rfl
    · rw [queue, State.reinitialised_stages]
      exact State.mem_post_office _ _ _

end Sys2Proof.Machine
end

section
/-! SUPPORT. What the lanes' operations leave in a lane's record: it fits its state (04 Table 4.1). -/

-- One proof at a time: the check's memory limit holds few threads.
set_option Elab.async false

namespace Sys2Proof.Machine

/-! ## A record that fits its state -/

/-- A lane with a pack, no operation and no ticket. -/
structure Lane.quiet (x : Lane) : Prop where
  awaiting : x.awaiting = none
  deferred : x.deferred = none
  inflight : x.inflight = none
  job : x.job = none
  pack : x.pack.isSome = true

/-- The states that make a feed attempt (04 R75). -/
def LaneState.feeds : LaneState → Prop
  | .feeding | .advancing | .purging => True
  | _ => False

theorem LaneState.feeds.spec {st : LaneState} (h : st.feeds) : st ≠ .offline ∧ st.hasTicket = false ∧
    st ≠ .idle ∧ LaneOp.fits .feed st = true ∧ DeferredOp.fits .feed st = true := by
  cases st with
  | feeding | advancing | purging => decide
  | _ => exact h.elim

section
variable {x : Lane}

theorem Lane.wf_iff : x.wf = true ↔ (x.state = .holding ∨ x.causes = .empty) ∧
    (∀ op, x.awaiting = some op → op.fits x.state = true) ∧
    (∀ op, x.deferred = some op → op.fits x.state = true) ∧
    (x.awaiting = none ∨ x.deferred = none) ∧ x.inflight.isSome = x.state.hasTicket ∧
    x.job.isSome = x.state.hasTicket ∧ (x.pack = none ↔ x.state = .offline) ∧
    (x.state = .idle → x.head.isVerified = true) := by
  simp only [Lane.wf, Bool.and_eq_true, Bool.or_eq_true, beq_iff_eq, Option.all_eq_true,
    Option.isNone_iff_eq_none, bne_iff_ne, and_assoc]
  have pack : x.pack.isNone = (x.state == .offline) ↔ (x.pack = none ↔ x.state = .offline) := by
    rw [Bool.eq_iff_iff, Option.isNone_iff_eq_none, beq_iff_eq]
  rw [pack]
  tauto

/-- A quiet lane fits every state without a ticket in which it has its pack. -/
theorem Lane.quiet.wf (h : x.quiet) (on : x.state ≠ .offline) (ticket : x.state.hasTicket = false)
    (causes : x.state = .holding ∨ x.causes = .empty)
    (idle : x.state = .idle → x.head.isVerified = true) : x.wf = true := by
  obtain ⟨awaiting, deferred, inflight, job, pack⟩ := h
  have mounted : x.pack ≠ none := fun none_ => by
    rw [none_] at pack
    cases pack
  rw [Lane.wf_iff, awaiting, deferred, inflight, job, ticket]
  exact ⟨causes, nofun, nofun, .inl rfl, rfl, rfl, ⟨fun e => absurd e mounted, fun e => absurd e on⟩, idle⟩

theorem Lane.quiet.lockedIn_wf (h : x.quiet) : x.lockedIn.wf = true :=
  Lane.quiet.wf ⟨h.awaiting, h.deferred, h.inflight, h.job, h.pack⟩ nofun rfl (.inr rfl) nofun

theorem Lane.quiet.heldFor_wf (h : x.quiet) (c : HoldCauses) : (x.heldFor c).wf = true :=
  Lane.quiet.wf ⟨h.awaiting, h.deferred, h.inflight, h.job, h.pack⟩ nofun rfl (.inl rfl) nofun

/-- An operation issued, or deferred, where the state issues it. -/
theorem Lane.quiet.issued_wf (h : x.quiet) (causes : x.causes = .empty) {a : Option LaneOp}
    {d : Option DeferredOp} (one : a = none ∨ d = none) (off : x.state ≠ .offline)
    (ticket : x.state.hasTicket = false) (idle : x.state ≠ .idle)
    (fits : ∀ op, a = some op → op.fits x.state = true)
    (fits' : ∀ op, d = some op → op.fits x.state = true) :
    Lane.wf { x with awaiting := a, deferred := d } = true := by
  obtain ⟨-, -, inflight, job, pack⟩ := h
  have mounted : x.pack ≠ none := fun none_ => by
    rw [none_] at pack
    cases pack
  rw [Lane.wf_iff]
  dsimp only
  rw [inflight, job, ticket]
  exact ⟨.inr causes, fits, fits', one, rfl, rfl,
    ⟨fun e => absurd e mounted, fun e => absurd e off⟩, fun e => absurd e idle⟩

/-- A lane that awaits nothing, has nothing deferred and no ticket, as its state shows. -/
theorem Lane.quiet_of_wf (wf : x.wf = true) (on : x.state ≠ .offline) (ticket : x.state.hasTicket = false)
    (awaiting : x.awaiting = none) (deferred : x.deferred = none) : x.quiet := by
  obtain ⟨-, -, -, -, inflight, job, pack, -⟩ := Lane.wf_iff.1 wf
  rw [ticket] at inflight job
  refine ⟨awaiting, deferred, by simpa using inflight, by simpa using job, ?_⟩
  rw [Option.isSome_iff_ne_none]
  exact fun e => on (pack.1 e)

/-- IDLE, HOLDING and FAULTED issue and defer nothing. -/
theorem LaneState.still_spec {st : LaneState} (still : st = .idle ∨ st = .holding ∨ st = .faulted) :
    (∀ op : LaneOp, op.fits st = false) ∧ (∀ op : DeferredOp, op.fits st = false) ∧ st ≠ .offline ∧
      st.hasTicket = false := by
  have none_ : ∀ st : LaneState, st ∈ [LaneState.idle, .holding, .faulted] →
      (∀ op : LaneOp, op.fits st = false) ∧ (∀ op : DeferredOp, op.fits st = false) := by
    intro st here
    fin_cases here <;> exact ⟨fun op => by cases op <;> rfl, fun op => by cases op <;> rfl⟩
  obtain ⟨awaited, deferred⟩ := none_ st (by simpa using still)
  exact ⟨awaited, deferred, by rcases still with rfl | rfl | rfl <;> decide⟩

theorem Lane.quiet_of_still (wf : x.wf = true) (still : x.state = .idle ∨ x.state = .holding ∨
    x.state = .faulted) : x.quiet := by
  obtain ⟨-, fits, fits', -⟩ := Lane.wf_iff.1 wf
  obtain ⟨awaited, deferred, on, ticket⟩ := LaneState.still_spec still
  refine Lane.quiet_of_wf wf on ticket (Option.eq_none_iff_forall_not_mem.2 fun op a => ?_)
    (Option.eq_none_iff_forall_not_mem.2 fun op d => ?_)
  · have := fits op a
    rw [awaited] at this
    cases this
  · have := fits' op d
    rw [deferred] at this
    cases this

/-- A fault's lane fits, whatever it was doing. -/
theorem Lane.faulted_wf (pack : x.pack ≠ none) (ticket : x.inflight.isSome = x.job.isSome) :
    x.stopped.settled.lockedIn.wf = true := by
  refine Lane.quiet.lockedIn_wf ?_
  cases held : x.inflight with
  | none =>
    have settled : x.stopped.settled = x.stopped := by
      unfold Lane.settled
      rw [show x.stopped.inflight = none from held]
    rw [settled]
    rw [held] at ticket
    have job : x.job = none := by simpa using ticket.symm
    exact ⟨rfl, rfl, held, job, Option.isSome_iff_ne_none.2 pack⟩
  | some r =>
    rw [Lane.settled_of_some (x := x.stopped) held]
    exact ⟨rfl, rfl, rfl, rfl, Option.isSome_iff_ne_none.2 pack⟩

theorem Lane.wf_ticket (wf : x.wf = true) : x.inflight.isSome = x.job.isSome := by
  obtain ⟨-, -, -, -, inflight, job, -, -⟩ := Lane.wf_iff.1 wf
  rw [inflight, job]

theorem Lane.wf_claiming (x : Lane) (p : Bool) : (x.claiming p).wf = x.wf := by
  rcases Lane.claiming_cases x p with e | e <;> rw [e] <;> rfl

end

/-! ## Where an operation leaves its lane -/

/-- The lane's record satisfies `P`; the others may have sent a claim request. -/
structure State.lands (s t : State) (l : LaneId) (P : Lane → Prop) : Prop where
  self : P (t.lane l)
  others : s.otherLanesTold t l
  warning : t.powerFail = s.powerFail

section
variable {s t u : State} {l : LaneId} {P Q : Lane → Prop} {x : Lane} {a : List Part}

theorem State.lands.andThen (h : s.lands t l P) (next : P (t.lane l) → t.lands u l Q) : s.lands u l Q := by
  have h' := next h.self
  refine ⟨h'.self, fun m other => ?_, h'.warning.trans h.warning⟩
  rcases h.others m other with e | e <;> rcases h'.others m other with e' | e'
  · exact .inl (e'.trans e)
  · exact .inr (by rw [e', e, h.warning])
  · exact .inr (e'.trans e)
  · exact .inr (by rw [e', e, h.warning, Lane.claiming_claiming])

theorem State.lands.mono (h : s.lands t l P) (weaker : P (t.lane l) → Q (t.lane l)) : s.lands t l Q :=
  ⟨weaker h.self, h.others, h.warning⟩

theorem State.lands_refl (holds : P (s.lane l)) : s.lands s l P :=
  ⟨holds, fun _ _ => .inl rfl, rfl⟩

/-- A record told but for its claim. -/
theorem State.toldTo.lands (h : s.toldTo t l x a) (blind : ∀ y z : Lane, y.unclaimed = z.unclaimed →
    P y → P z) (holds : P x) (warning : .powerFail ∉ a := by decide) : s.lands t l P :=
  ⟨blind x _ h.self.symm holds, h.others, h.frame .powerFail warning⟩

theorem Lane.wf_blind (y z : Lane) (same : y.unclaimed = z.unclaimed) (h : y.wf = true) : z.wf = true := by
  have e : ∀ y : Lane, y.unclaimed.wf = y.wf := fun _ => rfl
  rw [← e, ← same, e]
  exact h

/-- The lane's record rewritten. -/
theorem State.moveLane_lands {f : Lane → Lane} (holds : P (f (s.lane l))) : s.lands (s.moveLane l f) l P :=
  ⟨by rw [State.moveLane_lane_self]; exact holds,
    fun m other => .inl (State.moveLane_lane_ne s _ f other),
    (s.moveLane_frame l f) .powerFail (by decide)⟩

/-- An operation that writes no lane. -/
theorem State.changesOnly.lands (h : s.changesOnly t a) (holds : P (s.lane l))
    (out : .lanes ∉ a := by decide) (warning : .powerFail ∉ a := by decide) : s.lands t l P :=
  ⟨by rw [h.lane l out]; exact holds, fun m _ => .inl (h.lane m out), h .powerFail warning⟩

/-! ## Faults and feeds (04 R72, R75) -/

theorem State.laneFault_fits (k : FaultKind) (c : FaultContext) (pack : (s.lane l).pack ≠ none)
    (ticket : (s.lane l).inflight.isSome = (s.lane l).job.isSome) :
    s.lands (s.laneFault l k c) l (Lane.wf · = true) :=
  (s.laneFault_told l k c).lands Lane.wf_blind (Lane.faulted_wf pack ticket)

theorem Lane.quiet.pack_ne (h : x.quiet) : x.pack ≠ none := Option.isSome_iff_ne_none.1 h.pack

theorem Lane.quiet.ticket (h : x.quiet) : x.inflight.isSome = x.job.isSome := by
  rw [h.inflight, h.job]
  rfl

theorem State.enterHolding_fits (c : HoldCauses) (quiet : (s.lane l).quiet) :
    s.lands (s.enterHolding l c) l (Lane.wf · = true) :=
  State.moveLane_lands (by split; exacts [quiet.lockedIn_wf, quiet.heldFor_wf c])

theorem State.stockOutEnd_fits (quiet : (s.lane l).quiet) :
    s.lands (s.stockOutEnd l) l (Lane.wf · = true) :=
  State.moveLane_lands (by
    split
    · exact quiet.lockedIn_wf
    · exact Lane.quiet.wf ⟨quiet.awaiting, quiet.deferred, quiet.inflight, quiet.job, quiet.pack⟩
        nofun rfl (.inl rfl) nofun)

/-- The lane is ready for a feed attempt. -/
structure Lane.mayFeed (x : Lane) : Prop where
  quiet : x.quiet
  causes : x.causes = .empty
  feeds : x.state.feeds

theorem Lane.mayFeed.fed_wf (h : x.mayFeed) {a : Option LaneOp} {d : Option DeferredOp} {n : HeadStatus}
    (one : (a = some .feed ∧ d = none) ∨ (a = none ∧ d = some .feed)) :
    Lane.wf { x with head := n, awaiting := a, deferred := d } = true := by
  obtain ⟨quiet, causes, feeds⟩ := h
  obtain ⟨on, ticket, idle, fits, fits'⟩ := feeds.spec
  refine Lane.quiet.issued_wf (x := { x with head := n })
    ⟨quiet.awaiting, quiet.deferred, quiet.inflight, quiet.job, quiet.pack⟩ causes
    (one.symm.imp And.left And.right) on ticket idle (fun op e => ?_) (fun op e => ?_)
  · rcases one with ⟨rfl, -⟩ | ⟨rfl, -⟩ <;> cases e
    exact fits
  · rcases one with ⟨-, rfl⟩ | ⟨-, rfl⟩ <;> cases e
    exact fits'

theorem State.advanceHead_lands (ready : (s.lane l).mayFeed) :
    s.lands (s.advanceHead l) l Lane.mayFeed := by
  unfold State.advanceHead
  split
  · split
    · rename_i r _ _
      refine ((s.changeMark_frame (s.mountedClass l) r .advanced).lands ready).andThen fun ready => ?_
      obtain ⟨⟨awaiting, deferred, inflight, job, pack⟩, causes, feeds⟩ := ready
      exact State.moveLane_lands ⟨⟨awaiting, deferred, inflight, job, pack⟩, causes, feeds⟩
    · exact State.lands_refl ready
  · exact State.lands_refl ready

theorem State.issueFeed_fits (ready : (s.lane l).mayFeed) :
    s.lands (s.issueFeed l) l (Lane.wf · = true) := by
  unfold State.issueFeed
  split
  · exact State.laneFault_fits _ _ ready.quiet.pack_ne ready.quiet.ticket
  · exact State.moveLane_lands (ready.fed_wf (.inl ⟨rfl, rfl⟩))

theorem State.feedAttempt_fits (ready : (s.lane l).mayFeed) :
    s.lands (s.feedAttempt l) l (Lane.wf · = true) := by
  rw [State.feedAttempt_eq]
  refine (State.advanceHead_lands ready).andThen fun ready => ?_
  split
  · exact State.stockOutEnd_fits ready.quiet
  · split
    · refine State.moveLane_lands ?_
      have fed := ready.fed_wf (n := ((s.advanceHead l).lane l).head) (.inr ⟨ready.quiet.awaiting, rfl⟩)
      exact fed
    · exact State.issueFeed_fits ready

end

end Sys2Proof.Machine
end

section
/-! SUPPORT. The lanes' events leave their lane's record fitting its state (04 R72 to R89). -/

-- One proof at a time: the check's memory limit holds few threads.
set_option Elab.async false

namespace Sys2Proof.Machine

/-- The states in which a mark is read (04 R76). -/
def LaneState.reads : LaneState → Prop
  | .priming | .verifying | .advancing | .purging => True
  | _ => False

theorem LaneState.reads.spec {st : LaneState} (h : st.reads) : st ≠ .offline ∧ st.hasTicket = false ∧
    st ≠ .idle ∧ LaneOp.fits .read st = true := by
  cases st with
  | priming | verifying | advancing | purging => decide
  | _ => exact h.elim

section
variable {s t u : State} {l : LaneId} {P Q : Lane → Prop} {x : Lane} {a : List Part}

/-- A mark read requested in a state that reads. -/
theorem Lane.quiet.reading_wf (h : x.quiet) (causes : x.causes = .empty) (reads : x.state.reads) :
    x.reading.wf = true := by
  obtain ⟨on, ticket, idle, fits⟩ := reads.spec
  have read := Lane.quiet.issued_wf h causes (a := some .read) (d := x.deferred) (.inr h.deferred) on
    ticket idle (fun op e => by cases e; exact fits) fun op e => by rw [h.deferred] at e; cases e
  exact read

/-! ## Priming (04 R74) -/

theorem State.sampleAtPriming_lands (quiet : (s.lane l).quiet) :
    s.lands (s.sampleAtPriming l) l Lane.quiet := by
  unfold State.sampleAtPriming
  dsimp only
  split
  · refine (State.moveLane_lands (f := fun y => { y with cabinetSeen := .opened }) ?_).andThen
      fun quiet => (State.raiseLane_frame _ l _ _).lands quiet
    exact ⟨quiet.awaiting, quiet.deferred, quiet.inflight, quiet.job, quiet.pack⟩
  · exact State.lands_refl quiet

theorem State.startPriming_fits (quiet : (s.lane l).quiet) :
    s.lands (s.startPriming l) l (Lane.wf · = true) := by
  unfold State.startPriming
  refine (State.sampleAtPriming_lands quiet).andThen fun quiet => ?_
  dsimp only
  split
  · exact State.enterHolding_fits _ quiet
  · split
    · refine (State.moveLane_lands (P := Lane.mayFeed)
        (f := fun x => { x with state := .feeding, causes := .empty }) ?_).andThen
        fun ready => State.feedAttempt_fits ready
      exact ⟨⟨quiet.awaiting, quiet.deferred, quiet.inflight, quiet.job, quiet.pack⟩, rfl, trivial⟩
    · refine State.moveLane_lands (Lane.quiet.reading_wf ?_ rfl trivial)
      exact ⟨quiet.awaiting, quiet.deferred, quiet.inflight, quiet.job, quiet.pack⟩

/-! ## Verification (04 R76 to R78) -/

theorem LaneState.reads_of_fits {st : LaneState} (h : LaneOp.fits .read st = true) : st.reads := by
  cases st with
  | priming | verifying | advancing | purging => exact trivial
  | _ => cases h

/-- A lane whose mark read has been taken. -/
structure Lane.hasRead (x : Lane) : Prop where
  quiet : x.quiet
  causes : x.causes = .empty
  reads : x.state.reads

theorem Lane.hasRead_of_wf (wf : x.wf = true) (read : x.awaiting = some .read) :
    Lane.hasRead { x with awaiting := none } := by
  obtain ⟨causes, fits, -, one, -⟩ := Lane.wf_iff.1 wf
  have reads := LaneState.reads_of_fits (fits _ read)
  obtain ⟨on, ticket, -, -⟩ := reads.spec
  have deferred : x.deferred = none := one.resolve_left (by rw [read]; nofun)
  obtain ⟨-, -, -, -, inflight, job, pack, -⟩ := Lane.wf_iff.1 wf
  rw [ticket] at inflight job
  refine ⟨⟨rfl, deferred, by simpa using inflight, by simpa using job, ?_⟩, causes.resolve_left ?_, reads⟩
  · rw [Option.isSome_iff_ne_none]
    exact fun e => on (pack.1 e)
  · intro holding
    rw [holding] at reads
    exact reads

theorem State.enterIdle_fits (quiet : (s.lane l).quiet) (causes : (s.lane l).causes = .empty)
    (head : (s.lane l).head.isVerified = true) : s.lands (s.enterIdle l) l (Lane.wf · = true) :=
  State.moveLane_lands (by
    split
    · exact quiet.lockedIn_wf
    · rw [Lane.wf_claiming]
      exact Lane.quiet.wf ⟨quiet.awaiting, quiet.deferred, quiet.inflight, quiet.job, quiet.pack⟩
        nofun rfl (.inr causes) fun _ => head)

theorem State.endMatch_fits (read : (s.lane l).hasRead) (head : (s.lane l).head.isVerified = true) :
    s.lands (s.endMatch l) l (Lane.wf · = true) := by
  obtain ⟨quiet, causes, -⟩ := read
  unfold State.endMatch
  dsimp only
  split
  · exact State.moveLane_lands quiet.lockedIn_wf
  · split
    · exact State.enterHolding_fits _ quiet
    · split
      · rename_i advancing
        refine (State.moveLane_lands (P := Lane.mayFeed)
          (f := fun y => { y with advances := y.advances - 1 }) ?_).andThen
          fun ready => State.feedAttempt_fits ready
        refine ⟨⟨quiet.awaiting, quiet.deferred, quiet.inflight, quiet.job, quiet.pack⟩, causes, ?_⟩
        rw [advancing.1]
        trivial
      · refine (State.moveLane_lands (P := fun y => y.quiet ∧ y.causes = .empty ∧
          y.head.isVerified = true) (f := fun y => { y with advances := 0 }) ?_).andThen
          fun h => State.enterIdle_fits h.1 h.2.1 h.2.2
        exact ⟨⟨quiet.awaiting, quiet.deferred, quiet.inflight, quiet.job, quiet.pack⟩, causes, head⟩

/-- A fault of a lane without a ticket, once its head has moved. -/
theorem State.moved_laneFault_fits {f : Lane → Lane} (k : FaultKind) (c : FaultContext)
    (quiet : (f (s.lane l)).quiet) :
    s.lands ((s.moveLane l f).laneFault l k c) l (Lane.wf · = true) :=
  (State.moveLane_lands (P := Lane.quiet) quiet).andThen fun quiet =>
    State.laneFault_fits k c quiet.pack_ne quiet.ticket

theorem State.wrongStock_fits (cls serial : Nat) (quiet : (s.lane l).quiet) :
    s.lands (s.wrongStock l cls serial) l (Lane.wf · = true) :=
  State.moved_laneFault_fits _ _
    ⟨quiet.awaiting, quiet.deferred, quiet.inflight, quiet.job, quiet.pack⟩

theorem Lane.quiet.verify (h : x.quiet) (serial : Nat) : (x.verify serial).quiet :=
  ⟨h.awaiting, h.deferred, h.inflight, h.job, h.pack⟩

theorem State.readAhead_fits (cls serial e : Nat) (quiet : (s.lane l).quiet) :
    s.lands (s.readAhead l cls serial e) l (Lane.wf · = true) := by
  obtain ⟨run, hrun⟩ : ∃ run, run = match s.mounted l with
    | some p => p.unusedIn e (serial - 1)
    | none => [] := ⟨_, rfl⟩
  obtain ⟨v, hv⟩ : ∃ v, v = s.markUnused cls .missing run := ⟨_, rfl⟩
  have marked : s.changesOnly v [.packs, .queues, .census] := hv ▸ s.markUnused_frame cls .missing run
  have step : ∃ c, s.readAhead l cls serial e =
      (v.moveLane l fun x => x.verify serial).laneFault l .stockDiscrepancy c := by
    rw [hv, hrun]
    exact ⟨_, rfl⟩
  obtain ⟨c, step⟩ := step
  rw [step]
  exact (marked.lands (P := Lane.quiet) quiet).andThen fun quiet =>
    State.moved_laneFault_fits _ _ (quiet.verify serial)

theorem State.compareRead_fits (cls serial : Nat) (read : (s.lane l).hasRead) :
    s.lands (s.compareRead l cls serial) l (Lane.wf · = true) := by
  unfold State.compareRead
  split
  · split
    · refine (State.moveLane_lands (P := fun y => y.hasRead ∧ y.head.isVerified = true)
        (f := fun x => x.verify serial) ?_).andThen fun h => State.endMatch_fits h.1 h.2
      obtain ⟨quiet, causes, reads⟩ := read
      exact ⟨⟨⟨quiet.awaiting, quiet.deferred, quiet.inflight, quiet.job, quiet.pack⟩, causes, reads⟩,
        rfl⟩
    · split
      · exact State.readAhead_fits _ _ _ read.quiet
      · exact State.wrongStock_fits _ _ read.quiet
  · exact State.wrongStock_fits _ _ read.quiet

theorem State.failedRead_fits (read : (s.lane l).hasRead) :
    s.lands (s.failedRead l) l (Lane.wf · = true) := by
  obtain ⟨quiet, causes, reads⟩ := read
  unfold State.failedRead
  dsimp only
  split
  · refine State.moveLane_lands (Lane.quiet.reading_wf ?_ causes reads)
    exact ⟨quiet.awaiting, quiet.deferred, quiet.inflight, quiet.job, quiet.pack⟩
  · exact State.moved_laneFault_fits _ _
      ⟨quiet.awaiting, quiet.deferred, quiet.inflight, quiet.job, quiet.pack⟩

/-! ## Printing and the cut (04 R79 to R84) -/

/-- A lane with a ticket, in a state that has one. -/
theorem Lane.ticket_wf (causes : x.causes = .empty) (ticket : x.state.hasTicket = true)
    (inflight : x.inflight.isSome = true) (job : x.job.isSome = true) (pack : x.pack ≠ none)
    (one : x.awaiting = none ∨ x.deferred = none)
    (fits : ∀ op, x.awaiting = some op → op.fits x.state = true)
    (fits' : ∀ op, x.deferred = some op → op.fits x.state = true) : x.wf = true := by
  have on : x.state ≠ .offline ∧ x.state ≠ .idle := by
    constructor <;> intro e <;> rw [e] at ticket <;> cases ticket
  exact Lane.wf_iff.2 ⟨.inr causes, fits, fits', one, inflight.trans ticket.symm, job.trans ticket.symm,
    ⟨fun e => absurd e pack, fun e => absurd e on.1⟩, fun e => absurd e on.2⟩

/-- A lane with its ticket under way, its last operation taken. -/
structure Lane.prints (x : Lane) : Prop where
  awaiting : x.awaiting = none
  causes : x.causes = .empty
  state : x.state = .printing
  inflight : x.inflight.isSome = true
  job : x.job.isSome = true
  pack : x.pack ≠ none

theorem State.strobeLine_fits (ready : (s.lane l).prints) :
    s.lands (s.strobeLine l) l (Lane.wf · = true) := by
  obtain ⟨awaiting, causes, state, inflight, job, pack⟩ := ready
  have ticket : (s.lane l).state.hasTicket = true := by rw [state]; rfl
  unfold State.strobeLine
  split
  · refine State.moveLane_lands (Lane.ticket_wf (x := { s.lane l with deferred := some .strobe }) causes
      ticket inflight job pack (.inl awaiting) (fun op e => ?_) fun op e => ?_)
    · rw [show (s.lane l).awaiting = some op from e] at awaiting
      cases awaiting
    · cases e
      exact congrArg (DeferredOp.fits .strobe) state
  · refine State.moveLane_lands (Lane.ticket_wf (x := (s.lane l).strobe (s.linesFor l)) causes ticket
      ((Option.isSome_map ..).trans inflight) job pack (.inr rfl) (fun op e => ?_) nofun)
    cases e
    exact congrArg (LaneOp.fits .strobe) state

theorem Lane.prints_of_wf (wf : x.wf = true) (strobe : x.awaiting = some .strobe) (n : Nat) :
    Lane.prints { x with line := n, awaiting := none } := by
  obtain ⟨causes, fits, -, -, inflight, job, pack, -⟩ := Lane.wf_iff.1 wf
  have state : x.state = .printing := by
    have := fits _ strobe
    cases h : x.state <;> rw [h] at this <;> first | rfl | cases this
  rw [state] at inflight job pack causes
  exact ⟨rfl, causes.resolve_left nofun, state, inflight, job, fun e => nomatch pack.1 e⟩

theorem State.afterStrobe_fits (wf : (s.lane l).wf = true) (strobe : (s.lane l).awaiting = some .strobe) :
    s.lands (s.afterStrobe l) l (Lane.wf · = true) := by
  unfold State.afterStrobe
  dsimp only
  split
  · exact (State.moveLane_lands (P := Lane.prints)
      (f := fun y => { y with line := y.line + 1, awaiting := none })
      (Lane.prints_of_wf wf strobe _)).andThen fun ready => State.strobeLine_fits ready
  · obtain ⟨-, causes, -, inflight, job, pack⟩ := Lane.prints_of_wf wf strobe 0
    obtain ⟨-, -, -, one, -⟩ := Lane.wf_iff.1 wf
    have deferred : (s.lane l).deferred = none := one.resolve_left (by rw [strobe]; nofun)
    refine State.moveLane_lands (Lane.ticket_wf
      (x := { s.lane l with state := .cutting, awaiting := some .cut }) causes rfl inflight job pack
      (.inr deferred) (fun op e => ?_) fun op e => ?_)
    · cases e
      rfl
    · rw [show (s.lane l).deferred = some op from e] at deferred
      cases deferred

theorem State.afterTicket_fits (quiet : (s.lane l).quiet) (causes : (s.lane l).causes = .empty) :
    s.lands (s.afterTicket l) l (Lane.wf · = true) := by
  unfold State.afterTicket
  split
  · exact State.enterHolding_fits _ quiet
  · split
    · exact State.stockOutEnd_fits quiet
    · refine (State.moveLane_lands (P := Lane.mayFeed) (f := fun x => { x with state := .feeding })
        ?_).andThen fun ready => State.feedAttempt_fits ready
      exact ⟨⟨quiet.awaiting, quiet.deferred, quiet.inflight, quiet.job, quiet.pack⟩, causes, trivial⟩

theorem State.cutCompletion_fits (wf : (s.lane l).wf = true) (cut : (s.lane l).awaiting = some .cut) :
    s.lands (s.cutCompletion l) l (Lane.wf · = true) := by
  obtain ⟨causes, fits, -, one, inflight, -, pack, -⟩ := Lane.wf_iff.1 wf
  have state : (s.lane l).state = .cutting := by
    have := fits _ cut
    cases h : (s.lane l).state <;> rw [h] at this <;> first | rfl | cases this
  have deferred : (s.lane l).deferred = none := one.resolve_left (by rw [cut]; nofun)
  rw [state] at inflight pack causes
  obtain ⟨r, held⟩ := Option.isSome_iff_exists.1 inflight
  obtain ⟨u, hu⟩ : ∃ u, u = s.moveLane l fun x => { x with awaiting := none } := ⟨_, rfl⟩
  have first : s.lands u l fun y => y = { s.lane l with awaiting := none } :=
    hu ▸ State.moveLane_lands rfl
  rw [State.cutCompletion_eq held u hu]
  refine first.andThen fun here => ?_
  have ended : ∀ v, u.toldTo v l ((u.lane l).endTicket .notPositioned)
      [.lanes, .queues, .packs, .census, .slots, .sessions, .journal, .forms] →
      u.lands v l fun y => y.quiet ∧ y.causes = .empty := fun v told => by
    rw [here] at told
    refine told.lands (fun y z same h => ?_) ⟨⟨rfl, deferred, rfl, rfl, ?_⟩, causes.resolve_left nofun⟩
    · obtain ⟨⟨h1, h2, h3, h4, h5⟩, h6⟩ := h
      refine ⟨⟨(congrArg Lane.awaiting same).symm.trans h1, (congrArg Lane.deferred same).symm.trans h2,
        (congrArg Lane.inflight same).symm.trans h3, (congrArg Lane.job same).symm.trans h4, ?_⟩,
        (congrArg Lane.causes same).symm.trans h6⟩
      have pack := congrArg Lane.pack same
      exact (congrArg Option.isSome pack).symm.trans h5
    · exact Option.isSome_iff_ne_none.2 fun e => nomatch pack.1 e
  split
  · exact (ended _ (u.spoilTicket_told l r .lostLine)).andThen fun h => State.afterTicket_fits h.1 h.2
  · exact (ended _ (u.issueTicket_told l r)).andThen fun h => State.afterTicket_fits h.1 h.2

end

end Sys2Proof.Machine
end

section
/-! SUPPORT. Every command keeps each lane's record fitting its state (04 Table 4.2). -/

-- One proof at a time: the check's memory limit holds few threads.
set_option Elab.async false

namespace Sys2Proof.Machine

/-! ## The claim's answer, the cabinet and the deferral (04 R79, R85 to R89) -/

section
variable {s t u : State} {l : LaneId} {P Q : Lane → Prop} {x : Lane} {a : List Part}

theorem Lane.quiet_blind (y z : Lane) (same : y.unclaimed = z.unclaimed) (h : y.quiet) : z.quiet := by
  obtain ⟨h1, h2, h3, h4, h5⟩ := h
  exact ⟨(congrArg Lane.awaiting same).symm.trans h1, (congrArg Lane.deferred same).symm.trans h2,
    (congrArg Lane.inflight same).symm.trans h3, (congrArg Lane.job same).symm.trans h4,
    (congrArg Option.isSome (congrArg Lane.pack same)).symm.trans h5⟩

/-- A field that a fitting record does not read. -/
theorem State.moveLane_wf {f : Lane → Lane} (wf : (s.lane l).wf = true)
    (blind : (f (s.lane l)).wf = (s.lane l).wf := by rfl) : s.lands (s.moveLane l f) l (Lane.wf · = true) :=
  State.moveLane_lands (blind.trans wf)

/-- The lanes told of a job. -/
theorem State.lanesClaimed.lands (h : s.lanesClaimed t) (warning : t.powerFail = s.powerFail)
    (wf : (s.lane l).wf = true) : s.lands t l (Lane.wf · = true) := by
  refine ⟨?_, fun m _ => h m, warning⟩
  rcases h l with e | e
  · rw [e]
    exact wf
  · rw [e, Lane.wf_claiming]
    exact wf

theorem State.observeOpening_fits (wf : (s.lane l).wf = true) :
    s.lands (s.observeOpening l) l (Lane.wf · = true) := by
  obtain ⟨u, hu⟩ : ∃ u, u = s.moveLane l fun x => { x with cabinetSeen := .opened } := ⟨_, rfl⟩
  have seen : s.lands u l fun y => y.wf = true ∧ y.state = (s.lane l).state :=
    hu ▸ State.moveLane_lands ⟨wf, rfl⟩
  have raised : u.lands (u.raiseCabinet l) l fun y => y.wf = true ∧ y.state = (s.lane l).state :=
    (State.raiseLane_frame u l _ _).lands seen.self
  have both := seen.andThen fun _ => raised
  have held : ∀ f : Lane → Lane, (∀ y : Lane, y.wf = true → y.state = (s.lane l).state →
      (f y).wf = true) → s.lands ((u.raiseCabinet l).moveLane l f) l (Lane.wf · = true) :=
    fun f keeps => both.andThen fun h => State.moveLane_lands (keeps _ h.1 h.2)
  have flagged : s.lands ((u.raiseCabinet l).moveLane l fun x => { x with holdAfter := true }) l
      (Lane.wf · = true) := held _ fun y wf _ => wf
  unfold State.observeOpening
  rw [← hu]
  dsimp only
  cases state : (s.lane l).state with
  | offline => exact seen.mono And.left
  | idle =>
    refine both.andThen fun h => State.enterHolding_fits _ (Lane.quiet_of_still h.1 (.inl ?_))
    exact h.2.trans state
  | holding =>
    refine held _ fun y wf st => ?_
    have quiet := Lane.quiet_of_still wf (.inr (.inl (st.trans state)))
    exact Lane.quiet.wf ⟨quiet.awaiting, quiet.deferred, quiet.inflight, quiet.job, quiet.pack⟩
      (fun e => nomatch e.symm.trans (st.trans state)) (congrArg LaneState.hasTicket (st.trans state))
      (.inl (st.trans state)) fun e => nomatch e.symm.trans (st.trans state)
  | faulted => exact both.mono And.left
  | _ => exact flagged

theorem State.relock_fits (wf : (s.lane l).wf = true) : s.lands (s.relock l) l (Lane.wf · = true) := by
  obtain ⟨u, hu⟩ : ∃ u, u = s.moveLane l fun x => { x with cabinetSeen := .locked } := ⟨_, rfl⟩
  have seen : s.lands u l fun y => y.wf = true ∧ y.state = (s.lane l).state :=
    hu ▸ State.moveLane_lands ⟨wf, rfl⟩
  have cleared : u.lands (u.selfClear l) l fun y => y.wf = true ∧ y.state = (s.lane l).state :=
    (State.selfClear_frame (s := u) l).lands seen.self
  have both := seen.andThen fun _ => cleared
  have flagged : s.lands ((u.selfClear l).moveLane l fun x => { x with holdAfter := false }) l
      (Lane.wf · = true) := both.andThen fun h => State.moveLane_lands h.1
  unfold State.relock
  rw [← hu]
  dsimp only
  cases state : (s.lane l).state with
  | holding =>
    dsimp only
    have opened : s.lands ((u.selfClear l).moveLane l fun x =>
        { x with causes := { x.causes with cabinetOpen := false } }) l
        fun y => y.wf = true ∧ y.quiet := both.andThen fun h => State.moveLane_lands (by
      have st := h.2.trans state
      have quiet := Lane.quiet_of_still h.1 (.inr (.inl st))
      have quiet' : Lane.quiet { (u.selfClear l).lane l with
          causes := { ((u.selfClear l).lane l).causes with cabinetOpen := false } } :=
        ⟨quiet.awaiting, quiet.deferred, quiet.inflight, quiet.job, quiet.pack⟩
      exact ⟨quiet'.wf (fun e => nomatch e.symm.trans st) (congrArg LaneState.hasTicket st) (.inl st)
        (fun e => nomatch e.symm.trans st), quiet'⟩)
    split
    · exact opened.andThen fun h => State.startPriming_fits h.2
    · exact opened.mono And.left
  | idle | offline | faulted => exact both.mono And.left
  | _ => exact flagged

theorem State.handBack_fits (w : Window) (k : SlotId) (wf : (s.lane l).wf = true) :
    s.lands (s.handBack w k) l (Lane.wf · = true) :=
  (s.handBack_claimed w k).lands (s.handBack_frame w k .powerFail (by decide)) wf

theorem State.answerClaim_fits (h : Handed) (wf : (s.lane l).wf = true) :
    s.lands (s.answerClaim l h) l (Lane.wf · = true) := by
  unfold State.answerClaim
  split
  · rename_i serial state head
    have quiet := Lane.quiet_of_still wf (.inl state)
    split
    · refine State.lands.andThen (t := s.openAtStart l) (P := (Lane.wf · = true)) ?_ fun wf => State.handBack_fits _ _ wf
      unfold State.openAtStart
      split
      · exact State.observeOpening_fits wf
      · exact State.enterHolding_fits _ quiet
    · split
      · exact State.handBack_fits _ _ wf
      · split
        · rename_i d _
          have causes : (s.lane l).causes = .empty := by
            obtain ⟨causes, -⟩ := Lane.wf_iff.1 wf
            exact causes.resolve_left fun e => nomatch e.symm.trans state
          exact (State.moveLane_lands (P := Lane.prints)
            (f := fun x => x.startTicket h d (s.mountedClass l) serial s.clockStamp
              s.limits.currencyMark)
            ⟨quiet.awaiting, causes, rfl, rfl, rfl, quiet.pack_ne⟩).andThen
            fun ready => State.strobeLine_fits ready
        · exact State.handBack_fits _ _ wf
  · exact State.handBack_fits _ _ wf

theorem State.takeAnswer_fits (wf : (s.lane l).wf = true) :
    s.lands (s.takeAnswer l) l (Lane.wf · = true) := by
  unfold State.takeAnswer
  split
  · exact (State.moveLane_wf (f := fun x => { x with handed := none }) wf).andThen
      fun wf => State.answerClaim_fits _ wf
  · exact State.lands_refl wf

theorem State.takeClaim_fits (wf : (s.lane l).wf = true) :
    s.lands (s.takeClaim l) l (Lane.wf · = true) := by
  unfold State.takeClaim
  split
  · refine (State.moveLane_wf (f := fun x => { x with claimSent := false }) wf).andThen fun wf => ?_
    split
    · rename_i w k j _
      exact ((State.mapJob_frame _ w k _).lands (P := (Lane.wf · = true)) wf).andThen fun wf =>
        State.moveLane_wf (f := fun x => { x with handed := some (j.handedAs w k) }) wf
    · exact State.lands_refl wf
  · exact State.lands_refl wf

theorem Lane.deferred_of_wf (wf : x.wf = true) {op : DeferredOp} (held : x.deferred = some op) :
    x.awaiting = none := by
  obtain ⟨-, -, -, one, -⟩ := Lane.wf_iff.1 wf
  exact one.resolve_right (by rw [held]; nofun)

theorem State.resume_fits (wf : (s.lane l).wf = true) : s.lands (s.resume l) l (Lane.wf · = true) := by
  unfold State.resume
  obtain ⟨causes, -, fits, -, inflight, job, pack, -⟩ := Lane.wf_iff.1 wf
  split
  · rename_i held
    have feeds : (s.lane l).state.feeds := by
      have := fits _ held
      cases h : (s.lane l).state with
      | feeding | advancing | purging => trivial
      | _ => rw [h] at this; cases this
    unfold State.issueFeed
    obtain ⟨on, ticket, idle, awaited, -⟩ := feeds.spec
    rw [ticket] at inflight job
    have none_ : (s.lane l).pack ≠ none := fun e => on (pack.1 e)
    split
    · exact State.laneFault_fits _ _ none_ (inflight.trans job.symm)
    · refine State.moveLane_lands (Lane.quiet.issued_wf (x := { s.lane l with
        head := .notPositioned, awaiting := none, deferred := none }) ⟨rfl, rfl, by simpa using inflight,
          by simpa using job, Option.isSome_iff_ne_none.2 none_⟩ (causes.resolve_left fun e => ?_)
        (.inr rfl) on ticket idle (fun op e => ?_) nofun)
      · rw [e] at feeds
        exact feeds
      · cases e
        exact awaited
  · rename_i held
    have state : (s.lane l).state = .printing := by
      have := fits _ held
      cases h : (s.lane l).state with
      | printing => rfl
      | _ => rw [h] at this; cases this
    rw [state] at inflight job pack causes
    exact State.strobeLine_fits ⟨Lane.deferred_of_wf wf held, causes.resolve_left nofun, state, inflight,
      job, fun e => nomatch pack.1 e⟩
  · exact State.lands_refl wf

/-! ## The requests on a lane (04 R88; 05; 10) -/

theorem State.advance_fits (n : Nat) (wf : (s.lane l).wf = true) (idle : (s.lane l).state = .idle) :
    s.lands ((s.moveLane l fun x => { x with advances := n, state := .advancing }).feedAttempt l) l
      (Lane.wf · = true) := by
  have quiet := Lane.quiet_of_still wf (.inl idle)
  obtain ⟨causes, -⟩ := Lane.wf_iff.1 wf
  exact (State.moveLane_lands (P := Lane.mayFeed)
    (f := fun x => { x with advances := n, state := .advancing })
    ⟨⟨quiet.awaiting, quiet.deferred, quiet.inflight, quiet.job, quiet.pack⟩,
      causes.resolve_left (fun e => nomatch e.symm.trans idle), trivial⟩).andThen
    fun ready => State.feedAttempt_fits ready

theorem State.clearTaken_fits (wf : (s.lane l).wf = true) (faulted : (s.lane l).state = .faulted) :
    s.lands (s.clearTaken l) l (Lane.wf · = true) := by
  obtain ⟨v, hv⟩ : ∃ v, v = (s.recoverReports l .clear).postReport (.lane l) := ⟨_, rfl⟩
  have recovered := (State.recover_to v hv).1.frame
  have step : s.clearTaken l = v.startPriming l := by rw [hv]; rfl
  rw [step]
  exact (recovered.lands (P := Lane.quiet) (Lane.quiet_of_still wf (.inr (.inr faulted)))).andThen
    fun quiet => State.startPriming_fits quiet

/-- A lane whose ticket is settled, once its operation is given up. -/
theorem Lane.abandoned_quiet (wf : x.wf = true) (on : x.state ≠ .offline) : x.abandon.settled.quiet := by
  obtain ⟨-, -, -, -, inflight, job, pack, -⟩ := Lane.wf_iff.1 wf
  have mounted : x.pack.isSome = true := Option.isSome_iff_ne_none.2 fun e => on (pack.1 e)
  cases held : x.inflight with
  | none =>
    have settled : x.abandon.settled = x.abandon := by
      unfold Lane.settled
      rw [show x.abandon.inflight = none from held]
    rw [settled]
    rw [held] at inflight
    have none_ : x.job = none := by simpa [← inflight] using job
    exact ⟨rfl, rfl, held, none_, mounted⟩
  | some r =>
    rw [Lane.settled_of_some (x := x.abandon) held]
    exact ⟨rfl, rfl, rfl, rfl, mounted⟩

theorem State.purge_fits (wf : (s.lane l).wf = true) (on : (s.lane l).state ≠ .offline) :
    s.lands (s.purge l) l (Lane.wf · = true) := by
  obtain ⟨w, hw⟩ : ∃ w, w = (s.moveLane l Lane.abandon).settle l := ⟨_, rfl⟩
  obtain ⟨u, step, purging⟩ := State.purge_settled hw
  have settled := (s.moveLane l Lane.abandon).settle_told l
  rw [← hw, (s.abandon_to l).self] at settled
  rw [step]
  have first : s.lands w l Lane.quiet :=
    ((s.abandon_to l).told.andThen settled (c := [.lanes, .queues, .packs, .census, .slots, .sessions,
      .journal, .forms])).lands Lane.quiet_blind (Lane.abandoned_quiet wf on)
  refine first.andThen fun quiet => ?_
  have moved : w.lands u l Lane.mayFeed := purging.told.lands (fun y z same h => ?_)
    ⟨⟨quiet.awaiting, quiet.deferred, quiet.inflight, quiet.job, quiet.pack⟩, rfl, trivial⟩
  · exact moved.andThen fun ready => State.feedAttempt_fits ready
  · refine ⟨Lane.quiet_blind y z same h.quiet, (congrArg Lane.causes same).symm.trans h.causes, ?_⟩
    exact (congrArg LaneState.feeds (congrArg Lane.state same)).mp h.feeds

theorem State.bindPack_fits (p : Pack) (wf : (s.lane l).wf = true) (off : (s.lane l).state = .offline) :
    s.lands (s.bindPack p l) l (Lane.wf · = true) := by
  obtain ⟨-, fits, fits', -, inflight, job, -⟩ := Lane.wf_iff.1 wf
  rw [off] at inflight job
  have none_ : (s.lane l).inflight = none :=
    Option.not_isSome_iff_eq_none.1 (by rw [inflight]; decide)
  have free : (s.lane l).job = none :=
    Option.not_isSome_iff_eq_none.1 (by rw [job]; decide)
  refine State.lands.andThen (t := s.updatePack p.number fun q =>
    { q with state := .mounted, lane := some l }) (P := fun y => y = s.lane l)
    ((s.updatePack_frame _ _).lands rfl) fun here => ?_
  refine (State.moveLane_lands (P := Lane.quiet) (f := fun x => x.mount p.number p.first) ?_).andThen
    fun quiet => State.startPriming_fits quiet
  rw [here]
  refine ⟨Option.eq_none_iff_forall_not_mem.2 fun op e => ?_,
    Option.eq_none_iff_forall_not_mem.2 fun op e => ?_, none_, free, rfl⟩
  · have := fits op e
    rw [off] at this
    cases op <;> cases this
  · have := fits' op e
    rw [off] at this
    cases op <;> cases this

theorem Lane.unmounted_wf (wf : x.wf = true) (refuses : ¬x.refusesWithdrawal = true) :
    x.stopped.unmount.wf = true := by
  obtain ⟨-, -, -, -, -, job, -, -⟩ := Lane.wf_iff.1 wf
  have ticket : x.state.hasTicket = false := by
    rw [Lane.refusesWithdrawal_iff, not_or, not_or] at refuses
    cases h : x.state with
    | printing => exact absurd h refuses.1
    | cutting => exact absurd h refuses.2.1
    | _ => rfl
  rw [ticket] at job
  refine Lane.wf_iff.2 ⟨.inr rfl, nofun, nofun, .inl rfl, rfl, job, ⟨fun _ => rfl, fun _ => rfl⟩, nofun⟩

theorem Lane.reinitialised_wf (x : Lane) : x.reinitialised.wf = true :=
  Lane.wf_iff.2 ⟨.inr rfl, nofun, nofun, .inl rfl, rfl, rfl, ⟨fun _ => rfl, fun _ => rfl⟩, nofun⟩

end

end Sys2Proof.Machine
end

section
/-! SUPPORT. Every command keeps each lane's record fitting its state (04 Table 4.2): the requests, the
lanes' events, and the start of the lanes at power-on. -/

set_option Elab.async false

namespace Sys2Proof.Machine

/-- Every lane's record fits its state. -/
def State.lanesWf (s : State) : Prop := ∀ l, (s.lane l).wf = true

section
variable {s t : State} {l : LaneId} {a : List Part} {w : Window} {k : SlotId}

theorem State.lands.lanesWf (h : s.lands t l (Lane.wf · = true)) (wf : s.lanesWf) : t.lanesWf := fun m => by
  by_cases same : m = l
  · rw [same]
    exact h.self
  · rcases h.others m same with e | e
    · rw [e]
      exact wf m
    · rw [e, Lane.wf_claiming]
      exact wf m

theorem State.lanesClaimed.lanesWf (h : s.lanesClaimed t) (wf : s.lanesWf) : t.lanesWf := fun m => by
  rcases h m with e | e
  · rw [e]
    exact wf m
  · rw [e, Lane.wf_claiming]
    exact wf m

theorem State.changesOnly.lanesWf (h : s.changesOnly t a) (wf : s.lanesWf)
    (out : .lanes ∉ a := by decide) : t.lanesWf := fun m => by
  rw [h.lane m out]
  exact wf m

/-! ## The requests -/

/-- A rewritten job, of which the lanes may be told. -/
theorem State.mapJob_lanesWf (f : Job → Job) (told : Bool) (wf : s.lanesWf) :
    (if told then (s.mapJob w k f).reportEligible else s.mapJob w k f).lanesWf :=
  ((State.lanesTold_ite _ told).claimed).lanesWf ((s.mapJob_frame w k f).lanesWf wf)

theorem State.placeJob_lanesWf (b : SubmitBody) (g : Binding) (wf : s.lanesWf) :
    (s.placeJob w k b g).1.lanesWf := by
  obtain ⟨u, hu⟩ : ∃ u, u = (s.setForm g.form ((s.form g.form).raised g.coming)).reserve w
    Config.jobReservation := ⟨_, rfl⟩
  have reserved : s.changesOnly u [.forms, .sessions, .journal] :=
    hu ▸ State.changesOnly_then (s.setForm_frame _ _) (State.reserve_frame _ w _)
  obtain ⟨v, hv⟩ : ∃ v, v = u.setSlot w k { u.slot w k with job := some (s.newJob w b g) } := ⟨_, rfl⟩
  have placed : v.lanesWf := hv ▸ (u.setSlot_frame w k _).lanesWf (reserved.lanesWf wf)
  have step : (s.placeJob w k b g).1 = v.reportJob w k := by rw [hv, hu]; rfl
  rw [step]
  exact (v.reportJob_claimed w k).lanesWf placed

theorem State.requeue_lanesWf (wf : s.lanesWf) : (s.requeue w k).lanesWf :=
  (State.reportJob_claimed _ w k).lanesWf ((s.mapJob_frame w k _).lanesWf wf)

theorem State.withdrawnJob_lanesWf (f : Fin 8) (g : Option Nat) (wf : s.lanesWf) :
    (((s.releaseJob w k).emptySlot w k).unbind f g).lanesWf := by
  obtain ⟨told, lanes⟩ := ((s.releaseJob w k).emptySlot w k).unbind_told f g
  exact lanes.claimed.lanesWf ((State.setSlot_frame _ w k _).lanesWf ((s.releaseJob_frame w k).lanesWf wf))

theorem State.withdrawLane_lanesWf (p : Pack) (m : WithdrawMode) (wf : s.lanesWf)
    (refuses : ¬(s.lane l).refusesWithdrawal = true) : (s.withdrawLane l p m).lanesWf := fun k => by
  by_cases same : k = l
  · have applied := (State.applyMode_frame (s.moveLane l Lane.stopped) p m).lane l (by decide)
    rw [same, State.withdrawLane_lane_self, applied, State.moveLane_lane_self]
    exact Lane.unmounted_wf (wf l) refuses
  · have lanes : (s.withdrawLane l p m).lane k = (s.releaseLane l p m).lane k :=
      congrArg (fun v : Vector Lane 4 => v[k]) (s.withdrawLane_lanes l p m)
    rw [lanes, s.releaseLane_lane_ne same]
    exact wf k

/-- A block that answers keeps the lanes' records. -/
theorem blockOf_lanesWf {c : Instr} {p : Port} {k : RequestKind} {tag : Byte} {r : State × Reply}
    (h : requestOf c = some (p, k, tag)) (hr : blockOf c s = some r) (wf : s.lanesWf) : r.1.lanesWf := by
  have kept := fun out => (blockOf_frame h hr).lanesWf wf out
  have jobs : ∀ {p : Port} {β : Type} {take : Window → β → State → State × Reply} {b : β},
      (∀ w, (take w b s).1.lanesWf) → (windowBlock p take b s).1.lanesWf := by
    intro p β take b each
    cases p with
    | office => exact wf
    | window w => exact each w
  cases c <;> cases h <;> obtain ⟨b, -, rfl⟩ := Option.map_eq_some_iff.1 hr
  case submitJob =>
    refine jobs fun w => ?_
    unfold State.submitJob
    repeat' split
    case h_2.isFalse => exact State.placeJob_lanesWf _ _ wf
    all_goals exact wf
  case supplyLines =>
    refine jobs fun w => State.onJob_keeps (P := State.lanesWf) wf fun k j held _ => ?_
    split
    · exact wf
    · split
      · exact wf
      · exact State.mapJob_lanesWf _ _ wf
  case releaseJob =>
    refine jobs fun w => State.onJob_keeps (P := State.lanesWf) wf fun k j held _ => ?_
    split
    · exact State.requeue_lanesWf wf
    · split
      · exact wf
      · exact State.requeue_lanesWf wf
    all_goals exact wf
  case withdrawJob =>
    refine jobs fun w => State.onJob_keeps (P := State.lanesWf) wf fun k j held _ => ?_
    split
    case h_1 | h_2 | h_3 => exact State.withdrawnJob_lanesWf _ _ wf
    all_goals exact wf
  case mountPack =>
    unfold State.mountPack
    split
    · exact wf
    · split
      · exact wf
      · split
        · exact wf
        · split
          · exact (s.countRefusal_frame _).lanesWf wf
          · rename_i off
            exact (State.bindPack_fits _ (wf _) off).lanesWf wf
          · exact wf
  case withdrawPack =>
    unfold State.withdrawPack
    split
    · exact wf
    · split
      · unfold State.withdrawFromLane
        repeat' split
        case isFalse refuses => exact State.withdrawLane_lanesWf _ _ wf refuses
        all_goals exact wf
      · unfold State.withdrawByNumber
        repeat' split
        case isFalse => exact (s.applyMode_frame _ _).lanesWf wf
        all_goals exact wf
  case clearLane =>
    unfold State.clearLane
    split
    · exact wf
    · split
      · exact wf
      · rename_i faulted
        split
        · exact wf
        · exact (State.clearTaken_fits (wf _) faulted).lanesWf wf
      · exact wf
  case purgeLane =>
    unfold State.purgeLane
    split
    · exact wf
    · split
      · exact wf
      · rename_i on
        dsimp only
        exact (State.purge_fits (wf _) on).lanesWf wf
  case advanceBlank =>
    unfold State.advanceBlank
    split
    · exact wf
    · split
      · exact wf
      · split
        · exact (s.countRefusal_frame _).lanesWf wf
        · rename_i idle
          exact (State.advance_fits _ (wf _) idle).lanesWf wf
        · exact wf
  case restart =>
    obtain ⟨u, hu⟩ : ∃ u, u = s.restart.1 := ⟨_, rfl⟩
    obtain ⟨-, -, -, -, -, -, -, lanes, -⟩ := State.restart_leaves u hu
    have kept : u.lanesWf := State.lanesClaimed.lanesWf lanes wf
    rw [hu] at kept
    exact kept
  case storeReinitialise =>
    unfold State.storeReinitialise
    split
    · exact wf
    · intro l
      rw [State.reinitialised_lane]
      exact Lane.reinitialised_wf _
  all_goals exact kept (by decide)

end

end Sys2Proof.Machine
end

section
/-! SUPPORT. The lanes' events, the part asleep and the start of the lanes keep the lanes' records fitting
their states; O41 settled. -/

set_option Elab.async false

namespace Sys2Proof.Machine

section
variable {s t : State} {l : LaneId} {a : List Part} {w : Window} {k : SlotId} {c : Instr}

/-! ## The lanes' events -/

theorem State.whenRunning_lanesWf {f : State → State} (wf : s.lanesWf) (each : (f s).lanesWf) :
    (s.whenRunning f).lanesWf := State.whenRunning_keeps each wf

/-- An event taken where the lane awaits its operation. -/
theorem State.whenAwaiting_lanesWf {op : LaneOp} {f : State → State} (wf : s.lanesWf)
    (each : (s.lane l).wf = true → (s.lane l).awaiting = some op → s.lands (f s) l (Lane.wf · = true)) :
    (s.whenAwaiting l op f).lanesWf := by
  refine State.whenRunning_lanesWf wf ?_
  split
  · rename_i awaited
    exact (each (wf l) awaited).lanesWf wf
  · exact wf

theorem Lane.positioned_wf {x : Lane} (wf : x.wf = true) (feed : x.awaiting = some .feed) :
    x.positioned.wf = true := by
  obtain ⟨causes, fits, -, one, inflight, job, pack, -⟩ := Lane.wf_iff.1 wf
  have deferred : x.deferred = none := one.resolve_left (by rw [feed]; nofun)
  have feeds : x.state.feeds := by
    have fits := fits _ feed
    cases h : x.state with
    | feeding | advancing | purging => exact trivial
    | _ =>
      rw [h] at fits
      cases fits
  obtain ⟨on, ticket, -, -, -⟩ := feeds.spec
  rw [ticket] at inflight job
  have empty : x.causes = .empty := causes.resolve_left fun e => by rw [e] at feeds; exact feeds
  exact Lane.quiet.reading_wf (x := { x with
      awaiting := none
      head := .unverified
      failedReads := 0
      state := if x.state = .feeding then .verifying else x.state })
    ⟨rfl, deferred, by simpa using inflight, by simpa using job,
      Option.isSome_iff_ne_none.2 fun e => on (pack.1 e)⟩ empty
    (by
      dsimp only
      cases h : x.state with
      | feeding | advancing | purging => exact trivial
      | _ =>
        rw [h] at feeds
        exact feeds.elim)

/-- A lane that awaits an operation has its pack. -/
theorem Lane.pack_of_awaiting {x : Lane} {op : LaneOp} (wf : x.wf = true) (awaited : x.awaiting = some op) :
    x.pack ≠ none := by
  obtain ⟨-, fits, -, -, -, -, pack, -⟩ := Lane.wf_iff.1 wf
  intro e
  have fits := fits _ awaited
  rw [pack.1 e] at fits
  cases op <;> cases fits

theorem State.timeout_fits (k : FaultKind) (c : FaultContext) {op : LaneOp} (wf : (s.lane l).wf = true)
    (awaited : (s.lane l).awaiting = some op) : s.lands (s.laneFault l k c) l (Lane.wf · = true) :=
  State.laneFault_fits k c (Lane.pack_of_awaiting wf awaited) (Lane.wf_ticket wf)

theorem State.takenRead_lands (wf : (s.lane l).wf = true) (read : (s.lane l).awaiting = some .read) :
    s.lands (s.moveLane l fun x => { x with awaiting := none }) l Lane.hasRead :=
  State.moveLane_lands (Lane.hasRead_of_wf wf read)

theorem State.takeRecord_fits (record : Vector Byte 6) (wf : (s.lane l).wf = true)
    (read : (s.lane l).awaiting = some .read) : s.lands (s.takeRecord l record) l (Lane.wf · = true) := by
  unfold State.takeRecord
  refine (State.takenRead_lands wf read).andThen fun taken => ?_
  cases goodRead record with
  | some r => exact State.compareRead_fits r.1 r.2 taken
  | none => exact State.failedRead_fits taken

theorem State.resumed_lanesWf : ∀ (xs : List LaneId) {s : State}, s.lanesWf →
    (xs.foldl State.resume s).lanesWf
  | [], _, wf => wf
  | l :: xs, _, wf => State.resumed_lanesWf xs ((State.resume_fits (wf l)).lanesWf wf)

theorem State.reportEligible_lanesWf (wf : s.lanesWf) : s.reportEligible.lanesWf :=
  (State.lanesTold_ite s true).claimed.lanesWf wf

/-- The cabinet's input moved. -/
theorem State.pinned_lanesWf (pin : Cabinet) (wf : s.lanesWf) :
    (s.moveLane l fun x => { x with cabinetPin := pin }).lanesWf :=
  (State.moveLane_wf (wf l)).lanesWf wf

/-- Every command but the loss and the return of supply keeps the lanes' records. -/
theorem exec_lanesWf (power : isPower c = false) (run : exec c s = .next t) (wf : s.lanesWf) :
    t.lanesWf := by
  cases hr : requestOf c with
  | some r =>
    obtain ⟨p, k, tag⟩ := r
    rcases exec_request (s := s) hr with ⟨-, run'⟩ | ⟨-, code, -, run'⟩ | ⟨-, -, -, r, hb, run'⟩ <;>
      rw [run] at run' <;> cases run'
    · exact wf
    · exact (s.answerWith_frame p _ _ _).lanesWf wf
    · exact (r.1.answerWith_frame p k.byte tag r.2).lanesWf
        (blockOf_lanesWf hr hb ((s.reachBlock_frame p k).lanesWf wf))
  | none =>
    have kept := fun out => (exec_changesOnly run).lanesWf wf out
    cases c
    case powerOn | supplyLoss => cases power
    case claimRequest l =>
      cases run
      exact State.whenRunning_lanesWf wf ((State.takeClaim_fits (wf l)).lanesWf wf)
    case claimAnswer l =>
      cases run
      exact State.whenRunning_lanesWf wf ((State.takeAnswer_fits (wf l)).lanesWf wf)
    case scannerVisit =>
      cases run
      refine State.whenRunning_lanesWf wf ((State.setScanner_frame _ _).lanesWf ?_)
      unfold State.visitSlot
      split
      · split
        · exact (State.endJob_claimed _ _ _ _ _).lanesWf wf
        · exact wf
      · exact wf
    case positioned l =>
      cases run
      exact State.whenAwaiting_lanesWf wf fun wf feed => State.moveLane_lands (Lane.positioned_wf wf feed)
    case headReady l => cases run; exact State.whenAwaiting_lanesWf wf State.afterStrobe_fits
    case cutDone l => cases run; exact State.whenAwaiting_lanesWf wf State.cutCompletion_fits
    case markRecord l record =>
      cases run
      exact State.whenAwaiting_lanesWf wf (State.takeRecord_fits record)
    case markReadTimeout l =>
      cases run
      exact State.whenAwaiting_lanesWf wf fun wf read =>
        (State.takenRead_lands wf read).andThen State.failedRead_fits
    case feedTimeout l | strobeTimeout l | cutTimeout l =>
      cases run
      exact State.whenAwaiting_lanesWf wf (State.timeout_fits _ _)
    case cabinetOpening l =>
      cases run
      have pinned := State.pinned_lanesWf (l := l) .opened wf
      refine State.whenRunning_lanesWf pinned ?_
      split
      · exact (State.observeOpening_fits (pinned l)).lanesWf pinned
      · exact pinned
    case cabinetRelock l =>
      cases run
      have pinned := State.pinned_lanesWf (l := l) .locked wf
      refine State.whenRunning_lanesWf pinned ?_
      split
      · exact (State.relock_fits (pinned l)).lanesWf pinned
      · exact pinned
    case powerFailWarningDeassert =>
      cases run
      have lowered := (s.setPowerFail_frame false).lanesWf wf
      exact State.whenRunning_lanesWf lowered
        (State.reportEligible_lanesWf (State.resumed_lanesWf allLanes lowered))
    case portByteReceived | gapTimerExpiry | quietTimerExpiry | answerSent | censusEntryStep
      | powerFailWarningAssert | resetAsserted | officeClockTick | runTimeTick =>
      exact kept (of_decide_eq_true rfl)
    all_goals cases hr

end

end Sys2Proof.Machine
end

section
/-! SUPPORT. The start of the lanes at power-on, and the part asleep; O41 settled. -/

set_option Elab.async false

namespace Sys2Proof.Machine

/-- A lane's record as power-on finds it: what supply does not keep stands as in OFFLINE, and a record in
flight has its binding (04 Table 4.1). -/
structure Lane.dormant (x : Lane) : Prop where
  state : x.state = .offline
  causes : x.causes = .empty
  awaiting : x.awaiting = none
  deferred : x.deferred = none
  job : x.job = none
  kept : x.keptWf = true

section
variable {s t : State} {l : LaneId} {x : Lane} {c : Instr}

theorem Lane.retained_dormant (kept : x.keptWf = true) : x.retained.dormant := ⟨rfl, rfl, rfl, rfl, rfl, kept⟩

theorem Lane.claiming_dormant (h : x.dormant) (p : Bool) : (x.claiming p).dormant := by
  rcases Lane.claiming_cases x p with e | e <;> rw [e]
  exacts [h, ⟨h.state, h.causes, h.awaiting, h.deferred, h.job, h.kept⟩]

/-! ## The start of a lane (04 R90; 10 R189) -/

theorem State.powerOnSpoil_fits (r : InFlight) (dormant : (s.lane l).dormant)
    (pack : (s.lane l).pack.isSome = true) : s.lands (s.powerOnSpoil l r) l (Lane.wf · = true) := by
  obtain ⟨-, causes, awaiting, deferred, job, -⟩ := dormant
  obtain ⟨u, hu⟩ : ∃ u, u = (((s.changeMark (s.mountedClass l) r.serial .spoiled).unreserve r.window
    r.reserved).writeEntry r.window (r.spoilEntry (s.mountedClass l) ((s.lane l).pack.getD 0))).raiseLane l
    .powerInterrupted (r.lostContext (s.lane l).pack) := ⟨_, rfl⟩
  have written : s.changesOnly u [.packs, .census, .sessions, .journal, .faults, .queues] :=
    hu ▸ State.changesOnly_then (State.changesOnly_then
      (c := [.packs, .census, .sessions, .journal, .queues]) (State.changesOnly_then
        (c := [.packs, .census, .sessions, .journal, .queues])
        (s.changeMark_frame (s.mountedClass l) r.serial .spoiled)
        (State.unreserve_frame _ r.window r.reserved)) (State.writeEntry_frame _ r.window _))
      (State.raiseLane_frame _ l _ _)
  have step : s.powerOnSpoil l r = (u.moveLane l fun x =>
      { x with inflight := none, head := .notPositioned, state := .feeding }).feedAttempt l := by
    rw [hu]
    rfl
  rw [step]
  refine (written.lands (P := (· = s.lane l)) rfl).andThen fun same => ?_
  refine (State.moveLane_lands (P := Lane.mayFeed) ?_).andThen State.feedAttempt_fits
  rw [same]
  exact ⟨⟨awaiting, deferred, rfl, job, pack⟩, causes, trivial⟩

theorem State.startMounted_fits (dormant : (s.lane l).dormant) (pack : (s.lane l).pack.isSome = true) :
    s.lands (s.startMounted l) l (Lane.wf · = true) := by
  obtain ⟨-, -, awaiting, deferred, job, -⟩ := id dormant
  unfold State.startMounted
  split
  · rename_i none_
    exact State.startPriming_fits ⟨awaiting, deferred, none_, job, pack⟩
  · rename_i r _
    split
    · exact State.powerOnSpoil_fits r dormant pack
    · refine ((State.unreserve_frame s r.window r.reserved).lands (P := (· = s.lane l)) rfl).andThen
        fun same => ?_
      refine (State.moveLane_lands (P := Lane.quiet) ?_).andThen State.startPriming_fits
      rw [same]
      exact ⟨awaiting, deferred, rfl, job, pack⟩

theorem State.startLane_fits (dormant : (s.lane l).dormant) :
    s.lands (s.startLane l) l (Lane.wf · = true) := by
  obtain ⟨u, hu⟩ : ∃ u, u = s.setLane l ((s.lane l).started (s.mounted l)) := ⟨_, rfl⟩
  have sampled : s.lands u l (· = (s.lane l).started (s.mounted l)) := by
    rw [hu]
    exact ⟨State.setLane_lane_self .., fun m other => .inl (State.setLane_lane_ne s other _), rfl⟩
  have fresh : (u.lane l).dormant := by
    rw [sampled.self]
    exact ⟨dormant.state, dormant.causes, dormant.awaiting, dormant.deferred, dormant.job, dormant.kept⟩
  have pack : (u.lane l).pack = (s.lane l).pack := by rw [sampled.self]; rfl
  have step : s.startLane l =
      (if (s.lane l).pack.isSome then u.startMounted l else u).reconcileCabinet l := by rw [hu]; rfl
  rw [step]
  have started : u.lands (if (s.lane l).pack.isSome then u.startMounted l else u) l (Lane.wf · = true) := by
    split
    · rename_i mounted
      exact State.startMounted_fits fresh (by rw [pack]; exact mounted)
    · rename_i free
      refine State.lands_refl ?_
      obtain ⟨state, causes, awaiting, deferred, job, kept⟩ := fresh
      have noPack : (u.lane l).pack = none := by
        rw [pack]
        exact Option.not_isSome_iff_eq_none.1 free
      have noRecord : (u.lane l).inflight = none := by
        rw [Lane.keptWf_iff, noPack] at kept
        exact Option.not_isSome_iff_eq_none.1 fun i => by cases kept i
      rw [Lane.wf_iff, state, causes, awaiting, deferred, job, noPack, noRecord]
      exact ⟨.inr rfl, nofun, nofun, .inl rfl, rfl, rfl, by simp, nofun⟩
  exact (sampled.andThen fun _ => started).andThen fun wf => (State.reconcileCabinet_frame _ l).lands wf

/-- The lanes are started one after another: each leaves the others to claim at most. -/
theorem State.startLanes_lanesWf : ∀ (xs : List LaneId) {s : State}, xs.Nodup →
    (∀ l ∈ xs, (s.lane l).dormant) → (∀ l ∉ xs, (s.lane l).wf = true) → (xs.foldl State.startLane s).lanesWf
  | [], _, _, _, wf => fun l => wf l List.not_mem_nil
  | l :: xs, s, distinct, dormant, wf => by
    obtain ⟨fresh, distinct⟩ := List.nodup_cons.1 distinct
    have lands := State.startLane_fits (dormant l List.mem_cons_self)
    refine State.startLanes_lanesWf xs distinct (fun m mem => ?_) fun m out => ?_
    · have old := dormant m (List.mem_cons_of_mem _ mem)
      rcases lands.others m (fun e => fresh (e ▸ mem)) with e | e <;> rw [e]
      · exact old
      · exact Lane.claiming_dormant old _
    · by_cases same : m = l
      · rw [same]
        exact lands.self
      · have old := wf m fun mem => (List.mem_cons.1 mem).elim same out
        rcases lands.others m same with e | e <;> rw [e]
        · exact old
        · rw [Lane.wf_claiming]
          exact old

/-! ## The loss and the return of supply -/

theorem Lane.keptWf_of_wf (wf : x.wf = true) : x.keptWf = true := by
  obtain ⟨-, -, -, -, inflight, -, pack, -⟩ := Lane.wf_iff.1 wf
  rw [Lane.keptWf_iff]
  intro begun
  rw [Option.isSome_iff_ne_none]
  intro none_
  rw [begun, pack.1 none_] at inflight
  cases inflight

theorem exec_powerOn_lanesWf (kept : ∀ l, (s.lane l).keptWf = true) (run : exec .powerOn s = .next t) :
    t.lanesWf := by
  cases run
  dsimp only
  split
  · rw [State.startValid_eq]
    refine State.startLanes_lanesWf allLanes (by decide) (fun l _ => ?_)
      fun l out => absurd (mem_allLanes l) out
    have before := (State.beforeLanes_frame { s.volatileLost with phase := .running }).lane l (by decide)
    have lost : ({ s.volatileLost with phase := .running } : State).lane l = (s.lane l).retained :=
      s.volatileLost_lane l
    rw [before, lost]
    exact Lane.retained_dormant (kept l)
  · have frame := State.changesOnly_then (c := [.faults, .queues, .receivers])
      (State.changesOnly_then (c := [.faults, .queues]) (State.raiseController_frame
        s.startedEmpty .storeLost {}) (State.postOffice_frame _ .storeChange .store))
      (State.startPorts_frame _)
    intro l
    have lane := (frame.lane l (by decide)).trans (s.startedEmpty_lane l)
    refine (congrArg Lane.wf lane).trans (Lane.wf_iff.2 ?_)
    exact ⟨.inr rfl, nofun, nofun, .inl rfl, rfl, rfl, ⟨fun _ => rfl, fun _ => rfl⟩, nofun⟩

/-! ## The part asleep: it does not run, and every receiver stands in STARTING -/

/-- What a command may move while the part does not run. -/
structure State.asleep (s t : State) : Prop where
  phase : t.phase = s.phase
  receivers : ∀ p, (t.port p).rx = .starting
  records : ∀ l, (t.lane l).keptWf = (s.lane l).keptWf

theorem State.asleep_refl (starting : ∀ p, (s.port p).rx = .starting) : s.asleep s :=
  ⟨rfl, starting, fun _ => rfl⟩

theorem State.asleep.whenRunning (h : s.asleep t) (still : s.phase ≠ .running) {f : State → State} :
    s.asleep (t.whenRunning f) := by
  rw [State.whenRunning, if_neg (by rw [h.phase]; exact still)]
  exact h

theorem State.setPort_asleep (starting : ∀ p, (s.port p).rx = .starting) (p : Port) {x : PortState}
    (rx : x.rx = .starting) : s.asleep (s.setPort p x) := by
  have frame := s.setPort_frame p x
  refine ⟨frame .phase (by decide), fun q => ?_, fun l => by rw [frame.lane l (by decide)]⟩
  by_cases same : q = p
  · rw [same, State.setPort_port_self]
    exact rx
  · rw [State.setPort_port_ne _ same]
    exact starting q

theorem State.pinned_asleep (starting : ∀ p, (s.port p).rx = .starting) (pin : Cabinet) :
    s.asleep (s.moveLane l fun x => { x with cabinetPin := pin }) := by
  have frame := s.moveLane_frame l fun x => { x with cabinetPin := pin }
  refine ⟨frame .phase (by decide), fun p => ?_, fun m => ?_⟩
  · rw [(frame .receivers (by decide) p).1]
    exact starting p
  · by_cases same : m = l
    · rw [same, State.moveLane_lane_self]
      rfl
    · rw [State.moveLane_lane_ne _ _ _ same]

theorem State.setPowerFail_asleep (starting : ∀ p, (s.port p).rx = .starting) (b : Bool) :
    s.asleep { s with powerFail := b } := by
  have frame := s.setPowerFail_frame b
  refine ⟨rfl, fun p => ?_, fun l => rfl⟩
  rw [(frame .receivers (by decide) p).1]
  exact starting p

theorem exec_asleep (still : s.phase ≠ .running) (starting : ∀ p, (s.port p).rx = .starting)
    (power : isPower c = false) (reset : c ≠ .resetAsserted) (run : exec c s = .next t) : s.asleep t := by
  have refl := State.asleep_refl starting
  cases hr : requestOf c with
  | some r =>
    obtain ⟨p, k, tag⟩ := r
    have free : (s.port p).rx.takes k tag = false := by rw [starting p]; rfl
    rcases exec_request (s := s) hr with ⟨-, run'⟩ | ⟨takes, -⟩ | ⟨takes, -⟩
    · rw [run] at run'
      cases run'
      exact refl
    · rw [free] at takes
      cases takes
    · rw [free] at takes
      cases takes
  | none =>
    cases c
    case powerOn | supplyLoss => cases power
    case resetAsserted => exact absurd rfl reset
    case claimRequest | claimAnswer | scannerVisit | positioned | headReady | cutDone | markRecord
      | markReadTimeout | feedTimeout | strobeTimeout | cutTimeout | censusEntryStep | officeClockTick
      | runTimeTick =>
      cases run
      exact refl.whenRunning still
    case cabinetOpening l | cabinetRelock l =>
      cases run
      exact (State.pinned_asleep starting _).whenRunning still
    case powerFailWarningDeassert =>
      cases run
      exact (State.setPowerFail_asleep starting false).whenRunning still
    case powerFailWarningAssert =>
      cases run
      exact State.setPowerFail_asleep starting true
    case portByteReceived p b e =>
      cases run
      rw [starting p]
      exact refl
    case gapTimerExpiry p | quietTimerExpiry p =>
      cases run
      rw [starting p]
      exact refl
    case answerSent p =>
      cases run
      dsimp only
      split
      · exact State.setPort_asleep starting p (by rw [starting p]; rfl)
      · exact refl
    all_goals cases hr

/-! ## O41 -/

theorem State.lanesHold_of_wf (wf : s.lanesWf) (starting : s.phase ≠ .running → ∀ p, (s.port p).rx = .starting) :
    s.lanesHold := ⟨fun _ => wf, fun l => Lane.keptWf_of_wf (wf l), starting⟩

/-- Only the reset input, and the loss and the return of supply, move the phase. -/
theorem phase_untouched (power : isPower c = false) (reset : c ≠ .resetAsserted) :
    Part.phase ∉ touches c := by
  cases c with
  | powerOn => cases power
  | supplyLoss => cases power
  | resetAsserted => exact absurd rfl reset
  | _ => exact Part.not_mem_of_contains rfl

theorem exec_resetAsserted_lanesHold (h : s.lanesHold) (run : exec .resetAsserted s = .next t) :
    t.lanesHold := by
  obtain ⟨wf, kept, -⟩ := id h
  cases run
  dsimp only
  split
  · exact h
  · rename_i on
    exact State.lanesHold_of_wf (wf on) fun _ p => congrArg PortState.rx (s.stopPorts_port p)

theorem exec_lanesHold (h : s.lanesHold) (run : exec c s = .next t) : t.lanesHold := by
  obtain ⟨wf, kept, starting⟩ := id h
  by_cases power : isPower c = false
  · by_cases reset : c = .resetAsserted
    · exact exec_resetAsserted_lanesHold h (reset ▸ run)
    · have phase : t.phase = s.phase := exec_same run .phase (phase_untouched power reset)
      by_cases running : s.phase = .running
      · exact State.lanesHold_of_wf
          (exec_lanesWf power run (wf (by rw [running]; nofun))) fun still => absurd (phase.trans running) still
      · have asleep := exec_asleep running (starting running) power reset run
        refine ⟨fun on => ?_, fun l => by rw [asleep.records l]; exact kept l, fun _ => asleep.receivers⟩
        exact exec_lanesWf power run (wf (by rw [← phase]; exact on))
  · cases c
    case supplyLoss =>
      cases run
      refine ⟨fun on => absurd rfl on, fun l => ?_, fun _ p => congrArg PortState.rx (s.volatileLost_port p)⟩
      exact (congrArg Lane.keptWf (s.volatileLost_lane l)).trans (kept l)
    case powerOn =>
      refine State.lanesHold_of_wf (exec_powerOn_lanesWf kept run) fun still => absurd ?_ still
      cases run
      dsimp only
      split
      · rw [State.startValid_eq]
        exact ((State.changesOnly_foldl _ State.startLane_frame allLanes _) .phase (by decide)).trans
          ((State.beforeLanes_frame _) .phase (by decide))
      · rfl
    all_goals exact absurd rfl power

end

/-- Settles O41: `Lane.wf_iff` lists what a record keeps, and `exec_lanesHold` takes each command through
the operations that end in a fitting record. -/
theorem laneRecordsFitTheirState : Obligations.LaneRecordsFitTheirState := by
  unfold Obligations.LaneRecordsFitTheirState
  intro s t held run
  exact step_keeps (P := State.lanesHold) (fun _ _ h => h) (fun c s t h run => exec_lanesHold h run) held run

end Sys2Proof.Machine
end

section
/-! SUPPORT. What a lane's faults and its relock leave of the fault list: the lane's own ACTIVE reports, a
report that stands, and the room in the list (10 R176 to R178, R181). -/

set_option Elab.async false

namespace Sys2Proof.Machine

section
variable {s t : State} {l m : LaneId} {k kind : FaultKind} {c ctx : FaultContext} {r y : Report}
  {list : List Report} {counter : Nat} {at_ : Stamp}

/-! ## The cases of a fault placed -/

/-- A fault counted on an ACTIVE report of the lane, or added to a list that has fewer than two. -/
theorem faultPlaced_cases (list : List Report) (counter : Nat) (at_ : Stamp) (l : LaneId) (k : FaultKind)
    (c : FaultContext) :
    (∃ x ∈ activeIn list (.lane l), ∃ o, (o = none ∨ o = some k) ∧
      (faultPlaced list counter at_ l k c).1 = list.map (occurred x.number o)) ∨
    (activeIn list (.lane l)).length < 2 ∧ ∃ n p, ((activeIn list (.lane l)) = [] → p = none) ∧
      (faultPlaced list counter at_ l k c).1 = agedList list ++
        [⟨n, .lane l, k, at_, none, .active, 1, p, none, c, 0, none⟩] := by
  unfold faultPlaced
  cases found : (activeIn list (.lane l)).find? fun r => r.kind == k with
  | some r => exact .inl ⟨r, List.mem_of_find?_eq_some found, none, .inl rfl, rfl⟩
  | none =>
    match h : activeIn list (.lane l) with
    | [] => exact .inr ⟨by simp, _, _, fun _ => rfl, rfl⟩
    | [r] => exact .inr ⟨by simp, _, _, fun e => (by cases e), rfl⟩
    | a :: b :: rest =>
      refine .inl ⟨if a.primary.isSome then a else b, by split <;> simp, some k, .inr rfl, ?_⟩
      dsimp only
      split <;> rfl

theorem State.raiseLane_cases (s : State) (l : LaneId) (k : FaultKind) (c : FaultContext) :
    (∃ x ∈ s.activeOf (.lane l), ∃ o, (o = none ∨ o = some k) ∧
      (s.raiseLane l k c).faults = s.faults.map (occurred x.number o)) ∨
    (s.activeOf (.lane l)).length < 2 ∧ ∃ n p, (s.activeOf (.lane l) = [] → p = none) ∧
      (s.raiseLane l k c).faults = agedList s.faults ++
        [⟨n, .lane l, k, s.stamp, none, .active, 1, p, none, c, 0, none⟩] := by
  rw [State.raiseLane_faults]
  exact faultPlaced_cases _ _ _ _ _ _

theorem State.mem_activeOf {src : FaultSource} :
    r ∈ s.activeOf src ↔ r ∈ s.faults ∧ r.isActive = true ∧ r.source = src := mem_activeIn

theorem occurred_primary (n : Nat) (o : Option FaultKind) (r : Report) :
    (occurred n o r).primary = r.primary ∧ (occurred n o r).context = r.context := by
  unfold occurred
  split <;> exact ⟨rfl, rfl⟩

/-! ## A report that stands -/

/-- A primary ACTIVE report of the lane, of a kind and a context. -/
def State.showsFault (s : State) (l : LaneId) (k : FaultKind) (c : FaultContext) : Prop :=
  ∃ y ∈ s.activeOf (.lane l), y.kind = k ∧ y.primary = none ∧ y.context = c

theorem State.showsFault_of_raised (none_ : s.activeOf (.lane l) = []) :
    (s.raiseLane l k c).showsFault l k c := by
  rcases s.raiseLane_cases l k c with ⟨x, mem, -⟩ | ⟨-, n, p, primary, faults⟩
  · rw [none_] at mem
    cases mem
  · refine ⟨⟨n, .lane l, k, s.stamp, none, .active, 1, p, none, c, 0, none⟩,
      State.mem_activeOf.2 ⟨?_, rfl, rfl⟩, rfl, primary none_, rfl⟩
    rw [faults]
    exact List.mem_append_right _ (List.mem_singleton_self _)

theorem mem_agedList (active : r.isActive = true) (mem : r ∈ list) : r ∈ agedList list := by
  have own := activeIn_agedList list r.source
  have held : r ∈ activeIn (agedList list) r.source := by
    rw [own]
    exact mem_activeIn.2 ⟨mem, active, rfl⟩
  exact (mem_activeIn.1 held).1

theorem State.showsFault.raise (h : s.showsFault l kind ctx) (m : LaneId) (k : FaultKind)
    (c : FaultContext) : (s.raiseLane m k c).showsFault l kind ctx := by
  obtain ⟨y, mem, yKind, primary, context⟩ := h
  obtain ⟨held, active, source⟩ := State.mem_activeOf.1 mem
  rcases s.raiseLane_cases m k c with ⟨x, -, o, -, faults⟩ | ⟨-, n, p, -, faults⟩
  · obtain ⟨-, source', -, kind'⟩ := occurred_keeps x.number o y
    obtain ⟨primary', context'⟩ := occurred_primary x.number o y
    refine ⟨occurred x.number o y, State.mem_activeOf.2 ⟨?_, (occurred_isActive _ _ y).trans active,
      source'.trans source⟩, kind'.trans yKind, primary'.trans primary, context'.trans context⟩
    rw [faults]
    exact List.mem_map_of_mem held
  · refine ⟨y, State.mem_activeOf.2 ⟨?_, active, source⟩, yKind, primary, context⟩
    rw [faults]
    exact List.mem_append_left _ (mem_agedList active held)

theorem State.showsFault.selfClear (h : s.showsFault l kind ctx) (other : kind ≠ .cabinetOpen) (m : LaneId) :
    (s.selfClear m).showsFault l kind ctx := by
  obtain ⟨y, mem, yKind, primary, context⟩ := h
  obtain ⟨held, active, source⟩ := State.mem_activeOf.1 mem
  unfold State.selfClear
  split
  · have same : y.relock m s.stamp = y := Report.relock_of_other (by rw [yKind]; exact other)
    have promoted : ∀ b, (y.promoted m b) = y := fun b => by
      unfold Report.promoted
      split
      · cases y
        cases primary
        simp
      · rfl
    refine ⟨y, State.mem_activeOf.2 ⟨?_, active, source⟩, yKind, primary, context⟩
    rw [(State.postReport_faults _ _).1, State.promote_faults]
    refine List.mem_map.2 ⟨y, ?_, promoted _⟩
    exact List.mem_map.2 ⟨y, held, same⟩
  · exact ⟨y, mem, yKind, primary, context⟩

theorem State.changesOnly.showsFault {a : List Part} (h : s.changesOnly t a) (shows : s.showsFault l k c)
    (out : .faults ∉ a := by decide) : t.showsFault l k c := by
  have same : t.activeOf (.lane l) = s.activeOf (.lane l) := by
    unfold State.activeOf
    rw [(h .faults out).1]
  unfold State.showsFault
  rw [same]
  exact shows

/-! ## The cabinet's report -/

/-- No ACTIVE report of the lane has the cabinet's kind folded into it. -/
def State.noFolded (s : State) (l : LaneId) : Prop :=
  ∀ r ∈ s.activeOf (.lane l), r.lastOther ≠ some .cabinetOpen

theorem State.noFolded.raise (h : s.noFolded l) (other : k ≠ .cabinetOpen) (c : FaultContext) :
    (s.raiseLane l k c).noFolded l := by
  intro y mem
  obtain ⟨held, active, source⟩ := State.mem_activeOf.1 mem
  rcases s.raiseLane_cases l k c with ⟨x, -, o, named, faults⟩ | ⟨-, n, p, -, faults⟩
  · rw [faults] at held
    obtain ⟨z, zHeld, rfl⟩ := List.mem_map.1 held
    obtain ⟨-, source', -, -⟩ := occurred_keeps x.number o z
    have old := h z (State.mem_activeOf.2 ⟨zHeld, (occurred_isActive _ _ z).symm.trans active,
      source'.symm.trans source⟩)
    rcases occurred_lastOther x.number o z with e | e
    · rw [e]
      exact old
    · rw [e]
      rcases named with e | e <;> rw [e]
      · nofun
      · exact fun e => other (Option.some.inj e)
  · rw [faults] at held
    rcases List.mem_append.1 held with old | new
    · refine h y ?_
      have own : y ∈ activeIn (agedList s.faults) (.lane l) := mem_activeIn.2 ⟨old, active, source⟩
      rw [activeIn_agedList] at own
      exact own
    · rw [List.mem_singleton.1 new]
      nofun

theorem State.changesOnly.noFolded {a : List Part} (h : s.changesOnly t a) (held : s.noFolded l)
    (out : .faults ∉ a := by decide) : t.noFolded l := by
  have same : t.activeOf (.lane l) = s.activeOf (.lane l) := by
    unfold State.activeOf
    rw [(h .faults out).1]
  unfold State.noFolded
  rw [same]
  exact held

/-- A relock leaves no CABINET_OPEN report ACTIVE. -/
theorem State.selfClear_noCabinet (h : s.noFolded l) :
    ∀ r ∈ (s.selfClear l).activeOf (.lane l), r.kind ≠ .cabinetOpen := by
  intro r mem cabinet
  obtain ⟨held, active, source⟩ := State.mem_activeOf.1 mem
  rw [State.selfClear_faults] at held
  obtain ⟨x, xHeld, e⟩ := List.mem_map.1 held
  by_cases mine : x.state = .active ∧ x.source = .lane l ∧ ∃ x ∈ s.activeOf (.lane l), x.kind = .cabinetOpen
  · rw [if_pos mine] at e
    have own := h x (State.mem_activeOf.2 ⟨xHeld, Report.isActive_iff.2 mine.1, mine.2.1⟩)
    by_cases gone : x.kind = .cabinetOpen ∧ x.lastOther = none
    · rw [if_pos gone] at e
      rw [← e] at active
      cases active
    · rw [if_neg gone] at e
      rw [← e] at cabinet
      by_cases kind : x.kind = .cabinetOpen
      · cases last : x.lastOther with
        | none => exact gone ⟨kind, last⟩
        | some k =>
          simp only [kind, if_true, last, Option.getD_some] at cabinet
          exact own (last.trans (congrArg some cabinet))
      · simp only [kind, if_false] at cabinet
  · rw [if_neg mine] at e
    subst e
    exact mine ⟨Report.isActive_iff.1 active, source, x, State.mem_activeOf.2 ⟨xHeld, active, source⟩, cabinet⟩

/-- A CABINET_OPEN report with nothing folded into it is cleared by a relock. -/
theorem State.selfClear_clears (mem : r ∈ s.activeOf (.lane l)) (cabinet : r.kind = .cabinetOpen)
    (last : r.lastOther = none) :
    { r with state := .cleared, how := some .self, cleared := some s.stamp, primary := none } ∈
      (s.selfClear l).faults := by
  obtain ⟨held, active, source⟩ := State.mem_activeOf.1 mem
  rw [State.selfClear_faults]
  refine List.mem_map.2 ⟨r, held, ?_⟩
  rw [if_pos ⟨Report.isActive_iff.1 active, source, r, mem, cabinet⟩, if_pos ⟨cabinet, last⟩]

theorem State.selfClear_length : (s.selfClear l).faults.length = s.faults.length := by
  rw [State.selfClear_faults]
  exact List.length_map _

/-- A report that is not an ACTIVE one of the lane stands at its relock. -/
theorem State.selfClear_keeps (mem : r ∈ s.faults) (other : ¬(r.isActive = true ∧ r.source = .lane l)) :
    r ∈ (s.selfClear l).faults := by
  rw [State.selfClear_faults]
  refine List.mem_map.2 ⟨r, mem, if_neg fun mine => other ⟨Report.isActive_iff.2 mine.1, mine.2.1⟩⟩

/-! ## Room in the list -/

/-- The list holds at most `n` reports once the lane's are two. -/
def State.faultRoom (s : State) (l : LaneId) (n : Nat) : Prop :=
  s.faults.length + 2 ≤ n + (s.activeOf (.lane l)).length

theorem State.faultRoom_of_length {n : Nat} (h : s.faults.length + 2 ≤ n) : s.faultRoom l n :=
  h.trans (Nat.le_add_right _ _)

theorem State.faultRoom.length {n : Nat} (h : s.faultRoom l n) (holds : s.faultsHold) :
    s.faults.length ≤ n := by
  have few := ((s.faultsHold_iff.1 holds).1.2.2.2 (.lane l)).1
  have two : (s.activeOf (.lane l)).length ≤ 2 := few
  unfold State.faultRoom at h
  omega

/-- With room for it, a fault of a lane leaves the reports that are not its own ACTIVE ones. -/
theorem State.raiseLane_room {n : Nat} (holds : s.faultsHold) (room : s.faultRoom l n) (few : n ≤ 64)
    (k : FaultKind) (c : FaultContext) : (s.raiseLane l k c).faultRoom l n ∧
      ∀ r ∈ s.faults, ¬(r.isActive = true ∧ r.source = .lane l) → r ∈ (s.raiseLane l k c).faults := by
  rcases s.raiseLane_cases l k c with ⟨x, xMem, o, -, faults⟩ | ⟨one, n', p, -, faults⟩
  · obtain ⟨xHeld, xActive, xSource⟩ := State.mem_activeOf.1 xMem
    have active : (s.raiseLane l k c).activeOf (.lane l) =
        (s.activeOf (.lane l)).map (occurred x.number o) := by
      unfold State.activeOf
      rw [faults]
      exact activeIn_map_occurred s.faults (.lane l) x.number o
    constructor
    · unfold State.faultRoom
      rw [active, faults, List.length_map, List.length_map]
      exact room
    · intro r mem other
      rw [faults]
      refine List.mem_map.2 ⟨r, mem, if_neg fun same => other ?_⟩
      have nodup := (s.faultsHold_iff.1 holds).1.2.1
      rw [List.inj_on_of_nodup_map nodup mem xHeld same]
      exact ⟨xActive, xSource⟩
  · have short : s.faults.length < 64 := by
      unfold State.faultRoom at room
      omega
    have whole : agedList s.faults = s.faults := if_pos short
    rw [whole] at faults
    constructor
    · have active : (s.raiseLane l k c).activeOf (.lane l) = s.activeOf (.lane l) ++
          [⟨n', .lane l, k, s.stamp, none, .active, 1, p, none, c, 0, none⟩] := by
        unfold State.activeOf
        rw [faults, List.filter_append]
        simp [Report.isActive]
      unfold State.faultRoom at room ⊢
      rw [active, faults, List.length_append, List.length_append]
      simp only [List.length_singleton]
      omega
    · intro r mem _
      rw [faults]
      exact List.mem_append_left _ mem

end

end Sys2Proof.Machine
end

section
/-! SUPPORT. What the spoils of power-on write to the stock, the journal and the sessions, lane after lane
(04 R90; 08 R153, R158). -/

set_option Elab.async false

namespace Sys2Proof.Machine

/-- The begun ticket a lane lost, and its pack: an element of `State.interrupted`. -/
def State.lossAt (s : State) (l : LaneId) : Option (LaneId × InFlight × Pack) :=
  match (s.lane l).inflight, s.mounted l with
  | some r, some k => if r.begun then some (l, r, k) else none
  | _, _ => none

theorem State.interrupted_eq (s : State) : s.interrupted = allLanes.filterMap s.lossAt := rfl

/-- The SPOIL entry of a lost ticket, written before either clock has moved. -/
def lostEntry (n : Nat) (x : LaneId × InFlight × Pack) : JournalEntry :=
  ⟨x.2.1.window, n, ⟨.spoil, x.2.2.cls, x.2.1.serial, x.2.2.number, 0, none, x.2.1.quantity, x.2.1.form,
    x.2.1.slot⟩, ⟨0, 0, 0⟩, false⟩

/-- The SPOIL entries of the lost tickets, where the windows' sessions hold `count` entries before. -/
def lostEntries (count : Window → Nat) (lost : List (LaneId × InFlight × Pack)) : List JournalEntry :=
  lost.zipIdx.map fun x =>
    lostEntry (count x.1.2.1.window + lostOf (lost.take x.2) x.1.2.1.window + 1) x.1

/-- A pack after the lost tickets: one of its blanks is SPOILED where a ticket was on it. -/
def Pack.spoiledBy (p : Pack) (lost : List (LaneId × InFlight × Pack)) : Pack :=
  match lost.find? fun x => x.2.2.number == p.number with
  | some x => { p.remark x.2.1.serial .unused .spoiled with references := p.references + 1 }
  | none => p

theorem lostOf_cons (x : LaneId × InFlight × Pack) (lost : List (LaneId × InFlight × Pack)) (w : Window) :
    lostOf (x :: lost) w = (if x.2.1.window = w then 1 else 0) + lostOf lost w := by
  unfold lostOf
  rw [List.filter_cons]
  by_cases own : x.2.1.window = w
  · simp [own, Nat.add_comm]
  · simp [own]

theorem lostOf_append (a b : List (LaneId × InFlight × Pack)) (w : Window) :
    lostOf (a ++ b) w = lostOf a w + lostOf b w := by
  unfold lostOf
  rw [List.filter_append, List.length_append]

theorem lostEntries_cons (count : Window → Nat) (x : LaneId × InFlight × Pack)
    (lost : List (LaneId × InFlight × Pack)) : lostEntries count (x :: lost) =
      lostEntry (count x.2.1.window + 1) x ::
        lostEntries (fun w => count w + if x.2.1.window = w then 1 else 0) lost := by
  unfold lostEntries
  rw [List.zipIdx_cons, List.map_cons, List.zipIdx_succ, List.map_map]
  refine congrArg₂ _ rfl (List.map_congr_left fun y _ => ?_)
  obtain ⟨y, i⟩ := y
  simp only [Function.comp_apply, List.take_succ_cons, lostOf_cons]
  simp only [Nat.add_assoc]

theorem lostEntries_append : ∀ (a b : List (LaneId × InFlight × Pack)) (count : Window → Nat),
    lostEntries count (a ++ b) = lostEntries count a ++ lostEntries (fun w => count w + lostOf a w) b
  | [], _, _ => rfl
  | x :: a, b, count => by
    rw [List.cons_append, lostEntries_cons, lostEntries_cons, lostEntries_append a b, List.cons_append]
    simp only [lostOf_cons, Nat.add_assoc]

theorem lostEntries_window (w : Window) : ∀ (lost : List (LaneId × InFlight × Pack)) (count : Window → Nat),
    ((lostEntries count lost).filter fun e => e.window == w).length = lostOf lost w
  | [], _ => rfl
  | x :: lost, count => by
    rw [lostEntries_cons, lostOf_cons, List.filter_cons]
    have rest := lostEntries_window w lost fun w => count w + if x.2.1.window = w then 1 else 0
    have own : (lostEntry (count x.2.1.window + 1) x).window = x.2.1.window := rfl
    rw [own]
    by_cases same : x.2.1.window = w
    · rw [if_pos (by simpa using same), if_pos same, List.length_cons, rest, Nat.add_comm]
    · rw [if_neg (by simpa using same), if_neg same, rest, Nat.zero_add]

theorem Pack.spoiledBy_number (p : Pack) (lost : List (LaneId × InFlight × Pack)) :
    (p.spoiledBy lost).number = p.number := by
  unfold Pack.spoiledBy
  split <;> rfl

theorem Pack.spoiledBy_holds (p : Pack) (lost : List (LaneId × InFlight × Pack)) (cls serial : Nat) :
    (p.spoiledBy lost).holds cls serial = p.holds cls serial := by
  unfold Pack.spoiledBy
  split <;> rfl

theorem Pack.spoiledBy_other {p : Pack} {lost : List (LaneId × InFlight × Pack)}
    (other : ∀ x ∈ lost, x.2.2.number ≠ p.number) : p.spoiledBy lost = p := by
  unfold Pack.spoiledBy
  rw [List.find?_eq_none.2 fun x hx => by simpa using other x hx]

theorem Pack.spoiledBy_append {p : Pack} {a b : List (LaneId × InFlight × Pack)}
    (apart : ∀ x ∈ a, ∀ y ∈ b, x.2.2.number ≠ y.2.2.number) :
    (p.spoiledBy a).spoiledBy b = p.spoiledBy (a ++ b) := by
  cases found : a.find? fun x => x.2.2.number == p.number with
  | some x =>
    have named : x.2.2.number = p.number := by simpa using List.find?_some found
    have mem := List.mem_of_find?_eq_some found
    rw [Pack.spoiledBy_other (p := p.spoiledBy a) fun y hy => by
      rw [Pack.spoiledBy_number, ← named]
      exact (apart x mem y hy).symm]
    unfold Pack.spoiledBy
    rw [List.find?_append, found, Option.some_or]
  | none =>
    have same : p.spoiledBy a = p := by
      unfold Pack.spoiledBy
      rw [found]
    rw [same]
    unfold Pack.spoiledBy
    rw [List.find?_append, found, Option.none_or]

/-- What the start of lanes leaves of the sessions, the journal and the stock: the reservations `res`
released, and the tickets `lost` spoiled. -/
structure State.tillStep (s t : State) (res : Window → Nat) (lost : List (LaneId × InFlight × Pack)) :
    Prop where
  sessions : ∀ w, t.session w = { s.session w with
    spoiledCount := (s.session w).spoiledCount + lostOf lost w
    reserved := (s.session w).reserved - res w }
  reserved : t.journalReserved = s.journalReserved - (allWindows.map res).sum
  inUse : t.journalInUse = s.journalInUse + lost.length
  journal : t.journal = s.journal ++ lostEntries (fun w => (s.entriesOf w).length) lost
  packs : t.packs = s.packs.map fun p => p.spoiledBy lost

section
variable {s t u : State} {l : LaneId} {res res' : Window → Nat}
  {lost lost' : List (LaneId × InFlight × Pack)} {a : List Part}

theorem sum_windows_add (f g : Window → Nat) :
    (allWindows.map fun w => f w + g w).sum = (allWindows.map f).sum + (allWindows.map g).sum :=
  List.sum_map_add

theorem State.tillStep.andThen (h : s.tillStep t res lost) (h' : t.tillStep u res' lost')
    (apart : ∀ x ∈ lost, ∀ y ∈ lost', x.2.2.number ≠ y.2.2.number) :
    s.tillStep u (fun w => res w + res' w) (lost ++ lost') where
  sessions w := by
    rw [h'.sessions, h.sessions]
    simp only [lostOf_append, Nat.add_assoc, Nat.sub_sub]
  reserved := by rw [h'.reserved, h.reserved, sum_windows_add, Nat.sub_sub]
  inUse := by rw [h'.inUse, h.inUse, List.length_append, Nat.add_assoc]
  journal := by
    have count : (fun w => (t.entriesOf w).length) = fun w => (s.entriesOf w).length + lostOf lost w := by
      funext w
      unfold State.entriesOf
      rw [h.journal, List.filter_append, List.length_append, lostEntries_window]
    rw [h'.journal, h.journal, lostEntries_append, count, List.append_assoc]
  packs := by
    rw [h'.packs, h.packs, List.map_map]
    exact List.map_congr_left fun p _ => Pack.spoiledBy_append apart

theorem State.tillStep_of_frame (h : s.changesOnly t a) (sessions : .sessions ∉ a := by decide)
    (journal : .journal ∉ a := by decide) (packs : .packs ∉ a := by decide) :
    s.tillStep t (fun _ => 0) [] where
  sessions w := h.session w sessions
  reserved := by
    rw [h.journalReserved journal]
    rfl
  inUse := (h .journal journal).2.1
  journal := (h .journal journal).1.trans (List.append_nil _).symm
  packs := (h .packs packs).trans (List.map_id'' (fun _ => rfl) _).symm

theorem State.tillStep.mono (h : s.tillStep t res lost) (same : res = res') (same' : lost = lost') :
    s.tillStep t res' lost' := same ▸ same' ▸ h

theorem sum_windows_single (v : Window) (n : Nat) :
    (allWindows.map fun w => if v = w then n else 0).sum = n := by
  revert v
  intro v
  fin_cases v <;> simp [allWindows]

/-- A record's reservation released. -/
theorem State.unreserve_till (v : Window) (n : Nat) :
    s.tillStep (s.unreserve v n) (fun w => if v = w then n else 0) [] where
  sessions w := by
    by_cases own : w = v
    · rw [own, State.unreserve_session, if_pos rfl]
      rfl
    · rw [State.unreserve_otherSessions s v n w own, if_neg (Ne.symm own)]
      rfl
  reserved := by
    rw [sum_windows_single]
    rfl
  inUse := rfl
  journal := (List.append_nil _).symm
  packs := (List.map_id'' (fun _ => rfl) _).symm

/-- A lost ticket's blank SPOILED, and its reservation released. -/
theorem State.lostTicket_till {r : InFlight} {k : Pack} (found : s.packOf k.cls r.serial = some k)
    (held : k.markOf r.serial = some .unused) (stamp : s.stamp = ⟨0, 0, 0⟩)
    (hu : u = ((s.changeMark k.cls r.serial .spoiled).unreserve r.window r.reserved).writeEntry r.window
      (r.spoilEntry k.cls k.number)) :
    s.tillStep u (fun w => if r.window = w then r.reserved else 0) [(l, r, k)] := by
  obtain ⟨m, hm⟩ : ∃ m, m = s.changeMark k.cls r.serial .spoiled := ⟨_, rfl⟩
  have marked : s.changesOnly m [.packs, .queues, .census] := hm ▸ s.changeMark_frame _ _ _
  have moved : m.packs = s.packs.map fun q =>
      if q.number = k.number then q.remark r.serial .unused .spoiled else q := by
    rw [hm, State.changeMark_eq found held rfl, State.remark_packs]
  obtain ⟨v, hv⟩ : ∃ v, v = m.unreserve r.window r.reserved := ⟨_, rfl⟩
  have released : m.changesOnly v [.sessions, .journal] := hv ▸ m.unreserve_frame _ _
  have freed := m.unreserve_till r.window r.reserved
  rw [← hv] at freed
  rw [← hm, ← hv] at hu
  have written := v.writeEntry_session r.window (r.spoilEntry k.cls k.number)
  rw [← hu] at written
  have entered := State.changesOnly_then (c := [.packs, .queues])
    (State.updatePack_frame (v.entered r.window (r.spoilEntry k.cls k.number)) k.number
      fun p => { p with references := p.references + 1 })
    (State.postSession_frame _ r.window)
  have step : (((v.entered r.window (r.spoilEntry k.cls k.number)).updatePack k.number
      fun p => { p with references := p.references + 1 }).postSession r.window) = u := by
    rw [hu]
    rfl
  rw [step] at entered
  have journal : v.journal = s.journal :=
    (freed.journal.trans (List.append_nil _)).trans (marked .journal (by decide)).1
  have entries : ∀ w, v.entriesOf w = s.entriesOf w := fun w => by
    unfold State.entriesOf
    rw [journal]
  refine ⟨fun w => ?_, ?_, ?_, ?_, ?_⟩
  · rw [lostOf_cons]
    by_cases own : w = r.window
    · rw [own, written.1, freed.sessions, marked.session, if_pos rfl, if_pos rfl]
      rfl
    · rw [written.2 w own, freed.sessions, marked.session, if_neg (Ne.symm own), if_neg (Ne.symm own)]
      rfl
  · rw [entered.journalReserved, ← marked.journalReserved]
    exact freed.reserved
  · refine (entered .journal (by decide)).2.1.trans (congrArg (· + 1) ?_)
    exact freed.inUse.trans (marked .journal (by decide)).2.1
  · rw [lostEntries_cons]
    refine (entered .journal (by decide)).1.trans ?_
    have stamps : v.stamp = ⟨0, 0, 0⟩ := (released.stamp.trans marked.stamp).trans stamp
    have head : v.entryFor r.window (r.spoilEntry k.cls k.number) =
        lostEntry ((s.entriesOf r.window).length + 1) (l, r, k) := by
      unfold State.entryFor
      rw [entries, stamps]
      rfl
    refine (congrArg (fun e => v.journal ++ [e]) head).trans ?_
    rw [journal]
    rfl
  · have packs : v.packs = m.packs := released .packs (by decide)
    rw [hu, State.writeEntry_packs, packs, moved, List.map_map]
    refine List.map_congr_left fun p _ => ?_
    unfold Pack.spoiledBy
    have named : (r.spoilEntry k.cls k.number).pack = k.number := rfl
    rw [Function.comp_apply, named]
    by_cases own : p.number = k.number
    · have own' : (p.remark r.serial .unused .spoiled).number = k.number := own
      rw [if_pos own, if_pos own']
      simp only [List.find?_cons, own, beq_self_eq_true]
      rfl
    · rw [if_neg own, if_neg own]
      have other : (k.number == p.number) = false := beq_false_of_ne (Ne.symm own)
      simp only [List.find?_cons, other, List.find?_nil]

end

end Sys2Proof.Machine
end

section
/-! SUPPORT. The start of one lane: its record, and what it writes to the stock, the journal and the sessions
(04 R90; 08 R158). -/

set_option Elab.async false

namespace Sys2Proof.Machine

/-- A lane's record after its start: no ticket, and the pack and the cabinet's sample as they were. -/
structure Lane.startedFrom (y x : Lane) : Prop where
  inflight : y.inflight = none
  pack : y.pack = x.pack
  seen : y.cabinetSeen = x.cabinetSeen

section
variable {s t u : State} {l : LaneId} {r : InFlight} {k : Pack} {a : List Part}

/-! ## The record of the lane -/

theorem State.feedAttempt_starts (head : ∀ e, (s.lane l).head ≠ .verified e)
    (none_ : (s.lane l).inflight = none) : ∃ y, s.laneTo (s.feedAttempt l) l y [.lanes, .queues, .faults] ∧
      y.startedFrom (s.lane l) := by
  rw [State.feedAttempt_eq, State.advanceHead_of_not_verified head]
  split
  · refine ⟨_, (s.moveLane_to l _).mono, ?_⟩
    split <;> exact ⟨none_, rfl, rfl⟩
  · split
    · exact ⟨_, (s.moveLane_to l _).mono, none_, rfl, rfl⟩
    · unfold State.issueFeed
      split
      · exact ⟨_, (State.laneFault_to _ _ none_).1, none_, rfl, rfl⟩
      · exact ⟨_, (s.moveLane_to l _).mono, none_, rfl, rfl⟩

theorem Lane.sampled_same {x : Lane} (seen : x.cabinetSeen = x.cabinetPin) :
    x.cabinetPin = .locked ∨ x.cabinetSeen = .opened := by
  rw [seen]
  cases x.cabinetPin with
  | locked => exact .inl rfl
  | opened => exact .inr rfl

/-- The sample at priming finds what the start sampled. -/
theorem State.startPriming_starts (seen : (s.lane l).cabinetSeen = (s.lane l).cabinetPin)
    (head : (s.lane l).head ≠ .notPositioned) (none_ : (s.lane l).inflight = none) :
    ∃ y, s.laneTo (s.startPriming l) l y [.lanes, .queues] ∧ y.startedFrom (s.lane l) := by
  unfold State.startPriming
  rw [State.sampleAtPriming_none (Lane.sampled_same seen)]
  dsimp only
  split
  · refine ⟨_, s.moveLane_to l _, ?_⟩
    split <;> exact ⟨none_, rfl, rfl⟩
  · exact ⟨_, s.moveLane_to l _, none_, rfl, rfl⟩

/-- The state the feed after a power-on spoil is attempted from. -/
def State.spoiledAtStart (s : State) (l : LaneId) (r : InFlight) : State :=
  State.moveLane ((((s.changeMark (s.mountedClass l) r.serial .spoiled).unreserve r.window
    r.reserved).writeEntry r.window (r.spoilEntry (s.mountedClass l) ((s.lane l).pack.getD 0))).raiseLane l
    .powerInterrupted (r.lostContext (s.lane l).pack)) l fun x =>
      { x with inflight := none, head := .notPositioned, state := .feeding }

theorem State.lostEntry_frame (s : State) (l : LaneId) (r : InFlight) : s.changesOnly
    (((s.changeMark (s.mountedClass l) r.serial .spoiled).unreserve r.window r.reserved).writeEntry r.window
      (r.spoilEntry (s.mountedClass l) ((s.lane l).pack.getD 0)))
    [.packs, .census, .sessions, .journal, .queues] :=
  State.changesOnly_then (State.changesOnly_then (c := [.packs, .census, .sessions, .journal, .queues])
    (s.changeMark_frame (s.mountedClass l) r.serial .spoiled)
    (State.unreserve_frame _ r.window r.reserved)) (State.writeEntry_frame _ r.window _)

theorem State.spoiledAtStart_to (s : State) (l : LaneId) (r : InFlight) : s.laneTo (s.spoiledAtStart l r) l
    { s.lane l with inflight := none, head := .notPositioned, state := .feeding }
    [.packs, .census, .sessions, .journal, .faults, .queues, .lanes] := by
  have written := State.laneTo_of_frame (l := l) (s.lostEntry_frame l r)
  obtain ⟨v, hv⟩ : ∃ v, v = ((s.changeMark (s.mountedClass l) r.serial .spoiled).unreserve r.window
    r.reserved).writeEntry r.window (r.spoilEntry (s.mountedClass l) ((s.lane l).pack.getD 0)) := ⟨_, rfl⟩
  rw [← hv] at written
  have raised := State.laneTo_of_frame (l := l)
    (v.raiseLane_frame l .powerInterrupted (r.lostContext (s.lane l).pack))
  obtain ⟨w, hw⟩ : ∃ w, w = v.raiseLane l .powerInterrupted (r.lostContext (s.lane l).pack) := ⟨_, rfl⟩
  rw [← hw, written.self] at raised
  have moved := w.moveLane_to l fun x =>
    { x with inflight := none, head := .notPositioned, state := .feeding }
  rw [raised.self] at moved
  have step : s.spoiledAtStart l r = w.moveLane l fun x =>
      { x with inflight := none, head := .notPositioned, state := .feeding } := by
    rw [hw, hv]
    rfl
  rw [step]
  exact (written.andThen (c := [.packs, .census, .sessions, .journal, .faults, .queues]) raised).andThen moved

/-- The state a lane whose ticket had not begun is primed from. -/
def State.unbegunAtStart (s : State) (l : LaneId) (r : InFlight) : State :=
  (s.unreserve r.window r.reserved).moveLane l fun x => { x with inflight := none }

theorem State.unbegunAtStart_to (s : State) (l : LaneId) (r : InFlight) : s.laneTo (s.unbegunAtStart l r) l
    { s.lane l with inflight := none } [.sessions, .journal, .lanes] := by
  have released := State.laneTo_of_frame (l := l) (s.unreserve_frame r.window r.reserved)
  obtain ⟨v, hv⟩ : ∃ v, v = s.unreserve r.window r.reserved := ⟨_, rfl⟩
  have step : s.unbegunAtStart l r = v.moveLane l fun x => { x with inflight := none } := by rw [hv]; rfl
  rw [← hv] at released
  have moved := State.moveLane_unseen_to (s := v) (l := l) (f := fun x => { x with inflight := none })
    (Lane.visiblyChanged_eq_false rfl rfl rfl fun _ h => h)
  rw [released.self] at moved
  rw [step]
  exact released.andThen moved

/-- How a mounted lane starts: primed, its unbegun record dropped, or its begun ticket spoiled. -/
theorem State.startMounted_cases (s : State) (l : LaneId) :
    ((s.lane l).inflight = none ∧ s.startMounted l = s.startPriming l) ∨
    (∃ r, (s.lane l).inflight = some r ∧ r.begun = false ∧
      s.startMounted l = (s.unbegunAtStart l r).startPriming l) ∨
    ∃ r, (s.lane l).inflight = some r ∧ r.begun = true ∧
      s.startMounted l = (s.spoiledAtStart l r).feedAttempt l := by
  unfold State.startMounted
  cases record : (s.lane l).inflight with
  | none => exact .inl ⟨rfl, rfl⟩
  | some r =>
    cases begun : r.begun with
    | false => exact .inr (.inl ⟨r, rfl, begun, if_neg (by rw [begun]; nofun)⟩)
    | true => exact .inr (.inr ⟨r, rfl, begun, if_pos begun⟩)

theorem State.startMounted_starts (seen : (s.lane l).cabinetSeen = (s.lane l).cabinetPin)
    (head : (s.lane l).head ≠ .notPositioned) : ∃ y, s.laneTo (s.startMounted l) l y
      [.packs, .census, .sessions, .journal, .faults, .queues, .lanes] ∧ y.startedFrom (s.lane l) := by
  rcases s.startMounted_cases l with ⟨none_, e⟩ | ⟨r, -, -, e⟩ | ⟨r, -, -, e⟩ <;> rw [e]
  · obtain ⟨y, primed, from_⟩ := State.startPriming_starts seen head none_
    exact ⟨y, primed.mono, from_⟩
  · have dropped := s.unbegunAtStart_to l r
    obtain ⟨y, primed, from_⟩ := State.startPriming_starts (s := s.unbegunAtStart l r) (l := l)
      (by rw [dropped.self]; exact seen) (by rw [dropped.self]; exact head) (by rw [dropped.self])
    rw [dropped.self] at from_
    exact ⟨y, dropped.andThen primed, from_.inflight, from_.pack, from_.seen⟩
  · have spoiled := s.spoiledAtStart_to l r
    obtain ⟨y, fed, from_⟩ := State.feedAttempt_starts (s := s.spoiledAtStart l r) (l := l)
      (fun e => by rw [spoiled.self]; nofun) (by rw [spoiled.self])
    rw [spoiled.self] at from_
    exact ⟨y, spoiled.andThen fed, from_.inflight, from_.pack, from_.seen⟩

/-! ## The whole start of the lane -/

/-- The lane's inputs sampled. -/
def State.sampledAtStart (s : State) (l : LaneId) : State := s.setLane l ((s.lane l).started (s.mounted l))

theorem State.sampledAtStart_to (s : State) (l : LaneId) :
    s.laneTo (s.sampledAtStart l) l ((s.lane l).started (s.mounted l)) [.lanes] :=
  ⟨State.setLane_lane_self .., fun _ other => State.setLane_lane_ne s other _, s.setLane_frame l _⟩

theorem State.sampledAtStart_mounted (s : State) (l : LaneId) :
    (s.sampledAtStart l).mounted l = s.mounted l :=
  State.mountedPack_stays (s.sampledAtStart_to l) rfl

theorem State.startLane_eq (s : State) (l : LaneId) : s.startLane l =
    (if (s.lane l).pack.isSome then (s.sampledAtStart l).startMounted l else s.sampledAtStart l).reconcileCabinet
      l := rfl

theorem Lane.started_head {x : Lane} {p : Option Pack} (pack : x.pack.isSome = true) :
    (x.started p).head = .unverified := if_pos pack

/-- The lane's start before its CABINET_OPEN report is reconciled. -/
theorem State.startLane_before (s : State) (l : LaneId) : ∃ u, s.startLane l = u.reconcileCabinet l ∧
    u = (if (s.lane l).pack.isSome then (s.sampledAtStart l).startMounted l else s.sampledAtStart l) ∧
    ∃ y, s.laneTo u l y [.packs, .census, .sessions, .journal, .faults, .queues, .lanes] ∧
      ((s.lane l).pack.isSome = true ∨ (s.lane l).inflight = none → y.inflight = none) ∧
      y.pack = (s.lane l).pack ∧ y.cabinetSeen = (s.lane l).cabinetPin ∧
      ((s.lane l).pack = none → y.state = (s.lane l).state) := by
  refine ⟨_, s.startLane_eq l, rfl, ?_⟩
  have sampled := s.sampledAtStart_to l
  split
  · rename_i mounted
    obtain ⟨y, starts, from_⟩ := State.startMounted_starts (s := s.sampledAtStart l) (l := l)
      (by rw [sampled.self]; rfl) (by rw [sampled.self, Lane.started_head mounted]; nofun)
    rw [sampled.self] at from_
    refine ⟨y, sampled.andThen starts, fun _ => from_.inflight, from_.pack, from_.seen, fun none_ => ?_⟩
    rw [none_] at mounted
    cases mounted
  · rename_i free
    exact ⟨_, sampled.mono, fun h => h.resolve_left free, rfl, rfl, fun _ => rfl⟩

theorem State.reconcileCabinet_to (s : State) (l : LaneId) :
    s.laneTo (s.reconcileCabinet l) l (s.lane l) [.faults, .queues] :=
  State.laneTo_of_frame (s.reconcileCabinet_frame l)

theorem State.startLane_to (s : State) (l : LaneId) : ∃ y,
    s.laneTo (s.startLane l) l y [.packs, .census, .sessions, .journal, .faults, .queues, .lanes] ∧
      ((s.lane l).pack.isSome = true ∨ (s.lane l).inflight = none → y.inflight = none) ∧
      y.pack = (s.lane l).pack ∧ y.cabinetSeen = (s.lane l).cabinetPin ∧
      ((s.lane l).pack = none → y.state = (s.lane l).state) := by
  obtain ⟨u, e, -, y, before, rest⟩ := s.startLane_before l
  have reconciled := u.reconcileCabinet_to l
  rw [before.self] at reconciled
  rw [e]
  exact ⟨y, before.andThen reconciled, rest⟩

/-! ## The stock, the journal and the sessions -/

/-- The lane's begun ticket is on an UNUSED blank of its pack. -/
def State.ticketHeld (s : State) (l : LaneId) : Prop :=
  ∀ r, (s.lane l).inflight = some r → r.begun = true → ∃ k, s.mounted l = some k ∧
    s.packOf k.cls r.serial = some k ∧ k.markOf r.serial = some .unused

theorem State.lossAt_none (none_ : (s.lane l).inflight = none) : s.lossAt l = none := by
  unfold State.lossAt
  rw [none_]

theorem State.lossAt_unbegun (record : (s.lane l).inflight = some r) (unbegun : r.begun = false) :
    s.lossAt l = none := by
  unfold State.lossAt
  rw [record]
  cases s.mounted l with
  | none => rfl
  | some k => exact if_neg (by rw [unbegun]; nofun)

theorem State.lossAt_begun (record : (s.lane l).inflight = some r) (begun : r.begun = true)
    (mounted : s.mounted l = some k) : s.lossAt l = some (l, r, k) := by
  unfold State.lossAt
  rw [record, mounted]
  exact if_pos begun

theorem Lane.retainedFor_none {x : Lane} (none_ : x.inflight = none) : x.retainedFor = fun _ => 0 := by
  funext w
  unfold Lane.retainedFor
  rw [none_]

theorem Lane.retainedFor_some {x : Lane} (record : x.inflight = some r) :
    x.retainedFor = fun w => if r.window = w then r.reserved else 0 := by
  funext w
  unfold Lane.retainedFor
  rw [record]

theorem State.tillStep.still {res : Window → Nat} {lost : List (LaneId × InFlight × Pack)}
    (h : s.tillStep t res lost) (frame : t.changesOnly u a) (sessions : .sessions ∉ a := by decide)
    (journal : .journal ∉ a := by decide) (packs : .packs ∉ a := by decide) : s.tillStep u res lost :=
  (h.andThen (State.tillStep_of_frame frame sessions journal packs) fun _ _ _ mem => nomatch mem).mono
    (by simp) (List.append_nil _)

theorem State.startMounted_till (seen : (s.lane l).cabinetSeen = (s.lane l).cabinetPin)
    (head : (s.lane l).head ≠ .notPositioned) (held : s.ticketHeld l) (stamp : s.stamp = ⟨0, 0, 0⟩) :
    s.tillStep (s.startMounted l) (s.lane l).retainedFor (s.lossAt l).toList := by
  rcases s.startMounted_cases l with ⟨none_, e⟩ | ⟨r, record, unbegun, e⟩ | ⟨r, record, begun, e⟩ <;> rw [e]
  · rw [State.lossAt_none none_, Lane.retainedFor_none none_]
    obtain ⟨y, primed, -⟩ := State.startPriming_starts seen head none_
    exact State.tillStep_of_frame primed.frame
  · rw [State.lossAt_unbegun record unbegun, Lane.retainedFor_some record]
    have to_ := s.unbegunAtStart_to l r
    have dropped : s.tillStep (s.unbegunAtStart l r) _ _ :=
      (s.unreserve_till r.window r.reserved).still (State.moveLane_frame _ l _)
    obtain ⟨y, primed, -⟩ := State.startPriming_starts (s := s.unbegunAtStart l r) (l := l)
      (by rw [to_.self]; exact seen) (by rw [to_.self]; exact head) (by rw [to_.self])
    exact dropped.still primed.frame
  · obtain ⟨k, mounted, found, unused⟩ := held r record begun
    have to_ := s.spoiledAtStart_to l r
    obtain ⟨y, fed, -⟩ := State.feedAttempt_starts (s := s.spoiledAtStart l r) (l := l)
      (fun e => by rw [to_.self]; nofun) (by rw [to_.self])
    refine State.tillStep.still ?_ fed.frame
    rw [State.lossAt_begun record begun mounted, Lane.retainedFor_some record, State.spoiledAtStart,
      State.mountedClass_of_mounted mounted, (State.mountedPack_eq mounted).1]
    have written := State.lostTicket_till (l := l) found unused stamp rfl
    exact (written.still (State.raiseLane_frame _ l _ _)).still (State.moveLane_frame _ l _)

theorem State.startLane_till (held : s.ticketHeld l) (kept : (s.lane l).keptWf = true)
    (stamp : s.stamp = ⟨0, 0, 0⟩) :
    s.tillStep (s.startLane l) (s.lane l).retainedFor (s.lossAt l).toList := by
  have sampled := s.sampledAtStart_to l
  have mountedSame := s.sampledAtStart_mounted l
  have first := State.tillStep_of_frame sampled.frame
  obtain ⟨u, hu⟩ : ∃ u, u = s.sampledAtStart l := ⟨_, rfl⟩
  rw [State.startLane_eq]
  rw [← hu] at sampled mountedSame first ⊢
  have inflight : (u.lane l).inflight = (s.lane l).inflight := by rw [sampled.self]; rfl
  have loss : u.lossAt l = s.lossAt l := by
    unfold State.lossAt
    rw [inflight, mountedSame]
  have retained : (u.lane l).retainedFor = (s.lane l).retainedFor := by
    funext w
    unfold Lane.retainedFor
    rw [inflight]
  refine State.tillStep.still ?_ (State.reconcileCabinet_frame _ l)
  split
  · rename_i mounted
    have heldThere : u.ticketHeld l := fun r record begun => by
      obtain ⟨k, at_, found, unused⟩ := held r (inflight.symm.trans record) begun
      refine ⟨k, mountedSame.trans at_, ?_, unused⟩
      unfold State.packOf
      rw [sampled.frame .packs (by decide)]
      exact found
    have started := State.startMounted_till (by rw [sampled.self]; rfl)
      (by rw [sampled.self, Lane.started_head mounted]; nofun) heldThere (sampled.frame.stamp.trans stamp)
    rw [loss, retained] at started
    exact (first.andThen started fun _ mem => nomatch mem).mono (by simp) (List.nil_append _)
  · rename_i free
    have none_ : (s.lane l).inflight = none :=
      Option.not_isSome_iff_eq_none.1 fun some_ => free ((Lane.keptWf_iff _).1 kept some_)
    rw [State.lossAt_none none_, Lane.retainedFor_none none_]
    exact first

end

end Sys2Proof.Machine
end

section
/-! SUPPORT. The lane's record after its start: primed, or its feed attempted after a power-on spoil
(04 R74, R75, R90). -/

set_option Elab.async false

namespace Sys2Proof.Machine

section
variable {s t u : State} {l : LaneId} {r : InFlight} {k : Pack} {x y : Lane} {e : Nat}

/-! ## The feed attempt -/

/-- The lane's record after a feed attempt with no blank under its head. -/
structure State.fedAs (s : State) (l : LaneId) (y : Lane) : Prop where
  head : y.head = .notPositioned
  position : y.position = (s.lane l).position
  out : s.stockOut l = true → s.isLocked l = true → y.state = .faulted ∧ y.awaiting = (s.lane l).awaiting
  deferred : s.stockOut l = false → s.powerFail = true →
    y.state = (s.lane l).state ∧ y.deferred = some .feed
  issued : s.stockOut l = false → s.powerFail = false → (s.lane l).stockPin = true →
    y.state = (s.lane l).state ∧ y.awaiting = some .feed
  absent : s.stockOut l = false → s.powerFail = false → (s.lane l).stockPin = false →
    y.state = .faulted ∧ y.awaiting = none

theorem State.feedAttempt_as (head : (s.lane l).head = .notPositioned) (none_ : (s.lane l).inflight = none) :
    s.fedAs l ((s.feedAttempt l).lane l) := by
  rw [State.feedAttempt_eq, State.advanceHead_of_not_verified (by rw [head]; nofun)]
  cases out : s.stockOut l with
  | true =>
    have no : ∀ {P : Prop}, s.stockOut l = false → P := fun h => nomatch out.symm.trans h
    rw [if_pos rfl, State.stockOutEnd, State.moveLane_lane_self]
    cases locked : s.isLocked l with
    | true => exact ⟨head, rfl, fun _ _ => ⟨rfl, rfl⟩, no, no, no⟩
    | false => exact ⟨rfl, rfl, fun _ h => (nomatch locked.symm.trans h), no, no, no⟩
  | false =>
    have no : ∀ {P : Prop}, s.stockOut l = true → P := fun h => nomatch out.symm.trans h
    rw [if_neg (by nofun)]
    cases warned : s.powerFail with
    | true =>
      have no' : ∀ {P : Prop}, s.powerFail = false → P := fun h => nomatch warned.symm.trans h
      rw [if_pos rfl, State.moveLane_lane_self]
      exact ⟨head, rfl, no, fun _ _ => ⟨rfl, rfl⟩, fun _ => no', fun _ => no'⟩
    | false =>
      have no' : ∀ {P : Prop}, s.powerFail = true → P := fun h => nomatch warned.symm.trans h
      rw [if_neg (by nofun)]
      have some_ : 0 < s.remaining l := by
        rw [State.stockOut_eq, Bool.or_eq_false_iff] at out
        exact Nat.pos_of_ne_zero (by simpa using out.1)
      cases pin : (s.lane l).stockPin with
      | true =>
        rw [(State.issueFeed_to (.inl pin)).self]
        exact ⟨rfl, rfl, no, fun _ => no', fun _ _ _ => ⟨rfl, rfl⟩,
          fun _ _ h => (nomatch pin.symm.trans h)⟩
      | false =>
        rw [(State.issueFeed_absent_to pin some_ none_).1.self]
        exact ⟨head, rfl, no, fun _ => no', fun _ _ h => (nomatch pin.symm.trans h), fun _ _ _ => ⟨rfl, rfl⟩⟩

/-! ## A lane primed at its start -/

theorem State.startLane_lane (s : State) (l : LaneId) : (s.startLane l).lane l =
    (if (s.lane l).pack.isSome then (s.sampledAtStart l).startMounted l else s.sampledAtStart l).lane l := by
  rw [State.startLane_eq]
  exact (State.reconcileCabinet_frame _ l).lane l (by decide)

theorem State.startPriming_primed (locked : (s.lane l).cabinetPin = .locked) (mounted : s.mounted l = some k)
    (unused : k.counters.unused ≠ 0) (next : k.lowestUnused (s.lane l).position = some e)
    (head : (s.lane l).head ≠ .notPositioned) : (s.startPriming l).lane l =
      Lane.reading { s.lane l with state := .priming, causes := .empty, failedReads := 0 } := by
  have some_ : 0 < s.remaining l := by
    rw [State.remaining_of_mounted mounted]
    exact Nat.pos_of_ne_zero unused
  have stock := State.stockOut_eq_false some_ ((State.expected_of_mounted mounted).trans next)
  exact (State.startPriming_reads_to locked stock head).1.self

/-- A lane with no begun ticket, its cabinet locked and its pack not out of stock, reads the blank under its
head. -/
theorem State.startLane_primed (unbegun : ∀ r, (s.lane l).inflight = some r → r.begun = false)
    (locked : (s.lane l).cabinetPin = .locked) (mounted : s.mounted l = some k)
    (unused : k.counters.unused ≠ 0) (next : k.lowestUnused k.first = some e) :
    ((s.startLane l).lane l).state = .priming ∧ ((s.startLane l).lane l).awaiting = some .read ∧
      ((s.startLane l).lane l).head = .unverified ∧ ((s.startLane l).lane l).position = k.first := by
  have pack : (s.lane l).pack.isSome = true := by rw [(State.mountedPack_eq mounted).1]; rfl
  rw [State.startLane_lane, if_pos pack]
  have sampled := s.sampledAtStart_to l
  have there := s.sampledAtStart_mounted l
  obtain ⟨u, hu⟩ : ∃ u, u = s.sampledAtStart l := ⟨_, rfl⟩
  rw [← hu] at sampled there ⊢
  have position : (u.lane l).position = k.first := by
    rw [sampled.self, mounted]
    rfl
  have head : (u.lane l).head = .unverified := by rw [sampled.self, Lane.started_head pack]
  have pin : (u.lane l).cabinetPin = .locked := by rw [sampled.self]; exact locked
  rcases u.startMounted_cases l with ⟨-, step⟩ | ⟨r, -, -, step⟩ | ⟨r, record, begun, -⟩
  · rw [step, State.startPriming_primed pin (there.trans mounted) unused (by rw [position]; exact next)
      (by rw [head]; nofun)]
    exact ⟨rfl, rfl, head, position⟩
  · have dropped := u.unbegunAtStart_to l r
    have packs := State.mountedPack_stays dropped rfl
    rw [step, State.startPriming_primed (by rw [dropped.self]; exact pin) (packs.trans (there.trans mounted))
      unused (by rw [dropped.self]; exact (congrArg _ position).trans next)
      (by rw [dropped.self]; exact fun h => by rw [head] at h; cases h), dropped.self]
    exact ⟨rfl, rfl, head, position⟩
  · have record' : (s.lane l).inflight = some r := by rw [sampled.self] at record; exact record
    rw [unbegun r record'] at begun
    cases begun

/-! ## A lane whose begun ticket is lost -/

theorem Pack.spoiledBy_self (l : LaneId) (r : InFlight) (k : Pack) : k.spoiledBy [(l, r, k)] =
    { k.remark r.serial .unused .spoiled with references := k.references + 1 } := by
  unfold Pack.spoiledBy
  simp

theorem State.raiseLane_isLocked (holds : s.faultsHold) {f : FaultKind} (other : f ≠ .cabinetOpen)
    (c : FaultContext) : (s.raiseLane l f c).isLocked l = true := by
  have after := (State.faultsHold_iff _).1 (State.raiseLane_faultsHold (l := l) f c holds)
  have rule := sourceOk_lane_iff.1 (after.1.2.2.2 (.lane l))
  obtain ⟨x, mem, shows⟩ := State.shows_of_raised (s := s) (l := l) (k := f) (c := c) rfl
  have locked_of : ∀ y ∈ (s.raiseLane l f c).activeOf (.lane l), y.kind ≠ .cabinetOpen →
      (s.raiseLane l f c).isLocked l = true := fun y hy ne =>
    List.any_eq_true.2 ⟨y, hy, by simpa using ne⟩
  by_cases cabinet : x.kind = .cabinetOpen
  · have last : x.lastOther ≠ none := by
      rcases shows with h | h
      · exact absurd (h.symm.trans cabinet) other
      · rw [h]
        nofun
    have list : (s.raiseLane l f c).activeOf (.lane l) = activeIn (s.raiseLane l f c).faults (.lane l) := rfl
    rw [← list] at rule
    rcases rule with none_ | ⟨y, one, folded⟩ | ⟨y, z, two, distinct, -, -⟩
    · rw [none_] at mem
      cases mem
    · rw [one, List.mem_singleton] at mem
      exact absurd (folded (mem ▸ cabinet)) (mem ▸ last)
    · have here := mem
      rw [two] at here
      rcases List.mem_cons.1 here with rfl | here
      · exact locked_of z (by rw [two]; simp) fun e => distinct (cabinet.trans e.symm)
      · rw [List.mem_singleton] at here
        exact locked_of y (by rw [two]; simp) fun e => distinct (e.trans (here ▸ cabinet).symm)
  · exact locked_of x mem cabinet

/-- The pack of the lane after its ticket is lost, before its feed is attempted. -/
theorem State.spoiledAtStart_mounted (mounted : s.mounted l = some k)
    (found : s.packOf k.cls r.serial = some k) (held : k.markOf r.serial = some .unused)
    (stamp : s.stamp = ⟨0, 0, 0⟩) :
    (s.spoiledAtStart l r).mounted l = some (k.spoiledBy [(l, r, k)]) := by
  have to_ := s.spoiledAtStart_to l r
  have written := State.lostTicket_till (l := l) found held stamp rfl
  have packs : (s.spoiledAtStart l r).packs = s.packs.map fun p => p.spoiledBy [(l, r, k)] := by
    rw [State.spoiledAtStart, State.mountedClass_of_mounted mounted, (State.mountedPack_eq mounted).1]
    exact ((written.still (State.raiseLane_frame _ l _ _)).still (State.moveLane_frame _ l _)).packs
  obtain ⟨pack, at_⟩ := State.mountedPack_eq mounted
  refine State.mounted_eq_some_iff.2 ⟨k.number, by rw [to_.self]; exact pack, ?_⟩
  rw [State.findPack_map packs (fun p _ => Pack.spoiledBy_number p _), at_]
  rfl

end

end Sys2Proof.Machine
end

section
/-! SUPPORT. The start of the four lanes, one after another (04 R90; 08 R158). -/

set_option Elab.async false

namespace Sys2Proof.Machine

section
variable {s t u : State} {l m : LaneId} {r : InFlight} {k : Pack} {res : Window → Nat}
  {lost : List (LaneId × InFlight × Pack)} {n : Nat}

theorem Pack.unused_ne_zero {e : Nat} (wf : k.wf = true) (held : k.markOf e = some .unused) :
    k.counters.unused ≠ 0 := by
  obtain ⟨-, counts⟩ := (Pack.wf_iff k).1 wf
  intro none_
  obtain ⟨-, inside, mark⟩ := Pack.markOf_eq_some held
  have absent := List.count_eq_zero.1 ((counts .unused).symm.trans none_)
  exact absent (List.mem_of_getElem? mark)

/-- The lane's record after a begun ticket is lost. -/
theorem State.startLane_lost (record : (s.lane l).inflight = some r) (begun : r.begun = true)
    (mounted : s.mounted l = some k) (found : s.packOf k.cls r.serial = some k)
    (held : k.markOf r.serial = some .unused) (stamp : s.stamp = ⟨0, 0, 0⟩) :
    ((s.startLane l).lane l).head = .notPositioned ∧ ((s.startLane l).lane l).position = k.first ∧
    (s.faultsHold → k.wf = true → (s.lane l).awaiting = none →
      if k.counters.unused = 1 then
        ((s.startLane l).lane l).state = .faulted ∧ ((s.startLane l).lane l).awaiting = none
      else if s.powerFail = true then
        ((s.startLane l).lane l).state = .feeding ∧ ((s.startLane l).lane l).deferred = some .feed
      else if (s.lane l).stockPin = true then
        ((s.startLane l).lane l).state = .feeding ∧ ((s.startLane l).lane l).awaiting = some .feed
      else ((s.startLane l).lane l).state = .faulted ∧ ((s.startLane l).lane l).awaiting = none) := by
  have pack : (s.lane l).pack.isSome = true := by rw [(State.mountedPack_eq mounted).1]; rfl
  rw [State.startLane_lane, if_pos pack]
  have sampled := s.sampledAtStart_to l
  have there := s.sampledAtStart_mounted l
  obtain ⟨u, hu⟩ : ∃ u, u = s.sampledAtStart l := ⟨_, rfl⟩
  rw [← hu] at sampled there ⊢
  have record' : (u.lane l).inflight = some r := by rw [sampled.self]; exact record
  have step : u.startMounted l = (u.spoiledAtStart l r).feedAttempt l := by
    rcases u.startMounted_cases l with ⟨none_, -⟩ | ⟨q, at_, unbegun, -⟩ | ⟨q, at_, -, e⟩
    · rw [record'] at none_
      cases none_
    · cases at_.symm.trans record'
      rw [begun] at unbegun
      cases unbegun
    · cases at_.symm.trans record'
      exact e
  have foundThere : u.packOf k.cls r.serial = some k := by
    unfold State.packOf
    rw [sampled.frame .packs (by decide)]
    exact found
  have spoiled := u.spoiledAtStart_to l r
  have packAfter := State.spoiledAtStart_mounted (there.trans mounted) foundThere held
    (sampled.frame.stamp.trans stamp)
  have fed := State.feedAttempt_as (s := u.spoiledAtStart l r) (l := l) (by rw [spoiled.self])
    (by rw [spoiled.self])
  have locks : s.faultsHold → (u.spoiledAtStart l r).isLocked l = true := fun holds => by
    have written := (sampled.frame).faultsHold holds
    have entered := (u.lostEntry_frame l r).faultsHold written
    exact ((State.moveLane_frame _ l _).isLocked l).trans (State.raiseLane_isLocked entered (by nofun) _)
  rw [step]
  obtain ⟨v, hv⟩ : ∃ v, v = u.spoiledAtStart l r := ⟨_, rfl⟩
  rw [← hv] at spoiled packAfter fed locks ⊢
  have position : (v.lane l).position = k.first := by
    rw [spoiled.self, sampled.self, mounted]
    rfl
  refine ⟨fed.head, fed.position.trans position, fun holds wf idle => ?_⟩
  rw [Pack.spoiledBy_self] at packAfter
  have marks := Pack.remark_unused (new := .spoiled) held (by nofun)
  have count : v.remaining l = k.counters.unused - 1 := by
    rw [State.remaining_of_mounted packAfter]
    exact marks.2.2
  have some_ : k.counters.unused ≠ 0 := Pack.unused_ne_zero wf held
  have state : (v.lane l).state = .feeding := by rw [spoiled.self]
  have awaiting : (v.lane l).awaiting = none := by rw [spoiled.self, sampled.self]; exact idle
  have warning : v.powerFail = s.powerFail :=
    (spoiled.frame .powerFail (by decide)).trans (sampled.frame .powerFail (by decide))
  have pin : (v.lane l).stockPin = (s.lane l).stockPin := by rw [spoiled.self, sampled.self]; rfl
  by_cases last : k.counters.unused = 1
  · rw [if_pos last]
    have out := fed.out (State.stockOut_eq_true (.inl (by rw [count]; omega))) (locks holds)
    exact ⟨out.1, out.2.trans awaiting⟩
  · rw [if_neg last]
    have stock : v.stockOut l = false := by
      have wf' := Pack.remark_wf (new := .spoiled) held rfl wf
      have left : ∃ n, (k.remark r.serial .unused .spoiled).markOf n = some .unused := by
        by_contra none_
        have zero := Pack.unused_eq_zero wf' fun n mark => none_ ⟨n, mark⟩
        have := marks.2.2
        unfold Pack.remaining at this
        omega
      obtain ⟨n, mark⟩ := left
      have inside : k.first ≤ n := by
        obtain ⟨range, -⟩ := Pack.markOf_eq_some mark
        unfold Pack.inRange at range
        simp only [Bool.and_eq_true, decide_eq_true_eq] at range
        exact range.1
      obtain ⟨e, next⟩ := Pack.exists_lowestUnused mark inside
      refine State.stockOut_eq_false (by rw [count]; omega) (e := e) ?_
      rw [State.expected_of_mounted packAfter, position]
      exact next
    cases warned : s.powerFail with
    | true =>
      rw [if_pos rfl]
      have deferred := fed.deferred stock (warning.trans warned)
      exact ⟨deferred.1.trans state, deferred.2⟩
    | false =>
      rw [if_neg (by nofun)]
      cases stocked : (s.lane l).stockPin with
      | true =>
        rw [if_pos rfl]
        have issued := fed.issued stock (warning.trans warned) (pin.trans stocked)
        exact ⟨issued.1.trans state, issued.2⟩
      | false =>
        rw [if_neg (by nofun)]
        exact fed.absent stock (warning.trans warned) (pin.trans stocked)

/-! ## The packs, seen from another lane -/

theorem State.tillStep.findPack (h : s.tillStep t res lost) (n : Nat) :
    t.findPack n = (s.findPack n).map fun p => p.spoiledBy lost :=
  State.findPack_map h.packs (fun p _ => Pack.spoiledBy_number p lost) n

theorem State.tillStep.packOf (h : s.tillStep t res lost) (cls n : Nat) :
    t.packOf cls n = (s.packOf cls n).map fun p => p.spoiledBy lost := by
  unfold State.packOf
  rw [h.packs, List.find?_map]
  exact congrArg _ (congrArg (List.find? · s.packs) (funext fun p => Pack.spoiledBy_holds p lost cls n))

/-- A pack none of whose tickets were lost. -/
theorem State.tillStep.mounted (h : s.tillStep t res lost) (lane : t.lane m = s.lane m)
    (mounted : s.mounted m = some k) (other : ∀ x ∈ lost, x.2.2.number ≠ k.number) :
    t.mounted m = some k := by
  obtain ⟨n, pack, found⟩ := State.mounted_eq_some_iff.1 mounted
  refine State.mounted_eq_some_iff.2 ⟨n, by rw [lane]; exact pack, ?_⟩
  rw [h.findPack, found, Option.map_some, Pack.spoiledBy_other other]

theorem State.ticketHeld.after (held : s.ticketHeld m) (h : s.tillStep t res lost)
    (lane : t.lane m = s.lane m)
    (other : ∀ y, s.lossAt m = some y → ∀ x ∈ lost, x.2.2.number ≠ y.2.2.number) :
    t.ticketHeld m ∧ t.lossAt m = s.lossAt m := by
  cases record : (s.lane m).inflight with
  | none =>
    have record' : (t.lane m).inflight = none := by rw [lane]; exact record
    refine ⟨fun r at_ => ?_, by rw [State.lossAt_none record, State.lossAt_none record']⟩
    rw [record'] at at_
    cases at_
  | some r =>
    have record' : (t.lane m).inflight = some r := by rw [lane]; exact record
    cases begun : r.begun with
    | false =>
      refine ⟨fun q at_ begun' => ?_,
        by rw [State.lossAt_unbegun record begun, State.lossAt_unbegun record' begun]⟩
      cases record'.symm.trans at_
      rw [begun] at begun'
      cases begun'
    | true =>
      obtain ⟨k, mounted, found, unused⟩ := held r record begun
      have loss := State.lossAt_begun record begun mounted
      have apart := other _ loss
      have mounted' := h.mounted lane mounted apart
      refine ⟨fun q at_ _ => ?_, by rw [loss, State.lossAt_begun record' begun mounted']⟩
      cases record'.symm.trans at_
      refine ⟨k, mounted', ?_, unused⟩
      rw [h.packOf, found, Option.map_some, Pack.spoiledBy_other apart]

/-! ## The lanes, one after another -/

/-- The packs of the tickets lost under two lanes differ. -/
def State.lossesApart (s : State) (xs : List LaneId) : Prop :=
  ∀ l ∈ xs, ∀ m ∈ xs, l ≠ m → ∀ x y, s.lossAt l = some x → s.lossAt m = some y →
    x.2.2.number ≠ y.2.2.number

/-- The lanes may be started: their records are bound, their begun tickets on UNUSED blanks of packs that
differ, and the clocks at 0. -/
structure State.mayStart (s : State) (xs : List LaneId) : Prop where
  kept : ∀ l ∈ xs, (s.lane l).keptWf = true
  held : ∀ l ∈ xs, s.ticketHeld l
  apart : s.lossesApart xs
  stamp : s.stamp = ⟨0, 0, 0⟩

theorem State.startLanes_lane : ∀ (xs : List LaneId) (s : State), m ∉ xs →
    (xs.foldl State.startLane s).lane m = s.lane m
  | [], _, _ => rfl
  | l :: xs, s, out => by
    obtain ⟨y, to_, -⟩ := s.startLane_to l
    rw [List.mem_cons, not_or] at out
    exact (State.startLanes_lane xs _ out.2).trans (to_.others m out.1)

theorem State.mayStart.next {xs : List LaneId} (fresh : l ∉ xs) (may : s.mayStart (l :: xs)) :
    s.tillStep (s.startLane l) (s.lane l).retainedFor (s.lossAt l).toList ∧ (s.startLane l).mayStart xs ∧
      (∀ m ∈ xs, (s.startLane l).lossAt m = s.lossAt m) := by
  obtain ⟨kept, held, apart, stamp⟩ := may
  have step := State.startLane_till (held l List.mem_cons_self) (kept l List.mem_cons_self) stamp
  obtain ⟨y, to_, -⟩ := s.startLane_to l
  have ne : ∀ m ∈ xs, m ≠ l := fun m mem e => fresh (e ▸ mem)
  have after := fun m (mem : m ∈ xs) => (held m (List.mem_cons_of_mem _ mem)).after step
    (to_.others m (ne m mem)) fun y loss x lost => apart l List.mem_cons_self m (List.mem_cons_of_mem _ mem)
      (ne m mem).symm x y (Option.mem_toList.1 lost) loss
  refine ⟨step, ⟨fun m mem => ?_, fun m mem => (after m mem).1, fun m mem n mem' differ x y loss loss' => ?_,
    to_.frame.stamp.trans stamp⟩, fun m mem => (after m mem).2⟩
  · rw [to_.others m (ne m mem)]
    exact kept m (List.mem_cons_of_mem _ mem)
  · rw [(after m mem).2] at loss
    rw [(after n mem').2] at loss'
    exact apart m (List.mem_cons_of_mem _ mem) n (List.mem_cons_of_mem _ mem') differ x y loss loss'

theorem State.startLanes_till : ∀ (xs : List LaneId) (s : State), xs.Nodup → s.mayStart xs →
    s.tillStep (xs.foldl State.startLane s) (fun w => (xs.map fun l => (s.lane l).retainedFor w).sum)
      (xs.filterMap s.lossAt)
  | [], s, _, _ => State.tillStep_of_frame (s.changesOnly_refl [])
  | l :: xs, s, distinct, may => by
    obtain ⟨fresh, distinct⟩ := List.nodup_cons.1 distinct
    obtain ⟨step, may', losses⟩ := may.next fresh
    have rest := State.startLanes_till xs (s.startLane l) distinct may'
    obtain ⟨y, to_, -⟩ := s.startLane_to l
    have same : xs.filterMap (s.startLane l).lossAt = xs.filterMap s.lossAt :=
      List.filterMap_congr losses
    have both := step.andThen rest fun x lost y mem => by
      rw [same] at mem
      obtain ⟨m, mem, loss⟩ := List.mem_filterMap.1 mem
      exact may.apart l List.mem_cons_self m (List.mem_cons_of_mem _ mem) (fun e => fresh (e ▸ mem)) x y
        (Option.mem_toList.1 lost) loss
    refine both.mono (funext fun w => ?_) ?_
    · have lanes : ∀ m ∈ xs, (s.startLane l).lane m = s.lane m := fun m mem =>
        to_.others m fun e => fresh (e ▸ mem)
      rw [List.map_cons, List.sum_cons, List.map_congr_left fun m mem => by rw [lanes m mem]]
    · rw [same, List.filterMap_cons]
      cases s.lossAt l <;> rfl

theorem State.mayStart.prefix {pre post : List LaneId} (may : s.mayStart (pre ++ post)) : s.mayStart pre :=
  ⟨fun l mem => may.kept l (List.mem_append_left _ mem), fun l mem => may.held l (List.mem_append_left _ mem),
    fun l mem m mem' => may.apart l (List.mem_append_left _ mem) m (List.mem_append_left _ mem'), may.stamp⟩

/-- A lane's record, and the state its start is taken from. -/
theorem State.startLanes_at (xs : List LaneId) (s : State) (distinct : xs.Nodup) (mem : l ∈ xs) :
    ∃ pre post u, xs = pre ++ l :: post ∧ l ∉ pre ∧ l ∉ post ∧ u = pre.foldl State.startLane s ∧
      u.lane l = s.lane l ∧ xs.foldl State.startLane s = post.foldl State.startLane (u.startLane l) ∧
      (xs.foldl State.startLane s).lane l = (u.startLane l).lane l := by
  obtain ⟨pre, post, rfl⟩ := List.append_of_mem mem
  have apart := List.nodup_middle.1 distinct
  obtain ⟨fresh, -⟩ := List.nodup_cons.1 apart
  rw [List.mem_append, not_or] at fresh
  have whole : (pre ++ l :: post).foldl State.startLane s =
      post.foldl State.startLane ((pre.foldl State.startLane s).startLane l) := by
    rw [List.foldl_append, List.foldl_cons]
  exact ⟨pre, post, _, rfl, fresh.1, fresh.2, rfl, State.startLanes_lane pre s fresh.1, whole, by
    rw [whole]
    exact State.startLanes_lane post _ fresh.2⟩

end

end Sys2Proof.Machine
end

section
/-! SUPPORT. The fault list at the start of the lanes: the interruption raised, and the CABINET_OPEN reports
reconciled with the inputs (10 R177, R178, R189). -/

set_option Elab.async false

namespace Sys2Proof.Machine

section
variable {s t u : State} {l m : LaneId} {r : InFlight} {k : FaultKind} {c : FaultContext} {n : Nat}

/-- A lane's fault with no ticket under way is its report raised. -/
theorem State.laneFault_eq (k : FaultKind) (c : FaultContext) (none_ : (s.lane l).inflight = none) :
    s.laneFault l k c = ((s.moveLane l Lane.stopped).raiseLane l k c).moveLane l Lane.lockedIn := by
  obtain ⟨u, hu⟩ : ∃ u, u = s.moveLane l Lane.stopped := ⟨_, rfl⟩
  have settled : u.settle l = u := State.settle_of_none (by rw [hu, State.moveLane_lane_self]; exact none_)
  calc s.laneFault l k c = ((u.settle l).raiseLane l k c).moveLane l Lane.lockedIn := by rw [hu]; rfl
    _ = _ := by rw [settled, hu]

/-- What an operation that raises lane `l`'s faults keeps: `P` reads the fault list alone, and each fault of
a kind but CABINET_OPEN keeps it. -/
structure KeptByFaults (l : LaneId) (P : State → Prop) : Prop where
  frame : ∀ s t : State, ∀ a, s.changesOnly t a → .faults ∉ a → P s → P t
  raise : ∀ (s : State) (k : FaultKind) (c : FaultContext), k ≠ .cabinetOpen → P s → P (s.raiseLane l k c)

theorem KeptByFaults.feedAttempt {P : State → Prop} (kept : KeptByFaults l P)
    (head : ∀ e, (s.lane l).head ≠ .verified e) (none_ : (s.lane l).inflight = none) (h : P s) :
    P (s.feedAttempt l) := by
  rw [State.feedAttempt_eq, State.advanceHead_of_not_verified head]
  have moved : ∀ (t : State) (f : Lane → Lane), P t → P (t.moveLane l f) := fun t f =>
    kept.frame t _ _ (t.moveLane_frame l f) (by decide)
  split
  · exact moved s _ h
  · split
    · exact moved s _ h
    · unfold State.issueFeed
      split
      · rw [State.laneFault_eq _ _ none_]
        exact moved _ _ (kept.raise _ _ _ (by nofun) (moved s _ h))
      · exact moved s _ h

theorem KeptByFaults.spoiled {P : State → Prop} (kept : KeptByFaults l P) (r : InFlight) (h : P s) :
    P (s.spoiledAtStart l r) :=
  kept.frame _ _ _ (State.moveLane_frame _ l _) (by decide)
    (kept.raise _ .powerInterrupted _ (by nofun) (kept.frame _ _ _ (s.lostEntry_frame l r) (by decide) h))

theorem KeptByFaults.startMounted {P : State → Prop} (kept : KeptByFaults l P)
    (seen : (s.lane l).cabinetSeen = (s.lane l).cabinetPin) (head : (s.lane l).head ≠ .notPositioned)
    (h : P s) : P (s.startMounted l) := by
  rcases s.startMounted_cases l with ⟨none_, e⟩ | ⟨r, -, -, e⟩ | ⟨r, -, -, e⟩ <;> rw [e]
  · obtain ⟨y, primed, -⟩ := State.startPriming_starts seen head none_
    exact kept.frame _ _ _ primed.frame (by decide) h
  · have dropped := s.unbegunAtStart_to l r
    obtain ⟨y, primed, -⟩ := State.startPriming_starts (s := s.unbegunAtStart l r) (l := l)
      (by rw [dropped.self]; exact seen) (by rw [dropped.self]; exact head) (by rw [dropped.self])
    exact kept.frame _ _ _ primed.frame (by decide) (kept.frame _ _ _ dropped.frame (by decide) h)
  · have spoiled := s.spoiledAtStart_to l r
    exact kept.feedAttempt (fun e => by rw [spoiled.self]; nofun) (by rw [spoiled.self]) (kept.spoiled r h)

/-- The lane's start up to the reconciling of its CABINET_OPEN report. -/
theorem KeptByFaults.before {P : State → Prop} (kept : KeptByFaults l P) (h : P s) :
    P (if (s.lane l).pack.isSome then (s.sampledAtStart l).startMounted l else s.sampledAtStart l) := by
  have sampled := s.sampledAtStart_to l
  have there := kept.frame _ _ _ sampled.frame (by decide) h
  split
  · rename_i mounted
    exact kept.startMounted (by rw [sampled.self]; rfl)
      (by rw [sampled.self, Lane.started_head mounted]; nofun) there
  · exact there

theorem State.reconcileCabinet_cases (s : State) (l : LaneId) :
    ((s.lane l).cabinetSeen = .locked ∧ s.reconcileCabinet l = s.selfClear l) ∨
    (s.lane l).cabinetSeen = .opened ∧
      (((s.lane l).pack.isSome = true ∧ s.reconcileCabinet l = s.raiseLane l .cabinetOpen {}) ∨
        (s.reconcileCabinet l = s ∧ ((s.lane l).pack.isSome = true →
          ∃ r ∈ s.activeOf (.lane l), r.kind = .cabinetOpen))) := by
  unfold State.reconcileCabinet
  cases (s.lane l).cabinetSeen with
  | locked => exact .inl ⟨rfl, rfl⟩
  | opened =>
    refine .inr ⟨rfl, ?_⟩
    dsimp only
    split
    · rename_i raises
      exact .inl ⟨(Bool.and_eq_true_iff.1 raises).1, rfl⟩
    · rename_i still
      refine .inr ⟨rfl, fun mounted => ?_⟩
      rw [mounted, Bool.true_and, Bool.not_eq_true', Bool.not_eq_false, List.any_eq_true] at still
      obtain ⟨r, mem, kind⟩ := still
      exact ⟨r, mem, by simpa using kind⟩

/-- A property kept by every fault of the lane and by its relock. -/
theorem KeptByFaults.startLane {P : State → Prop} (kept : KeptByFaults l P)
    (opened : ∀ s : State, P s → P (s.raiseLane l .cabinetOpen {})) (clear : ∀ s : State, P s → P (s.selfClear l))
    (h : P s) : P (s.startLane l) := by
  rw [State.startLane_eq]
  have before := kept.before h
  obtain ⟨u, hu⟩ : ∃ u, u = (if (s.lane l).pack.isSome then (s.sampledAtStart l).startMounted l
    else s.sampledAtStart l) := ⟨_, rfl⟩
  rw [← hu] at before ⊢
  rcases u.reconcileCabinet_cases l with ⟨-, e⟩ | ⟨-, ⟨-, e⟩ | ⟨e, -⟩⟩ <;> rw [e]
  exacts [clear _ before, opened _ before, before]

/-! ## A report that stands -/

theorem State.showsFault.startLane (h : s.showsFault m k c) (other : k ≠ .cabinetOpen) (l : LaneId) :
    (s.startLane l).showsFault m k c :=
  KeptByFaults.startLane (P := fun t => t.showsFault m k c)
    ⟨fun _ _ _ frame out shows => frame.showsFault shows out, fun _ k c _ shows => shows.raise l k c⟩
    (fun _ shows => shows.raise l _ _) (fun _ shows => shows.selfClear other l) h

theorem State.showsFault.startLanes (other : k ≠ .cabinetOpen) : ∀ (xs : List LaneId) {s : State},
    s.showsFault m k c → (xs.foldl State.startLane s).showsFault m k c
  | [], _, h => h
  | l :: xs, _, h => State.showsFault.startLanes other xs (h.startLane other l)

/-- The interruption of a begun ticket stands as its lane's primary report, where the lane had none. -/
theorem State.startLane_shows (record : (s.lane l).inflight = some r) (begun : r.begun = true)
    (pack : (s.lane l).pack.isSome = true) (none_ : s.activeOf (.lane l) = []) :
    (s.startLane l).showsFault l .powerInterrupted (r.lostContext (s.lane l).pack) := by
  have sampled := s.sampledAtStart_to l
  rw [State.startLane_eq, if_pos pack]
  obtain ⟨u, hu⟩ : ∃ u, u = s.sampledAtStart l := ⟨_, rfl⟩
  rw [← hu] at sampled ⊢
  have record' : (u.lane l).inflight = some r := by rw [sampled.self]; exact record
  have none' : u.activeOf (.lane l) = [] := by
    unfold State.activeOf
    rw [(sampled.frame .faults (by decide)).1]
    exact none_
  have entered := u.lostEntry_frame l r
  have raised : (u.spoiledAtStart l r).showsFault l .powerInterrupted (r.lostContext (s.lane l).pack) := by
    have pack' : (s.lane l).pack = (u.lane l).pack := by rw [sampled.self]; rfl
    rw [pack']
    refine (State.moveLane_frame _ l _).showsFault (State.showsFault_of_raised ?_)
    unfold State.activeOf
    rw [(entered .faults (by decide)).1]
    exact none'
  have kept : KeptByFaults l fun t => t.showsFault l .powerInterrupted (r.lostContext (s.lane l).pack) :=
    ⟨fun _ _ _ frame out shows => frame.showsFault shows out, fun _ k c _ shows => shows.raise l k c⟩
  have spoiled := u.spoiledAtStart_to l r
  have fed := kept.feedAttempt (s := u.spoiledAtStart l r) (fun e => by rw [spoiled.self]; nofun)
    (by rw [spoiled.self]) raised
  rcases u.startMounted_cases l with ⟨none_, -⟩ | ⟨q, at_, unbegun, -⟩ | ⟨q, at_, -, step⟩
  · rw [record'] at none_
    cases none_
  · cases at_.symm.trans record'
    rw [begun] at unbegun
    cases unbegun
  · cases at_.symm.trans record'
    rw [step]
    obtain ⟨v, hv⟩ : ∃ v, v = (u.spoiledAtStart l r).feedAttempt l := ⟨_, rfl⟩
    rw [← hv] at fed ⊢
    rcases v.reconcileCabinet_cases l with ⟨-, e⟩ | ⟨-, ⟨-, e⟩ | ⟨e, -⟩⟩ <;> rw [e]
    exacts [fed.selfClear (by nofun) l, fed.raise l _ _, fed]

/-! ## The reports of the other lanes -/

theorem State.changesOnly.activeOf {a : List Part} (h : s.changesOnly t a) (src : FaultSource)
    (out : .faults ∉ a := by decide) : t.activeOf src = s.activeOf src := by
  unfold State.activeOf
  rw [(h .faults out).1]

/-- With the fault list's rule, a lane's start leaves another's ACTIVE reports. -/
theorem State.startLane_activeOf (holds : s.faultsHold) (other : m ≠ l) :
    (s.startLane l).activeOf (.lane m) = s.activeOf (.lane m) := by
  obtain ⟨-, same⟩ := KeptByFaults.startLane
    (P := fun t => t.faultsHold ∧ t.activeOf (.lane m) = s.activeOf (.lane m))
    ⟨fun _ _ _ frame out ⟨holds, same⟩ => ⟨frame.faultsHold holds out, (frame.activeOf _ out).trans same⟩,
      fun u k c _ ⟨holds, same⟩ => ⟨State.raiseLane_faultsHold k c holds,
        (not_not.1 (State.raiseLane_activeStands holds other k c)).trans same⟩⟩
    (fun u ⟨holds, same⟩ => ⟨State.raiseLane_faultsHold _ _ holds,
      (not_not.1 (State.raiseLane_activeStands holds other _ _)).trans same⟩)
    (fun u ⟨holds, same⟩ => ⟨State.selfClear_faultsHold holds,
      (not_not.1 (State.selfClear_activeStands other)).trans same⟩) ⟨holds, rfl⟩
  exact same

theorem State.startLanes_activeOf : ∀ (xs : List LaneId) {s : State}, s.faultsHold → m ∉ xs →
    (xs.foldl State.startLane s).activeOf (.lane m) = s.activeOf (.lane m)
  | [], _, _, _ => rfl
  | l :: xs, s, holds, out => by
    rw [List.mem_cons, not_or] at out
    exact (State.startLanes_activeOf xs (State.startLane_faultsHold l holds) out.2).trans
      (State.startLane_activeOf holds out.1)

/-! ## The CABINET_OPEN report of the lane -/

/-- The lane's start before its CABINET_OPEN report is reconciled, and the inputs the reconciling reads. -/
theorem State.startLane_reconciles (s : State) (l : LaneId) : ∃ u,
    s.startLane l = u.reconcileCabinet l ∧
    u = (if (s.lane l).pack.isSome then (s.sampledAtStart l).startMounted l else s.sampledAtStart l) ∧
    (u.lane l).cabinetSeen = (s.lane l).cabinetPin ∧ (u.lane l).pack = (s.lane l).pack := by
  obtain ⟨u, e, hu, y, before, -, pack, seen, -⟩ := s.startLane_before l
  exact ⟨u, e, hu, by rw [before.self]; exact seen, by rw [before.self]; exact pack⟩

theorem State.startLane_noCabinet (locked : (s.lane l).cabinetPin = .locked) (unfolded : s.noFolded l) :
    ∀ r ∈ (s.startLane l).activeOf (.lane l), r.kind ≠ .cabinetOpen := by
  obtain ⟨u, e, hu, seen, -⟩ := s.startLane_reconciles l
  have before : u.noFolded l := hu ▸ KeptByFaults.before (P := fun t => t.noFolded l)
    ⟨fun _ _ _ frame out held => frame.noFolded held out, fun _ k c other held => held.raise other c⟩ unfolded
  rw [e]
  rcases u.reconcileCabinet_cases l with ⟨-, step⟩ | ⟨opened, -⟩
  · rw [step]
    exact State.selfClear_noCabinet before
  · rw [seen, locked] at opened
    cases opened

theorem State.startLane_showsCabinet (opened : (s.lane l).cabinetPin = .opened)
    (pack : (s.lane l).pack.isSome = true) : ∃ r ∈ (s.startLane l).activeOf (.lane l),
      r.kind = .cabinetOpen ∨ r.lastOther = some .cabinetOpen := by
  obtain ⟨u, e, -, seen, pack'⟩ := s.startLane_reconciles l
  rw [e]
  rcases u.reconcileCabinet_cases l with ⟨locked, -⟩ | ⟨-, ⟨-, step⟩ | ⟨step, held⟩⟩
  · rw [seen, opened] at locked
    cases locked
  · rw [step]
    exact State.shows_of_raised rfl
  · obtain ⟨r, mem, kind⟩ := held (by rw [pack']; exact pack)
    rw [step]
    exact ⟨r, mem, .inl kind⟩

theorem State.startLane_unmounted (opened : (s.lane l).cabinetPin = .opened)
    (pack : (s.lane l).pack = none) :
    (s.startLane l).activeOf (.lane l) = s.activeOf (.lane l) := by
  obtain ⟨u, e, hu, seen, pack'⟩ := s.startLane_reconciles l
  have free : ¬(s.lane l).pack.isSome = true := by
    rw [pack]
    nofun
  rw [if_neg free] at hu
  rw [e]
  rcases u.reconcileCabinet_cases l with ⟨locked, -⟩ | ⟨-, ⟨mounted, -⟩ | ⟨step, -⟩⟩
  · rw [seen, opened] at locked
    cases locked
  · rw [pack', pack] at mounted
    cases mounted
  · rw [step, hu]
    exact (s.sampledAtStart_to l).frame.activeOf _

/-- With no begun ticket the lane raises no fault, so that its CABINET_OPEN report is cleared as it
stands. -/
theorem State.startLane_clears {x : Report} (locked : (s.lane l).cabinetPin = .locked)
    (unbegun : ∀ i, (s.lane l).inflight = some i → i.begun = false) (stamp : s.stamp = ⟨0, 0, 0⟩)
    (mem : x ∈ s.activeOf (.lane l)) (cabinet : x.kind = .cabinetOpen) (last : x.lastOther = none) :
    { x with state := .cleared, how := some .self, cleared := some ⟨0, 0, 0⟩, primary := none } ∈
      (s.startLane l).faults := by
  obtain ⟨u, e, hu, seen, -⟩ := s.startLane_reconciles l
  have sampled := s.sampledAtStart_to l
  have still : ∃ a, s.changesOnly u a ∧ Part.faults ∉ a ∧ Part.runTime ∉ a ∧ Part.clock ∉ a := by
    rw [hu]
    split
    · rename_i mounted
      have seen' : ((s.sampledAtStart l).lane l).cabinetSeen = ((s.sampledAtStart l).lane l).cabinetPin := by
        rw [sampled.self]
        rfl
      have head : ((s.sampledAtStart l).lane l).head ≠ .notPositioned := by
        rw [sampled.self, Lane.started_head mounted]
        nofun
      rcases (s.sampledAtStart l).startMounted_cases l with ⟨none_, step⟩ | ⟨r, -, -, step⟩ | ⟨r, at_, begun, -⟩
      · rw [step]
        obtain ⟨y, primed, -⟩ := State.startPriming_starts seen' head none_
        exact ⟨[.lanes, .queues], State.changesOnly_then sampled.frame primed.frame, by decide, by decide,
          by decide⟩
      · rw [step]
        have dropped := (s.sampledAtStart l).unbegunAtStart_to l r
        obtain ⟨y, primed, -⟩ := State.startPriming_starts (s := (s.sampledAtStart l).unbegunAtStart l r)
          (l := l) (by rw [dropped.self]; exact seen') (by rw [dropped.self]; exact head)
          (by rw [dropped.self])
        exact ⟨[.sessions, .journal, .lanes, .queues], State.changesOnly_then
          (State.changesOnly_then (c := [.sessions, .journal, .lanes]) sampled.frame dropped.frame)
          primed.frame, by decide, by decide, by decide⟩
      · rw [sampled.self] at at_
        rw [unbegun r at_] at begun
        cases begun
    · exact ⟨_, sampled.frame, by decide, by decide, by decide⟩
  obtain ⟨a, frame, faults, run, clock⟩ := still
  rw [e]
  rcases u.reconcileCabinet_cases l with ⟨-, step⟩ | ⟨opened, -⟩
  · rw [step]
    have held : x ∈ u.activeOf (.lane l) := by
      rw [frame.activeOf _ faults]
      exact mem
    have cleared := State.selfClear_clears held cabinet last
    rw [frame.stamp run clock, stamp] at cleared
    exact cleared
  · rw [seen, locked] at opened
    cases opened

/-! ## Room in the list -/

/-- With room in the list, a lane's start adds two reports at most, and leaves every one that is not an
ACTIVE one of its own. -/
theorem State.startLane_room (holds : s.faultsHold) (room : s.faults.length + 2 ≤ n) (few : n ≤ 64) :
    (s.startLane l).faults.length ≤ n ∧
      ∀ x ∈ s.faults, ¬(x.isActive = true ∧ x.source = .lane l) → x ∈ (s.startLane l).faults := by
  obtain ⟨P, hP⟩ : ∃ P : State → Prop, ∀ u, P u ↔ u.faultsHold ∧ u.faultRoom l n ∧
    ∀ x ∈ s.faults, ¬(x.isActive = true ∧ x.source = .lane l) → x ∈ u.faults := ⟨_, fun _ => Iff.rfl⟩
  have raise : ∀ (u : State) (k : FaultKind) (c : FaultContext), P u → P (u.raiseLane l k c) := by
    intro u k c
    rw [hP, hP]
    rintro ⟨holds, room, old⟩
    obtain ⟨room', kept⟩ := State.raiseLane_room holds room few k c
    exact ⟨State.raiseLane_faultsHold k c holds, room', fun x mem other => kept x (old x mem other) other⟩
  have frame : ∀ u t : State, ∀ a, u.changesOnly t a → .faults ∉ a → P u → P t := by
    intro u t a frame out
    rw [hP, hP]
    rintro ⟨holds, room, old⟩
    have same := (frame .faults out).1
    refine ⟨frame.faultsHold holds out, ?_, by rw [same]; exact old⟩
    unfold State.faultRoom
    rw [same, frame.activeOf _ out]
    exact room
  have kept : KeptByFaults l P := ⟨frame, fun u k c _ => raise u k c⟩
  have start : P s := (hP s).2 ⟨holds, State.faultRoom_of_length room, fun _ mem _ => mem⟩
  obtain ⟨u, e, hu, -, -⟩ := s.startLane_reconciles l
  have before : P u := hu ▸ kept.before start
  have opened := (hP _).1 (raise u .cabinetOpen {} before)
  obtain ⟨holds', room', old⟩ := (hP _).1 before
  rw [e]
  rcases u.reconcileCabinet_cases l with ⟨-, step⟩ | ⟨-, ⟨-, step⟩ | ⟨step, -⟩⟩ <;> rw [step]
  · rw [State.selfClear_length]
    exact ⟨room'.length holds', fun x mem other => State.selfClear_keeps (old x mem other) other⟩
  · exact ⟨opened.2.1.length opened.1, opened.2.2⟩
  · exact ⟨room'.length holds', old⟩

/-- Started with room in the list, the lanes add two reports each at most, and leave every report that is not
ACTIVE. -/
theorem State.startLanes_room : ∀ (xs : List LaneId) {s : State} {n : Nat}, s.faultsHold →
    s.faults.length ≤ n → n + 2 * xs.length ≤ 64 →
    (xs.foldl State.startLane s).faults.length ≤ n + 2 * xs.length ∧
      ∀ x ∈ s.faults, x.isActive = false → x ∈ (xs.foldl State.startLane s).faults
  | [], _, _, _, room, _ => ⟨room, fun _ mem _ => mem⟩
  | l :: xs, s, n, holds, room, few => by
    rw [List.length_cons] at few
    obtain ⟨room', kept⟩ := State.startLane_room (s := s) (l := l) (n := n + 2) holds (by omega) (by omega)
    obtain ⟨rest, old⟩ := State.startLanes_room xs (State.startLane_faultsHold l holds) room' (by omega)
    refine ⟨rest.trans (by rw [List.length_cons]; omega), fun x mem loose => old x (kept x mem ?_) loose⟩
    intro own
    rw [loose] at own
    cases own.1

end

end Sys2Proof.Machine
end

section
/-! SUPPORT. The state the lanes are started from, and O59 (08 R158; 11 R194). -/

set_option Elab.async false

namespace Sys2Proof.Machine

section
variable (s : State) (l : LaneId) (w : Window)

/-- The state the lanes are started from, with the store VALID. -/
def State.poweredOn : State := State.beforeLanes { s.volatileLost with phase := .running }

theorem exec_powerOn_valid (agrees : s.checkAgrees = true) :
    exec .powerOn s = .next (allLanes.foldl State.startLane s.poweredOn) :=
  congrArg Host.Outcome.next (if_pos agrees)

theorem State.poweredOn_frame : ({ s.volatileLost with phase := .running } : State).changesOnly s.poweredOn
    [.receivers, .queues, .forms, .sessions, .journal, .store] := State.beforeLanes_frame _

theorem State.poweredOn_lane : s.poweredOn.lane l = (s.lane l).retained :=
  (s.poweredOn_frame.lane l (by decide)).trans (s.volatileLost_lane l)

theorem State.poweredOn_mounted : s.poweredOn.mounted l = s.mounted l :=
  State.mounted_congr (s.poweredOn_frame .packs (by decide)) (by rw [State.poweredOn_lane]; rfl)

theorem State.poweredOn_packs : s.poweredOn.packs = s.packs := s.poweredOn_frame .packs (by decide)

theorem State.poweredOn_stamp : s.poweredOn.stamp = ⟨0, 0, 0⟩ := s.poweredOn_frame.stamp

theorem State.poweredOn_faults : s.poweredOn.faults = s.faults ∧ s.poweredOn.faultCounter = s.faultCounter :=
  s.poweredOn_frame .faults (by decide)

theorem State.poweredOn_retainedFor :
    State.retainedFor { s.volatileLost with phase := .running, storeValid := true } w = s.retainedFor w := by
  unfold State.retainedFor
  refine congrArg List.sum (List.map_congr_left fun l _ => ?_)
  have lane : State.lane { s.volatileLost with phase := .running, storeValid := true } l =
      (s.lane l).retained := s.volatileLost_lane l
  rw [lane]
  rfl

/-- The Till Unit's step at power-on. -/
def State.tillStarted : State :=
  State.startTill { s.volatileLost with phase := .running, storeValid := true }

theorem State.poweredOn_eq : s.poweredOn = s.tillStarted.startForms.startPorts := rfl

theorem State.tillStarted_frame : s.tillStarted.changesOnly s.poweredOn [.forms, .queues, .receivers] :=
  State.changesOnly_then s.tillStarted.startForms_frame (State.startPorts_frame _)

theorem State.poweredOn_journal :
    s.poweredOn.journal = s.journal.map (fun e => { e with beforePowerOn := true }) ∧
      s.poweredOn.journalInUse = s.journalInUse ∧
      s.poweredOn.journalReserved = (allWindows.map s.retainedFor).sum := by
  obtain ⟨journal, inUse, reserved⟩ := s.tillStarted_frame .journal (by decide)
  refine ⟨journal, inUse, reserved.trans ?_⟩
  exact congrArg List.sum (List.map_congr_left fun w _ => s.poweredOn_retainedFor w)

theorem State.poweredOn_session : s.poweredOn.session w =
    { s.session w with inProgress := none, reserved := s.retainedFor w } := by
  rw [s.tillStarted_frame.session w, ← s.poweredOn_retainedFor w]
  have each : ∀ w : Window, s.tillStarted.session w =
      State.sessionAtStart { s.volatileLost with phase := .running, storeValid := true } w := fun w => by
    fin_cases w <;> rfl
  exact each w

theorem State.poweredOn_entriesOf : (s.poweredOn.entriesOf w).length = (s.entriesOf w).length := by
  unfold State.entriesOf
  rw [s.poweredOn_journal.1, List.filter_map, List.length_map]
  rfl

theorem State.poweredOn_form (f : Fin 8) : s.poweredOn.form f = (s.form f).uncounted.atStart := by
  have ports := (State.startPorts_frame s.tillStarted.startForms).form f
  refine ports.trans ?_
  have forms : s.tillStarted.startForms.form f = (s.tillStarted.form f).atStart := by
    have mapped : State.form { s.tillStarted with forms := s.tillStarted.forms.map FormRecord.atStart } f =
        (s.tillStarted.form f).atStart := Vector.getElem_map _ f.isLt
    unfold State.startForms
    dsimp only
    split
    · exact (State.post_form _ _ _ _).trans mapped
    · exact mapped
  rw [forms]
  exact congrArg FormRecord.atStart (s.volatileLost_form f)

theorem State.poweredOn_port (p : Port) : (s.poweredOn.port p).rx = .hunting ∧ (s.poweredOn.port p).tx = none ∧
    ⟨.controllerStart, .controller, none⟩ ∈ (s.poweredOn.port p).queue := by
  have before : (s.tillStarted.startForms.port p).tx = none := by
    rw [(s.tillStarted.startForms_frame .receivers (by decide) p).2]
    have lost : (s.tillStarted.port p) = s.volatileLost.port p := by cases p <;> rfl
    rw [lost, State.volatileLost_port]
  rw [State.poweredOn_eq, State.startPorts_port]
  exact ⟨rfl, before, mem_coalesce_self _ _⟩

theorem State.poweredOn_interrupted :
    allLanes.filterMap s.poweredOn.lossAt = s.interrupted := by
  rw [State.interrupted_eq]
  refine List.filterMap_congr fun l _ => ?_
  unfold State.lossAt
  rw [State.poweredOn_mounted, State.poweredOn_lane]
  rfl

/-! ## The start of the lanes -/

theorem State.startLane_census : (s.startLane l).census.state = s.census.state := by
  have sampled := s.sampledAtStart_to l
  rw [State.startLane_eq]
  refine (congrArg Census.state ((State.reconcileCabinet_frame _ l) .census (by decide))).trans ?_
  obtain ⟨u, hu⟩ : ∃ u, u = s.sampledAtStart l := ⟨_, rfl⟩
  rw [← hu] at sampled ⊢
  have first : u.census.state = s.census.state := congrArg Census.state (sampled.frame .census (by decide))
  split
  · rename_i mounted
    have seen : (u.lane l).cabinetSeen = (u.lane l).cabinetPin := by rw [sampled.self]; rfl
    have head : (u.lane l).head ≠ .notPositioned := by rw [sampled.self, Lane.started_head mounted]; nofun
    rcases u.startMounted_cases l with ⟨none_, e⟩ | ⟨r, -, -, e⟩ | ⟨r, -, -, e⟩ <;> rw [e]
    · obtain ⟨y, primed, -⟩ := State.startPriming_starts seen head none_
      exact (congrArg Census.state (primed.frame .census (by decide))).trans first
    · have dropped := u.unbegunAtStart_to l r
      obtain ⟨y, primed, -⟩ := State.startPriming_starts (s := u.unbegunAtStart l r) (l := l)
        (by rw [dropped.self]; exact seen) (by rw [dropped.self]; exact head) (by rw [dropped.self])
      exact (congrArg Census.state ((primed.frame .census (by decide)).trans
        (dropped.frame .census (by decide)))).trans first
    · have spoiled := u.spoiledAtStart_to l r
      obtain ⟨y, fed, -⟩ := State.feedAttempt_starts (s := u.spoiledAtStart l r) (l := l)
        (fun e => by rw [spoiled.self]; nofun) (by rw [spoiled.self])
      refine (congrArg Census.state (fed.frame .census (by decide))).trans (Eq.trans ?_ first)
      obtain ⟨m, hm⟩ : ∃ m, m = u.changeMark (u.mountedClass l) r.serial .spoiled := ⟨_, rfl⟩
      have marked : m.census.state = u.census.state := hm ▸ u.changeMark_censusState _ _ _
      have rest := State.changesOnly_then (c := [.sessions, .journal, .packs, .queues, .faults, .lanes])
        (State.changesOnly_then (c := [.sessions, .journal, .packs, .queues, .faults])
          (State.changesOnly_then (c := [.sessions, .journal, .packs, .queues])
            (m.unreserve_frame r.window r.reserved)
            (State.writeEntry_frame _ r.window
              (r.spoilEntry (u.mountedClass l) ((u.lane l).pack.getD 0))))
          (State.raiseLane_frame _ l .powerInterrupted (r.lostContext (u.lane l).pack)))
        (State.moveLane_frame _ l fun x =>
          { x with inflight := none, head := .notPositioned, state := .feeding })
      have step : u.spoiledAtStart l r = State.moveLane (((m.unreserve r.window r.reserved).writeEntry r.window
          (r.spoilEntry (u.mountedClass l) ((u.lane l).pack.getD 0))).raiseLane l .powerInterrupted
          (r.lostContext (u.lane l).pack)) l fun x =>
            { x with inflight := none, head := .notPositioned, state := .feeding } := by
        rw [hm]
        rfl
      rw [step]
      exact (congrArg Census.state (rest .census (by decide))).trans marked
  · exact first

theorem State.startLanes_census : ∀ (xs : List LaneId) (s : State),
    (xs.foldl State.startLane s).census.state = s.census.state
  | [], _ => rfl
  | l :: xs, s => (State.startLanes_census xs _).trans (s.startLane_census l)

theorem State.startLanes_grow : ∀ (xs : List LaneId) (s : State),
    s.queuesGrow (xs.foldl State.startLane s)
  | [], s => s.queuesGrow_refl
  | l :: xs, s => (s.startLane_grow l).andThen (State.startLanes_grow xs _)

end

end Sys2Proof.Machine
end

section
/-! SUPPORT. Power-on with the store VALID: the books, a lane's record and its reports after the start of the
lanes; O59 settled (04 R90; 08 R158; 10 R189; 11 R194). -/

set_option Elab.async false

namespace Sys2Proof.Machine

section
variable {s t u : State} {l m : LaneId} {r : InFlight} {k : Pack} {e : Nat}

/-- No two lanes' lost tickets are on one pack, every record is bound, and each begun ticket is on an UNUSED
blank of its pack. -/
structure State.mayPowerOn (s : State) : Prop where
  kept : ∀ l, (s.lane l).keptWf = true
  held : ∀ l, s.ticketHeld l
  apart : s.lossesApart allLanes

theorem State.poweredOn_lossAt (s : State) (l : LaneId) : s.poweredOn.lossAt l = s.lossAt l := by
  unfold State.lossAt
  rw [State.poweredOn_mounted, State.poweredOn_lane]
  rfl

theorem State.mayPowerOn.start (may : s.mayPowerOn) : s.poweredOn.mayStart allLanes where
  kept l _ := by
    rw [State.poweredOn_lane]
    exact may.kept l
  held l _ r record begun := by
    rw [State.poweredOn_lane] at record
    obtain ⟨k, mounted, found, unused⟩ := may.held l r record begun
    refine ⟨k, (s.poweredOn_mounted l).trans mounted, ?_, unused⟩
    rw [State.packOf_congr s.poweredOn_packs]
    exact found
  apart l mem m mem' differ x y loss loss' := by
    rw [State.poweredOn_lossAt] at loss loss'
    exact may.apart l mem m mem' differ x y loss loss'
  stamp := s.poweredOn_stamp

/-- The sessions, the journal and the stock after power-on (08 R158). -/
theorem State.mayPowerOn.books (may : s.mayPowerOn) (ht : t = allLanes.foldl State.startLane s.poweredOn) :
    t.journal = s.journal.map (fun e => { e with beforePowerOn := true }) ++
        lostEntries (fun w => (s.entriesOf w).length) s.interrupted ∧
      t.journalInUse = s.journalInUse + s.interrupted.length ∧ t.journalReserved = 0 ∧
      (∀ w, t.session w = { s.session w with
        inProgress := none
        spoiledCount := (s.session w).spoiledCount + lostOf s.interrupted w
        reserved := 0 }) ∧
      t.packs = s.packs.map (fun p => p.spoiledBy s.interrupted) := by
  have till := State.startLanes_till allLanes s.poweredOn (by decide) may.start
  rw [← ht, State.poweredOn_interrupted] at till
  have retained : (fun w => (allLanes.map fun l => (s.poweredOn.lane l).retainedFor w).sum) = s.retainedFor :=
    funext fun w => congrArg List.sum (List.map_congr_left fun l _ => by rw [State.poweredOn_lane]; rfl)
  rw [retained] at till
  obtain ⟨journal, inUse, reserved⟩ := s.poweredOn_journal
  have counts : (fun w => (s.poweredOn.entriesOf w).length) = fun w => (s.entriesOf w).length :=
    funext s.poweredOn_entriesOf
  refine ⟨?_, ?_, ?_, fun w => ?_, ?_⟩
  · rw [till.journal, journal, counts]
  · rw [till.inUse, inUse]
  · rw [till.reserved, reserved, Nat.sub_self]
  · rw [till.sessions, State.poweredOn_session]
    simp only [Nat.sub_self]
  · rw [till.packs, State.poweredOn_packs]

/-! ## One lane -/

theorem State.startLanes_frame (xs : List LaneId) (s : State) :
    s.changesOnly (xs.foldl State.startLane s) laneParts := State.changesOnly_foldl _ State.startLane_frame xs s

/-- A lane without ACTIVE reports has none after another's start. -/
theorem State.startLane_noReports (none_ : s.activeOf (.lane m) = []) (other : m ≠ l) :
    (s.startLane l).activeOf (.lane m) = [] := by
  have source : FaultSource.lane l ≠ .lane m := fun e => other (FaultSource.lane.inj e).symm
  have raise : ∀ (u : State) (k : FaultKind) (c : FaultContext), u.activeOf (.lane m) = [] →
      (u.raiseLane l k c).activeOf (.lane m) = [] := by
    intro u k c none_
    have list : ∀ v : State, v.activeOf (.lane m) = activeIn v.faults (.lane m) := fun _ => rfl
    rw [list] at none_ ⊢
    rcases u.raiseLane_cases l k c with ⟨x, -, o, -, faults⟩ | ⟨-, n, p, -, faults⟩ <;> rw [faults]
    · rw [activeIn_map_occurred, none_]
      rfl
    · rw [activeIn_added source]
      exact none_
  exact KeptByFaults.startLane (P := fun u => u.activeOf (.lane m) = [])
    ⟨fun _ _ _ frame out none_ => (frame.activeOf _ out).trans none_, fun u k c _ => raise u k c⟩
    (fun u => raise u _ _) (fun u none_ => (not_not.1 (State.selfClear_activeStands other)).trans none_) none_

theorem State.startLanes_noReports : ∀ (xs : List LaneId) {s : State}, s.activeOf (.lane m) = [] → m ∉ xs →
    (xs.foldl State.startLane s).activeOf (.lane m) = []
  | [], _, none_, _ => none_
  | l :: xs, s, none_, out => by
    rw [List.mem_cons, not_or] at out
    exact State.startLanes_noReports xs (State.startLane_noReports none_ out.1) out.2

/-- The state a lane's start is taken from at power-on, the lanes of `pre` having been started. -/
structure State.startsFrom (s u : State) (l : LaneId) : Prop where
  lane : u.lane l = (s.lane l).retained
  stamp : u.stamp = ⟨0, 0, 0⟩
  warning : u.powerFail = s.powerFail
  faults : s.faultsHold → u.faultsHold ∧ u.activeOf (.lane l) = s.activeOf (.lane l)
  noReports : s.activeOf (.lane l) = [] → u.activeOf (.lane l) = []
  held : s.mayPowerOn → u.ticketHeld l ∧ u.lossAt l = s.lossAt l
  mounted : s.mayPowerOn → ∀ k, s.mounted l = some k →
    (∀ x ∈ s.interrupted, x.1 ≠ l → x.2.2.number ≠ k.number) → u.mounted l = some k

theorem State.poweredOn_faultsHold (holds : s.faultsHold) : s.poweredOn.faultsHold :=
  State.faultsHold_of_same s.poweredOn_faults holds

theorem State.poweredOn_activeOf (src : FaultSource) : s.poweredOn.activeOf src = s.activeOf src := by
  unfold State.activeOf
  rw [s.poweredOn_faults.1]

theorem State.lossAt_lane {x : LaneId × InFlight × Pack} (loss : s.lossAt l = some x) : x.1 = l := by
  unfold State.lossAt at loss
  split at loss
  · split at loss
    · cases loss
      rfl
    · cases loss
  · cases loss

/-- A lane's record after power-on is what its own start left. -/
theorem State.powerOn_at (s : State) (l : LaneId) : ∃ pre post u, allLanes = pre ++ l :: post ∧
    l ∉ post ∧ u = pre.foldl State.startLane s.poweredOn ∧ s.startsFrom u l ∧
    allLanes.foldl State.startLane s.poweredOn = post.foldl State.startLane (u.startLane l) ∧
    (allLanes.foldl State.startLane s.poweredOn).lane l = (u.startLane l).lane l := by
  obtain ⟨pre, post, u, split, fresh, out, hu, lane, whole, record⟩ :=
    State.startLanes_at allLanes s.poweredOn (by decide) (mem_allLanes l)
  have frame := State.startLanes_frame pre s.poweredOn
  rw [← hu] at frame
  have distinct : pre.Nodup := by
    have all : allLanes.Nodup := by decide
    rw [split] at all
    exact (List.nodup_append.1 all).1
  have step : s.mayPowerOn → s.poweredOn.tillStep u
      (fun w => (pre.map fun l => (s.poweredOn.lane l).retainedFor w).sum) (pre.filterMap s.poweredOn.lossAt) :=
    fun may => by
      have start := may.start
      rw [split] at start
      rw [hu]
      exact State.startLanes_till pre s.poweredOn distinct start.prefix
  have lost : ∀ x ∈ pre.filterMap s.poweredOn.lossAt, x ∈ s.interrupted ∧ x.1 ≠ l := fun x mem => by
    obtain ⟨n, mem, loss⟩ := List.mem_filterMap.1 mem
    rw [State.poweredOn_lossAt] at loss
    refine ⟨?_, fun e => fresh (e ▸ State.lossAt_lane loss ▸ mem)⟩
    rw [State.interrupted_eq]
    exact List.mem_filterMap.2 ⟨n, mem_allLanes n, loss⟩
  refine ⟨pre, post, u, split, out, hu, ⟨lane.trans (s.poweredOn_lane l), frame.stamp.trans s.poweredOn_stamp,
    (frame .powerFail (by decide)).trans (s.poweredOn_frame .powerFail (by decide)), fun holds => ?_,
    fun none_ => ?_, fun may => ?_, fun may k mounted others => ?_⟩, whole, record⟩
  · have ready := State.poweredOn_faultsHold holds
    rw [hu]
    exact ⟨State.startLanes_faultsHold pre ready,
      (State.startLanes_activeOf pre ready fresh).trans (State.poweredOn_activeOf _)⟩
  · rw [hu]
    exact State.startLanes_noReports pre ((State.poweredOn_activeOf _).trans none_) fresh
  · have ready := may.start.held l (mem_allLanes l)
    have after := ready.after (step may) lane fun y loss x mem => by
      obtain ⟨n, mem, loss'⟩ := List.mem_filterMap.1 mem
      exact may.start.apart n (mem_allLanes n) l (mem_allLanes l) (fun e => fresh (e ▸ mem)) x y loss' loss
    exact ⟨after.1, after.2.trans (s.poweredOn_lossAt l)⟩
  · exact (step may).mounted lane ((s.poweredOn_mounted l).trans mounted) fun x mem =>
      others x (lost x mem).1 (lost x mem).2

/-- The tickets lost, one by one. -/
theorem State.mem_interrupted {x : LaneId × InFlight × Pack} : x ∈ s.interrupted ↔
    (s.lane x.1).inflight = some x.2.1 ∧ x.2.1.begun = true ∧ s.mounted x.1 = some x.2.2 := by
  rw [State.interrupted_eq, List.mem_filterMap]
  obtain ⟨l, r, k⟩ := x
  constructor
  · rintro ⟨n, -, loss⟩
    have own := State.lossAt_lane loss
    obtain rfl : l = n := own
    cases record : (s.lane l).inflight with
    | none =>
      rw [State.lossAt_none record] at loss
      cases loss
    | some q =>
      cases begun : q.begun with
      | false =>
        rw [State.lossAt_unbegun record begun] at loss
        cases loss
      | true =>
        cases mounted : s.mounted l with
        | none =>
          unfold State.lossAt at loss
          rw [record, mounted] at loss
          cases loss
        | some p =>
          rw [State.lossAt_begun record begun mounted] at loss
          cases loss
          exact ⟨rfl, begun, rfl⟩
  · rintro ⟨record, begun, mounted⟩
    exact ⟨l, mem_allLanes l, State.lossAt_begun record begun mounted⟩

end

end Sys2Proof.Machine
end

section
/-! SUPPORT. O59 settled, clause by clause. -/

set_option Elab.async false

namespace Sys2Proof.Machine

section
variable {s t : State} {l : LaneId} {r : InFlight} {k : Pack} {e : Nat}

/-- The state power-on with the store VALID ends in. -/
def State.powered (s : State) : State := allLanes.foldl State.startLane s.poweredOn

theorem State.powered_unmounted (pack : (s.lane l).pack = none) :
    (s.powered.lane l).state = .offline ∧ (s.powered.lane l).cabinetSeen = (s.lane l).cabinetPin := by
  obtain ⟨-, -, u, -, -, -, from_, -, record⟩ := s.powerOn_at l
  obtain ⟨y, to_, -, -, seen, state⟩ := u.startLane_to l
  have lane : s.powered.lane l = y := record.trans to_.self
  rw [lane, seen, state (by rw [from_.lane]; exact pack), from_.lane]
  exact ⟨rfl, rfl⟩

theorem State.powered_inflight (kept : (s.lane l).keptWf = true) : (s.powered.lane l).inflight = none := by
  obtain ⟨-, -, u, -, -, -, from_, -, record⟩ := s.powerOn_at l
  obtain ⟨y, to_, none_, -⟩ := u.startLane_to l
  have lane : s.powered.lane l = y := record.trans to_.self
  rw [lane]
  refine none_ ?_
  rw [from_.lane]
  cases pack : (s.lane l).pack with
  | none =>
    refine .inr (Option.not_isSome_iff_eq_none.1 fun some_ => ?_)
    have bound := (Lane.keptWf_iff _).1 kept some_
    rw [pack] at bound
    cases bound
  | some n => exact .inl (by rw [show (s.lane l).retained.pack = (s.lane l).pack from rfl, pack]; rfl)

/-- A lane with no begun ticket, its cabinet locked and its pack not out of stock, primes. -/
theorem State.powered_primed (may : s.mayPowerOn) (mounted : s.mounted l = some k)
    (others : ∀ x ∈ s.interrupted, x.1 ≠ l → x.2.2.number ≠ k.number)
    (unbegun : ∀ r, (s.lane l).inflight = some r → r.begun = false)
    (locked : (s.lane l).cabinetPin = .locked) (unused : k.counters.unused ≠ 0)
    (next : k.lowestUnused k.first = some e) :
    (s.powered.lane l).state = .priming ∧ (s.powered.lane l).awaiting = some .read ∧
      (s.powered.lane l).head = .unverified ∧ (s.powered.lane l).position = k.first := by
  obtain ⟨-, -, u, -, -, -, from_, -, record⟩ := s.powerOn_at l
  have lane : s.powered.lane l = (u.startLane l).lane l := record
  rw [lane]
  exact State.startLane_primed (fun r at_ => unbegun r (by rw [from_.lane] at at_; exact at_))
    (by rw [from_.lane]; exact locked) (from_.mounted may k mounted others) unused next

/-- What a lost ticket's lane is left in (04 R75, R90). -/
theorem State.powered_lost (may : s.mayPowerOn) {x : LaneId × InFlight × Pack} (mem : x ∈ s.interrupted) :
    (s.powered.lane x.1).head = .notPositioned ∧ (s.powered.lane x.1).position = x.2.2.first ∧
    (s.activeOf (.lane x.1) = [] → s.powered.showsFault x.1 .powerInterrupted
      { pack := some x.2.2.number
        serial := some x.2.1.serial
        job := some (x.2.1.window, x.2.1.slot) }) ∧
    (s.faultsHold → x.2.2.wf = true →
      if x.2.2.counters.unused = 1 then
        (s.powered.lane x.1).state = .faulted ∧ (s.powered.lane x.1).awaiting = none
      else if s.powerFail = true then
        (s.powered.lane x.1).state = .feeding ∧ (s.powered.lane x.1).deferred = some .feed
      else if (s.lane x.1).stockPin = true then
        (s.powered.lane x.1).state = .feeding ∧ (s.powered.lane x.1).awaiting = some .feed
      else (s.powered.lane x.1).state = .faulted ∧ (s.powered.lane x.1).awaiting = none) := by
  obtain ⟨l, r, k⟩ := x
  obtain ⟨begins, begun, mounted⟩ := State.mem_interrupted.1 mem
  obtain ⟨pre, post, u, split, out, -, from_, whole, record⟩ := s.powerOn_at l
  have lane : s.powered.lane l = (u.startLane l).lane l := record
  have begins' : (u.lane l).inflight = some r := by rw [from_.lane]; exact begins
  obtain ⟨held, loss⟩ := from_.held may
  obtain ⟨k', mounted', found, unused⟩ := held r begins' begun
  obtain rfl : k' = k := by
    rw [State.lossAt_begun begins' begun mounted', State.lossAt_begun begins begun mounted] at loss
    cases loss
    rfl
  obtain ⟨head, position, state⟩ := State.startLane_lost begins' begun mounted' found unused from_.stamp
  dsimp only
  rw [lane]
  refine ⟨head, position, fun none_ => ?_, fun holds wf => ?_⟩
  · have pack : (u.lane l).pack = some k'.number := (State.mountedPack_eq mounted').1
    have shows := State.startLane_shows begins' begun (by rw [pack]; rfl) (from_.noReports none_)
    rw [pack] at shows
    unfold State.powered
    rw [whole]
    exact State.showsFault.startLanes (by nofun) post shows
  · have after := state (from_.faults holds).1 wf (by rw [from_.lane]; rfl)
    rw [from_.warning, from_.lane] at after
    exact after

/-- The ACTIVE reports of a lane are those its own start left. -/
theorem State.powered_reports (holds : s.faultsHold) (l : LaneId) : ∃ u, s.startsFrom u l ∧
    s.powered.activeOf (.lane l) = (u.startLane l).activeOf (.lane l) := by
  obtain ⟨-, post, u, -, out, -, from_, whole, -⟩ := s.powerOn_at l
  refine ⟨u, from_, ?_⟩
  unfold State.powered
  rw [whole]
  exact State.startLanes_activeOf post (State.startLane_faultsHold l (from_.faults holds).1) out

/-- The cleared CABINET_OPEN report of a lane stands in a list with room. -/
theorem State.powered_clears {x : Report} (holds : s.faultsHold) (locked : (s.lane l).cabinetPin = .locked)
    (mem : x ∈ s.activeOf (.lane l)) (cabinet : x.kind = .cabinetOpen) (last : x.lastOther = none)
    (few : s.faults.length ≤ 56) (unbegun : ∀ i, (s.lane l).inflight = some i → i.begun = false) :
    { x with state := .cleared, how := some .self, cleared := some ⟨0, 0, 0⟩, primary := none } ∈
      s.powered.faults := by
  obtain ⟨pre, post, u, split, -, hu, from_, whole, -⟩ := s.powerOn_at l
  have four : pre.length + (post.length + 1) = 4 := by
    have length := congrArg List.length split
    rw [List.length_append, List.length_cons] at length
    exact length.symm
  obtain ⟨holds', active⟩ := from_.faults holds
  have ready := State.poweredOn_faultsHold holds
  have before := (State.startLanes_room pre (n := 56) ready (by rw [s.poweredOn_faults.1]; exact few)
    (by omega)).1
  rw [← hu] at before
  have own := (State.startLane_room (l := l) (n := 56 + 2 * pre.length + 2) holds' (by omega) (by omega)).1
  have cleared := State.startLane_clears (by rw [from_.lane]; exact locked)
    (fun i at_ => unbegun i (by rw [from_.lane] at at_; exact at_)) from_.stamp (by rw [active]; exact mem)
    cabinet last
  unfold State.powered
  rw [whole]
  exact (State.startLanes_room post (State.startLane_faultsHold l holds') own (by omega)).2 _ cleared rfl

theorem Pack.spoiledBy_nil (p : Pack) : p.spoiledBy [] = p := rfl

/-- With at most one ticket on a pack, the pack after it is lost. -/
theorem State.powered_pack (may : s.mayPowerOn) {x : LaneId × InFlight × Pack} (mem : x ∈ s.interrupted) :
    s.powered.findPack x.2.2.number = some
      { x.2.2.remark x.2.1.serial .unused .spoiled with references := x.2.2.references + 1 } := by
  obtain ⟨-, -, -, -, packs⟩ := may.books (t := s.powered) rfl
  obtain ⟨-, -, mounted⟩ := State.mem_interrupted.1 mem
  have found := (State.mountedPack_eq mounted).2
  rw [State.findPack_map packs (fun p _ => Pack.spoiledBy_number p _), found, Option.map_some]
  have first : s.interrupted.find? (fun y => y.2.2.number == x.2.2.number) = some x := by
    cases at_ : s.interrupted.find? fun y => y.2.2.number == x.2.2.number with
    | none => exact absurd (List.find?_eq_none.1 at_ x mem) (by simp)
    | some y =>
      have there := List.mem_of_find?_eq_some at_
      have named : y.2.2.number = x.2.2.number := by simpa using List.find?_some at_
      have loss : ∀ z ∈ s.interrupted, s.lossAt z.1 = some z := fun z hz => by
        obtain ⟨record, begun, mounted⟩ := State.mem_interrupted.1 hz
        exact State.lossAt_begun record begun mounted
      by_cases same : y.1 = x.1
      · have both := (loss y there).symm.trans ((congrArg s.lossAt same).trans (loss x mem))
        exact congrArg some (Option.some.inj both)
      · exact absurd named (may.apart y.1 (mem_allLanes _) x.1 (mem_allLanes _) same y x (loss y there)
          (loss x mem))
  unfold Pack.spoiledBy
  rw [first]

/-- The rules of the stock, the bindings and the tickets' blanks let the part power on. -/
theorem State.mayPowerOn_of_rules (stock : s.stockHolds) (bindings : s.bindingsHold)
    (kept : ∀ l, (s.lane l).keptWf = true)
    (held : ∀ l r, (s.lane l).inflight = some r → r.begun = true →
      ∃ k, s.mounted l = some k ∧ k.markOf r.serial = some .unused) :
    s.mayPowerOn ∧ ∀ l m k k', l ≠ m → s.mounted l = some k → s.mounted m = some k' → k.number ≠ k'.number := by
  have apart : ∀ l m k k', l ≠ m → s.mounted l = some k → s.mounted m = some k' → k.number ≠ k'.number := by
    intro l m k k' differ mounted mounted' same
    obtain ⟨pack, found⟩ := State.mountedPack_eq mounted
    obtain ⟨pack', -⟩ := State.mountedPack_eq mounted'
    obtain ⟨p, found1, -, lane1⟩ := bindings.1 l _ pack
    obtain ⟨q, found2, -, lane2⟩ := bindings.1 m _ pack'
    rw [← same, found1] at found2
    cases found2
    exact differ (Option.some.inj (lane1.symm.trans lane2))
  refine ⟨⟨kept, fun l r record begun => ?_, fun l _ m _ differ x y loss loss' => ?_⟩, apart⟩
  · obtain ⟨k, mounted, unused⟩ := held l r record begun
    exact ⟨k, mounted, State.packOf_of_markOf stock (State.mountedPack_eq mounted).2 unused, unused⟩
  · have memOf : ∀ {n z}, s.lossAt n = some z → s.mounted n = some z.2.2 := fun {n z} loss => by
      have own := State.lossAt_lane loss
      have mem : z ∈ s.interrupted := by
        rw [State.interrupted_eq]
        exact List.mem_filterMap.2 ⟨n, mem_allLanes n, loss⟩
      rw [← own]
      exact (State.mem_interrupted.1 mem).2.2
    exact apart l m _ _ differ (memOf loss) (memOf loss')

/-- With no begun ticket nothing need be asked of the stock. -/
theorem State.mayPowerOn_of_idle (idle : ∀ l, (s.lane l).inflight = none) :
    s.mayPowerOn ∧ s.interrupted = [] := by
  have losses : ∀ l, s.lossAt l = none := fun l => State.lossAt_none (idle l)
  refine ⟨⟨fun l => ?_, fun l r record => ?_, fun l _ m _ _ x y loss => ?_⟩, ?_⟩
  · rw [Lane.keptWf_iff, idle l]
    nofun
  · rw [idle l] at record
    cases record
  · rw [losses l] at loss
    cases loss
  · rw [State.interrupted_eq]
    exact List.filterMap_eq_nil_iff.2 fun l _ => losses l

/-- With one lane's ticket in flight, the lane's own pack is all that is asked for. -/
theorem State.mayPowerOn_of_one (record : (s.lane l).inflight = some r) (begun : r.begun = true)
    (others : ∀ m, m ≠ l → (s.lane m).inflight = none) (mounted : s.mounted l = some k)
    (found : s.packOf k.cls r.serial = some k) (unused : k.markOf r.serial = some .unused) :
    s.mayPowerOn ∧ s.interrupted = [(l, r, k)] := by
  have loss := State.lossAt_begun record begun mounted
  have losses : ∀ m, s.lossAt m = if m = l then some (l, r, k) else none := fun m => by
    split
    · rename_i same
      rw [same]
      exact loss
    · exact State.lossAt_none (others m ‹_›)
  refine ⟨⟨fun m => ?_, fun m q at_ _ => ?_, fun m _ n _ differ x y loss loss' => ?_⟩, ?_⟩
  · rw [Lane.keptWf_iff]
    by_cases same : m = l
    · rw [same, (State.mountedPack_eq mounted).1]
      exact fun _ => rfl
    · rw [others m same]
      nofun
  · by_cases same : m = l
    · subst same
      cases record.symm.trans at_
      exact ⟨k, mounted, found, unused⟩
    · rw [others m same] at at_
      cases at_
  · rw [losses] at loss loss'
    split at loss
    · split at loss'
      · exact absurd (‹m = l›.trans ‹n = l›.symm) differ
      · cases loss'
    · cases loss
  · rw [State.interrupted_eq, List.filterMap_congr fun m _ => losses m]
    fin_cases l <;> rfl

end

end Sys2Proof.Machine
end

section
/-! SUPPORT. O59 settled, its clauses put together. -/

set_option Elab.async false

namespace Sys2Proof.Machine

section
variable {s : State}

/-- The parts the start of the lanes reaches. -/
theorem State.startedLanes_frame (xs : List LaneId) (s : State) : s.changesOnly (xs.foldl State.startLane s)
    [.packs, .census, .sessions, .journal, .faults, .queues, .lanes] :=
  State.changesOnly_foldl _ (fun s l => by
    obtain ⟨y, to_, -⟩ := s.startLane_to l
    exact to_.frame) xs s

/-- What power-on leaves whatever the lanes held (01 R18; 02 R31; 03 R66; 11 R194). -/
theorem State.powered_still (s : State) :
    s.powered.phase = .running ∧ s.powered.storeValid = true ∧ s.powered.runTime = 0 ∧
    s.powered.clock = ⟨0, 0, false⟩ ∧ s.powered.census.state = .idle ∧ s.powered.scanner = 0 ∧
    (∀ w k, s.powered.slot w k = ⟨false, none⟩) ∧ s.powered.grants = s.grants ∧
    s.powered.discounts = s.discounts ∧ s.powered.limits = s.limits ∧ s.powered.nextPack = s.nextPack ∧
    s.powered.powerFail = s.powerFail ∧ s.powered.pending = s.pending := by
  have lanes : s.poweredOn.changesOnly s.powered [.packs, .census, .sessions, .journal, .faults, .queues, .lanes] :=
    State.startedLanes_frame allLanes s.poweredOn
  have census : s.powered.census.state = s.poweredOn.census.state := by
    rw [State.powered, State.startLanes_census]
  have valid : s.poweredOn.storeValid = true := (s.tillStarted_frame .store (by decide)).1
  obtain ⟨b, hb⟩ : ∃ b : State, b = { s.volatileLost with phase := .running } := ⟨_, rfl⟩
  have before : b.changesOnly s.poweredOn [.receivers, .queues, .forms, .sessions, .journal, .store] :=
    by rw [hb]; exact s.poweredOn_frame
  have slot : ∀ w k, b.slot w k = ⟨false, none⟩ := fun w k => by
    rw [hb]
    exact s.volatileLost_slot w k
  generalize s.powered = t at lanes census ⊢
  generalize s.poweredOn = u at lanes census valid before
  have same : b.phase = .running ∧ b.runTime = 0 ∧ b.clock = ⟨0, 0, false⟩ ∧ b.census.state = .idle ∧
      b.scanner = 0 ∧ b.grants = s.grants ∧ b.discounts = s.discounts ∧ b.limits = s.limits ∧
      b.nextPack = s.nextPack ∧ b.powerFail = s.powerFail ∧ b.pending = s.pending := by
    rw [hb]
    exact ⟨rfl, rfl, rfl, rfl, rfl, rfl, rfl, rfl, rfl, rfl, rfl⟩
  obtain ⟨phase, runTime, clock, idle, scanner, grants, discounts, limits, nextPack, warning, pending⟩ := same
  have kept : b.changesOnly t [.receivers, .queues, .forms, .sessions, .journal, .store, .packs, .census,
    .faults, .lanes] := State.changesOnly_then before lanes
  exact ⟨(kept .phase (by decide)).trans phase, ((lanes .store (by decide)).1).trans valid,
    (kept .runTime (by decide)).trans runTime, (kept .clock (by decide)).trans clock,
    census.trans ((congrArg Census.state (before .census (by decide))).trans idle),
    (kept .scanner (by decide)).trans scanner, fun w k => (kept.slot w k).trans (slot w k),
    (kept .grants (by decide)).trans grants, (kept .discounts (by decide)).trans discounts,
    (kept .limits (by decide)).trans limits, (kept .nextPack (by decide)).trans nextPack,
    (kept .powerFail (by decide)).trans warning, (kept .pending (by decide)).trans pending⟩

theorem State.powered_port (s : State) (p : Port) : (s.powered.port p).rx = .hunting ∧
    (s.powered.port p).tx = none ∧ ⟨.controllerStart, .controller, none⟩ ∈ (s.powered.port p).queue := by
  obtain ⟨rx, tx, start⟩ := s.poweredOn_port p
  obtain ⟨rx', tx'⟩ := State.startedLanes_frame allLanes s.poweredOn .receivers (by decide) p
  refine ⟨rx'.trans rx, tx'.trans tx, ?_⟩
  exact (State.startLanes_grow allLanes s.poweredOn p).2 _ ⟨rfl, rfl⟩ start

theorem State.powered_form (s : State) (f : Fin 8) :
    (∀ d, (s.form f).pending = some d → s.powered.form f = ⟨some d, none,
      if (s.form f).generation = 255 then 1 else (s.form f).generation + 1, 0, 0⟩) ∧
    ((s.form f).pending = none → s.powered.form f = { s.form f with useCount := 0, waitingCount := 0 }) := by
  have form : s.powered.form f = (s.form f).uncounted.atStart :=
    ((State.startedLanes_frame allLanes s.poweredOn).form f).trans (s.poweredOn_form f)
  rw [form]
  unfold FormRecord.atStart
  have pending : (s.form f).uncounted.pending = (s.form f).pending := rfl
  rw [pending]
  refine ⟨fun d held => ?_, fun none_ => ?_⟩
  · rw [held, Option.isSome_some, if_pos rfl]
    unfold FormRecord.applied
    rw [pending, held]
    rfl
  · rw [none_]
    rfl

/-- One begun ticket in flight, spoiled at power-on. -/
theorem State.powered_one {l : LaneId} {r : InFlight} {k : Pack} (record : (s.lane l).inflight = some r)
    (begun : r.begun = true) (others : ∀ m, m ≠ l → (s.lane m).inflight = none)
    (mounted : s.mounted l = some k) (found : s.packOf k.cls r.serial = some k)
    (unused : k.markOf r.serial = some .unused) :
    ∃ q, s.powered.findPack k.number = some q ∧ q.markOf r.serial = some .spoiled ∧
      q.references = k.references + 1 ∧ s.otherPacks s.powered k.number ∧
      s.powered.journal = s.journal.map (fun e => { e with beforePowerOn := true }) ++
        [⟨r.window, (s.entriesOf r.window).length + 1,
          ⟨.spoil, k.cls, r.serial, k.number, 0, none, r.quantity, r.form, r.slot⟩, ⟨0, 0, 0⟩, false⟩] ∧
      s.powered.session r.window = { s.session r.window with
        inProgress := none
        spoiledCount := (s.session r.window).spoiledCount + 1
        reserved := 0 } ∧
      s.powered.journalReserved = 0 ∧ (s.powered.lane l).inflight = none ∧
      (s.powered.lane l).head = .notPositioned ∧
      (s.activeOf (.lane l) = [] → ∃ x ∈ s.powered.activeOf (.lane l), x.kind = .powerInterrupted ∧ x.context =
        { pack := some k.number
          serial := some r.serial
          job := some (r.window, r.slot) }) := by
  obtain ⟨may, one⟩ := State.mayPowerOn_of_one record begun others mounted found unused
  obtain ⟨journal, -, reserved, sessions, packs⟩ := may.books (t := s.powered) rfl
  have mem : (l, r, k) ∈ s.interrupted := by rw [one]; exact List.mem_singleton_self _
  obtain ⟨head, -, shows, -⟩ := State.powered_lost may mem
  have pack := State.powered_pack may mem
  have inflight := State.powered_inflight (may.kept l)
  generalize s.powered = t at *
  rw [one] at journal sessions packs
  have marks := Pack.remark_unused (new := .spoiled) unused (by nofun)
  refine ⟨_, pack, marks.1, rfl, fun n other => ?_, journal, ?_, reserved, inflight, head, fun none_ => ?_⟩
  · rw [State.findPack_map packs (fun p _ => Pack.spoiledBy_number p _)]
    cases there : s.findPack n with
    | none => rfl
    | some p =>
      have number := (State.mem_of_findPack there).2
      exact congrArg some (Pack.spoiledBy_other fun x mem => by
        rw [List.mem_singleton.1 mem, number]
        exact Ne.symm other)
  · rw [sessions, lostOf_cons, if_pos rfl]
    rfl
  · obtain ⟨y, mem, kind, -, context⟩ := shows none_
    exact ⟨y, mem, kind, context⟩

/-- Any number of begun tickets in flight, each spoiled on its own lane. -/
theorem State.powered_many (stock : s.stockHolds) (bindings : s.bindingsHold) (faults : s.faultsHold)
    (kept : ∀ l, (s.lane l).keptWf = true)
    (held : ∀ l r, (s.lane l).inflight = some r → r.begun = true →
      ∃ k, s.mounted l = some k ∧ k.markOf r.serial = some .unused) :
    (∀ l, (s.powered.lane l).inflight = none) ∧
    s.powered.journal = s.journal.map (fun e => { e with beforePowerOn := true }) ++
      s.interrupted.zipIdx.map (fun x => ⟨x.1.2.1.window,
        (s.entriesOf x.1.2.1.window).length + lostOf (s.interrupted.take x.2) x.1.2.1.window + 1,
        ⟨.spoil, x.1.2.2.cls, x.1.2.1.serial, x.1.2.2.number, 0, none, x.1.2.1.quantity,
          x.1.2.1.form, x.1.2.1.slot⟩, ⟨0, 0, 0⟩, false⟩) ∧
    s.powered.journalInUse = s.journalInUse + s.interrupted.length ∧ s.powered.journalReserved = 0 ∧
    (∀ w, s.powered.session w = { s.session w with
      inProgress := none
      spoiledCount := (s.session w).spoiledCount + lostOf s.interrupted w
      reserved := 0 }) ∧
    (∀ k ∈ s.packs, (∀ x ∈ s.interrupted, x.2.2.number ≠ k.number) →
      s.powered.findPack k.number = some k) ∧
    (∀ x ∈ s.interrupted, ∃ q, s.powered.findPack x.2.2.number = some q ∧
      q.references = x.2.2.references + 1 ∧
      (∀ r, q.markOf r = if r = x.2.1.serial then some .spoiled else x.2.2.markOf r) ∧
      (s.powered.lane x.1).position = x.2.2.first ∧ (s.powered.lane x.1).head = .notPositioned ∧
      (s.activeOf (.lane x.1) = [] → ∃ y ∈ s.powered.activeOf (.lane x.1), y.kind = .powerInterrupted ∧
        y.primary = none ∧ y.context =
          { pack := some x.2.2.number, serial := some x.2.1.serial, job := some (x.2.1.window, x.2.1.slot) }) ∧
      (if x.2.2.counters.unused = 1 then
        (s.powered.lane x.1).state = .faulted ∧ (s.powered.lane x.1).awaiting = none
      else if s.powerFail = true then
        (s.powered.lane x.1).state = .feeding ∧ (s.powered.lane x.1).deferred = some .feed
      else if (s.lane x.1).stockPin = true then
        (s.powered.lane x.1).state = .feeding ∧ (s.powered.lane x.1).awaiting = some .feed
      else (s.powered.lane x.1).state = .faulted ∧ (s.powered.lane x.1).awaiting = none)) ∧
    ∀ l k e, s.mounted l = some k → (∀ r, (s.lane l).inflight = some r → r.begun = false) →
      (s.lane l).cabinetPin = .locked → k.lowestUnused k.first = some e →
      (s.powered.lane l).state = .priming ∧ (s.powered.lane l).awaiting = some .read ∧
      (s.powered.lane l).head = .unverified ∧ (s.powered.lane l).position = k.first := by
  obtain ⟨may, apart⟩ := State.mayPowerOn_of_rules stock bindings kept held
  obtain ⟨journal, inUse, reserved, sessions, packs⟩ := may.books (t := s.powered) rfl
  have inflight := fun l => State.powered_inflight (kept l)
  have lost := fun x mem => State.powered_lost may (x := x) mem
  have pack := fun x mem => State.powered_pack may (x := x) mem
  have primed := fun l k e mounted others unbegun locked stocked next => State.powered_primed may (l := l)
    (k := k) (e := e) mounted others unbegun locked stocked next
  generalize s.powered = t at *
  obtain ⟨-, -, distinct, -⟩ := id stock
  refine ⟨inflight, journal, inUse, reserved, sessions, fun k mem others => ?_, fun x mem => ?_,
    fun l k e mounted unbegun locked next => ?_⟩
  · rw [State.findPack_map packs (fun p _ => Pack.spoiledBy_number p _),
      State.findPack_of_mem distinct mem, Option.map_some, Pack.spoiledBy_other others]
  · obtain ⟨record, begun, mounted⟩ := State.mem_interrupted.1 mem
    obtain ⟨k, mounted', unused⟩ := held x.1 x.2.1 record begun
    cases mounted.symm.trans mounted'
    obtain ⟨head, position, shows, state⟩ := lost x mem
    refine ⟨_, pack x mem, rfl, Pack.remark_markOf unused, position, head, fun none_ => ?_,
      state faults (State.wf_of_findPack stock (State.mountedPack_eq mounted).2)⟩
    obtain ⟨y, mem, kind, primary, context⟩ := shows none_
    exact ⟨y, mem, kind, primary, context⟩
  · have wf := State.wf_of_findPack stock (State.mountedPack_eq mounted).2
    have stocked := Pack.unused_ne_zero wf ((Pack.lowestUnused_first_iff wf e).1 next).1
    exact primed l k e mounted (fun x mem differ => apart x.1 l _ _ differ
      (State.mem_interrupted.1 mem).2.2 mounted) unbegun locked stocked next

end

/-- Settles O59: `State.mayPowerOn.books` gives the sessions, the journal and the stock, `State.powered_lost`
and `State.powered_primed` a lane's record, `State.powered_reports` its reports. -/
theorem powerOnWithTheStoreValid : Obligations.PowerOnWithTheStoreValid := by
  unfold Obligations.PowerOnWithTheStoreValid
  intro s agrees
  obtain ⟨phase, store, runTime, clock, census, scanner, slots, grants, discounts, limits, nextPack, warning,
    pending⟩ := s.powered_still
  refine ⟨s.powered, exec_powerOn_valid s agrees, phase, store, runTime, clock, census, scanner, slots,
    s.powered_port, s.powered_form, fun l pack => State.powered_unmounted pack, grants, discounts, limits,
    nextPack, warning, pending, fun idle => ?_, fun l r k record begun others mounted found unused => ?_,
    fun stock bindings faults kept held => ?_, fun faults l => ?_⟩
  · obtain ⟨may, none_⟩ := State.mayPowerOn_of_idle idle
    obtain ⟨journal, inUse, reserved, sessions, packs⟩ := may.books (t := s.powered) rfl
    rw [none_] at journal inUse sessions packs
    refine ⟨packs.trans (List.map_id'' Pack.spoiledBy_nil _), journal.trans (List.append_nil _), inUse, reserved,
      sessions, fun l k e mounted locked stocked next => ?_⟩
    refine State.powered_primed may mounted (fun x mem => ?_) (fun r record => ?_) locked stocked next
    · rw [none_] at mem
      cases mem
    · rw [idle l] at record
      cases record
  · exact State.powered_one record begun others mounted found unused
  · exact State.powered_many stock bindings faults kept held
  · obtain ⟨u, from_, reports⟩ := State.powered_reports faults l
    obtain ⟨-, active⟩ := from_.faults faults
    have pin : (u.lane l).cabinetPin = (s.lane l).cabinetPin := by rw [from_.lane]; rfl
    have pack : (u.lane l).pack = (s.lane l).pack := by rw [from_.lane]; rfl
    refine ⟨fun locked unfolded => ⟨?_, fun r mem cabinet last few unbegun =>
      State.powered_clears faults locked mem cabinet last few unbegun⟩, fun opened mounted => ?_,
      fun opened free => ?_⟩
    · rw [reports]
      refine State.startLane_noCabinet (pin.trans locked) ?_
      unfold State.noFolded
      rw [active]
      exact unfolded
    · rw [reports]
      exact State.startLane_showsCabinet (pin.trans opened) (by rw [pack]; exact mounted)
    · rw [reports, State.startLane_unmounted (pin.trans opened) (pack.trans free), active]

end Sys2Proof.Machine
end

section
/-! SUPPORT. Every step keeps the tables' entries in range: form definitions (02 R21 to R24), discount
entries (07 R130) and limits (11 Table 11.2). -/

set_option Elab.async false

namespace Sys2Proof

theorem FormDef.stored_valid {d : FormDef} (valid : d.valid = true) : d.stored.valid = true := by
  unfold FormDef.valid at valid ⊢
  have range : d.stored.inRange = d.inRange := by
    unfold FormDef.stored
    split_ifs <;> rfl
  rw [FormDef.stored_stored, range]
  exact valid

namespace Machine

/-! ## The form table -/

/-- A definition valid and kept as stored. -/
def definitionKept (d : FormDef) : Prop := d.valid = true ∧ d.stored = d

theorem definitionKept_stored {d : FormDef} (valid : d.valid = true) : definitionKept d.stored :=
  ⟨FormDef.stored_valid valid, d.stored_stored⟩

theorem FormRecord.wf_iff {r : FormRecord} : r.wf = true ↔
    (∀ d, r.current = some d → definitionKept d) ∧ (∀ d, r.pending = some d → definitionKept d) ∧
      (r.current = none ↔ r.generation = 0) ∧ r.generation ≤ 255 := by
  have undefined : (r.current.isNone == (r.generation == 0)) = true ↔
      (r.current = none ↔ r.generation = 0) := by
    rw [beq_iff_eq, Bool.eq_iff_iff, Option.isNone_iff_eq_none, beq_iff_eq]
  simp only [FormRecord.wf, Bool.and_eq_true, Option.all_eq_true, undefined, beq_iff_eq,
    decide_eq_true_eq, and_assoc, definitionKept]

theorem nextGeneration_range (g : Nat) : nextGeneration g ≠ 0 ∧ (g ≤ 255 → nextGeneration g ≤ 255) := by
  unfold nextGeneration
  split_ifs <;> omega

theorem FormRecord.wf_congr {r x : FormRecord} (current : x.current = r.current)
    (pending : x.pending = r.pending) (generation : x.generation = r.generation) (h : r.wf = true) :
    x.wf = true := by
  rw [FormRecord.wf_iff] at h ⊢
  rw [current, pending, generation]
  exact h

/-- A definition become current at the next generation. -/
theorem FormRecord.defined_wf {r x : FormRecord} {d : FormDef} (h : r.wf = true) (kept : definitionKept d)
    (current : x.current = some d) (generation : x.generation = nextGeneration r.generation)
    (pending : ∀ e, x.pending = some e → definitionKept e) : x.wf = true := by
  obtain ⟨-, -, -, range⟩ := FormRecord.wf_iff.1 h
  obtain ⟨positive, bounded⟩ := nextGeneration_range r.generation
  rw [FormRecord.wf_iff, current, generation]
  exact ⟨fun e he => Option.some.inj he ▸ kept, pending, iff_of_false nofun positive, bounded range⟩

theorem FormRecord.applied_wf {r : FormRecord} (h : r.wf = true) (due : r.pending.isSome = true) :
    r.applied.wf = true := by
  obtain ⟨d, pending⟩ := Option.isSome_iff_exists.1 due
  obtain ⟨-, kept, -⟩ := FormRecord.wf_iff.1 h
  exact FormRecord.defined_wf h (kept d pending) pending rfl nofun

section
variable {s t : State} {l : LaneId} {c : Instr} {a : List Part}

theorem State.formsHold_of_same (same : t.forms = s.forms) (h : s.formsHold) : t.formsHold := fun f => by
  rw [show t.form f = s.form f from congrArg (fun v => v[f]) same]
  exact h f

theorem State.setForm_formsHold {f : Fin 8} {x : FormRecord} (h : s.formsHold) (wf : x.wf = true) :
    (s.setForm f x).formsHold := fun g => by
  by_cases same : g = f
  · rw [same, State.setForm_form_self]
    exact wf
  · rw [State.setForm_form_ne _ same]
    exact h g

theorem State.setForm_posted_formsHold {f : Fin 8} {x : FormRecord} (h : s.formsHold) (wf : x.wf = true) :
    (s.setForm f x).postForms.formsHold :=
  State.formsHold_of_same ((State.postOffice_frame (s.setForm f x) _ _) .forms (by decide))
    (State.setForm_formsHold h wf)

theorem FormRecord.undefined_wf : FormRecord.undefined.wf = true := rfl

theorem Move.formsHold (m : Move l s t) (h : s.formsHold) : t.formsHold := by
  cases m with
  | form f x current pending generation =>
    exact State.setForm_formsHold h (FormRecord.wf_congr current pending generation (h f))
  | applied f due =>
    exact State.setForm_posted_formsHold h
      (FormRecord.applied_wf (h f) (Bool.and_eq_true_iff.1 due).2)
  | lane f => exact State.formsHold_of_same ((s.moveLane_frame l f) .forms (by decide)) h
  | told => exact State.formsHold_of_same (s.reportEligible_frame .forms (by decide)) h
  | slot w k x => exact State.formsHold_of_same ((s.setSlot_frame w k x) .forms (by decide)) h
  | outcome w k o => exact State.formsHold_of_same ((s.postOutcome_frame w k o) .forms (by decide)) h
  | mark cls serial new =>
    exact State.formsHold_of_same ((s.changeMark_frame cls serial new) .forms (by decide)) h
  | entry w d => exact State.formsHold_of_same ((s.writeEntry_frame w d) .forms (by decide)) h
  | reserved w n m => exact State.formsHold_of_same (s := s) rfl h
  | raised k c => exact State.formsHold_of_same ((s.raiseLane_frame l k c) .forms (by decide)) h
  | relocked => exact State.formsHold_of_same ((s.selfClear_frame l) .forms (by decide)) h
  | recovered how =>
    exact State.formsHold_of_same ((State.changesOnly_then (c := [.faults, .queues]) (s.mapReports_frame _)
      (State.postReport_frame _ _)) .forms (by decide)) h
  | counted => exact State.formsHold_of_same ((s.countRefusal_frame l) .forms (by decide)) h

theorem Deed.formsHold (d : Deed c a s t) (h : s.formsHold) : t.formsHold := by
  by_cases touched : Part.forms ∈ a
  swap
  · exact State.formsHold_of_same (d.frame .forms touched) h
  cases d with
  | move use l m => exact m.formsHold h
  | formPlaced _ f d valid =>
    obtain ⟨-, kept, -⟩ := FormRecord.wf_iff.1 (h f)
    exact State.setForm_posted_formsHold h
      (FormRecord.defined_wf (h f) (definitionKept_stored valid) rfl rfl kept)
  | formStored _ f d valid =>
    obtain ⟨current, -, undefined, range⟩ := FormRecord.wf_iff.1 (h f)
    exact State.setForm_posted_formsHold h (FormRecord.wf_iff.2
      ⟨current, fun e he => Option.some.inj he ▸ definitionKept_stored valid, undefined, range⟩)
  | reinitialised =>
    intro f
    rw [s.reinitialised_form f]
    exact FormRecord.undefined_wf
  | _ => exact absurd touched (by decide)

theorem FormRecord.started_wf {r : FormRecord} (h : r.wf = true) : r.uncounted.atStart.wf = true := by
  have counted : r.uncounted.wf = true := FormRecord.wf_congr (r := r) rfl rfl rfl h
  unfold FormRecord.atStart
  split
  · rename_i due
    exact FormRecord.applied_wf counted due
  · exact counted

/-! ## The discount table -/

theorem emptyDiscounts_wf : ∀ c : Fin 16, emptyDiscounts[c].wf = true := by decide

theorem State.discountsHold_of_same (same : t.discounts = s.discounts) (h : s.discountsHold) :
    t.discountsHold := by
  unfold State.discountsHold
  rw [same]
  exact h

theorem State.discountsHold_of_empty (empty : t.discounts = emptyDiscounts) : t.discountsHold := by
  unfold State.discountsHold
  rw [empty]
  exact ⟨rfl, emptyDiscounts_wf⟩

theorem Deed.discountsHold (d : Deed c a s t) (h : s.discountsHold) : t.discountsHold := by
  by_cases touched : Part.discounts ∈ a
  swap
  · exact State.discountsHold_of_same (d.frame .discounts touched) h
  obtain ⟨first, each⟩ := h
  cases d with
  | move use l m => exact absurd touched (by decide)
  | discount _ n e fixed wf =>
    refine ⟨?_, fun k => ?_⟩
    · have other : (n : Nat) ≠ 0 := fun zero => fixed (Fin.ext zero)
      exact (Vector.getElem_set_ne n.isLt (by decide) other).trans first
    · by_cases same : n = k
      · subst same
        exact (congrArg DiscountEntry.wf (Vector.getElem_set_self n.isLt)).trans wf
      · have other : (n : Nat) ≠ k := fun e => same (Fin.ext e)
        exact (congrArg DiscountEntry.wf (Vector.getElem_set_ne n.isLt k.isLt other)).trans (each k)
  | reinitialised => exact State.discountsHold_of_empty s.reinitialised_discounts
  | _ => exact absurd touched (by decide)

end

end Machine

end Sys2Proof
end

section
/-! SUPPORT. Every step keeps the limits clamped (11 Table 11.2) and each session's cash-up parts as its
state has them (09 R160). -/

set_option Elab.async false

namespace Sys2Proof.Machine

/-! ## The limits -/

/-- A wait limit in its range. -/
def waitFits (n : Nat) : Prop := n = 0 ∨ 5 ≤ n ∧ n ≤ 600

theorem Limits.wf_iff {x : Limits} : x.wf = true ↔
    (∀ w : Window, waitFits x.waits[w]) ∧ x.voidWindow ≤ 900 ∧ x.stockLow ≤ 255 ∧
      (∀ t, x.tolerances.get t ≤ 10000) ∧ 0x20 ≤ x.currencyMark.toNat := by
  have tenders : (∀ t, x.tolerances.get t ≤ 10000) ↔ x.tolerances.cash ≤ 10000 ∧
      x.tolerances.card ≤ 10000 ∧ x.tolerances.warrant ≤ 10000 ∧ x.tolerances.voucher ≤ 10000 :=
    ⟨fun h => ⟨h .cash, h .card, h .warrant, h .voucher⟩, fun ⟨a, b, c, d⟩ t => by cases t <;> assumption⟩
  have waits : (allWindows.all fun w => x.waits[w] == 0 || (5 ≤ x.waits[w] && x.waits[w] ≤ 600)) = true ↔
      ∀ w : Window, waitFits x.waits[w] := by
    simp only [List.all_eq_true, mem_allWindows, true_imp_iff, Bool.or_eq_true, beq_iff_eq,
      Bool.and_eq_true, decide_eq_true_eq, waitFits]
  rw [tenders]
  simp only [Limits.wf, Bool.and_eq_true, waits, decide_eq_true_eq, and_assoc]

theorem clampWait_fits (n : Nat) : waitFits (clampWait n) := by
  unfold clampWait waitFits
  split_ifs <;> omega

theorem setWait_fits {v : Vector Nat 6} (x : Nat × Nat) (h : ∀ w : Window, waitFits v[w]) (w : Window) :
    waitFits (setWait v x)[w] := by
  by_cases named : x.1 = w.val + 1
  · obtain ⟨n, m⟩ := x
    obtain rfl : n = w.val + 1 := named
    rw [setWait_named]
    exact clampWait_fits m
  · rw [setWait_other v w x named]
    exact h w

theorem setWaits_fit : ∀ (xs : List (Nat × Nat)) {v : Vector Nat 6}, (∀ w : Window, waitFits v[w]) →
    ∀ w : Window, waitFits (xs.foldl setWait v)[w]
  | [], _, h => h
  | x :: xs, _, h => setWaits_fit xs (setWait_fits x h)

theorem setTolerance_le {v : PerTender Nat} (x : Named Tender × Nat) (h : ∀ t, v.get t ≤ 10000)
    (t : Tender) : (setTolerance v x).get t ≤ 10000 := by
  by_cases named : x.1 = some t
  · obtain ⟨u, m⟩ := x
    obtain rfl : u = some t := named
    rw [setTolerance_named]
    exact Nat.min_le_right m 10000
  · rw [setTolerance_other v t x named]
    exact h t

theorem setTolerances_le : ∀ (xs : List (Named Tender × Nat)) {v : PerTender Nat},
    (∀ t, v.get t ≤ 10000) → ∀ t, (xs.foldl setTolerance v).get t ≤ 10000
  | [], _, h => h
  | x :: xs, _, h => setTolerances_le xs (setTolerance_le x h)

theorem Limits.with_wf {x : Limits} {b : LimitsBody} (h : x.wf = true) (passed : b.refused = false) :
    (x.with b).wf = true := by
  obtain ⟨waits, window, low, tolerances, mark⟩ := Limits.wf_iff.1 h
  refine Limits.wf_iff.2 ⟨setWaits_fit _ waits, ?_, ?_, setTolerances_le _ tolerances, ?_⟩
  · cases given : b.voidWindow with
    | none => simpa [Limits.with, given] using window
    | some n => simp [Limits.with, given, clampVoidWindow]
  · cases given : b.stockLow with
    | none => simpa [Limits.with, given] using low
    | some n => simp [Limits.with, given, clampStockLow]
  · cases given : b.currencyMark with
    | none => simpa [Limits.with, given] using mark
    | some m =>
      have notLow : ¬m.toNat < 0x20 := fun less => by
        rw [(limitsRefused_iff b).2 (.inr (.inr ⟨m, given, less⟩))] at passed
        cases passed
      simpa [Limits.with, given] using Nat.le_of_not_lt notLow

section
variable {s t : State} {l : LaneId} {c : Instr} {a : List Part}

theorem Deed.limitsHold (d : Deed c a s t) (h : s.limitsHold) : t.limitsHold := by
  by_cases touched : Part.limits ∈ a
  swap
  · exact (congrArg Limits.wf (d.frame .limits touched)).trans h
  cases d with
  | move use l m => exact absurd touched (by decide)
  | limits own _ b passed =>
    have kept := Limits.with_wf h passed
    split
    · exact kept
    · exact (congrArg Limits.wf ((State.postOffice_frame { s with limits := s.limits.with b }
        .storeChange .store) .limits (by decide))).trans kept
  | reinitialised => exact congrArg Limits.wf s.reinitialised_limits
  | _ => exact absurd touched (by decide)

/-! ## The sessions' cash-up parts -/

theorem Session.partsHold_congr {x y : Session} (state : y.state = x.state)
    (progress : y.inProgress = x.inProgress) (declaration : y.declaration = x.declaration)
    (result : y.result = x.result) (h : x.partsHold = true) : y.partsHold = true := by
  unfold Session.partsHold at h ⊢
  rw [state, progress, declaration, result]
  exact h

theorem Session.undeclared_partsHold {x : Session} (h : x.partsHold = true) :
    x.undeclared.partsHold = true := by
  have state : x.undeclared.state = x.state := rfl
  unfold Session.partsHold at h ⊢
  rw [state]
  cases held : x.state <;> simp_all [Session.undeclared]

theorem Session.withEntry_partsHold {x : Session} (d : EntryData) (h : x.partsHold = true) :
    (x.withEntry d).partsHold = true := by
  unfold Session.withEntry
  split <;> exact h

theorem State.sessionsHold_of_same (same : t.sessions = s.sessions) (h : s.sessionsHold) :
    t.sessionsHold := fun w => by
  rw [show t.session w = s.session w from congrArg (fun v => v[w]) same]
  exact h w

theorem State.setSession_sessionsHold {w : Window} {x : Session} (h : s.sessionsHold)
    (parts : x.partsHold = true) : (s.setSession w x).sessionsHold := fun v => by
  by_cases same : v = w
  · rw [same, State.setSession_session_self]
    exact parts
  · rw [s.setSession_session_ne same]
    exact h v

theorem State.setSession_posted_sessionsHold {w : Window} {x : Session} (h : s.sessionsHold)
    (parts : x.partsHold = true) : ((s.setSession w x).postSession w).sessionsHold :=
  State.sessionsHold_of_same
    ((State.postSession_frame (s.setSession w x) w) .sessions (by decide))
    (State.setSession_sessionsHold h parts)

theorem State.writeEntry_sessionsHold (w : Window) (d : EntryData) (h : s.sessionsHold) :
    (s.writeEntry w d).sessionsHold := fun v => by
  obtain ⟨session, others⟩ := s.writeEntry_session w d
  by_cases same : v = w
  · rw [same, session]
    exact Session.withEntry_partsHold d (h w)
  · rw [others v same]
    exact h v

theorem Move.sessionsHold (m : Move l s t) (h : s.sessionsHold) : t.sessionsHold := by
  cases m with
  | entry w d => exact State.writeEntry_sessionsHold w d h
  | reserved w n k =>
    exact State.sessionsHold_of_same (s := s.setSession w { s.session w with reserved := n }) rfl
      (State.setSession_sessionsHold h (Session.partsHold_congr rfl rfl rfl rfl (h w)))
  | form f x => exact State.sessionsHold_of_same (s := s) rfl h
  | applied f => exact State.sessionsHold_of_same ((State.postOffice_frame _ _ _) .sessions (by decide)) h
  | lane f => exact State.sessionsHold_of_same ((s.moveLane_frame l f) .sessions (by decide)) h
  | told => exact State.sessionsHold_of_same (s.reportEligible_frame .sessions (by decide)) h
  | slot w k x => exact State.sessionsHold_of_same ((s.setSlot_frame w k x) .sessions (by decide)) h
  | outcome w k o => exact State.sessionsHold_of_same ((s.postOutcome_frame w k o) .sessions (by decide)) h
  | mark cls serial new =>
    exact State.sessionsHold_of_same ((s.changeMark_frame cls serial new) .sessions (by decide)) h
  | raised k c => exact State.sessionsHold_of_same ((s.raiseLane_frame l k c) .sessions (by decide)) h
  | relocked => exact State.sessionsHold_of_same ((s.selfClear_frame l) .sessions (by decide)) h
  | recovered how =>
    exact State.sessionsHold_of_same ((State.changesOnly_then (c := [.faults, .queues])
      (s.mapReports_frame _) (State.postReport_frame _ _)) .sessions (by decide)) h
  | counted => exact State.sessionsHold_of_same ((s.countRefusal_frame l) .sessions (by decide)) h

/-- A declaration in progress with its number of items in range. -/
theorem DeclarationInProgress.begun_wf {n : Nat} (range : 1 ≤ n ∧ n ≤ 4) :
    DeclarationInProgress.wf ⟨n, []⟩ = true := by
  simp [DeclarationInProgress.wf, range]

theorem DeclarationInProgress.appended_wf {d : DeclarationInProgress} {t : Tender} {amount : Nat}
    (h : d.wf = true) (few : d.items.length < d.expected) (fresh : ∀ i ∈ d.items, i.1 ≠ t) :
    DeclarationInProgress.wf { d with items := d.items ++ [(t, amount)] } = true := by
  simp only [DeclarationInProgress.wf, Bool.and_eq_true, decide_eq_true_eq] at h ⊢
  obtain ⟨⟨range, -⟩, nodup⟩ := h
  refine ⟨⟨range, by simpa using few⟩, ?_⟩
  rw [List.map_append, List.map_singleton, List.nodup_append]
  refine ⟨nodup, List.nodup_singleton t, fun x hx y hy => ?_⟩
  obtain ⟨i, mem, rfl⟩ := List.mem_map.1 hx
  rw [List.mem_singleton.1 hy]
  exact fresh i mem

theorem Session.partsHold_declaring {x : Session} (declaring : x.state = .declaring) :
    x.partsHold = true ↔ (∀ d, x.inProgress = some d → d.wf = true) ∧ x.declaration = Option.none ∧
      x.result = Option.none := by
  unfold Session.partsHold
  rw [declaring]
  simp only [Bool.and_eq_true, Option.all_eq_true, Option.isNone_iff_eq_none, and_assoc]

theorem Session.partsHold_bare {x : Session} (bare : x.state = .none ∨ x.state = .opened) :
    x.partsHold = true ↔ x.inProgress = Option.none ∧ x.declaration = Option.none ∧
      x.result = Option.none := by
  unfold Session.partsHold
  rcases bare with e | e <;> rw [e] <;>
    simp only [Bool.and_eq_true, Option.isNone_iff_eq_none, and_assoc]

theorem Deed.sessionsHold (d : Deed c a s t) (h : s.sessionsHold) : t.sessionsHold := by
  by_cases touched : Part.sessions ∈ a
  swap
  · exact State.sessionsHold_of_same (d.frame .sessions touched) h
  cases d with
  | move use l m => exact m.sessionsHold h
  | dropped _ w => exact State.setSession_sessionsHold h (Session.undeclared_partsHold (h w))
  | undeclared =>
    intro w
    rw [show s.dropDeclarations.session w = (s.session w).undeclared from
      Vector.getElem_map _ w.isLt]
    exact Session.undeclared_partsHold (h w)
  | opened _ w b => exact State.setSession_posted_sessionsHold h rfl
  | begun _ w n range before =>
    obtain ⟨-, declaration, result⟩ := (Session.partsHold_bare (.inr before)).1 (h w)
    refine State.setSession_posted_sessionsHold h ((Session.partsHold_declaring rfl).2
      ⟨fun d hd => Option.some.inj hd ▸ DeclarationInProgress.begun_wf range, declaration, result⟩)
  | begunAgain _ w n range before =>
    obtain ⟨-, declaration, result⟩ := (Session.partsHold_declaring before).1 (h w)
    refine State.setSession_sessionsHold h ((Session.partsHold_declaring rfl).2
      ⟨fun d hd => Option.some.inj hd ▸ DeclarationInProgress.begun_wf range, declaration, result⟩)
  | item _ w d t amount before held few fresh =>
    obtain ⟨progress, declaration, result⟩ := (Session.partsHold_declaring before).1 (h w)
    refine State.setSession_sessionsHold h ((Session.partsHold_declaring (x := { s.session w with
      inProgress := some { d with items := d.items ++ [(t, amount)] } }) before).2
      ⟨fun e he => Option.some.inj he ▸ DeclarationInProgress.appended_wf (progress d held) few fresh,
        declaration, result⟩)
  | confirmed _ w d r before => exact State.setSession_posted_sessionsHold h rfl
  | collected _ w =>
    exact State.setSession_posted_sessionsHold
      (State.sessionsHold_of_same ((s.freeEntries_frame w) .sessions (by decide)) h) rfl
  | reopened _ w before =>
    have parts := h w
    unfold Session.partsHold at parts
    rw [before] at parts
    obtain ⟨⟨progress, -⟩, -⟩ := by simpa only [Bool.and_eq_true] using parts
    exact State.setSession_posted_sessionsHold h ((Session.partsHold_bare (.inr rfl)).2
      ⟨Option.isNone_iff_eq_none.1 progress, rfl, rfl⟩)
  | voided use _ w e =>
    exact State.writeEntry_sessionsHold w _
      (State.sessionsHold_of_same ((s.changeMark_frame _ _ _) .sessions (by decide)) h)
  | reinitialised =>
    intro w
    rw [s.reinitialised_session w]
    rfl
  | _ => exact absurd touched (by decide)

end

end Sys2Proof.Machine
end

section
/-! SUPPORT. The tables' entries stay in range at every command, the loss and the return of supply
included. -/

set_option Elab.async false

namespace Sys2Proof.Machine

section
variable {s t : State} {c : Instr}

/-- Power-on starts the lanes of the store as it stood, or the empty store (11 R194). -/
theorem exec_powerOn_cases (run : exec .powerOn s = .next t) :
    t = s.powered ∨ s.startedEmpty.changesOnly t [.faults, .queues, .receivers] := by
  cases run
  dsimp only
  split
  · rw [State.startValid_eq]
    exact .inl rfl
  · exact .inr (State.changesOnly_then (c := [.faults, .queues, .receivers])
      (State.changesOnly_then (c := [.faults, .queues]) (State.raiseController_frame
        s.startedEmpty .storeLost {}) (State.postOffice_frame _ .storeChange .store))
      (State.startPorts_frame _))

theorem State.powered_formsHold (h : s.formsHold) : s.powered.formsHold := fun f => by
  have form : s.powered.form f = (s.form f).uncounted.atStart :=
    ((State.startedLanes_frame allLanes s.poweredOn).form f).trans (s.poweredOn_form f)
  rw [form]
  exact FormRecord.started_wf (h f)

theorem State.startedEmpty_tables : (∀ f, s.startedEmpty.form f = .undefined) ∧
    s.startedEmpty.discounts = emptyDiscounts ∧ s.startedEmpty.limits = .default ∧
    ∀ w, s.startedEmpty.session w = .none :=
  ⟨fun f => Vector.getElem_replicate (n := 8) f.isLt, rfl, rfl,
    fun w => Vector.getElem_replicate (n := 6) w.isLt⟩

theorem State.startLanes_sessionsHold : ∀ (xs : List LaneId) {s : State}, s.sessionsHold →
    (xs.foldl State.startLane s).sessionsHold
  | [], _, h => h
  | l :: xs, s, h => State.startLanes_sessionsHold xs
      ((s.startLane_run l).keeps (fun _ _ => Move.sessionsHold)
        (State.sessionsHold_of_same ((s.setLane_frame l _) .sessions (by decide)) h))

theorem State.powered_sessionsHold (h : s.sessionsHold) : s.powered.sessionsHold := by
  refine State.startLanes_sessionsHold allLanes fun w => ?_
  rw [s.poweredOn_session w]
  exact Session.partsHold_congr rfl rfl rfl rfl (Session.undeclared_partsHold (h w))

/-- Every table's entries in range. -/
structure State.tablesHold (s t : State) : Prop where
  forms : s.formsHold → t.formsHold
  discounts : s.discountsHold → t.discountsHold
  limits : s.limitsHold → t.limitsHold
  sessions : s.sessionsHold → t.sessionsHold

theorem exec_tablesHold (run : exec c s = .next t) : s.tablesHold t := by
  by_cases power : isPower c = false
  · obtain ⟨u, queues, deeds⟩ := exec_deeds power run
    exact ⟨fun h => deeds.keeps (fun _ _ _ => Deed.formsHold)
        (State.formsHold_of_same (queues .forms (by decide)) h),
      fun h => deeds.keeps (fun _ _ _ => Deed.discountsHold)
        (State.discountsHold_of_same (queues .discounts (by decide)) h),
      fun h => deeds.keeps (fun _ _ _ => Deed.limitsHold)
        ((congrArg Limits.wf (queues .limits (by decide))).trans h),
      fun h => deeds.keeps (fun _ _ _ => Deed.sessionsHold)
        (State.sessionsHold_of_same (queues .sessions (by decide)) h)⟩
  · cases c
    case supplyLoss =>
      cases run
      refine ⟨fun h f => ?_, id, id, id⟩
      exact (congrArg FormRecord.wf (s.volatileLost_form f)).trans
        (FormRecord.wf_congr (r := s.form f) rfl rfl rfl (h f))
    case powerOn =>
      rcases exec_powerOn_cases run with e | empty
      · obtain ⟨-, -, -, -, -, -, -, -, discounts, limits, -⟩ := s.powered_still
        have forms := State.powered_formsHold (s := s)
        have sessions := State.powered_sessionsHold (s := s)
        rw [← e] at discounts limits forms sessions
        exact ⟨forms, State.discountsHold_of_same discounts,
          fun h => (congrArg Limits.wf limits).trans h, sessions⟩
      · obtain ⟨forms, discounts, limits, sessions⟩ := s.startedEmpty_tables
        have stored : t.discounts = s.startedEmpty.discounts := empty .discounts (by decide)
        have kept : t.limits = s.startedEmpty.limits := empty .limits (by decide)
        refine ⟨fun _ f => ?_, fun _ => State.discountsHold_of_empty (stored.trans discounts),
          fun _ => congrArg Limits.wf (kept.trans limits), fun _ w => ?_⟩
        · rw [empty.form f, forms]
          exact FormRecord.undefined_wf
        · rw [empty.session w, sessions]
          rfl
    all_goals exact absurd rfl power

end

end Sys2Proof.Machine
end

section
/-! SUPPORT. Sums over the Job Table, and a form's counts against the jobs bound to it (02 R21, R27 to
R29). -/

set_option Elab.async false

namespace Sys2Proof.Machine

/-! ## Sums over the windows and the slots -/

/-- Two sums whose terms differ at one place. -/
theorem sum_differ_at {α : Type} [Fintype α] [DecidableEq α] {f g : α → Nat} (a : α)
    (elsewhere : ∀ x, x ≠ a → g x = f x) : (∑ x, g x) + f a = (∑ x, f x) + g a := by
  have rest : ∑ x ∈ Finset.univ.erase a, g x = ∑ x ∈ Finset.univ.erase a, f x :=
    Finset.sum_congr rfl fun x hx => elsewhere x (Finset.ne_of_mem_erase hx)
  have hf := Finset.add_sum_erase Finset.univ f (Finset.mem_univ a)
  have hg := Finset.add_sum_erase Finset.univ g (Finset.mem_univ a)
  omega

theorem sum_allWindows (f : Window → Nat) : (allWindows.map f).sum = ∑ w, f w := by
  simp [allWindows, Fin.sum_univ_six, add_assoc]

theorem sum_allSlots (f : SlotId → Nat) : (allSlots.map f).sum = ∑ k, f k := by
  simp [allSlots, Fin.sum_univ_eight, add_assoc]

theorem sum_allLanes (f : LaneId → Nat) : (allLanes.map f).sum = ∑ l, f l := by
  simp [allLanes, Fin.sum_univ_four, add_assoc]

/-- A value of the job in a slot, 0 where it is EMPTY. -/
def worth (v : Window → Job → Nat) (w : Window) (o : Option Job) : Nat := (o.map (v w)).getD 0

/-- A value summed over the jobs of the table. -/
def State.tally (s : State) (v : Window → Job → Nat) : Nat :=
  ∑ x : Window × SlotId, worth v x.1 (s.job x.1 x.2)

section
variable {s t : State} {w : Window} {k : SlotId}

theorem State.jobs_sum (v : Window → Job → Nat) :
    (s.jobs.map fun x => v x.1 x.2.2).sum = s.tally v := by
  unfold State.jobs State.tally
  rw [sum_flatMap, sum_allWindows, Fintype.sum_prod_type]
  refine Finset.sum_congr rfl fun w _ => ?_
  rw [sum_filterMap, sum_allSlots]
  refine Finset.sum_congr rfl fun k _ => ?_
  unfold worth
  cases s.job w k <;> rfl

/-- One slot changed: the sum moves by its job's value. -/
theorem State.tally_change (v : Window → Job → Nat) (others : ∀ u i, (u, i) ≠ (w, k) → t.job u i = s.job u i) :
    t.tally v + worth v w (s.job w k) = s.tally v + worth v w (t.job w k) :=
  sum_differ_at (f := fun x : Window × SlotId => worth v x.1 (s.job x.1 x.2))
    (g := fun x => worth v x.1 (t.job x.1 x.2)) (w, k) fun x other =>
      congrArg (worth v x.1) (others x.1 x.2 other)

theorem State.tally_congr (v : Window → Job → Nat) (same : ∀ u i, t.job u i = s.job u i) :
    t.tally v = s.tally v :=
  Finset.sum_congr rfl fun x _ => congrArg (worth v x.1) (same x.1 x.2)

theorem State.worth_le_tally (v : Window → Job → Nat) : worth v w (s.job w k) ≤ s.tally v :=
  Finset.single_le_sum (f := fun x : Window × SlotId => worth v x.1 (s.job x.1 x.2))
    (fun _ _ => Nat.zero_le _) (Finset.mem_univ (w, k))

theorem State.tally_pos {v : Window → Job → Nat} (h : 0 < s.tally v) :
    ∃ u i j, s.job u i = some j ∧ 0 < v u j := by
  obtain ⟨x, -, positive⟩ := Finset.exists_ne_zero_of_sum_ne_zero (Nat.ne_of_gt h)
  unfold worth at positive
  cases held : s.job x.1 x.2 with
  | none => rw [held] at positive; exact absurd rfl positive
  | some j =>
    rw [held] at positive
    exact ⟨x.1, x.2, j, held, Nat.pos_of_ne_zero positive⟩

/-- A job's reservation, counted for its own window. -/
def Job.dueTo (w u : Window) (j : Job) : Nat := if u = w then j.reserved else 0

theorem State.jobReservations_eq (w : Window) : s.jobReservations w = s.tally (Job.dueTo w) := by
  unfold State.jobReservations State.tally
  rw [sum_allSlots, Fintype.sum_prod_type, Finset.sum_eq_single w]
  · refine Finset.sum_congr rfl fun k _ => ?_
    unfold worth Job.dueTo
    cases s.job w k <;> simp
  · intro u _ other
    refine Finset.sum_eq_zero fun k _ => ?_
    unfold worth Job.dueTo
    cases s.job u k <;> simp [other]
  · exact fun out => absurd (Finset.mem_univ w) out

/-! ## The jobs bound to a generation -/

/-- 1 for an active job of form `f` bound to `g`, else 0. -/
def Job.boundTo (f : Fin 8) (g : Option Nat) (j : Job) : Nat :=
  if j.isActive = true ∧ j.form = f ∧ j.generation = g then 1 else 0

theorem State.boundJobs_eq (f : Fin 8) (g : Nat) :
    s.boundJobs f g = s.tally fun _ => Job.boundTo f (some g) := by
  rw [← State.jobs_sum, State.boundJobs]
  induction s.jobs with
  | nil => rfl
  | cons x xs ih =>
    rw [List.filter_cons, List.map_cons, List.sum_cons, ← ih]
    unfold Job.boundTo
    by_cases bound : x.2.2.isActive = true ∧ x.2.2.form = f ∧ x.2.2.generation = some g
    · obtain ⟨active, form, generation⟩ := bound
      rw [if_pos (by simp [active, form, generation]), if_pos ⟨active, form, generation⟩, List.length_cons]
      omega
    · rw [if_neg (by simpa [and_assoc] using bound), if_neg bound]
      omega

end

/-! ## A form's counts -/

theorem nextGeneration_twice_ne (g : Nat) : nextGeneration (nextGeneration g) ≠ g := by
  unfold nextGeneration
  split_ifs <;> omega

/-- A form's counts are those of the jobs bound to it, `n` of each generation (02 R21, R25, R27 to
R29). -/
structure FormRecord.counts (r : FormRecord) (n : Option Nat → Nat) : Prop where
  use : r.useCount = n (some r.generation)
  waiting : r.waitingCount = n (some (nextGeneration r.generation))
  used : r.pending.isSome = true → 0 < r.useCount
  pending : 0 < r.waitingCount → r.pending.isSome = true
  bound : ∀ g, 0 < n g → g = some r.generation ∨ g = some (nextGeneration r.generation)

theorem FormRecord.counts_undefined : FormRecord.undefined.counts fun _ => 0 :=
  ⟨rfl, rfl, nofun, nofun, fun _ positive => absurd positive (Nat.lt_irrefl 0)⟩

section
variable {r : FormRecord} {n m : Option Nat → Nat} {s : State} {f : Fin 8}

/-- A job bound as R27 binds it raises its count. -/
theorem FormRecord.counts.raised (h : r.counts n) (coming : Bool) (waits : coming = r.pending.isSome)
    {g : Nat} (generation : g = if coming then nextGeneration r.generation else r.generation)
    (one : m (some g) = n (some g) + 1) (same : ∀ o, o ≠ some g → m o = n o) :
    (r.raised coming).counts m := by
  have next := nextGeneration_ne r.generation
  have bound : ∀ o, 0 < m o → o = some r.generation ∨ o = some (nextGeneration r.generation) := by
    intro o positive
    by_cases here : o = some g
    · cases coming
      · exact .inl (here.trans (congrArg some generation))
      · exact .inr (here.trans (congrArg some generation))
    · exact h.bound o (same o here ▸ positive)
  cases coming with
  | true =>
    obtain rfl : g = nextGeneration r.generation := generation
    refine ⟨?_, ?_, h.used, fun _ => waits.symm, bound⟩
    · exact h.use.trans (same _ fun e => next (Option.some.inj e).symm).symm
    · exact (congrArg (· + 1) h.waiting).trans one.symm
  | false =>
    obtain rfl : g = r.generation := generation
    refine ⟨(congrArg (· + 1) h.use).trans one.symm, ?_, fun some_ => ?_, h.pending, bound⟩
    · exact h.waiting.trans (same _ fun e => next (Option.some.inj e)).symm
    · exact absurd (waits.trans some_) Bool.false_ne_true

/-- A definition placed where nothing uses the form: no job is bound to it. -/
theorem FormRecord.counts.placed (h : r.counts n) (unused : r.useCount = 0) (d : FormDef) :
    FormRecord.counts { r with current := some d, generation := nextGeneration r.generation } n := by
  have none_ : ∀ g, n g = 0 := by
    intro g
    by_contra positive
    have waits : r.waitingCount = 0 := by
      by_contra some_
      exact absurd unused (Nat.ne_of_gt (h.used (h.pending (Nat.pos_of_ne_zero some_))))
    have uses := h.use
    have waiting := h.waiting
    rcases h.bound g (Nat.pos_of_ne_zero positive) with e | e <;> rw [e] at positive <;> omega
  refine ⟨unused.trans (none_ _).symm, ?_, h.used, h.pending, fun g positive => ?_⟩
  · exact h.waiting.trans ((none_ _).trans (none_ _).symm)
  · rw [none_ g] at positive
    cases positive

theorem FormRecord.counts.stored (h : r.counts n) (used : r.useCount ≠ 0) (d : FormDef) :
    FormRecord.counts { r with pending := some d } n :=
  ⟨h.use, h.waiting, fun _ => Nat.pos_of_ne_zero used, fun _ => rfl, h.bound⟩

/-- A bound job leaves: the count of its generation falls, and a pending definition is applied where no
job uses the current one (02 R28, R29). -/
theorem State.unbind_counts {g : Option Nat} (h : (s.form f).counts n) (one : n g = m g + 1)
    (same : ∀ o, o ≠ g → n o = m o) : ((s.unbind f g).form f).counts m := by
  obtain ⟨use, waiting, used, pending, bound⟩ := h
  have next := nextGeneration_ne (s.form f).generation
  have twice := nextGeneration_twice_ne (s.form f).generation
  have fewer : ∀ o, m o ≤ n o := fun o => by
    by_cases here : o = g
    · rw [here, one]
      omega
    · rw [same o here]
  have bound' : ∀ o, 0 < m o → o = some (s.form f).generation ∨
      o = some (nextGeneration (s.form f).generation) := fun o positive =>
    bound o (Nat.lt_of_lt_of_le positive (fewer o))
  rcases bound g (by rw [one]; omega) with rfl | rfl
  · have coming := same (some (nextGeneration (s.form f).generation)) fun e => next (Option.some.inj e)
    by_cases stays : 1 < (s.form f).useCount ∨ (s.form f).pending = none
    · rw [s.unbind_current f stays, State.setForm_form_self]
      refine ⟨?_, waiting.trans coming, fun some_ => ?_, pending, bound'⟩
      · show (s.form f).useCount - 1 = _
        rw [use, one]
        rfl
      · show 0 < (s.form f).useCount - 1
        rcases stays with more | none_
        · omega
        · rw [show ({ s.form f with useCount := (s.form f).useCount - 1 } : FormRecord).pending = none
            from none_] at some_
          cases some_
    · obtain ⟨few, some_⟩ := not_or.1 stays
      obtain ⟨d, held⟩ := Option.ne_none_iff_exists'.1 some_
      have last : (s.form f).useCount = 1 := by omega
      have applied : (s.unbind f (some (s.form f).generation)).form f = ⟨some d, none,
          nextGeneration (s.form f).generation, (s.form f).waitingCount, 0⟩ := by
        obtain ⟨told, -, unbound⟩ := s.unbind_applied f last held
        have form : (s.formApplied f d).form f = ⟨some d, none,
            nextGeneration (s.form f).generation, (s.form f).waitingCount, 0⟩ :=
          (State.post_form _ _ _ _).trans (State.setForm_form_self s f _)
        rw [unbound]
        cases told
        · exact form
        · exact form
      rw [applied]
      have gone : m (some (s.form f).generation) = 0 := by omega
      refine ⟨waiting.trans coming, ?_, nofun, nofun, fun o positive => ?_⟩
      · show 0 = m (some (nextGeneration (nextGeneration (s.form f).generation)))
        by_contra some_
        rcases bound' _ (Nat.pos_of_ne_zero (Ne.symm some_)) with e | e
        · exact twice (Option.some.inj e)
        · exact nextGeneration_ne _ (Option.some.inj e)
      · rcases bound' o positive with e | e
        · rw [e, gone] at positive
          cases positive
        · exact .inl e
  · have current := same (some (s.form f).generation) fun e => next (Option.some.inj e).symm
    rw [s.unbind_coming f, State.setForm_form_self]
    refine ⟨use.trans current, ?_, used, fun more => pending ?_, bound'⟩
    · show (s.form f).waitingCount - 1 = _
      rw [waiting, one]
      rfl
    · exact Nat.lt_of_lt_of_le more (Nat.sub_le _ _)

end

end Sys2Proof.Machine
end

section
/-! SUPPORT. The books: the form counts, the reservations and the lanes' jobs, as every operation keeps
them while the part has its supply (02 R21; 03 R53, R56; 08 R147 to R149). Within one taking a lane may
be half written (`skip`), a job's attempts run ahead of its reservation (`loose`), and jobs that have
left their slots may still be counted (`owed`). -/

set_option Elab.async false

namespace Sys2Proof.Machine

/-- A value summed over the table's jobs and those still owed. -/
def State.account (s : State) (owed : List (Window × Job)) (v : Window → Job → Nat) : Nat :=
  s.tally v + (owed.map fun x => v x.1 x.2).sum

/-- What a job has reserved, by its state (08 R148, R149; 03 R57, R59). -/
def Job.fits (j : Job) (x : SessionState) : Prop :=
  if j.isActive = true then j.attempts ≤ 2 ∧ j.reserved = 3 - j.attempts ∧ x = .opened
  else j.reserved = 0

/-- No claim request of a lane with a ticket, nor a ticket in IDLE (log entry 13; 04 Table 4.2). -/
def Lane.free (x : Lane) : Prop :=
  (x.claimSent = true → x.inflight = none) ∧ (x.state = .idle → x.inflight = none)

/-- The jobs of a lane: at most one, PRINTING under it with the same reservation (03 R53, R56). -/
def State.laneFits (s : State) (l : LaneId) : Prop :=
  (s.lane l).holdings.length ≤ 1 ∧ ∀ x ∈ (s.lane l).holdings,
    ∃ j, s.job x.1 x.2.1 = some j ∧ j.state = .printing ∧ j.lane = some l ∧ j.reserved = x.2.2

/-- The books. -/
structure State.books (s : State) (skip : Option LaneId) (loose : Option (Window × SlotId))
    (owed : List (Window × Job)) : Prop where
  forms : ∀ f, (s.form f).counts fun g => s.account owed fun _ => Job.boundTo f g
  total : s.journalReserved = ∑ w, (s.session w).reserved
  room : s.journalInUse + s.journalReserved ≤ 4096
  due : ∀ w, (s.session w).reserved = s.account owed (Job.dueTo w)
  jobs : ∀ w k j, loose ≠ some (w, k) → s.job w k = some j → j.fits (s.session w).state
  lanes : ∀ l, skip ≠ some l → s.laneFits l
  free : ∀ l, (s.lane l).free

/-- The books closed. -/
abbrev State.booked (s : State) : Prop := s.books none none []

section
variable {s t u : State} {skip : Option LaneId} {loose : Option (Window × SlotId)}
  {owed : List (Window × Job)} {w : Window} {k : SlotId} {j : Job} {l : LaneId} {a : List Part}

/-! ## What leaves the books as they stand -/

/-- Nothing the books tell of is changed. -/
structure State.sameBooks (s t : State) : Prop where
  forms : ∀ f, t.form f = s.form f
  jobs : ∀ w k, t.job w k = s.job w k
  sessions : ∀ w, (t.session w).state = (s.session w).state ∧ (t.session w).reserved = (s.session w).reserved
  reserved : t.journalReserved = s.journalReserved
  inUse : t.journalInUse = s.journalInUse
  lanes : ∀ l, (t.lane l).holdings = (s.lane l).holdings
  free : ∀ l, (s.lane l).free → (t.lane l).free

theorem State.sameBooks_refl (s : State) : s.sameBooks s :=
  ⟨fun _ => rfl, fun _ _ => rfl, fun _ => ⟨rfl, rfl⟩, rfl, rfl, fun _ => rfl, fun _ => id⟩

theorem State.sameBooks.andThen (h : s.sameBooks t) (h' : t.sameBooks u) : s.sameBooks u :=
  ⟨fun f => (h'.forms f).trans (h.forms f), fun w k => (h'.jobs w k).trans (h.jobs w k),
    fun w => ⟨(h'.sessions w).1.trans (h.sessions w).1, (h'.sessions w).2.trans (h.sessions w).2⟩,
    h'.reserved.trans h.reserved, h'.inUse.trans h.inUse, fun l => (h'.lanes l).trans (h.lanes l),
    fun l free => h'.free l (h.free l free)⟩

theorem State.laneFits_congr (jobs : ∀ w k, t.job w k = s.job w k)
    (lane : (t.lane l).holdings = (s.lane l).holdings) (h : s.laneFits l) : t.laneFits l := by
  unfold State.laneFits
  rw [lane]
  refine ⟨h.1, fun x mem => ?_⟩
  rw [jobs]
  exact h.2 x mem

theorem State.account_congr (v : Window → Job → Nat) (jobs : ∀ w k, t.job w k = s.job w k) :
    t.account owed v = s.account owed v := by
  unfold State.account
  rw [State.tally_congr v jobs]

theorem State.account_nil (v : Window → Job → Nat) : s.account [] v = s.tally v := Nat.add_zero _

theorem State.account_cons (v : Window → Job → Nat) :
    s.account ((w, j) :: owed) v = s.account owed v + v w j := by
  unfold State.account
  rw [List.map_cons, List.sum_cons]
  exact (Nat.add_left_comm _ _ _).trans (Nat.add_comm _ _)

theorem State.sameBooks.books (h : s.sameBooks t) (b : s.books skip loose owed) : t.books skip loose owed := by
  refine ⟨fun f => ?_, ?_, ?_, fun w => ?_, fun w k j out job => ?_,
    fun l out => State.laneFits_congr h.jobs (h.lanes l) (b.lanes l out), fun l => h.free l (b.free l)⟩
  · rw [h.forms]
    simp only [State.account_congr _ h.jobs]
    exact b.forms f
  · rw [h.reserved, b.total]
    exact Finset.sum_congr rfl fun w _ => (h.sessions w).2.symm
  · rw [h.inUse, h.reserved]
    exact b.room
  · rw [(h.sessions w).2, State.account_congr _ h.jobs]
    exact b.due w
  · rw [h.jobs] at job
    rw [(h.sessions w).1]
    exact b.jobs w k j out job

/-- What changes none of the parts the books tell of. -/
theorem State.changesOnly.sameBooks (h : s.changesOnly t a) (forms : .forms ∉ a := by decide)
    (slots : .slots ∉ a := by decide) (sessions : .sessions ∉ a := by decide)
    (journal : .journal ∉ a := by decide) (lanes : .lanes ∉ a := by decide) : s.sameBooks t :=
  ⟨fun f => h.form f forms, fun w k => h.job w k slots,
    fun w => by rw [h.session w sessions]; exact ⟨rfl, rfl⟩, h.journalReserved journal,
    (h .journal journal).2.1, fun l => by rw [h.lane l lanes], fun l => by rw [h.lane l lanes]; exact id⟩

theorem Lane.claiming_free {x : Lane} (p : Bool) (h : x.free) : (x.claiming p).free := by
  unfold Lane.claiming
  split
  · rename_i may
    have idle : x.state = .idle := by
      simp only [Lane.mayClaim, Bool.and_eq_true, beq_iff_eq] at may
      exact may.1.1
    exact ⟨fun _ => h.2 idle, h.2⟩
  · exact h

theorem Lane.claiming_holdings (x : Lane) (p : Bool) : (x.claiming p).holdings = x.holdings := by
  rcases Lane.claiming_cases x p with e | e <;> rw [e] <;> rfl

/-- Lanes told of an eligible job. -/
theorem State.lanesClaimed.sameBooks (h : s.lanesClaimed t) (frame : s.changesOnly t a)
    (forms : .forms ∉ a := by decide) (slots : .slots ∉ a := by decide)
    (sessions : .sessions ∉ a := by decide) (journal : .journal ∉ a := by decide) : s.sameBooks t := by
  refine ⟨fun f => frame.form f forms, fun w k => frame.job w k slots,
    fun w => by rw [frame.session w sessions]; exact ⟨rfl, rfl⟩, frame.journalReserved journal,
    (frame .journal journal).2.1, fun l => ?_, fun l free => ?_⟩
  · rcases h l with e | e
    · rw [e]
    · rw [e, Lane.claiming_holdings]
  · rcases h l with e | e <;> rw [e]
    · exact free
    · exact Lane.claiming_free _ free

theorem State.reportJob_sameBooks : s.sameBooks (s.reportJob w k) :=
  (s.reportJob_claimed w k).sameBooks (s.reportJob_frame w k)

theorem State.reportEligible_sameBooks : s.sameBooks s.reportEligible :=
  (State.lanesTold_ite s true).claimed.sameBooks s.reportEligible_frame

/-- A lane rewritten with the jobs it had. -/
theorem State.moveLane_sameBooks {f : Lane → Lane} (jobs : (f (s.lane l)).holdings = (s.lane l).holdings)
    (free : (s.lane l).free → (f (s.lane l)).free) : s.sameBooks (s.moveLane l f) := by
  have frame := s.moveLane_frame l f
  refine ⟨fun g => frame.form g, fun w k => frame.job w k,
    fun w => by rw [frame.session w]; exact ⟨rfl, rfl⟩, frame.journalReserved,
    (frame .journal (by decide)).2.1, fun m => ?_, fun m h => ?_⟩
  · by_cases same : m = l
    · rw [same, State.moveLane_lane_self]
      exact jobs
    · rw [State.moveLane_lane_ne _ _ _ same]
  · by_cases same : m = l
    · subst same
      rw [State.moveLane_lane_self]
      exact free h
    · rw [State.moveLane_lane_ne _ _ _ same]
      exact h

/-! ## The books opened and closed -/

theorem State.books.loosen (h : s.books skip none owed) : s.books skip loose owed :=
  ⟨h.forms, h.total, h.room, h.due, fun w k j _ job => h.jobs w k j nofun job, h.lanes, h.free⟩

theorem State.books.fasten (h : s.books skip (some (w, k)) owed)
    (fits : ∀ j, s.job w k = some j → j.fits (s.session w).state) : s.books skip none owed := by
  refine ⟨h.forms, h.total, h.room, h.due, fun v i j _ job => ?_, h.lanes, h.free⟩
  by_cases here : (w, k) = (v, i)
  · obtain ⟨rfl, rfl⟩ := Prod.mk.inj here
    exact fits j job
  · exact h.jobs v i j (fun e => here (Option.some.inj e)) job

theorem State.books.skipping (h : s.books none loose owed) : s.books skip loose owed :=
  ⟨h.forms, h.total, h.room, h.due, h.jobs, fun l _ => h.lanes l nofun, h.free⟩

theorem State.books.rejoined (h : s.books (some l) loose owed) (fits : s.laneFits l) :
    s.books none loose owed := by
  refine ⟨h.forms, h.total, h.room, h.due, h.jobs, fun m _ => ?_, h.free⟩
  by_cases here : l = m
  · exact here ▸ fits
  · exact h.lanes m fun e => here (Option.some.inj e)

/-! ## One job rewritten -/

/-- A job no lane's record but that of the skipped lane speaks of. -/
def Job.unheld (j : Job) (skip : Option LaneId) : Prop := j.state = .printing → skip ≠ none ∧ j.lane = skip

/-- The other lanes' jobs are in other slots. -/
theorem State.laneFits_rewritten (others : ∀ u i, (u, i) ≠ (w, k) → t.job u i = s.job u i)
    (lane : (t.lane l).holdings = (s.lane l).holdings)
    (unheld : ∀ j, s.job w k = some j → j.unheld skip) (out : skip ≠ some l) (h : s.laneFits l) :
    t.laneFits l := by
  unfold State.laneFits
  rw [lane]
  refine ⟨h.1, fun x mem => ?_⟩
  obtain ⟨j, job, printing, under, reserved⟩ := h.2 x mem
  have other : (x.1, x.2.1) ≠ (w, k) := fun here => by
    obtain ⟨hw, hk⟩ := Prod.mk.inj here
    rw [hw, hk] at job
    obtain ⟨-, skipped⟩ := unheld j job printing
    exact out (skipped.symm.trans under)
  rw [others _ _ other]
  exact ⟨j, job, printing, under, reserved⟩

/-- A job that keeps its state, its lane and its reservation keeps its lane's record fitting. -/
theorem State.laneFits_still {j' : Job} (others : ∀ u i, (u, i) ≠ (w, k) → t.job u i = s.job u i)
    (held : s.job w k = some j) (now : t.job w k = some j') (state : j'.state = j.state)
    (under : j'.lane = j.lane) (reserved : j'.reserved = j.reserved)
    (lane : (t.lane l).holdings = (s.lane l).holdings) (h : s.laneFits l) : t.laneFits l := by
  unfold State.laneFits
  rw [lane]
  refine ⟨h.1, fun x mem => ?_⟩
  obtain ⟨i, job, printing, of_, booked⟩ := h.2 x mem
  by_cases here : (x.1, x.2.1) = (w, k)
  · obtain ⟨hw, hk⟩ := Prod.mk.inj here
    rw [hw, hk] at job ⊢
    obtain rfl : j = i := Option.some.inj (held.symm.trans job)
    exact ⟨j', now, state.trans printing, under.trans of_, reserved.trans booked⟩
  · rw [others _ _ here]
    exact ⟨i, job, printing, of_, booked⟩

theorem State.account_change (v : Window → Job → Nat)
    (others : ∀ u i, (u, i) ≠ (w, k) → t.job u i = s.job u i) :
    t.account owed v + worth v w (s.job w k) = s.account owed v + worth v w (t.job w k) := by
  have := State.tally_change (s := s) (t := t) v others
  unfold State.account
  omega

theorem State.laneFits_of_unheld (others : ∀ u i, (u, i) ≠ (w, k) → t.job u i = s.job u i)
    (held : s.job w k = some j) (unheld : j.unheld skip) (lanes : ∀ l, t.lane l = s.lane l) (l : LaneId)
    (out : skip ≠ some l) (h : s.laneFits l) : t.laneFits l := by
  refine State.laneFits_rewritten others (by rw [lanes l]) (fun i hi => ?_) out h
  obtain rfl : j = i := Option.some.inj (held.symm.trans hi)
  exact unheld

/-- One slot's job rewritten: what it adds to every sum is what the books owe for it before and
after. -/
theorem State.books.rewritten {owed' : List (Window × Job)} (h : s.books skip (some (w, k)) owed)
    (others : ∀ u i, (u, i) ≠ (w, k) → t.job u i = s.job u i)
    (lanes : ∀ l, skip ≠ some l → s.laneFits l → t.laneFits l)
    (free : ∀ l, (s.lane l).free → (t.lane l).free)
    (frame : s.changesOnly t [.slots, .lanes, .queues])
    (bound : ∀ f g, t.account owed' (fun _ => Job.boundTo f g) = s.account owed fun _ => Job.boundTo f g)
    (due : ∀ u, t.account owed' (Job.dueTo u) = s.account owed (Job.dueTo u)) :
    t.books skip (some (w, k)) owed' := by
  refine ⟨fun f => ?_, ?_, ?_, fun v => ?_, fun v i j out job => ?_,
    fun l out => lanes l out (h.lanes l out), fun l => free l (h.free l)⟩
  · rw [frame.form]
    simp only [bound]
    exact h.forms f
  · rw [frame.journalReserved, h.total]
    exact Finset.sum_congr rfl fun v _ => by rw [frame.session]
  · rw [frame.journalReserved, (frame .journal (by decide)).2.1]
    exact h.room
  · rw [frame.session, due]
    exact h.due v
  · rw [others v i fun here => out (congrArg some here.symm)] at job
    rw [frame.session]
    exact h.jobs v i j out job

theorem worth_some (v : Window → Job → Nat) (w : Window) (j : Job) : worth v w (some j) = v w j := rfl

/-- A job rewritten with its reservation and its binding. -/
theorem State.books.reworked {j' : Job} (h : s.books skip (some (w, k)) owed) (held : s.job w k = some j)
    (others : ∀ u i, (u, i) ≠ (w, k) → t.job u i = s.job u i) (now : t.job w k = some j')
    (lanes : ∀ l, skip ≠ some l → s.laneFits l → t.laneFits l)
    (free : ∀ l, (s.lane l).free → (t.lane l).free) (frame : s.changesOnly t [.slots, .lanes, .queues])
    (active : j'.isActive = j.isActive) (form : j'.form = j.form) (generation : j'.generation = j.generation)
    (reserved : j'.reserved = j.reserved) : t.books skip (some (w, k)) owed := by
  refine h.rewritten others lanes free frame (fun f g => ?_) fun u => ?_
  · have change := State.account_change (owed := owed) (fun _ => Job.boundTo f g) others
    rw [held, now, worth_some, worth_some] at change
    have same : j'.boundTo f g = j.boundTo f g := by
      unfold Job.boundTo
      rw [active, form, generation]
    omega
  · have change := State.account_change (owed := owed) (Job.dueTo u) others
    rw [held, now, worth_some, worth_some] at change
    have same : j'.dueTo u w = j.dueTo u w := by
      unfold Job.dueTo
      rw [reserved]
    omega

/-- A job leaves the active states: its binding is owed, and its reservation is its slot's, or
owed. -/
theorem State.books.parted {n : Nat} (h : s.books skip (some (w, k)) owed) (held : s.job w k = some j)
    (others : ∀ u i, (u, i) ≠ (w, k) → t.job u i = s.job u i) (lanes : ∀ l, t.lane l = s.lane l)
    (unheld : j.unheld skip) (frame : s.changesOnly t [.slots, .lanes, .queues])
    (ended : ∀ j', t.job w k = some j' → j'.isActive = false)
    (reserved : ((t.job w k).map Job.reserved).getD 0 + n = j.reserved) :
    t.books skip (some (w, k)) ((w, { j with reserved := n }) :: owed) := by
  refine h.rewritten others (State.laneFits_of_unheld others held unheld lanes)
    (fun l free => by rw [lanes l]; exact free) frame (fun f g => ?_) fun u => ?_
  · have change := State.account_change (owed := owed) (fun _ => Job.boundTo f g) others
    have now : worth (fun _ => Job.boundTo f g) w (t.job w k) = 0 := by
      cases here : t.job w k with
      | none => rfl
      | some j' =>
        rw [worth_some]
        unfold Job.boundTo
        rw [ended j' here, if_neg nofun]
    rw [held, worth_some, now] at change
    have owes : Job.boundTo f g { j with reserved := n } = j.boundTo f g := rfl
    rw [State.account_cons, owes]
    omega
  · have change := State.account_change (owed := owed) (Job.dueTo u) others
    have now : worth (Job.dueTo u) w (t.job w k) =
        if w = u then ((t.job w k).map Job.reserved).getD 0 else 0 := by
      cases here : t.job w k with
      | none => exact (ite_self 0).symm
      | some j' => rfl
    rw [held, worth_some, now] at change
    rw [State.account_cons]
    have parts : Job.dueTo u w j = (if w = u then ((t.job w k).map Job.reserved).getD 0 else 0) +
        Job.dueTo u w { j with reserved := n } := by
      unfold Job.dueTo
      dsimp only
      split_ifs
      · exact reserved.symm
      · rfl
    omega

end

end Sys2Proof.Machine
end

section
/-! SUPPORT. The operations on the books: a reservation lowered (08 R149), an entry written (08 R147), a
count lowered (02 R28, R29), and a job that ends (03 R57). -/

set_option Elab.async false

namespace Sys2Proof.Machine

section
variable {s t u : State} {skip : Option LaneId} {loose : Option (Window × SlotId)}
  {owed : List (Window × Job)} {w : Window} {k : SlotId} {j : Job} {l : LaneId} {a : List Part} {n : Nat}

/-! ## Reservations (08 R148, R149) -/

theorem Session.withEntry_books (x : Session) (d : EntryData) :
    (x.withEntry d).state = x.state ∧ (x.withEntry d).reserved = x.reserved := by
  unfold Session.withEntry
  split <;> exact ⟨rfl, rfl⟩

theorem State.unreserve_state (v : Window) : ((s.unreserve w n).session v).state = (s.session v).state := by
  by_cases same : v = w
  · rw [same, State.unreserve_session]
  · rw [State.unreserve_otherSessions _ _ _ v same]

theorem State.unreserve_reserved (v : Window) : ((s.unreserve w n).session v).reserved =
    (s.session v).reserved - if w = v then n else 0 := by
  by_cases same : v = w
  · rw [same, State.unreserve_session, if_pos rfl]
  · rw [State.unreserve_otherSessions _ _ _ v same, if_neg (Ne.symm same)]
    rfl

theorem State.unreserve_total (total : s.journalReserved = ∑ w, (s.session w).reserved)
    (few : n ≤ (s.session w).reserved) :
    (s.unreserve w n).journalReserved = ∑ v, ((s.unreserve w n).session v).reserved ∧
      (s.unreserve w n).journalReserved + n = s.journalReserved := by
  have lowered : (s.unreserve w n).journalReserved = s.journalReserved - n := rfl
  have sums := sum_differ_at (f := fun v => (s.session v).reserved)
    (g := fun v => ((s.unreserve w n).session v).reserved) w fun v other => by
      rw [State.unreserve_otherSessions _ _ _ v other]
  have self := s.unreserve_reserved (w := w) (n := n) w
  rw [if_pos rfl] at self
  have part : (s.session w).reserved ≤ ∑ v, (s.session v).reserved :=
    Finset.single_le_sum (f := fun v => (s.session v).reserved) (fun _ _ => Nat.zero_le _)
      (Finset.mem_univ w)
  omega

/-- What a job has reserved is no more than its session's. -/
theorem State.books.reserved_le (h : s.books skip loose owed) (held : s.job w k = some j) :
    j.reserved ≤ (s.session w).reserved := by
  have part := s.worth_le_tally (w := w) (k := k) (Job.dueTo w)
  have due := h.due w
  rw [held, worth_some, show Job.dueTo w w j = j.reserved from if_pos rfl] at part
  unfold State.account at due
  omega

/-- A job's reservation lowered with its session's. -/
theorem State.books.released {f : Job → Job} (h : s.books skip (some (w, k)) owed)
    (held : s.job w k = some j) (few : n ≤ j.reserved) (unheld : j.unheld skip)
    (active : (f j).isActive = j.isActive) (form : (f j).form = j.form)
    (generation : (f j).generation = j.generation) (reserved : (f j).reserved = j.reserved - n)
    (t : State) (ht : t = (s.unreserve w n).mapJob w k f) :
    t.books skip (some (w, k)) owed ∧ t.journalInUse + t.journalReserved + n ≤ 4096 := by
  obtain ⟨u, hu⟩ : ∃ u, u = s.unreserve w n := ⟨_, rfl⟩
  have freed : s.changesOnly u [.sessions, .journal] := hu ▸ s.unreserve_frame w n
  have state : ∀ v, (u.session v).state = (s.session v).state := hu ▸ s.unreserve_state
  have money : ∀ v, (u.session v).reserved = (s.session v).reserved - if w = v then n else 0 :=
    hu ▸ s.unreserve_reserved
  have enough := h.reserved_le held
  have totals : u.journalReserved = (∑ v, (u.session v).reserved) ∧
      u.journalReserved + n = s.journalReserved :=
    hu ▸ State.unreserve_total h.total (few.trans enough)
  have inUse : u.journalInUse = s.journalInUse := hu ▸ rfl
  have mapped : u.changesOnly t [.slots] := by rw [ht, ← hu]; exact u.mapJob_frame w k f
  have now : t.job w k = some (f j) := by
    rw [ht, ← hu]
    exact congrArg Slot.job (u.mapJob_slot_self w k f ((freed.job w k).trans held))
  have others : ∀ v i, (v, i) ≠ (w, k) → t.job v i = s.job v i := fun v i other => by
    rw [ht, ← hu]
    exact (congrArg Slot.job (u.mapJob_otherSlots w k f v i other)).trans (freed.job v i)
  have room := h.room
  have change := fun v => State.account_change (owed := owed) v others
  have spoken : ∀ i, s.job w k = some i → i.unheld skip := fun i hi => by
    obtain rfl : j = i := Option.some.inj (held.symm.trans hi)
    exact unheld
  have lanes := fun l => (mapped.lane l (by decide)).trans (freed.lane l)
  simp only [held, now, worth_some] at change
  refine ⟨⟨fun g => ?_, ?_, ?_, fun v => ?_, fun v i x out job => ?_, fun l out => ?_, fun l => ?_⟩, ?_⟩
  · have same : (fun o => t.account owed fun _ => Job.boundTo g o) =
        fun o => s.account owed fun _ => Job.boundTo g o := by
      funext o
      have one := change fun _ => Job.boundTo g o
      have bound : (f j).boundTo g o = j.boundTo g o := by
        unfold Job.boundTo
        rw [active, form, generation]
      omega
    rw [same, mapped.form, freed.form]
    exact h.forms g
  · rw [mapped.journalReserved, totals.1]
    exact Finset.sum_congr rfl fun v _ => by rw [mapped.session]
  · rw [mapped.journalReserved, (mapped .journal (by decide)).2.1]
    omega
  · have one := change (Job.dueTo v)
    have due := h.due v
    rw [mapped.session, money]
    unfold Job.dueTo at one
    rw [reserved] at one
    by_cases here : w = v
    · subst here
      rw [if_pos rfl, if_pos rfl] at one
      rw [if_pos rfl]
      unfold Job.dueTo at due ⊢
      omega
    · rw [if_neg here, if_neg here] at one
      rw [if_neg here]
      unfold Job.dueTo at due ⊢
      omega
  · rw [others v i fun here => out (congrArg some here.symm)] at job
    rw [mapped.session, state]
    exact h.jobs v i x out job
  · exact State.laneFits_rewritten others (congrArg Lane.holdings (lanes l)) spoken out (h.lanes l out)
  · rw [lanes]
    exact h.free l
  · rw [mapped.journalReserved, (mapped .journal (by decide)).2.1]
    omega

/-- The reservation of a job that has left its slot, lowered. -/
theorem State.books.unreserved (h : s.books skip loose ((w, j) :: owed)) :
    (s.unreserve w j.reserved).books skip loose ((w, { j with reserved := 0 }) :: owed) := by
  have few : j.reserved ≤ (s.session w).reserved := by
    have due := h.due w
    rw [State.account_cons, show Job.dueTo w w j = j.reserved from if_pos rfl] at due
    omega
  obtain ⟨total, lowered⟩ := State.unreserve_total h.total few
  have state := s.unreserve_state (w := w) (n := j.reserved)
  have money := s.unreserve_reserved (w := w) (n := j.reserved)
  have frame := s.unreserve_frame w j.reserved
  have inUse : (s.unreserve w j.reserved).journalInUse = s.journalInUse := rfl
  have room := h.room
  generalize s.unreserve w j.reserved = t at *
  have jobs := fun u i => frame.job u i
  refine ⟨fun f => ?_, total, by omega, fun v => ?_, fun v i x out job => ?_, fun l out => ?_, fun l => ?_⟩
  · rw [frame.form]
    simp only [State.account_congr _ jobs, State.account_cons]
    have forms := h.forms f
    simp only [State.account_cons] at forms
    exact forms
  · have due := h.due v
    rw [State.account_cons] at due
    rw [money, due, State.account_cons, State.account_congr _ jobs]
    unfold Job.dueTo
    dsimp only
    split_ifs <;> omega
  · rw [jobs] at job
    rw [state]
    exact h.jobs v i x out job
  · exact State.laneFits_congr jobs (by rw [frame.lane l]) (h.lanes l out)
  · rw [frame.lane l]
    exact h.free l

/-- An entry written where there is room for it. -/
theorem State.books.entered (h : s.books skip loose owed) (w : Window) (d : EntryData)
    (room : s.journalInUse + s.journalReserved + 1 ≤ 4096) : (s.writeEntry w d).books skip loose owed := by
  obtain ⟨session, sessions⟩ := s.writeEntry_session w d
  have reserved := s.writeEntry_reserved w d
  have inUse : (s.writeEntry w d).journalInUse = s.journalInUse + 1 := (s.writeEntry_journal w d).2
  have frame := s.writeEntry_frame w d
  have parts : ∀ v, ((s.writeEntry w d).session v).state = (s.session v).state ∧
      ((s.writeEntry w d).session v).reserved = (s.session v).reserved := fun v => by
    by_cases same : v = w
    · rw [same, session]
      exact Session.withEntry_books _ d
    · rw [sessions v same]
      exact ⟨rfl, rfl⟩
  generalize s.writeEntry w d = t at *
  have jobs := fun u i => frame.job u i
  refine ⟨fun f => ?_, ?_, by omega, fun v => ?_, fun v i x out job => ?_, fun l out => ?_, fun l => ?_⟩
  · rw [frame.form]
    simp only [State.account_congr _ jobs]
    exact h.forms f
  · rw [reserved, h.total]
    exact Finset.sum_congr rfl fun v _ => (parts v).2.symm
  · rw [(parts v).2, State.account_congr _ jobs]
    exact h.due v
  · rw [jobs] at job
    rw [(parts v).1]
    exact h.jobs v i x out job
  · exact State.laneFits_congr jobs (by rw [frame.lane l]) (h.lanes l out)
  · rw [frame.lane l]
    exact h.free l

/-- The count of a job that has left its slot, lowered. -/
theorem State.books.unbound (h : s.books skip loose ((w, j) :: owed)) (active : j.isActive = true)
    (none_ : j.reserved = 0) : (s.unbind j.form j.generation).books skip loose owed := by
  have frame := s.unbind_frame j.form j.generation
  have others := s.unbind_otherForms j.form j.generation
  obtain ⟨told, tells⟩ := s.unbind_told j.form j.generation
  have claimed := tells.claimed
  have lowered := fun m => State.unbind_counts (m := m) (g := j.generation) (h.forms j.form)
  generalize s.unbind j.form j.generation = t at *
  have jobs := fun u i => frame.job u i
  have bound : ∀ f g, Job.boundTo f g j = if j.form = f ∧ j.generation = g then 1 else 0 := fun f g => by
    unfold Job.boundTo
    rw [active]
    simp
  refine ⟨fun f => ?_, ?_, ?_, fun v => ?_, fun v i x out job => ?_, fun l out => ?_, fun l => ?_⟩
  · simp only [State.account_congr _ jobs]
    by_cases here : f = j.form
    · subst here
      refine lowered _ ?_ fun o other => ?_
      · rw [State.account_cons, bound, if_pos ⟨rfl, rfl⟩]
      · rw [State.account_cons, bound, if_neg fun both => other both.2.symm, Nat.add_zero]
    · have forms := h.forms f
      have same : (fun g => s.account ((w, j) :: owed) fun _ => Job.boundTo f g) =
          fun g => s.account owed fun _ => Job.boundTo f g := by
        funext g
        rw [State.account_cons, bound, if_neg fun both => here both.1.symm, Nat.add_zero]
      rw [same] at forms
      rw [others f here]
      exact forms
  · rw [frame.journalReserved, h.total]
    exact Finset.sum_congr rfl fun v _ => by rw [frame.session]
  · rw [frame.journalReserved, (frame .journal (by decide)).2.1]
    exact h.room
  · have due := h.due v
    rw [State.account_cons] at due
    rw [frame.session, State.account_congr _ jobs, due]
    unfold Job.dueTo
    split_ifs <;> omega
  · rw [jobs] at job
    rw [frame.session]
    exact h.jobs v i x out job
  · refine State.laneFits_congr jobs ?_ (h.lanes l out)
    rcases claimed l with e | e
    · rw [e]
    · rw [e, Lane.claiming_holdings]
  · rcases claimed l with e | e
    · rw [e]
      exact h.free l
    · rw [e]
      exact Lane.claiming_free _ (h.free l)

/-! ## Jobs rewritten, ended and withdrawn -/

/-- An outcome posted (03 R57). -/
theorem State.books.posted (h : s.books skip (some (w, k)) owed) (held : s.job w k = some j)
    (o : SlotOutcome) : (s.postOutcome w k o).books skip (some (w, k)) owed := by
  have others := fun v i other => congrArg Slot.job (s.postOutcome_otherSlots w k o v i other)
  have now := congrArg Slot.job (s.postOutcome_slot w k o held)
  have lanes := fun l => (s.postOutcome_frame w k o).lane l
  exact h.reworked held others now
    (fun l _ fits => State.laneFits_still others held now rfl rfl rfl (congrArg _ (lanes l)) fits)
    (fun l free => by rw [lanes l]; exact free) (State.changesOnly_mono (s.postOutcome_frame w k o))
    rfl rfl rfl rfl

/-- A job rewritten with its reservation and its binding. -/
theorem State.books.mapped {f : Job → Job} (h : s.books skip (some (w, k)) owed)
    (held : s.job w k = some j)
    (still : j.unheld skip ∨ (f j).state = j.state ∧ (f j).lane = j.lane)
    (active : (f j).isActive = j.isActive) (form : (f j).form = j.form)
    (generation : (f j).generation = j.generation) (reserved : (f j).reserved = j.reserved) :
    (s.mapJob w k f).books skip (some (w, k)) owed := by
  have others := fun v i other => congrArg Slot.job (s.mapJob_otherSlots w k f v i other)
  have now := congrArg Slot.job (s.mapJob_slot_self w k f held)
  have lanes := fun l => (s.mapJob_frame w k f).lane l
  refine h.reworked held others now (fun l out fits => ?_) (fun l free => by rw [lanes l]; exact free)
    (State.changesOnly_mono (s.mapJob_frame w k f)) active form generation reserved
  rcases still with unheld | ⟨state, under⟩
  · exact State.laneFits_of_unheld others held unheld lanes l out fits
  · exact State.laneFits_still others held now state under reserved (congrArg _ (lanes l)) fits

end

end Sys2Proof.Machine
end

section
/-! SUPPORT. The books at a job's end and withdrawal (03 R49, R57), at the return of a job to QUEUED (03
R47, R48, R61), and at the entry and the settling of a ticket (03 R59; 04 R82, R83; 10 R180). -/

set_option Elab.async false

namespace Sys2Proof.Machine

section
variable {s t u : State} {skip : Option LaneId} {loose : Option (Window × SlotId)}
  {owed : List (Window × Job)} {w : Window} {k : SlotId} {j : Job} {l : LaneId} {a : List Part} {n : Nat}

theorem Job.fits_ended {x : SessionState} (ended : j.isActive = false) (none_ : j.reserved = 0) : j.fits x := by
  unfold Job.fits
  rw [if_neg (by rw [ended]; exact Bool.false_ne_true)]
  exact none_

theorem Job.fits_active {x : SessionState} (active : j.isActive = true) :
    j.fits x ↔ j.attempts ≤ 2 ∧ j.reserved = 3 - j.attempts ∧ x = .opened := by
  unfold Job.fits
  rw [if_pos active]

theorem Job.unheld_of_not_printing (h : j.state ≠ .printing) : j.unheld skip := fun e => absurd e h

theorem State.mapJob_now (f : Job → Job) (held : s.job w k = some j) : (s.mapJob w k f).job w k = some (f j) :=
  congrArg Slot.job (s.mapJob_slot_self w k f held)

theorem State.postOutcome_now (o : SlotOutcome) (held : s.job w k = some j) :
    (s.postOutcome w k o).job w k = some { j with latest := some o } :=
  congrArg Slot.job (s.postOutcome_slot w k o held)

/-- A release of the whole reservation, as RELEASE names it. -/
theorem State.books.freed (h : s.books skip (some (w, k)) owed) (held : s.job w k = some j)
    (unheld : j.unheld skip) : (s.releaseJob w k).books skip (some (w, k)) owed ∧
      (s.releaseJob w k).job w k = some { j with reserved := 0 } := by
  have released := h.released (f := fun j => { j with reserved := 0 }) held (Nat.le_refl _) unheld rfl rfl rfl
    (Nat.sub_self _).symm _ (s.releaseJob_of_job w k held)
  refine ⟨released.1, ?_⟩
  rw [s.releaseJob_of_job w k held]
  exact State.mapJob_now _ (((s.unreserve_frame w j.reserved).job w k).trans held)

/-- A job reaches a terminal state (03 R57). -/
theorem State.books.ended {st : JobState} (h : s.books skip (some (w, k)) owed) (held : s.job w k = some j)
    (active : j.isActive = true) (unheld : j.unheld skip)
    (terminal : ∀ i : Job, Job.isActive { i with state := st } = false) (o : SlotOutcome) :
    (s.endJob w k st o).books skip none owed := by
  obtain ⟨u, hu⟩ : ∃ u, u = s.mapJob w k fun j => { j with state := st, lane := none, deadline := none } :=
    ⟨_, rfl⟩
  have mapped : s.changesOnly u [.slots] := hu ▸ s.mapJob_frame w k _
  have here : u.job w k = some { j with state := st, lane := none, deadline := none } := by
    rw [hu]
    exact State.mapJob_now _ held
  have others : ∀ v i, (v, i) ≠ (w, k) → u.job v i = s.job v i := fun v i other => by
    rw [hu]
    exact congrArg Slot.job (s.mapJob_otherSlots w k _ v i other)
  have left := h.parted (n := 0) held others (fun l => mapped.lane l) unheld (State.changesOnly_mono mapped)
    (fun i hi => by
      rw [here] at hi
      cases hi
      exact terminal j) (by rw [here]; rfl)
  have notPrinting : st ≠ .printing := fun e => by
    have ended := terminal j
    rw [e] at ended
    cases ended
  obtain ⟨freed, now⟩ := left.freed here (Job.unheld_of_not_printing notPrinting)
  have bound := freed.unbound (j := { j with reserved := 0 }) active rfl
  have kept := (State.unbind_frame (u.releaseJob w k) j.form j.generation).job w k
  have now' := kept.trans now
  have posted := bound.posted now' o
  have step : s.endJob w k st o = ((u.releaseJob w k).unbind j.form j.generation).postOutcome w k o := by
    rw [State.endJob_eq held, hu]
    rfl
  rw [step]
  refine posted.fasten fun i hi => ?_
  have hi := (State.postOutcome_now o now').symm.trans hi
  cases hi
  exact Job.fits_ended (terminal j) rfl

/-- A withdrawn job's slot is EMPTY (03 R49). -/
theorem State.booked.withdrawn (h : s.booked) (held : s.job w k = some j) (active : j.isActive = true)
    (waits : j.state ≠ .printing) :
    (((s.releaseJob w k).emptySlot w k).unbind j.form j.generation).booked := by
  obtain ⟨freed, now⟩ := (State.books.loosen (loose := some (w, k)) h).freed held
    (Job.unheld_of_not_printing waits)
  obtain ⟨u, hu⟩ : ∃ u, u = s.releaseJob w k := ⟨_, rfl⟩
  obtain ⟨v, hv⟩ : ∃ v, v = u.emptySlot w k := ⟨_, rfl⟩
  rw [← hu] at freed now ⊢
  rw [← hv]
  have frame : u.changesOnly v [.slots] := hv ▸ u.setSlot_frame w k _
  have gone : v.job w k = none := by
    rw [hv]
    exact congrArg Slot.job (u.setSlot_slot_self w k _)
  have others : ∀ x i, (x, i) ≠ (w, k) → v.job x i = u.job x i := fun x i other => by
    rw [hv]
    exact congrArg Slot.job (u.setSlot_slot_ne other _)
  have left := freed.parted (n := 0) now others (fun l => frame.lane l)
    (Job.unheld_of_not_printing waits) (State.changesOnly_mono frame)
    (fun i hi => by rw [gone] at hi; cases hi) (by rw [gone]; rfl)
  refine (left.unbound active rfl).fasten fun i hi => ?_
  rw [(v.unbind_frame j.form j.generation).job w k, gone] at hi
  cases hi

/-- A job rewritten within the active states. -/
theorem State.books.amended {f : Job → Job} (h : s.books skip none owed) (held : s.job w k = some j)
    (still : j.unheld skip ∨ (f j).state = j.state ∧ (f j).lane = j.lane)
    (active : (f j).isActive = j.isActive) (form : (f j).form = j.form)
    (generation : (f j).generation = j.generation) (reserved : (f j).reserved = j.reserved)
    (attempts : (f j).attempts = j.attempts) : (s.mapJob w k f).books skip none owed := by
  refine (h.loosen.mapped held still active form generation reserved).fasten fun i hi => ?_
  have hi := (State.mapJob_now f held).symm.trans hi
  cases hi
  rw [(s.mapJob_frame w k f).session w]
  have fits := h.jobs w k j nofun held
  unfold Job.fits at fits ⊢
  rw [active, reserved, attempts]
  exact fits

/-- A job handed back by a lane (03 R61). -/
theorem State.books.handedBack (h : s.books (some l) none owed) (held : s.job w k = some j)
    (printing : j.state = .printing) (under : j.lane = some l) :
    (s.handBack w k).books (some l) none owed := by
  refine State.reportJob_sameBooks.books (h.amended held (.inl fun _ => ⟨nofun, under⟩) ?_ rfl rfl rfl rfl)
  unfold Job.isActive
  rw [printing]

/-! ## A ticket's entry (08 R149) -/

/-- An entry written from a job's reservation leaves its job one less. -/
theorem State.writeJobEntry_job (held : s.job w k = some j) (d : EntryData) :
    (s.writeJobEntry w k d).job w k = some { j with reserved := j.reserved - 1 } := by
  have freed := s.unreserve_frame w 1
  exact ((State.writeEntry_frame _ w d).job w k).trans
    (State.mapJob_now _ ((freed.job w k).trans held))

theorem State.books.jobEntered (h : s.books skip (some (w, k)) owed) (held : s.job w k = some j)
    (some_ : 1 ≤ j.reserved) (unheld : j.unheld skip) (d : EntryData) :
    (s.writeJobEntry w k d).books skip (some (w, k)) owed := by
  obtain ⟨released, room⟩ := h.released (n := 1) (f := fun j => { j with reserved := j.reserved - 1 })
    held some_ unheld rfl rfl rfl rfl _ rfl
  exact released.entered w d room

theorem State.writeJobEntry_state (d : EntryData) (v : Window) :
    ((s.writeJobEntry w k d).session v).state = (s.session v).state := by
  obtain ⟨u, hu⟩ : ∃ u, u = (s.unreserve w 1).mapJob w k fun j => { j with reserved := j.reserved - 1 } :=
    ⟨_, rfl⟩
  have step : s.writeJobEntry w k d = u.writeEntry w d := by rw [hu]; rfl
  have before : (u.session v).state = (s.session v).state := by
    rw [hu, (State.mapJob_frame _ w k _).session v]
    exact s.unreserve_state v
  obtain ⟨session, others⟩ := u.writeEntry_session w d
  rw [step, ← before]
  by_cases same : v = w
  · rw [same, session]
    exact (Session.withEntry_books _ d).1
  · rw [others v same]

/-- A spoiled ticket's job, its entry written (03 R59, R60). -/
theorem State.books.jobSpoiled (h : s.books (some l) (some (w, k)) owed) (held : s.job w k = some j)
    (printing : j.state = .printing) (under : j.lane = some l) (few : j.attempts ≤ 2)
    (left : j.reserved = 2 - j.attempts) (opened : (s.session w).state = .opened)
    (reason : OutcomeReason) (cls serial : Nat) :
    (s.spoilJob w k reason cls serial).books (some l) none owed := by
  have active : j.isActive = true := by
    unfold Job.isActive
    rw [printing]
  have unheld : ∀ i : Job, i.lane = j.lane → i.unheld (some l) := fun i same _ => ⟨nofun, same.trans under⟩
  obtain ⟨u, hu⟩ : ∃ u, u = s.mapJob w k fun i => { i with attempts := j.attempts + 1 } := ⟨_, rfl⟩
  have counted : s.changesOnly u [.slots] := hu ▸ s.mapJob_frame w k _
  have here : u.job w k = some { j with attempts := j.attempts + 1 } := by
    rw [hu]
    exact State.mapJob_now _ held
  have books : u.books (some l) (some (w, k)) owed :=
    hu ▸ h.mapped held (.inl (unheld j rfl)) rfl rfl rfl rfl
  have step : s.spoilJob w k reason cls serial = if 3 ≤ j.attempts + 1 then
      u.endJob w k .failed ⟨.failed, reason, j.attempts + 1, cls, serial, 0⟩
    else ((u.mapJob w k fun i =>
        { i with state := afterSpoil reason (j.attempts + 1), lane := none }).postOutcome w k
          ⟨.spoiled, reason, j.attempts + 1, cls, serial, 0⟩).reportJob w k := by
    rw [hu]
    unfold State.spoilJob
    rw [held]
  rw [step]
  split
  · exact books.ended here active (unheld _ rfl) (fun _ => rfl) _
  · rename_i more
    have waits : ∀ i : Job, Job.isActive { i with state := afterSpoil reason (j.attempts + 1) } = true := by
      intro i
      unfold afterSpoil Job.isActive
      rw [if_neg more]
      split_ifs <;> rfl
    obtain ⟨v, hv⟩ : ∃ v, v = u.mapJob w k fun i =>
      { i with state := afterSpoil reason (j.attempts + 1), lane := none } := ⟨_, rfl⟩
    rw [← hv]
    have sent : u.changesOnly v [.slots] := hv ▸ u.mapJob_frame w k _
    have now : v.job w k = some { j with
        attempts := j.attempts + 1, state := afterSpoil reason (j.attempts + 1), lane := none } := by
      rw [hv]
      exact State.mapJob_now _ here
    have requeued : v.books (some l) (some (w, k)) owed :=
      hv ▸ books.mapped here (.inl (unheld _ rfl)) ((waits j).trans active.symm) rfl rfl rfl
    refine State.reportJob_sameBooks.books ((requeued.posted now _).fasten fun i hi => ?_)
    have hi := (State.postOutcome_now _ now).symm.trans hi
    cases hi
    rw [(v.postOutcome_frame w k _).session w, sent.session w, counted.session w]
    exact (Job.fits_active (waits { j with attempts := j.attempts + 1, lane := none, latest := _ })).2 ⟨by dsimp only; omega, by dsimp only; omega, opened⟩

/-! ## A lane's jobs -/

/-- A lane rewritten. -/
theorem State.books.laneMoved {skip' : Option LaneId} {f : Lane → Lane} (h : s.books skip loose owed)
    (covers : ∀ m, m ≠ l → skip' ≠ some m → skip ≠ some m)
    (fits : skip' ≠ some l → (f (s.lane l)).holdings.length ≤ 1 ∧ ∀ x ∈ (f (s.lane l)).holdings,
      ∃ j, s.job x.1 x.2.1 = some j ∧ j.state = .printing ∧ j.lane = some l ∧ j.reserved = x.2.2)
    (free : (f (s.lane l)).free) : (s.moveLane l f).books skip' loose owed := by
  have frame := s.moveLane_frame l f
  have jobs := fun v i => frame.job v i
  refine ⟨fun g => ?_, ?_, ?_, fun v => ?_, fun v i j out job => ?_, fun m out => ?_, fun m => ?_⟩
  · rw [frame.form]
    simp only [State.account_congr _ jobs]
    exact h.forms g
  · rw [frame.journalReserved, h.total]
    exact Finset.sum_congr rfl fun v _ => by rw [frame.session]
  · rw [frame.journalReserved, (frame .journal (by decide)).2.1]
    exact h.room
  · rw [frame.session, State.account_congr _ jobs]
    exact h.due v
  · rw [jobs] at job
    rw [frame.session]
    exact h.jobs v i j out job
  · by_cases same : m = l
    · subst same
      unfold State.laneFits
      rw [State.moveLane_lane_self]
      refine ⟨(fits out).1, fun x mem => ?_⟩
      rw [jobs]
      exact (fits out).2 x mem
    · exact State.laneFits_congr jobs (by rw [State.moveLane_lane_ne _ _ _ same])
        (h.lanes m (covers m same out))
  · by_cases same : m = l
    · rw [same, State.moveLane_lane_self]
      exact free
    · rw [State.moveLane_lane_ne _ _ _ same]
      exact h.free m

/-- A lane that holds no job any more. -/
theorem State.books.laneEmptied {f : Lane → Lane} (h : s.books (some l) loose owed)
    (empty : (f (s.lane l)).holdings = []) (free : (f (s.lane l)).free) :
    (s.moveLane l f).books none loose owed := by
  refine h.laneMoved (fun m other _ e => other (Option.some.inj e).symm) (fun _ => ?_) free
  rw [empty]
  exact ⟨Nat.zero_le 1, fun x mem => nomatch mem⟩

/-- What the books tell of a lane's ticket. -/
theorem State.booked.ticket (h : s.booked) {r : InFlight} (inflight : (s.lane l).inflight = some r) :
    (s.lane l).handed = none ∧ ∃ j, s.job r.window r.slot = some j ∧ j.state = .printing ∧
      j.lane = some l ∧ j.reserved = r.reserved ∧ j.attempts ≤ 2 ∧ j.reserved = 3 - j.attempts ∧
      (s.session r.window).state = .opened := by
  obtain ⟨one, each⟩ := h.lanes l nofun
  unfold Lane.holdings at one each
  rw [inflight] at one each
  have handed : (s.lane l).handed = none := by
    cases held : (s.lane l).handed with
    | none => rfl
    | some x =>
      rw [held] at one
      exact absurd one (by simp)
  obtain ⟨j, job, printing, under, reserved⟩ := each (r.window, r.slot, r.reserved) (by simp)
  have active : j.isActive = true := by
    unfold Job.isActive
    rw [printing]
  obtain ⟨few, left, opened⟩ := (Job.fits_active active).1 (h.jobs r.window r.slot j nofun job)
  exact ⟨handed, j, job, printing, under, reserved, few, left, opened⟩

theorem Lane.endTicket_holdings {x : Lane} (handed : x.handed = none) (head : HeadStatus) :
    (x.endTicket head).holdings = [] ∧ (x.endTicket head).free := by
  refine ⟨?_, fun _ => rfl, fun _ => rfl⟩
  unfold Lane.holdings Lane.endTicket
  rw [handed]
  rfl

theorem Lane.handed_of_unclaimed {x y : Lane} (same : x.unclaimed = y.unclaimed) : x.handed = y.handed :=
  (congrArg Lane.handed same : x.unclaimed.handed = y.unclaimed.handed)

/-- A ticket's mark made and its entry written: its job has one reserved entry less than its attempts
leave. -/
theorem State.booked.ticketEntered (h : s.booked) {r : InFlight} (inflight : (s.lane l).inflight = some r)
    (cls : Nat) (new : Mark) (d : EntryData) (v : State)
    (hv : v = (s.changeMark cls r.serial new).writeJobEntry r.window r.slot d) :
    v.books (some l) (some (r.window, r.slot)) [] ∧ (v.lane l).handed = none ∧
      ∃ j, v.job r.window r.slot = some j ∧ j.state = .printing ∧ j.lane = some l ∧ j.attempts ≤ 2 ∧
        j.reserved = 2 - j.attempts ∧ (v.session r.window).state = .opened := by
  obtain ⟨handed, j, job, printing, under, reserved, few, left, opened⟩ := h.ticket inflight
  obtain ⟨u, hu⟩ : ∃ u, u = s.changeMark cls r.serial new := ⟨_, rfl⟩
  have marked : s.changesOnly u [.packs, .queues, .census] := hu ▸ s.changeMark_frame _ _ _
  rw [← hu] at hv
  have here := (marked.job r.window r.slot).trans job
  have written : u.changesOnly v [.sessions, .journal, .slots, .packs, .queues] :=
    hv ▸ State.changesOnly_mono (u.writeJobEntry_frame r.window r.slot d)
  refine ⟨?_, ?_, { j with reserved := j.reserved - 1 }, ?_, printing, under, few, ?_, ?_⟩
  · rw [hv]
    exact (State.books.loosen (State.books.skipping (skip := some l) (marked.sameBooks.books h))).jobEntered here
      (by omega) (fun _ => ⟨nofun, under⟩) d
  · rw [written.lane l, marked.lane l]
    exact handed
  · rw [hv]
    exact State.writeJobEntry_job here d
  · dsimp only
    omega
  · rw [hv, State.writeJobEntry_state, marked.session]
    exact opened

/-- A ticket spoiled (04 R83; 10 R180). -/
theorem State.booked.spoilTicket (h : s.booked) {r : InFlight} (inflight : (s.lane l).inflight = some r)
    (reason : OutcomeReason) : (s.spoilTicket l r reason).booked := by
  obtain ⟨v, hv⟩ : ∃ v, v = (s.changeMark (s.mountedClass l) r.serial .spoiled).writeJobEntry r.window
    r.slot (r.spoilEntry (s.mountedClass l) ((s.lane l).pack.getD 0)) := ⟨_, rfl⟩
  obtain ⟨books, handed, j, now, printing, under, few, left, opened⟩ :=
    h.ticketEntered inflight _ _ _ v hv
  have spoiled := books.jobSpoiled now printing under few left opened reason (s.mountedClass l) r.serial
  have lanes := v.spoilJob_claimed r.window r.slot reason (s.mountedClass l) r.serial
  have step : s.spoilTicket l r reason = (v.spoilJob r.window r.slot reason (s.mountedClass l)
      r.serial).moveLane l fun x => x.endTicket .notPositioned := by
    rw [hv]
    rfl
  have free := (Lane.handed_of_unclaimed (lanes.unclaimed l)).trans handed
  obtain ⟨empty, clear⟩ := Lane.endTicket_holdings free .notPositioned
  rw [step]
  exact spoiled.laneEmptied empty clear

/-- A ticket issued (04 R82). -/
theorem State.booked.issueTicket (h : s.booked) {r : InFlight} (inflight : (s.lane l).inflight = some r) :
    (s.issueTicket l r).booked := by
  obtain ⟨v, hv⟩ : ∃ v, v = (s.changeMark (s.mountedClass l) r.serial .issued).writeJobEntry r.window
    r.slot (r.issueEntry (s.mountedClass l) ((s.lane l).pack.getD 0)) := ⟨_, rfl⟩
  obtain ⟨o, ho⟩ : ∃ o : SlotOutcome, o = ⟨.done, .none, s.attemptsOf r.window r.slot, s.mountedClass l,
    r.serial, r.value⟩ := ⟨_, rfl⟩
  obtain ⟨books, handed, j, now, printing, under, -⟩ := h.ticketEntered inflight _ _ _ v hv
  have active : j.isActive = true := by
    unfold Job.isActive
    rw [printing]
  have ended := books.ended (st := .done) now active (fun _ => ⟨nofun, under⟩) (fun _ => rfl) o
  have lanes := v.endJob_claimed r.window r.slot .done o
  have step : s.issueTicket l r = (v.endJob r.window r.slot .done o).moveLane l
      fun x => x.endTicket .notPositioned := by
    rw [hv, ho]
    rfl
  have free := (Lane.handed_of_unclaimed (lanes.unclaimed l)).trans handed
  obtain ⟨empty, clear⟩ := Lane.endTicket_holdings free .notPositioned
  rw [step]
  exact ended.laneEmptied empty clear

/-- A ticket settled at a fault or a purge (10 R180). -/
theorem State.booked.settle (h : s.booked) (l : LaneId) : (s.settle l).booked := by
  cases inflight : (s.lane l).inflight with
  | none =>
    rw [State.settle_of_none inflight]
    exact h
  | some r =>
    cases begun : r.begun with
    | true =>
      rw [s.settle_of_begun l inflight begun]
      exact h.spoilTicket inflight .mechanical
    | false =>
      obtain ⟨handed, j, job, printing, under, -⟩ := h.ticket inflight
      rw [s.settle_of_handed l inflight begun]
      have back := (State.books.skipping (skip := some l) h).handedBack job printing under
      have lanes := s.handBack_claimed r.window r.slot
      have free : ((s.handBack r.window r.slot).lane l).handed = none := by
        rw [Lane.handed_of_unclaimed (lanes.unclaimed l)]
        exact handed
      generalize s.handBack r.window r.slot = v at back free ⊢
      obtain ⟨empty, clear⟩ := Lane.endTicket_holdings free (v.lane l).head
      exact back.laneEmptied (f := fun x => x.endTicket x.head) empty clear

end

end Sys2Proof.Machine
end

section
/-! SUPPORT. The lanes' operations keep the books: faults, feeds, verification, printing and the cut (04),
and the claims (03 R53 to R56, R61; 04 R79). -/

set_option Elab.async false

namespace Sys2Proof.Machine

section
variable {s t u : State} {skip : Option LaneId} {loose : Option (Window × SlotId)}
  {owed : List (Window × Job)} {w : Window} {k : SlotId} {j : Job} {l : LaneId} {a : List Part} {n : Nat}
  {x y : Lane}

theorem State.sameBooks.booked (h : s.sameBooks t) (b : s.booked) : t.booked := h.books b

/-! ## A lane's record written -/

theorem Lane.free.kept (h : x.free) (claim : y.claimSent = x.claimSent) (inflight : y.inflight = x.inflight)
    (idle : y.state = .idle → x.state = .idle) : y.free := by
  unfold Lane.free
  rw [claim, inflight]
  exact ⟨h.1, fun e => h.2 (idle e)⟩

theorem Lane.free_of_none (none_ : x.inflight = none) : x.free := ⟨fun _ => none_, fun _ => none_⟩

theorem Lane.holdings_congr (handed : y.handed = x.handed) (inflight : y.inflight = x.inflight) :
    y.holdings = x.holdings := by
  unfold Lane.holdings
  rw [handed, inflight]

/-- A lane rewritten with its jobs and its claim. -/
theorem State.sameBooks_lane {f : Lane → Lane} (handed : (f (s.lane l)).handed = (s.lane l).handed)
    (inflight : (f (s.lane l)).inflight = (s.lane l).inflight)
    (claim : (f (s.lane l)).claimSent = (s.lane l).claimSent)
    (idle : (f (s.lane l)).state = .idle → (s.lane l).state = .idle) : s.sameBooks (s.moveLane l f) :=
  State.moveLane_sameBooks (Lane.holdings_congr handed inflight) fun free => free.kept claim inflight idle

theorem State.enterHolding_sameBooks (c : HoldCauses) : s.sameBooks (s.enterHolding l c) := by
  unfold State.enterHolding
  split
  · exact State.sameBooks_lane (f := Lane.lockedIn) rfl rfl rfl nofun
  · exact State.sameBooks_lane (f := fun x => x.heldFor c) rfl rfl rfl nofun

theorem State.stockOutEnd_sameBooks : s.sameBooks (s.stockOutEnd l) := by
  unfold State.stockOutEnd
  split
  · exact State.sameBooks_lane (f := Lane.lockedIn) rfl rfl rfl nofun
  · exact State.sameBooks_lane
      (f := fun x => { x.heldFor ⟨x.holdAfter, true⟩ with head := .notPositioned }) rfl rfl rfl nofun

theorem State.advanceHead_sameBooks : s.sameBooks (s.advanceHead l) := by
  unfold State.advanceHead
  split
  · split
    · exact (s.changeMark_frame _ _ _).sameBooks.andThen
        (State.sameBooks_lane (f := fun x => { x with head := .notPositioned }) rfl rfl rfl id)
    · exact s.sameBooks_refl
  · exact s.sameBooks_refl

/-- A lane without a ticket enters IDLE. -/
theorem State.enterIdle_sameBooks (none_ : (s.lane l).inflight = none) : s.sameBooks (s.enterIdle l) := by
  unfold State.enterIdle
  split
  · exact State.sameBooks_lane (f := Lane.lockedIn) rfl rfl rfl nofun
  · refine State.moveLane_sameBooks ?_ fun _ => Lane.claiming_free _ (Lane.free_of_none none_)
    rw [Lane.claiming_holdings]
    rfl

theorem State.observeOpening_sameBooks : s.sameBooks (s.observeOpening l) := by
  have seen : s.sameBooks (s.moveLane l fun x => { x with cabinetSeen := .opened }) :=
    State.sameBooks_lane rfl rfl rfl id
  have raised := seen.andThen (State.changesOnly.sameBooks
    (State.raiseLane_frame (s.moveLane l fun x => { x with cabinetSeen := .opened }) l .cabinetOpen {}))
  unfold State.observeOpening
  dsimp only
  split
  · exact seen
  · exact raised.andThen (State.enterHolding_sameBooks _)
  · exact raised.andThen (State.sameBooks_lane
      (f := fun x => { x with causes := { x.causes with cabinetOpen := true } }) rfl rfl rfl id)
  · exact raised
  all_goals exact raised.andThen (State.sameBooks_lane (f := fun x => { x with holdAfter := true })
    rfl rfl rfl id)

theorem State.openAtStart_sameBooks : s.sameBooks (s.openAtStart l) := by
  unfold State.openAtStart
  split
  · exact State.observeOpening_sameBooks
  · exact State.enterHolding_sameBooks _

theorem State.strobeLine_sameBooks : s.sameBooks (s.strobeLine l) := by
  unfold State.strobeLine
  split
  · exact State.sameBooks_lane (f := fun x => { x with deferred := some .strobe }) rfl rfl rfl id
  · refine State.moveLane_sameBooks ?_ fun free => ?_
    · unfold Lane.holdings Lane.strobe
      cases (s.lane l).inflight <;> rfl
    · unfold Lane.free Lane.strobe at *
      dsimp only
      simpa using free

/-! ## Faults and feeds (04 R72, R75) -/

theorem State.booked.laneFault (h : s.booked) (k : FaultKind) (c : FaultContext) :
    (s.laneFault l k c).booked := by
  have stopped : (s.moveLane l Lane.stopped).booked :=
    (State.sameBooks_lane (f := Lane.stopped) rfl rfl rfl id).booked h
  exact ((State.changesOnly.sameBooks (State.raiseLane_frame _ l k c)).andThen
    (State.sameBooks_lane (f := Lane.lockedIn) rfl rfl rfl nofun)).books (stopped.settle l)

theorem State.booked.issueFeed (h : s.booked) : (s.issueFeed l).booked := by
  unfold State.issueFeed
  split
  · exact h.laneFault _ _
  · exact (State.sameBooks_lane (f := fun x =>
      { x with head := .notPositioned, awaiting := some .feed, deferred := none }) rfl rfl rfl id).booked h

theorem State.booked.feedAttempt (h : s.booked) : (s.feedAttempt l).booked := by
  have advanced := State.advanceHead_sameBooks.booked (s := s) (t := s.advanceHead l) h
  unfold State.feedAttempt
  dsimp only
  generalize s.advanceHead l = t at advanced ⊢
  split
  · exact State.stockOutEnd_sameBooks.booked advanced
  · split
    · exact (State.sameBooks_lane (f := fun x => { x with deferred := some .feed }) rfl rfl rfl id).booked
        advanced
    · exact advanced.issueFeed

theorem State.booked.startPriming (h : s.booked) : (s.startPriming l).booked := by
  have sampled : s.sameBooks (s.sampleAtPriming l) := by
    unfold State.sampleAtPriming
    dsimp only
    split
    · exact (State.sameBooks_lane (f := fun y => { y with cabinetSeen := .opened }) rfl rfl rfl id).andThen
        (State.changesOnly.sameBooks (State.raiseLane_frame _ l .cabinetOpen {}))
    · exact s.sameBooks_refl
  have booked := sampled.booked h
  unfold State.startPriming
  dsimp only
  generalize s.sampleAtPriming l = t at booked ⊢
  split
  · exact (State.enterHolding_sameBooks _).booked booked
  · split
    · exact State.booked.feedAttempt ((State.sameBooks_lane
        (f := fun x => { x with state := .feeding, causes := .empty }) rfl rfl rfl nofun).booked booked)
    · exact (State.sameBooks_lane (f := fun x =>
        Lane.reading { x with state := .priming, causes := .empty, failedReads := 0 })
          rfl rfl rfl nofun).booked booked

theorem State.booked.relock (h : s.booked) : (s.relock l).booked := by
  have locked : s.sameBooks ((s.moveLane l fun x => { x with cabinetSeen := .locked }).selfClear l) :=
    (State.sameBooks_lane (f := fun x => { x with cabinetSeen := .locked }) rfl rfl rfl id).andThen
      (State.changesOnly.sameBooks (State.selfClear_frame _ l))
  have booked := locked.booked h
  unfold State.relock
  dsimp only
  generalize (s.moveLane l fun x => { x with cabinetSeen := .locked }).selfClear l = t at booked ⊢
  split
  · have closed := (State.sameBooks_lane (s := t) (l := l)
      (f := fun x => { x with causes := { x.causes with cabinetOpen := false } }) rfl rfl rfl id).booked booked
    split
    · exact closed.startPriming
    · exact closed
  all_goals first
    | exact booked
    | exact (State.sameBooks_lane (f := fun x => { x with holdAfter := false }) rfl rfl rfl id).booked booked

/-! ## Verification (04 R76 to R78) -/

theorem State.booked.endMatch (h : s.booked) (none_ : (s.lane l).inflight = none) :
    (s.endMatch l).booked := by
  unfold State.endMatch
  dsimp only
  split
  · exact (State.sameBooks_lane (f := Lane.lockedIn) rfl rfl rfl nofun).booked h
  · split
    · exact (State.enterHolding_sameBooks _).booked h
    · split
      · exact State.booked.feedAttempt ((State.sameBooks_lane
          (f := fun y => { y with advances := y.advances - 1 }) rfl rfl rfl id).booked h)
      · have moved := (State.sameBooks_lane (s := s) (l := l)
          (f := fun y => { y with advances := 0 }) rfl rfl rfl id).booked h
        refine (State.enterIdle_sameBooks ?_).booked moved
        rw [State.moveLane_lane_self]
        exact none_

theorem State.booked.wrongStock (h : s.booked) (cls serial : Nat) : (s.wrongStock l cls serial).booked :=
  State.booked.laneFault ((State.sameBooks_lane (f := Lane.unverified) rfl rfl rfl id).booked h) _ _

theorem State.booked.readAhead (h : s.booked) (cls serial e : Nat) :
    (s.readAhead l cls serial e).booked := by
  unfold State.readAhead
  dsimp only
  exact State.booked.laneFault (((State.changesOnly.sameBooks (State.markUnused_frame s cls .missing _)).andThen
    (State.sameBooks_lane (f := fun x => x.verify serial) rfl rfl rfl id)).booked h) _ _

theorem State.booked.compareRead (h : s.booked) (none_ : (s.lane l).inflight = none) (cls serial : Nat) :
    (s.compareRead l cls serial).booked := by
  unfold State.compareRead
  split
  · split
    · refine State.booked.endMatch ((State.sameBooks_lane (f := fun x => x.verify serial)
        rfl rfl rfl id).booked h) ?_
      rw [State.moveLane_lane_self]
      exact none_
    · split
      · exact h.readAhead cls serial _
      · exact h.wrongStock cls serial
  · exact h.wrongStock cls serial

theorem State.booked.failedRead (h : s.booked) : (s.failedRead l).booked := by
  unfold State.failedRead
  dsimp only
  split
  · exact (State.sameBooks_lane (f := fun x => Lane.reading { x.unverified with failedReads := _ })
      rfl rfl rfl id).booked h
  · exact State.booked.laneFault ((State.sameBooks_lane
      (f := fun x => { x.unverified with failedReads := 3 }) rfl rfl rfl id).booked h) _ _

theorem State.booked.takeRecord (h : s.booked) (none_ : (s.lane l).inflight = none)
    (record : Vector Byte 6) : (s.takeRecord l record).booked := by
  have taken := (State.sameBooks_lane (s := s) (l := l) (f := fun x => { x with awaiting := none })
    rfl rfl rfl id).booked h
  unfold State.takeRecord
  dsimp only
  split
  · refine taken.compareRead ?_ _ _
    rw [State.moveLane_lane_self]
    exact none_
  · exact taken.failedRead

/-! ## Printing and the cut (04 R80 to R84) -/

theorem State.booked.afterStrobe (h : s.booked) : (s.afterStrobe l).booked := by
  unfold State.afterStrobe
  dsimp only
  split
  · exact State.strobeLine_sameBooks.booked ((State.sameBooks_lane
      (f := fun y => { y with line := y.line + 1, awaiting := none }) rfl rfl rfl id).booked h)
  · exact (State.sameBooks_lane (f := fun y => { y with state := .cutting, awaiting := some .cut })
      rfl rfl rfl nofun).booked h

theorem State.booked.afterTicket (h : s.booked) : (s.afterTicket l).booked := by
  unfold State.afterTicket
  split
  · exact (State.enterHolding_sameBooks _).booked h
  · split
    · exact State.stockOutEnd_sameBooks.booked h
    · exact State.booked.feedAttempt ((State.sameBooks_lane (f := fun x => { x with state := .feeding })
        rfl rfl rfl nofun).booked h)

theorem State.booked.cutCompletion (h : s.booked) : (s.cutCompletion l).booked := by
  have taken := (State.sameBooks_lane (s := s) (l := l) (f := fun x => { x with awaiting := none })
    rfl rfl rfl id).booked h
  unfold State.cutCompletion
  dsimp only
  split
  · exact taken
  · rename_i r inflight
    have inflight' : ((s.moveLane l fun x => { x with awaiting := none }).lane l).inflight = some r := by
      rw [State.moveLane_lane_self]
      exact inflight
    split
    · exact (taken.spoilTicket inflight' _).afterTicket
    · exact (taken.issueTicket inflight').afterTicket

theorem State.booked.resume (h : s.booked) : (s.resume l).booked := by
  unfold State.resume
  split
  · exact h.issueFeed
  · exact State.strobeLine_sameBooks.booked h
  · exact h

theorem State.resumed_booked : ∀ (xs : List LaneId) {s : State}, s.booked → (xs.foldl State.resume s).booked
  | [], _, h => h
  | _ :: xs, _, h => State.resumed_booked xs h.resume

/-! ## Claims (03 R53 to R56, R61; 04 R79) -/

/-- A job claimed by a lane that holds none. -/
theorem State.booked.claimJob (h : s.booked) (held : s.job w k = some j) (queued : j.state = .queued)
    (none_ : (s.lane l).inflight = none) :
    (s.claimJob l w k j).booked := by
  have active : j.isActive = true := by
    unfold Job.isActive
    rw [queued]
  obtain ⟨u, hu⟩ : ∃ u, u = s.mapJob w k fun j =>
    { j with state := .printing, lane := some l, deadline := none } := ⟨_, rfl⟩
  have frame : s.changesOnly u [.slots] := hu ▸ s.mapJob_frame w k _
  have now : u.job w k = some { j with state := .printing, lane := some l, deadline := none } := by
    rw [hu]
    exact State.mapJob_now _ held
  have books : u.booked := hu ▸ h.amended held (.inl (Job.unheld_of_not_printing (by rw [queued]; nofun)))
    active.symm rfl rfl rfl rfl
  have step : s.claimJob l w k j = u.moveLane l fun x => { x with handed := some (j.handedAs w k) } := by
    rw [hu]
    rfl
  have none_' : (u.lane l).inflight = none := by
    rw [frame.lane l]
    exact none_
  rw [step]
  refine books.laneMoved (fun _ _ _ => nofun) (fun _ => ?_) (Lane.free_of_none none_')
  unfold Lane.holdings
  dsimp only
  rw [none_']
  refine ⟨Nat.le_refl 1, fun x mem => ?_⟩
  obtain rfl : x = (w, k, j.reserved) := by simpa [Job.handedAs] using mem
  exact ⟨_, now, rfl, rfl, rfl⟩

/-- The job selected stands QUEUED in its slot. -/
theorem State.selectJob_spec (selected : s.selectJob l = some (w, k, j)) :
    s.job w k = some j ∧ j.state = .queued := by
  by_cases some_ : ∃ w k j, s.job w k = some j ∧ s.eligible j l = true
  · obtain ⟨w', k', j', held, eligible⟩ := some_
    obtain ⟨w'', k'', j'', first, job, good, -⟩ := State.selectJob_eq_some held eligible
    cases selected.symm.trans first
    refine ⟨job, ?_⟩
    by_contra other
    rw [State.not_eligible_of_not_queued other] at good
    cases good
  · have none_ := State.selectJob_eq_none (s := s) (l := l) fun w k j held =>
      Bool.eq_false_iff.2 fun eligible => some_ ⟨w, k, j, held, eligible⟩
    rw [none_] at selected
    cases selected

theorem State.booked.takeClaim (h : s.booked) : (s.takeClaim l).booked := by
  unfold State.takeClaim
  split
  · rename_i asks
    obtain ⟨sent, handed⟩ := by simpa using asks
    have none_ : (s.lane l).inflight = none := (h.free l).1 sent
    obtain ⟨u, hu⟩ : ∃ u, u = s.moveLane l fun x => { x with claimSent := false } := ⟨_, rfl⟩
    have taken : u.booked := by
      rw [hu]
      exact (State.moveLane_sameBooks rfl fun _ => Lane.free_of_none none_).booked h
    have lane : u.lane l = { s.lane l with claimSent := false } := by
      rw [hu]
      exact s.moveLane_lane_self l _
    have frame : s.changesOnly u [.lanes, .queues] := hu ▸ s.moveLane_frame l _
    rw [← hu]
    dsimp only
    split
    · rename_i w k j selected
      obtain ⟨job, eligible⟩ := State.selectJob_spec selected
      refine taken.claimJob ((frame.job w k).trans job) eligible ?_
      rw [lane]
      exact none_
    · exact taken
  · exact h

/-- A handed job taken by its lane, which holds it no longer. -/
theorem State.booked.answerClaim (h : s.booked) {x : Handed} (held : s.job x.window x.slot = some j)
    (printing : j.state = .printing) (under : j.lane = some l) (reserved : j.reserved = x.reserved)
    (empty : (s.lane l).holdings = []) : (s.answerClaim l x).booked := by
  have back : ∀ {u : State}, s.sameBooks u → (u.handBack x.window x.slot).booked := fun {u} same => by
    have back := (State.books.skipping (skip := some l) (same.books h)).handedBack
      ((same.jobs _ _).trans held) printing under
    have claimed := u.handBack_claimed x.window x.slot
    refine back.rejoined ?_
    unfold State.laneFits
    have none_ : ((u.handBack x.window x.slot).lane l).holdings = [] := by
      rw [← empty, ← same.lanes l]
      rcases claimed l with e | e
      · rw [e]
      · rw [e, Lane.claiming_holdings]
    rw [none_]
    exact ⟨Nat.zero_le 1, fun x mem => nomatch mem⟩
  unfold State.answerClaim
  split
  · split
    · exact back State.openAtStart_sameBooks
    · split
      · exact back s.sameBooks_refl
      · split
        · rename_i d _
          refine State.strobeLine_sameBooks.booked (State.books.laneMoved h (fun _ _ _ => nofun) (fun _ => ?_)
            ⟨nofun, nofun⟩)
          have handed : (s.lane l).handed = none := by
            cases e : (s.lane l).handed with
            | none => rfl
            | some y =>
              unfold Lane.holdings at empty
              rw [e] at empty
              cases empty
          unfold Lane.holdings Lane.startTicket
          dsimp only
          rw [handed]
          refine ⟨Nat.le_refl 1, fun y mem => ?_⟩
          obtain rfl : y = (x.window, x.slot, x.reserved) := by simpa using mem
          exact ⟨j, held, printing, under, reserved⟩
        · exact back s.sameBooks_refl
  · exact back s.sameBooks_refl

theorem State.booked.takeAnswer (h : s.booked) : (s.takeAnswer l).booked := by
  unfold State.takeAnswer
  split
  · rename_i x handed
    obtain ⟨one, each⟩ := h.lanes l nofun
    unfold Lane.holdings at one each
    rw [handed] at one each
    have none_ : (s.lane l).inflight = none := by
      cases e : (s.lane l).inflight with
      | none => rfl
      | some r =>
        rw [e] at one
        exact absurd one (by simp)
    obtain ⟨j, job, printing, under, reserved⟩ := each (x.window, x.slot, x.reserved) (by simp)
    have empty : Lane.holdings { s.lane l with handed := none } = [] := by
      unfold Lane.holdings
      dsimp only
      rw [none_]
      rfl
    have taken : (s.moveLane l fun x => { x with handed := none }).booked :=
      (State.books.skipping (skip := some l) h).laneMoved (fun m other _ e => other (Option.some.inj e).symm)
        (fun _ => by
          rw [empty]
          exact ⟨Nat.zero_le 1, fun x mem => nomatch mem⟩) (Lane.free_of_none none_)
    refine taken.answerClaim (((s.moveLane_frame l _).job _ _).trans job) printing under reserved ?_
    rw [State.moveLane_lane_self]
    exact empty
  · exact h

end

end Sys2Proof.Machine
end

section
/-! SUPPORT. The requests that write the books themselves: a session's state (08 R142; 09), an entry
written by a void (08 R156), a definition stored (02 R25, R26), a job submitted (03 R43) and a notice
fetched (03 R40). -/

set_option Elab.async false

namespace Sys2Proof.Machine

section
variable {s t u : State} {skip : Option LaneId} {loose : Option (Window × SlotId)}
  {owed : List (Window × Job)} {w : Window} {k : SlotId} {j : Job} {l : LaneId} {a : List Part} {n : Nat}

/-! ## Sessions -/

theorem State.tally_zero {v : Window → Job → Nat} (h : ∀ u i j, s.job u i = some j → v u j = 0) :
    s.tally v = 0 := by
  by_contra some_
  obtain ⟨u, i, j, job, positive⟩ := State.tally_pos (Nat.pos_of_ne_zero some_)
  rw [h u i j job] at positive
  cases positive

/-- A window with no active job has nothing reserved. -/
theorem State.booked.idle_reserved (h : s.booked) (idle : ∀ k j, s.job w k = some j → j.isActive = false) :
    (s.session w).reserved = 0 := by
  rw [h.due w, State.account_nil]
  refine State.tally_zero fun u i j job => ?_
  unfold Job.dueTo
  split
  · rename_i same
    subst same
    have fits := h.jobs u i j nofun job
    unfold Job.fits at fits
    rw [if_neg (by rw [idle i j job]; exact Bool.false_ne_true)] at fits
    exact fits
  · rfl

/-- A session that is not OPEN has no active job. -/
theorem State.booked.idle (h : s.booked) (state : (s.session w).state ≠ .opened) (k : SlotId) (j : Job)
    (job : s.job w k = some j) : j.isActive = false := by
  have fits := h.jobs w k j nofun job
  by_contra active
  rw [Bool.not_eq_false] at active
  exact state ((Job.fits_active active).1 fits).2.2

/-- A session rewritten with its reservation; it leaves OPEN only without an active job. -/
theorem State.booked.setSession {x : Session} (h : s.booked) (reserved : x.reserved = (s.session w).reserved)
    (state : x.state = (s.session w).state ∨ ∀ k j, s.job w k = some j → j.isActive = false) :
    (s.setSession w x).booked := by
  have parts : ∀ v, ((s.setSession w x).session v).reserved = (s.session v).reserved := fun v => by
    by_cases same : v = w
    · rw [same, State.setSession_session_self]
      exact reserved
    · rw [s.setSession_session_ne same]
  refine ⟨h.forms, ?_, h.room, fun v => ?_, fun v i j out job => ?_, h.lanes, h.free⟩
  · refine h.total.trans (Finset.sum_congr rfl fun v _ => (parts v).symm)
  · exact (parts v).trans (h.due v)
  · have fits := h.jobs v i j out job
    by_cases same : v = w
    · subst same
      rw [State.setSession_session_self]
      rcases state with kept | idle
      · rw [kept]
        exact fits
      · have ended := idle i j job
        unfold Job.fits at fits ⊢
        rw [if_neg (by rw [ended]; exact Bool.false_ne_true)] at fits ⊢
        exact fits
    · rw [s.setSession_session_ne same]
      exact fits

theorem State.booked.setSession_posted {x : Session} (h : s.booked)
    (reserved : x.reserved = (s.session w).reserved)
    (state : x.state = (s.session w).state ∨ ∀ k j, s.job w k = some j → j.isActive = false) :
    ((s.setSession w x).postSession w).booked :=
  (State.postSession_frame (s.setSession w x) w).sameBooks.booked (h.setSession reserved state)

theorem State.booked.dropDeclaration (h : s.booked) : (s.dropDeclaration w).booked :=
  h.setSession rfl (.inl rfl)

theorem State.booked.reachBlock (h : s.booked) (p : Port) (k : RequestKind) : (s.reachBlock p k).booked := by
  unfold State.reachBlock
  split
  · split
    · exact h.dropDeclaration
    · exact h
  · exact h

theorem State.booked.openSession (h : s.booked) (b : OpenBody) : (s.openSession w b).1.booked := by
  unfold State.openSession
  split
  · exact h
  · rename_i none_
    split
    · exact h
    · have idle := h.idle (w := w) fun e => none_ (fun n => nomatch e.symm.trans n)
      exact h.setSession_posted (h.idle_reserved idle).symm (.inr idle)

theorem State.hasActiveJob_false (h : s.hasActiveJob w = false) (k : SlotId) (j : Job)
    (job : s.job w k = some j) : j.isActive = false := by
  have none_ := List.any_eq_false.1 h k (mem_allSlots k)
  rw [job] at none_
  simpa using none_

theorem State.booked.declareBegin (h : s.booked) (n : Nat) : (s.declareBegin w n).1.booked := by
  unfold State.declareBegin
  split
  · exact h
  · exact h
  · split
    · exact h
    · split
      · exact h
      · rename_i ended
        exact h.setSession_posted rfl (.inr (State.hasActiveJob_false (Bool.eq_false_iff.2 ended)))
  · rename_i declaring
    split
    · exact h
    · exact h.setSession rfl (.inl declaring.symm)

theorem State.booked.inSequence {take : DeclarationInProgress → State → State × Reply} (h : s.booked)
    (each : ∀ d, (s.session w).state = .declaring → (take d s).1.booked) :
    (s.inSequence w take).1.booked := by
  unfold State.inSequence
  split
  case h_5 declaring _ => exact each _ declaring
  all_goals exact h

theorem State.booked.declareItem (h : s.booked) (b : ItemBody) : (s.declareItem w b).1.booked := by
  refine h.inSequence fun d _ => ?_
  repeat' split
  case isFalse.isFalse.isFalse => exact h.setSession rfl (.inl rfl)
  case isFalse.isTrue => exact h.dropDeclaration
  case isFalse.isFalse.isTrue => exact h.dropDeclaration
  all_goals exact h

theorem State.booked.declareConfirm (h : s.booked) (b : ConfirmBody) : (s.declareConfirm w b).1.booked := by
  refine h.inSequence fun d declaring => ?_
  split
  · exact h
  · split
    · exact h.dropDeclaration
    · exact h.setSession_posted rfl (.inr (h.idle fun e => nomatch declaring.symm.trans e))

theorem State.booked.freeEntries (h : s.booked) : (s.freeEntries w).booked := by
  have frame := s.freeEntries_frame w
  have inUse : (s.freeEntries w).journalInUse ≤ s.journalInUse ∧
      (s.freeEntries w).journalReserved = s.journalReserved := by
    unfold State.freeEntries
    dsimp only
    split <;> exact ⟨Nat.sub_le _ _, rfl⟩
  generalize s.freeEntries w = t at frame inUse ⊢
  have jobs := fun v i => frame.job v i
  refine ⟨fun f => ?_, ?_, ?_, fun v => ?_, fun v i j out job => ?_, fun l out => ?_, fun l => ?_⟩
  · rw [frame.form]
    simp only [State.account_congr _ jobs]
    exact h.forms f
  · rw [inUse.2, h.total]
    exact Finset.sum_congr rfl fun v _ => by rw [frame.session]
  · rw [inUse.2]
    exact (Nat.add_le_add_right inUse.1 _).trans h.room
  · rw [frame.session, State.account_congr _ jobs]
    exact h.due v
  · rw [jobs] at job
    rw [frame.session]
    exact h.jobs v i j out job
  · exact State.laneFits_congr jobs (by rw [frame.lane l]) (h.lanes l out)
  · rw [frame.lane l]
    exact h.free l

theorem State.booked.collectCashup (h : s.booked) (n : Nat) : (s.collectCashup n).1.booked := by
  unfold State.collectCashup
  split
  · exact h
  · rename_i w _
    split
    · exact h
    · rename_i declared
      have freed := h.freeEntries (w := w)
      have state : ((s.freeEntries w).session w).state = .declared := by
        rw [(s.freeEntries_frame w).session w]
        exact not_not.1 declared
      have idle := freed.idle fun e => nomatch state.symm.trans e
      exact freed.setSession_posted (freed.idle_reserved idle).symm (.inr idle)

theorem State.booked.reopenSession (h : s.booked) (n : Nat) : (s.reopenSession n).1.booked := by
  unfold State.reopenSession
  split
  · exact h
  · split
    · exact h
    · rename_i declared
      exact h.setSession_posted rfl (.inr (h.idle fun e => declared (fun d => nomatch d.symm.trans e)))

/-- A ticket voided, its entry written in free room (08 R156). -/
theorem State.booked.voidTicket (h : s.booked) (b : VoidBody) : (s.voidTicket w b).1.booked := by
  unfold State.voidTicket State.voidOpen State.voidIssued
  repeat' split
  case h_2 => exact h.dropDeclaration
  case isFalse.isFalse =>
    rename_i e _ _ free
    have marked := s.changeMark_frame e.data.cls e.data.serial .voided
    refine State.books.entered (marked.sameBooks.booked h) w _ ?_
    rw [(marked .journal (by decide)).2.1, marked.journalReserved]
    unfold State.journalFree Config.journalSize at free
    omega
  all_goals exact h

/-! ## The form table (02) -/

theorem State.booked.setForm {f : Fin 8} {x : FormRecord} (h : s.booked)
    (counts : (s.form f).counts (fun g => s.account [] fun _ => Job.boundTo f g) →
      x.counts fun g => s.account [] fun _ => Job.boundTo f g) : (s.setForm f x).postForms.booked := by
  refine (State.postOffice_frame (s.setForm f x) _ _).sameBooks.booked
    ⟨fun g => ?_, h.total, h.room, h.due, h.jobs, h.lanes, h.free⟩
  by_cases same : g = f
  · subst same
    rw [State.setForm_form_self]
    exact counts (h.forms g)
  · rw [s.setForm_form_ne same]
    exact h.forms g

theorem State.booked.defineForm (h : s.booked) (b : FormBody) : (s.defineForm b).1.booked := by
  unfold State.defineForm
  split
  · exact h
  · dsimp only
    split
    · exact h
    · split
      · rename_i unused
        exact h.setForm fun counts => counts.placed unused _
      · rename_i used
        split
        · exact h
        · exact h.setForm fun counts => counts.stored used _

/-! ## A job submitted (03 R43) -/

theorem State.binding_spec {n : Nat} {g : Binding} (bound : s.binding n = some g) :
    g.coming = (s.form g.form).pending.isSome ∧ g.generation =
      if g.coming then nextGeneration (s.form g.form).generation else (s.form g.form).generation := by
  unfold State.binding at bound
  split at bound
  · cases bound
  · dsimp only at bound
    split at bound
    · cases bound
    · rename_i pending
      cases bound
      exact ⟨by rw [pending]; rfl, rfl⟩
    · rename_i pending
      cases bound
      exact ⟨by rw [pending]; rfl, rfl⟩

theorem State.reserve_session (n : Nat) : (s.reserve w n).session w =
    { s.session w with reserved := (s.session w).reserved + n } := s.setSession_session_self w _

theorem State.reserve_otherSessions (n : Nat) : s.otherSessions (s.reserve w n) w :=
  fun _ other => s.setSession_session_ne other _

theorem State.booked.placeJob (h : s.booked) {b : SubmitBody} {n : Nat} {g : Binding}
    (bound : s.binding n = some g) (opened : (s.session w).state = .opened) (free : s.job w k = none)
    (room : s.journalInUse + s.journalReserved + 3 ≤ 4096) : (s.placeJob w k b g).1.booked := by
  obtain ⟨u, hu⟩ : ∃ u, u = (s.setForm g.form ((s.form g.form).raised g.coming)).reserve w
    Config.jobReservation := ⟨_, rfl⟩
  obtain ⟨v, hv⟩ : ∃ v, v = u.setSlot w k { u.slot w k with job := some (s.newJob w b g) } := ⟨_, rfl⟩
  have step : (s.placeJob w k b g).1 = v.reportJob w k := by rw [hv, hu]; rfl
  rw [step]
  refine State.reportJob_sameBooks.booked ?_
  have reserved : s.changesOnly u [.forms, .sessions, .journal] :=
    hu ▸ State.changesOnly_then (s.setForm_frame _ _) (State.reserve_frame _ w _)
  have placed : u.changesOnly v [.slots] := hv ▸ u.setSlot_frame w k _
  have form : ∀ f, v.form f = (s.setForm g.form ((s.form g.form).raised g.coming)).form f := fun f => by
    rw [placed.form, hu]
    rfl
  have session : ∀ x, (v.session x).state = (s.session x).state ∧
      (v.session x).reserved = (s.session x).reserved + if w = x then 3 else 0 := fun x => by
    rw [placed.session, hu]
    by_cases same : x = w
    · rw [same, if_pos rfl, State.reserve_session]
      exact ⟨rfl, rfl⟩
    · rw [if_neg (Ne.symm same), State.reserve_otherSessions _ x same]
      exact ⟨rfl, rfl⟩
  have journal : v.journalReserved = s.journalReserved + 3 ∧ v.journalInUse = s.journalInUse := by
    rw [placed.journalReserved, (placed .journal (by decide)).2.1, hu]
    exact ⟨rfl, rfl⟩
  have now : v.job w k = some (s.newJob w b g) := by
    rw [hv]
    exact congrArg Slot.job (u.setSlot_slot_self w k _)
  have others : ∀ x i, (x, i) ≠ (w, k) → v.job x i = s.job x i := fun x i other => by
    rw [hv]
    exact (congrArg Slot.job (u.setSlot_slot_ne other _)).trans (reserved.job x i)
  have lanes := fun l => (placed.lane l (by decide)).trans (reserved.lane l (by decide))
  have change := fun q => State.account_change (owed := []) q others
  have empty : ∀ q, worth q w none = 0 := fun _ => rfl
  simp only [free, now, worth_some, empty, Nat.add_zero] at change
  refine ⟨fun f => ?_, ?_, by omega, fun x => ?_, fun x i j _ job => ?_, fun l out => ?_, fun l => ?_⟩
  · rw [form]
    have one : ∀ o, Job.boundTo f o (s.newJob w b g) =
        if g.form = f ∧ some g.generation = o then 1 else 0 := fun o => by
      unfold Job.boundTo
      simp [State.newJob, Job.isActive]
    simp only [change, one]
    by_cases same : f = g.form
    · subst same
      rw [State.setForm_form_self]
      obtain ⟨waits, generation⟩ := State.binding_spec bound
      refine (h.forms g.form).raised g.coming waits generation ?_ fun o other => ?_
      · rw [if_pos ⟨rfl, rfl⟩]
      · rw [if_neg fun both => other both.2.symm, Nat.add_zero]
    · rw [s.setForm_form_ne same]
      simp only [if_neg fun both : g.form = f ∧ _ => same both.1.symm, Nat.add_zero]
      exact h.forms f
  · have sums := sum_differ_at (f := fun x => (s.session x).reserved)
      (g := fun x => (v.session x).reserved) w fun x other => by
        rw [(session x).2, if_neg (Ne.symm other), Nat.add_zero]
    have here := (session w).2
    rw [if_pos rfl] at here
    have total := h.total
    omega
  · rw [change, (session x).2, h.due x]
    unfold Job.dueTo
    rfl
  · rw [(session x).1]
    by_cases here : (x, i) = (w, k)
    · obtain ⟨rfl, rfl⟩ := Prod.mk.inj here
      cases now.symm.trans job
      exact (Job.fits_active rfl).2 ⟨Nat.zero_le 2, rfl, opened⟩
    · rw [others x i here] at job
      exact h.jobs x i j nofun job
  · refine State.laneFits_rewritten (skip := none) others (congrArg Lane.holdings (lanes l)) (fun j hj => ?_) out
      (h.lanes l out)
    rw [free] at hj
    cases hj
  · rw [lanes]
    exact h.free l

theorem State.freeSlot_spec (found : s.freeSlot w = some k) : s.job w k = none := by
  simpa using List.find?_some found

theorem State.booked.submitJob (h : s.booked) (b : SubmitBody) : (s.submitJob w b).1.booked := by
  unfold State.submitJob
  repeat' split
  case h_2.isFalse =>
    rename_i opened _ k found _ _ _ g bound _ _ room
    refine h.placeJob bound opened (State.freeSlot_spec found) ?_
    have := h.room
    unfold State.journalFree Config.journalSize Config.jobReservation at room
    omega
  all_goals exact h

/-! ## A notice fetched (03 R40) -/

/-- An ended job leaves its slot. -/
theorem State.booked.discarded (h : s.booked) {x : Slot} (held : s.job w k = some j)
    (ended : j.isActive = false) (gone : x.job = none) : (s.setSlot w k x).booked := by
  have frame := s.setSlot_frame w k x
  have now : (s.setSlot w k x).job w k = none := (congrArg Slot.job (s.setSlot_slot_self w k x)).trans gone
  have others : ∀ v i, (v, i) ≠ (w, k) → (s.setSlot w k x).job v i = s.job v i := fun v i other =>
    congrArg Slot.job (s.setSlot_slot_ne other x)
  have none_ : j.reserved = 0 := by
    have fits := h.jobs w k j nofun held
    unfold Job.fits at fits
    rw [if_neg (by rw [ended]; exact Bool.false_ne_true)] at fits
    exact fits
  have unheld : j.unheld none := fun printing => by
    unfold Job.isActive at ended
    rw [printing] at ended
    cases ended
  have lanes := fun l => frame.lane l (by decide)
  have empty : ∀ q, worth q w none = 0 := fun _ => rfl
  refine (State.books.rewritten (State.books.loosen h) others
    (State.laneFits_of_unheld others held unheld lanes) (fun l free => by rw [lanes l]; exact free)
    (State.changesOnly_mono frame) (fun f g => ?_) fun v => ?_).fasten fun i hi => ?_
  · have change := State.account_change (owed := []) (fun _ => Job.boundTo f g) others
    have zero : Job.boundTo f g j = 0 := by
      unfold Job.boundTo
      rw [if_neg (by rw [ended]; exact fun e => Bool.false_ne_true e.1)]
    rw [held, now, worth_some, zero, empty, Nat.add_zero, Nat.add_zero] at change
    exact change
  · have change := State.account_change (owed := []) (Job.dueTo v) others
    have zero : Job.dueTo v w j = 0 := by
      unfold Job.dueTo
      rw [none_, ite_self]
    rw [held, now, worth_some, zero, empty, Nat.add_zero, Nat.add_zero] at change
    exact change
  · rw [now] at hi
    cases hi

theorem State.booked.fetchNotice (h : s.booked) (p : Port) : (s.fetchNotice p).1.booked := by
  unfold State.fetchNotice
  split
  · exact h
  · rename_i n rest _
    have taken := (s.setPort_frame p { s.port p with queue := rest }).sameBooks.booked h
    dsimp only
    change State.booked _ at taken
    generalize s.setPort p { s.port p with queue := rest } = t at taken ⊢
    unfold State.reportFetched
    split
    · rename_i w k _ _ _
      have same : ∀ x : Slot, x.job = t.job w k → (t.setSlot w k x).booked := fun x job => by
        refine State.sameBooks.booked (s := t) ⟨fun _ => rfl, fun v i => ?_, fun _ => ⟨rfl, rfl⟩, rfl, rfl,
          fun _ => rfl, fun _ => id⟩ taken
        by_cases here : (v, i) = (w, k)
        · obtain ⟨rfl, rfl⟩ := Prod.mk.inj here
          exact (congrArg Slot.job (t.setSlot_slot_self v i x)).trans job
        · exact congrArg Slot.job (t.setSlot_slot_ne here x)
      unfold Slot.fetched
      split
      · rename_i j held
        split
        · rename_i terminal
          refine State.booked.discarded taken (j := j) held ?_ rfl
          unfold Job.isActive
          cases e : j.state with
          | done | failed | expired | cancelled => rfl
          | _ => rw [e] at terminal; cases terminal
        · exact same _ rfl
      · exact same _ rfl
    · exact taken

end

end Sys2Proof.Machine
end

section
/-! SUPPORT. RESTART (11 R198) and STORE_REINITIALISE (11 R196) keep the books. -/

set_option Elab.async false

namespace Sys2Proof.Machine

section
variable {s t u : State} {owed : List (Window × Job)} {w : Window} {k : SlotId} {j : Job} {l : LaneId}

/-! ## RESTART -/

/-- The slots as RESTART leaves them. -/
def State.slotsRestarted (s : State) : State :=
  { s with slots := s.slots.map fun v => v.map Slot.restarted }

theorem State.slotsRestarted_job (w : Window) (k : SlotId) :
    s.slotsRestarted.job w k = (s.job w k).filter fun j => j.state == .printing := by
  have slot : s.slotsRestarted.slot w k = (s.slot w k).restarted := by
    unfold State.slot State.slotsRestarted
    simp only [Fin.getElem_fin, Vector.getElem_map]
  unfold State.job
  rw [slot]
  unfold Slot.restarted
  cases held : (s.slot w k).job with
  | none => rfl
  | some j =>
    dsimp only
    by_cases printing : j.state = .printing
    · rw [if_pos printing]
      simp [Option.filter, printing]
    · rw [if_neg printing]
      simp [Option.filter, printing, Slot.empty]

/-- The jobs a RESTART removes are owed what it then takes from the sums. -/
def State.restartOwed (s : State) : List (Window × Job) := s.restartedJobs.map fun x => (x.1, x.2.2)

theorem State.slotsRestarted_account (v : Window → Job → Nat)
    (ended : ∀ w k j, s.job w k = some j → j.isActive = false → v w j = 0) :
    s.slotsRestarted.account s.restartOwed v = s.tally v := by
  have owes : (s.restartOwed.map fun x => v x.1 x.2).sum =
      s.tally fun w j => if (j.isActive && j.state != .printing) = true then v w j else 0 := by
    unfold State.restartOwed State.restartedJobs
    rw [List.map_map, ← State.jobs_sum]
    exact sum_map_filter _ _ _
  unfold State.account
  rw [owes]
  unfold State.tally
  rw [← Finset.sum_add_distrib]
  refine Finset.sum_congr rfl fun x _ => ?_
  rw [State.slotsRestarted_job]
  cases held : s.job x.1 x.2 with
  | none => rfl
  | some j =>
    rw [worth_some, worth_some]
    by_cases printing : j.state = .printing
    · simp [Option.filter, printing, worth]
    · cases active : j.isActive with
      | true => simp [Option.filter, printing, worth]
      | false =>
        rw [ended x.1 x.2 j held active]
        simp [Option.filter, printing, worth]

theorem State.booked.fits_ended (h : s.booked) (held : s.job w k = some j) (ended : j.isActive = false) :
    j.reserved = 0 := by
  have fits := h.jobs w k j nofun held
  unfold Job.fits at fits
  rw [if_neg (by rw [ended]; exact Bool.false_ne_true)] at fits
  exact fits

theorem State.booked.slotsRestarted (h : s.booked) : s.slotsRestarted.books none none s.restartOwed := by
  have bound : ∀ f g, s.slotsRestarted.account s.restartOwed (fun _ => Job.boundTo f g) =
      s.account [] fun _ => Job.boundTo f g := fun f g => by
    rw [State.account_nil]
    refine State.slotsRestarted_account _ fun w k j _ ended => ?_
    unfold Job.boundTo
    rw [if_neg (by rw [ended]; exact fun e => Bool.false_ne_true e.1)]
  refine ⟨fun f => ?_, h.total, h.room, fun v => ?_, fun v i j _ job => ?_, fun l out => ?_, h.free⟩
  · simp only [bound]
    exact h.forms f
  · refine (h.due v).trans ?_
    rw [State.account_nil]
    refine (State.slotsRestarted_account _ fun w k j held ended => ?_).symm
    unfold Job.dueTo
    rw [h.fits_ended held ended, ite_self]
  · rw [State.slotsRestarted_job] at job
    obtain ⟨held, -⟩ := Option.filter_eq_some_iff.1 job
    exact h.jobs v i j nofun held
  · obtain ⟨one, each⟩ := h.lanes l out
    refine ⟨one, fun x mem => ?_⟩
    obtain ⟨j, held, printing, rest⟩ := each x mem
    refine ⟨j, ?_, printing, rest⟩
    rw [State.slotsRestarted_job]
    exact Option.filter_eq_some_iff.2 ⟨held, by rw [printing]; rfl⟩

theorem State.books.dropped {x : Window × SlotId × Job} (h : s.books none none ((x.1, x.2.2) :: owed))
    (active : x.2.2.isActive = true) : (s.dropJob x).books none none owed :=
  State.books.unbound (j := { x.2.2 with reserved := 0 }) h.unreserved active rfl

theorem State.books.droppedAll : ∀ (xs : List (Window × SlotId × Job)) {s : State},
    (∀ x ∈ xs, x.2.2.isActive = true) → s.books none none (xs.map fun x => (x.1, x.2.2)) →
      (xs.foldl State.dropJob s).booked
  | [], _, _, h => h
  | x :: xs, _, active, h => State.books.droppedAll xs (fun y mem => active y (List.mem_cons_of_mem x mem))
      (h.dropped (active x List.mem_cons_self))

theorem State.booked.restart (h : s.booked) : s.restart.1.booked := by
  have queues : s.restartQueues.booked := s.restartQueues_frame.sameBooks.booked h
  have slots : s.restartQueues.restartSlots.booked := by
    unfold State.restartSlots
    refine State.books.droppedAll _ (fun x mem => ?_) queues.slotsRestarted
    have passed := (List.mem_filter.1 mem).2
    exact (Bool.and_eq_true_iff.1 passed).1
  have halted : (s.restartQueues.restartSlots.haltCensus .restart).booked :=
    (State.haltCensus_frame _ _).sameBooks.booked slots
  obtain ⟨u, hu⟩ : ∃ u, u = s.restartQueues.restartSlots.haltCensus .restart := ⟨_, rfl⟩
  have step : s.restart.1 = u.dropDeclarations := by rw [hu]; rfl
  rw [← hu] at halted
  rw [step]
  have session : ∀ w, u.dropDeclarations.session w = (u.session w).undeclared := fun w =>
    Vector.getElem_map _ w.isLt
  have same : u.sameBooks u.dropDeclarations :=
    ⟨fun _ => rfl, fun _ _ => rfl, fun w => by rw [session w]; exact ⟨rfl, rfl⟩, rfl, rfl, fun _ => rfl,
      fun _ => id⟩
  exact same.booked halted

/-! ## STORE_REINITIALISE -/

/-- A cancelled job is bound to nothing and has nothing reserved. -/
theorem State.booked.reinitialised_job (h : s.booked) {i : Job}
    (now : s.reinitialised.job w k = some i) : i.isActive = false ∧ i.reserved = 0 := by
  have slot := s.reinitialised_slot w k
  have here : (s.cancelJobs.slot w k).job = some i := (congrArg Slot.job slot).symm.trans now
  cases held : s.job w k with
  | none =>
    rw [State.cancelJobs_slot_none held] at here
    exact absurd (held.symm.trans here) nofun
  | some j =>
    rw [State.cancelJobs_slot held] at here
    unfold Slot.cancelled at here
    split at here
    · cases here
      exact ⟨rfl, rfl⟩
    · rename_i ended
      rw [Bool.not_eq_true] at ended
      have none_ := h.fits_ended held ended
      cases here
      exact ⟨ended, none_⟩

theorem State.booked.reinitialised (h : s.booked) (idle : s.anyPrinting = false) : s.reinitialised.booked := by
  obtain ⟨-, inUse, reserved⟩ := s.reinitialised_journal
  have sessions : ∀ w, s.reinitialised.session w = .none := s.reinitialised_session
  have forms : ∀ f, s.reinitialised.form f = .undefined := s.reinitialised_form
  have lanes : ∀ l, s.reinitialised.lane l = (s.lane l).reinitialised := s.reinitialised_lane
  have jobs : ∀ {w k i}, s.reinitialised.job w k = some i → i.isActive = false ∧ i.reserved = 0 :=
    h.reinitialised_job
  generalize s.reinitialised = t at *
  have bound : ∀ f g, t.account [] (fun _ => Job.boundTo f g) = 0 := fun f g => by
    rw [State.account_nil]
    refine State.tally_zero fun u i j job => ?_
    unfold Job.boundTo
    rw [if_neg (by rw [(jobs job).1]; exact fun e => Bool.false_ne_true e.1)]
  have empty : ∀ l, (t.lane l).holdings = [] ∧ (t.lane l).inflight = none := fun l => by
    have handed : (s.lane l).handed = none := by
      cases held : (s.lane l).handed with
      | none => rfl
      | some x =>
        obtain ⟨-, each⟩ := h.lanes l nofun
        unfold Lane.holdings at each
        rw [held] at each
        obtain ⟨j, job, printing, -⟩ := each (x.window, x.slot, x.reserved) (by simp)
        rw [State.anyPrinting_iff.2 ⟨_, _, j, job, printing⟩] at idle
        cases idle
    rw [lanes l]
    refine ⟨?_, rfl⟩
    unfold Lane.holdings Lane.reinitialised Lane.stopped
    dsimp only
    rw [handed]
    rfl
  refine ⟨fun f => ?_, ?_, ?_, fun v => ?_, fun v i j _ job => ?_, fun l _ => ?_, fun l => ?_⟩
  · rw [forms]
    simp only [bound]
    exact FormRecord.counts_undefined
  · rw [reserved]
    exact (Finset.sum_eq_zero fun w _ => by rw [sessions w]; rfl).symm
  · rw [inUse, reserved]
    exact Nat.zero_le _
  · rw [sessions, State.account_nil]
    refine (State.tally_zero fun u i j job => ?_).symm
    unfold Job.dueTo
    rw [(jobs job).2, ite_self]
  · exact Job.fits_ended (jobs job).1 (jobs job).2
  · unfold State.laneFits
    rw [(empty l).1]
    exact ⟨Nat.zero_le 1, fun x mem => nomatch mem⟩
  · exact Lane.free_of_none (empty l).2

end

end Sys2Proof.Machine
end

section
/-! SUPPORT. Every command of a running part keeps the books. -/

set_option Elab.async false

namespace Sys2Proof.Machine

section
variable {s t u : State} {c : Instr} {w : Window} {k : SlotId} {j : Job} {l : LaneId}

/-! ## The requests -/

theorem Lane.inflight_of_wf {x : Lane} (wf : x.wf = true) (ticket : x.state.hasTicket = false) :
    x.inflight = none := by
  obtain ⟨-, -, -, -, inflight, -⟩ := Lane.wf_iff.1 wf
  rw [ticket] at inflight
  simpa using inflight

theorem State.booked.supplied (h : s.booked) (held : s.job w k = some j) {f : Job → Job} (told : Bool)
    (same : (f j).state = j.state ∧ (f j).lane = j.lane ∧ (f j).form = j.form ∧
      (f j).generation = j.generation ∧ (f j).reserved = j.reserved ∧ (f j).attempts = j.attempts) :
    (if told then (s.mapJob w k f).reportEligible else s.mapJob w k f).booked := by
  obtain ⟨state, under, form, generation, reserved, attempts⟩ := same
  have active : (f j).isActive = j.isActive := by
    unfold Job.isActive
    rw [state]
  have mapped : (s.mapJob w k f).booked :=
    h.amended held (.inr ⟨state, under⟩) active form generation reserved attempts
  split
  · exact State.reportEligible_sameBooks.booked mapped
  · exact mapped

theorem State.booked.requeued (h : s.booked) (held : s.job w k = some j) (waits : j.state ≠ .printing)
    (active : j.isActive = true) : (s.requeue w k).booked :=
  State.reportJob_sameBooks.booked
    (h.amended held (.inl (Job.unheld_of_not_printing waits)) active.symm rfl rfl rfl rfl)

theorem State.booked.bindPack (h : s.booked) (p : Pack) : (s.bindPack p l).booked := by
  have bound := (s.updatePack_frame p.number fun q => { q with state := .mounted, lane := some l }).sameBooks.booked h
  exact State.booked.startPriming ((State.sameBooks_lane (f := fun x => x.mount p.number p.first)
    rfl rfl rfl id).booked bound)

theorem State.booked.clearTaken (h : s.booked) : (s.clearTaken l).booked :=
  State.booked.startPriming ((State.changesOnly_then (c := [.faults, .queues]) (s.mapReports_frame _)
    (State.postReport_frame _ _)).sameBooks.booked h)

theorem State.booked.purge (h : s.booked) : (s.purge l).booked := by
  have abandoned : (s.moveLane l Lane.abandon).booked :=
    (State.sameBooks_lane (f := Lane.abandon) rfl rfl rfl id).booked h
  have settled := abandoned.settle l
  unfold State.purge
  dsimp only
  generalize (s.moveLane l Lane.abandon).settle l = t at settled ⊢
  have recovered : ((t.recoverReports l .purge).postReport (.lane l)).booked :=
    (State.changesOnly_then (c := [.faults, .queues]) (t.mapReports_frame _)
      (State.postReport_frame _ _)).sameBooks.booked settled
  exact State.booked.feedAttempt ((State.sameBooks_lane (f := Lane.purge) rfl rfl rfl nofun).booked recovered)

/-- A withdrawal leaves its lane with the job handed to it, if any. -/
theorem State.booked.withdrawLane (h : s.booked) (p : Pack) (m : WithdrawMode)
    (none_ : (s.lane l).inflight = none) : (s.withdrawLane l p m).booked := by
  have frame := s.withdrawLane_frame l p m
  have lane : (s.withdrawLane l p m).lane l = (s.lane l).stopped.unmount := by
    rw [State.withdrawLane_lane_self,
      (State.applyMode_frame (s.moveLane l Lane.stopped) p m).lane l (by decide),
      State.moveLane_lane_self]
  have others : ∀ k, k ≠ l → (s.withdrawLane l p m).lane k = s.lane k := fun k other => by
    have lanes : (s.withdrawLane l p m).lane k = (s.releaseLane l p m).lane k :=
      congrArg (fun v : Vector Lane 4 => v[k]) (s.withdrawLane_lanes l p m)
    rw [lanes, s.releaseLane_lane_ne other]
  generalize s.withdrawLane l p m = t at *
  refine State.sameBooks.booked ⟨fun f => frame.form f, fun w k => frame.job w k,
    fun w => by rw [frame.session w]; exact ⟨rfl, rfl⟩, frame.journalReserved,
    (frame .journal (by decide)).2.1, fun k => ?_, fun k free => ?_⟩ h
  · by_cases same : k = l
    · rw [same, lane]
      exact Lane.holdings_congr rfl none_.symm
    · rw [others k same]
  · by_cases same : k = l
    · rw [same, lane]
      exact Lane.free_of_none rfl
    · rw [others k same]
      exact free

/-- A block that answers keeps the books. -/
theorem blockOf_booked {p : Port} {k : RequestKind} {tag : Byte} {r : State × Reply}
    (h : requestOf c = some (p, k, tag)) (hr : blockOf c s = some r) (wf : s.lanesWf) (b : s.booked) :
    r.1.booked := by
  have kept := fun forms slots sessions journal lanes =>
    ((blockOf_frame h hr).sameBooks forms slots sessions journal lanes).booked b
  have jobs : ∀ {p : Port} {β : Type} {take : Window → β → State → State × Reply} {x : β},
      (∀ w, (take w x s).1.booked) → (windowBlock p take x s).1.booked := by
    intro p β take x each
    cases p with
    | office => exact b
    | window w => exact each w
  cases c <;> cases h <;> obtain ⟨body, -, rfl⟩ := Option.map_eq_some_iff.1 hr
  case openSession => exact jobs fun w => b.openSession body
  case submitJob => exact jobs fun w => b.submitJob body
  case voidTicket => exact jobs fun w => b.voidTicket body
  case declareBegin => exact jobs fun w => b.declareBegin body
  case declareItem => exact jobs fun w => b.declareItem body
  case declareConfirm => exact jobs fun w => b.declareConfirm body
  case collectCashup => exact b.collectCashup body
  case reopenSession => exact b.reopenSession body
  case defineForm => exact b.defineForm body
  case fetchNotice => exact b.fetchNotice _
  case restart => exact b.restart
  case supplyLines =>
    refine jobs fun w => State.onJob_keeps (P := State.booked) b fun k j held _ => ?_
    split
    · exact b
    · split
      · exact b
      · exact b.supplied held _ ⟨rfl, rfl, rfl, rfl, rfl, rfl⟩
  case holdJob =>
    refine jobs fun w => State.onJob_keeps (P := State.booked) b fun k j held active => ?_
    split
    · rename_i queued
      exact b.amended held (.inl (Job.unheld_of_not_printing (by rw [queued]; nofun))) active.symm
        rfl rfl rfl rfl
    all_goals exact b
  case amendJob =>
    refine jobs fun w => State.onJob_keeps (P := State.booked) b fun k j held active => ?_
    split
    · split
      · exact b
      · exact b.supplied held false ⟨rfl, rfl, rfl, rfl, rfl, rfl⟩
    all_goals exact b
  case releaseJob =>
    refine jobs fun w => State.onJob_keeps (P := State.booked) b fun k j held active => ?_
    split
    · rename_i state
      exact b.requeued held (by rw [state]; nofun) active
    · rename_i state
      split
      · exact b
      · exact b.requeued held (by rw [state]; nofun) active
    all_goals exact b
  case withdrawJob =>
    refine jobs fun w => State.onJob_keeps (P := State.booked) b fun k j held active => ?_
    split
    case h_1 state | h_2 state | h_3 state => exact b.withdrawn held active (by rw [state]; nofun)
    all_goals exact b
  case mountPack =>
    unfold State.mountPack
    split
    · exact b
    · split
      · exact b
      · split
        · exact b
        · split
          · exact (s.countRefusal_frame _).sameBooks.booked b
          · exact b.bindPack _
          · exact b
  case withdrawPack =>
    unfold State.withdrawPack
    split
    · exact b
    · split
      · unfold State.withdrawFromLane
        repeat' split
        case isFalse refuses =>
          refine b.withdrawLane _ _ ?_
          unfold Lane.refusesWithdrawal at refuses
          simp only [Bool.or_eq_true, not_or, Bool.not_eq_true, Option.isSome_eq_false_iff,
            Option.isNone_iff_eq_none] at refuses
          exact refuses.2
        all_goals exact b
      · unfold State.withdrawByNumber
        repeat' split
        case isFalse => exact (s.applyMode_frame _ _).sameBooks.booked b
        all_goals exact b
  case clearLane =>
    unfold State.clearLane
    split
    · exact b
    · split
      · exact b
      · split
        · exact b
        · exact b.clearTaken
      · exact b
  case purgeLane =>
    unfold State.purgeLane
    split
    · exact b
    · split
      · exact b
      · dsimp only
        exact b.purge
  case advanceBlank =>
    unfold State.advanceBlank
    split
    · exact b
    · split
      · exact b
      · split
        · exact (s.countRefusal_frame _).sameBooks.booked b
        · exact State.booked.feedAttempt ((State.sameBooks_lane
            (f := fun x => { x with advances := _, state := .advancing }) rfl rfl rfl nofun).booked b)
        · exact b
  case storeReinitialise =>
    unfold State.storeReinitialise
    split
    · exact b
    · rename_i idle
      exact b.reinitialised (Bool.eq_false_iff.2 idle)
  all_goals exact kept (by decide) (by decide) (by decide) (by decide) (by decide)

/-! ## Every command but the loss and the return of supply -/

theorem State.whenRunning_booked {f : State → State} (h : s.booked) (each : s.booked → (f s).booked) :
    (s.whenRunning f).booked := by
  unfold State.whenRunning
  split
  · exact each h
  · exact h

theorem State.whenAwaiting_booked {op : LaneOp} {f : State → State} (h : s.booked)
    (each : s.booked → (s.lane l).awaiting = some op → (f s).booked) : (s.whenAwaiting l op f).booked := by
  refine State.whenRunning_booked h fun h => ?_
  split
  · rename_i awaited
    exact each h awaited
  · exact h

/-- A lane that awaits a mark read has no ticket. -/
theorem Lane.inflight_of_read {x : Lane} (wf : x.wf = true) (read : x.awaiting = some .read) :
    x.inflight = none := by
  obtain ⟨-, fits, -⟩ := Lane.wf_iff.1 wf
  obtain ⟨-, ticket, -⟩ := (LaneState.reads_of_fits (fits _ read)).spec
  exact Lane.inflight_of_wf wf ticket

theorem State.booked.visitSlot (h : s.booked) : (s.visitSlot w k).booked := by
  unfold State.visitSlot
  split
  · rename_i j held
    split
    · rename_i late
      have active : j.isActive = true := by
        unfold Job.isActive
        rw [late.1]
      exact State.books.ended (State.books.loosen h) held active
        (Job.unheld_of_not_printing (by rw [late.1]; nofun)) (fun _ => rfl) _
    · exact h
  · exact h

theorem exec_booked (power : isPower c = false) (run : exec c s = .next t) (wf : s.lanesWf) (b : s.booked) :
    t.booked := by
  cases hr : requestOf c with
  | some r =>
    obtain ⟨p, k, tag⟩ := r
    rcases exec_request (s := s) hr with ⟨-, run'⟩ | ⟨-, code, -, run'⟩ | ⟨-, -, -, r, hb, run'⟩ <;>
      rw [run] at run' <;> cases run'
    · exact b
    · exact (s.answerWith_frame p _ _ _).sameBooks.booked b
    · exact (r.1.answerWith_frame p k.byte tag r.2).sameBooks.booked
        (blockOf_booked hr hb ((s.reachBlock_frame p k).lanesWf wf) (b.reachBlock p k))
  | none =>
    have kept := fun forms slots sessions journal lanes =>
      ((exec_changesOnly run).sameBooks forms slots sessions journal lanes).booked b
    cases c
    case powerOn | supplyLoss => cases power
    case claimRequest l => cases run; exact State.whenRunning_booked b State.booked.takeClaim
    case claimAnswer l => cases run; exact State.whenRunning_booked b State.booked.takeAnswer
    case scannerVisit =>
      cases run
      exact State.whenRunning_booked b fun b => (State.setScanner_frame _ _).sameBooks.booked b.visitSlot
    case positioned l =>
      cases run
      refine State.whenAwaiting_booked b fun b _ => (State.sameBooks_lane rfl rfl rfl fun idle => ?_).booked b
      unfold Lane.positioned Lane.reading at idle
      dsimp only at idle
      split at idle
      · cases idle
      · exact idle
    case headReady l => cases run; exact State.whenAwaiting_booked b fun b _ => b.afterStrobe
    case cutDone l => cases run; exact State.whenAwaiting_booked b fun b _ => b.cutCompletion
    case markRecord l record =>
      cases run
      exact State.whenAwaiting_booked b fun b read => b.takeRecord (Lane.inflight_of_read (wf l) read) record
    case markReadTimeout l =>
      cases run
      exact State.whenAwaiting_booked b fun b _ => State.booked.failedRead
        ((State.sameBooks_lane (f := fun x => { x with awaiting := none }) rfl rfl rfl id).booked b)
    case feedTimeout l | strobeTimeout l | cutTimeout l =>
      cases run
      exact State.whenAwaiting_booked b fun b _ => b.laneFault _ _
    case cabinetOpening l =>
      cases run
      have pinned : (s.moveLane l fun x => { x with cabinetPin := .opened }).booked :=
        (State.sameBooks_lane rfl rfl rfl id).booked b
      refine State.whenRunning_booked pinned fun b => ?_
      split
      · exact State.observeOpening_sameBooks.booked b
      · exact b
    case cabinetRelock l =>
      cases run
      have pinned : (s.moveLane l fun x => { x with cabinetPin := .locked }).booked :=
        (State.sameBooks_lane rfl rfl rfl id).booked b
      refine State.whenRunning_booked pinned fun b => ?_
      split
      · exact b.relock
      · exact b
    case powerFailWarningDeassert =>
      cases run
      have lowered := (s.setPowerFail_frame false).sameBooks.booked b
      exact State.whenRunning_booked lowered fun b =>
        State.reportEligible_sameBooks.booked (State.resumed_booked allLanes b)
    case portByteReceived | gapTimerExpiry | quietTimerExpiry | answerSent | censusEntryStep
      | powerFailWarningAssert | resetAsserted | officeClockTick | runTimeTick =>
      exact kept (of_decide_eq_true rfl) (of_decide_eq_true rfl) (of_decide_eq_true rfl)
        (of_decide_eq_true rfl) (of_decide_eq_true rfl)
    all_goals cases hr

end

end Sys2Proof.Machine
end

section
/-! SUPPORT. The books and the reservations and counts they keep (02 R21; 08 R147 to R149): what is in the
books is what the model's two rules say of a part with its supply. -/

set_option Elab.async false

namespace Sys2Proof.Machine

section
variable {s t : State} {c : Instr} {w : Window} {k : SlotId} {j : Job} {l : LaneId}

/-! ## From the rules to the books -/

theorem Job.boundTo_pos {f : Fin 8} {g : Option Nat} (positive : 0 < j.boundTo f g) :
    j.isActive = true ∧ j.form = f ∧ j.generation = g := by
  unfold Job.boundTo at positive
  split_ifs at positive with bound
  · exact bound
  · cases positive

theorem State.booked_of_holds (supplied : s.phase ≠ .unpowered) (counts : s.formCountsHold)
    (reservations : s.reservationsHold) (lanes : s.lanesWf) : s.booked := by
  obtain ⟨total, room, -, -, rest⟩ := reservations
  obtain ⟨due, jobs, held⟩ := rest supplied
  refine ⟨fun f => ?_, total.trans (sum_allWindows _), room, fun w => ?_, fun w k j _ => jobs w k j,
    fun l _ => ⟨(held l).1, (held l).2.2⟩, fun l => ⟨(held l).2.1, fun idle => ?_⟩⟩
  · obtain ⟨use, waiting, used, pending, bound⟩ := counts supplied f
    simp only [State.account_nil]
    rw [State.boundJobs_eq] at use waiting
    refine ⟨use, waiting, used, pending, fun g positive => ?_⟩
    obtain ⟨w, k, j, job, one⟩ := State.tally_pos positive
    obtain ⟨active, form, generation⟩ := Job.boundTo_pos one
    rw [← generation]
    exact bound w k j job active form
  · rw [State.account_nil, ← State.jobReservations_eq]
    exact due w
  · exact Lane.inflight_of_wf (lanes l) (by rw [idle]; rfl)

/-! ## From the books to the rules -/

theorem State.booked.formCountsHold (h : s.booked) : s.formCountsHold := fun _ f => by
  obtain ⟨use, waiting, used, pending, bound⟩ := h.forms f
  simp only [State.account_nil] at use waiting bound
  rw [State.boundJobs_eq, State.boundJobs_eq]
  refine ⟨use, waiting, used, pending, fun w k j job active form => bound _ ?_⟩
  have part := s.worth_le_tally (w := w) (k := k) fun _ => Job.boundTo f j.generation
  rw [job, worth_some, Job.boundTo, if_pos ⟨active, form, rfl⟩] at part
  exact part

/-- What a slot's job has reserved for a window, where it is under this lane. -/
def State.share (s : State) (w : Window) (l : LaneId) (x : Window × SlotId) : Nat :=
  if (s.job x.1 x.2).bind Job.lane = some l then worth (Job.dueTo w) x.1 (s.job x.1 x.2) else 0

/-- A job is under one lane. -/
theorem State.sum_share_le (w : Window) (x : Window × SlotId) :
    ∑ l, s.share w l x ≤ worth (Job.dueTo w) x.1 (s.job x.1 x.2) := by
  unfold State.share
  cases under : (s.job x.1 x.2).bind Job.lane with
  | none => simp
  | some m => simp

theorem State.booked.retained_le_share (h : s.booked) (w : Window) (l : LaneId) :
    (s.lane l).retainedFor w ≤ ∑ x, s.share w l x := by
  cases record : (s.lane l).inflight with
  | none =>
    rw [Lane.retainedFor_none record]
    exact Nat.zero_le _
  | some r =>
    obtain ⟨-, j, job, -, under, reserved, -⟩ := h.ticket record
    have one : (s.lane l).retainedFor w = s.share w l (r.window, r.slot) := by
      rw [Lane.retainedFor_some record, State.share, job, worth_some, Option.bind_some, if_pos under,
        Job.dueTo, reserved]
    rw [one]
    exact Finset.single_le_sum (f := s.share w l) (fun _ _ => Nat.zero_le _) (Finset.mem_univ _)

/-- The lanes' records retain no more than the jobs have reserved, a job being under one lane. -/
theorem State.booked.retained_le (h : s.booked) (w : Window) :
    s.retainedFor w ≤ (s.session w).reserved := by
  calc s.retainedFor w = ∑ l, (s.lane l).retainedFor w := sum_allLanes _
    _ ≤ ∑ l, ∑ x, s.share w l x := Finset.sum_le_sum fun l _ => h.retained_le_share w l
    _ = ∑ x, ∑ l, s.share w l x := Finset.sum_comm
    _ ≤ s.tally (Job.dueTo w) := Finset.sum_le_sum fun x _ => State.sum_share_le w x
    _ = (s.session w).reserved := by rw [h.due w, State.account_nil]

theorem State.booked.reservationsHold (h : s.booked) : s.reservationsHold := by
  refine ⟨h.total.trans (sum_allWindows _).symm, h.room, fun l r record => ?_, h.retained_le, fun _ =>
    ⟨fun w => ?_, fun w k j => h.jobs w k j nofun, fun l => ?_⟩⟩
  · obtain ⟨-, j, -, -, -, reserved, few, left, -⟩ := h.ticket record
    omega
  · rw [State.jobReservations_eq, ← State.account_nil]
    exact h.due w
  · exact ⟨(h.lanes l nofun).1, (h.free l).1, (h.lanes l nofun).2⟩

/-! ## The part without its supply -/

/-- What the records of a part without its supply stand by: its journal, its sessions' reservations, and
the lanes' in-flight records. -/
structure State.sameRecords (s t : State) : Prop where
  total : t.journalReserved = s.journalReserved
  inUse : t.journalInUse = s.journalInUse
  sessions : ∀ w, (t.session w).reserved = (s.session w).reserved
  lanes : ∀ l, (t.lane l).inflight = (s.lane l).inflight

theorem State.sameRecords.retainedFor (h : s.sameRecords t) (w : Window) :
    t.retainedFor w = s.retainedFor w := by
  unfold State.retainedFor Lane.retainedFor
  simp only [h.lanes]

theorem State.sameRecords.reservationsHold (h : s.sameRecords t) (unpowered : t.phase = .unpowered)
    (reservations : s.reservationsHold) : t.reservationsHold := by
  obtain ⟨total, room, records, retained, -⟩ := reservations
  refine ⟨?_, ?_, fun l r record => records l r ((h.lanes l).symm.trans record), fun w => ?_,
    fun supplied => absurd unpowered supplied⟩
  · rw [h.total, total]
    exact congrArg List.sum (List.map_congr_left fun w _ => (h.sessions w).symm)
  · rw [h.inUse, h.total]
    exact room
  · rw [h.retainedFor, h.sessions]
    exact retained w

theorem State.sameRecords_of_sameBooks (h : s.sameBooks t)
    (lanes : ∀ l, (t.lane l).inflight = (s.lane l).inflight) : s.sameRecords t :=
  ⟨h.reserved, h.inUse, fun w => (h.sessions w).2, lanes⟩

theorem State.changesOnly.sameRecords {a : List Part} (h : s.changesOnly t a)
    (sessions : .sessions ∉ a := by decide) (journal : .journal ∉ a := by decide)
    (lanes : .lanes ∉ a := by decide) : s.sameRecords t :=
  ⟨h.journalReserved journal, (h .journal journal).2.1, fun w => by rw [h.session w sessions],
    fun l => by rw [h.lane l lanes]⟩

theorem State.pinned_sameRecords (pin : Cabinet) :
    s.sameRecords (s.moveLane l fun x => { x with cabinetPin := pin }) := by
  have frame := s.moveLane_frame l fun x => { x with cabinetPin := pin }
  refine ⟨frame.journalReserved, (frame .journal (by decide)).2.1, fun w => by rw [frame.session w],
    fun m => ?_⟩
  by_cases same : m = l
  · rw [same, State.moveLane_lane_self]
  · rw [State.moveLane_lane_ne _ _ _ same]

theorem State.sameRecords.whenRunning (h : s.sameRecords t) (still : t.phase ≠ .running)
    {f : State → State} : s.sameRecords (t.whenRunning f) := by
  rw [State.whenRunning, if_neg still]
  exact h

/-- No command but the power ones reaches the records of a part without its supply: no port takes a
request in STARTING, and no unit runs. -/
theorem exec_sameRecords (unpowered : s.phase = .unpowered) (starting : ∀ p, (s.port p).rx = .starting)
    (power : isPower c = false) (run : exec c s = .next t) : s.sameRecords t := by
  have refl : s.sameRecords s := State.sameRecords_of_sameBooks s.sameBooks_refl fun _ => rfl
  have still : s.phase ≠ .running := by rw [unpowered]; nofun
  cases hr : requestOf c with
  | some r =>
    obtain ⟨p, k, tag⟩ := r
    have free : (s.port p).rx.takes k tag = false := by rw [starting p]; rfl
    rcases exec_request (s := s) hr with ⟨-, run'⟩ | ⟨takes, -⟩ | ⟨takes, -⟩
    · rw [run] at run'
      cases run'
      exact refl
    · rw [free] at takes
      cases takes
    · rw [free] at takes
      cases takes
  | none =>
    have own := exec_changesOnly run
    cases c
    case powerOn | supplyLoss => cases power
    case resetAsserted =>
      cases run
      rw [if_pos unpowered]
      exact refl
    case claimRequest | claimAnswer | scannerVisit | positioned | headReady | cutDone | markRecord
      | markReadTimeout | feedTimeout | strobeTimeout | cutTimeout | censusEntryStep | officeClockTick
      | runTimeTick =>
      cases run
      exact refl.whenRunning still
    case cabinetOpening l | cabinetRelock l =>
      cases run
      exact (State.pinned_sameRecords _).whenRunning
        (by rw [(s.moveLane_frame l _) .phase (by decide)]; exact still)
    case powerFailWarningDeassert =>
      cases run
      exact State.sameRecords.whenRunning (t := { s with powerFail := false })
        ((s.setPowerFail_frame false).sameRecords) still
    case powerFailWarningAssert =>
      cases run
      exact (s.setPowerFail_frame true).sameRecords
    case portByteReceived | gapTimerExpiry | quietTimerExpiry | answerSent =>
      exact own.sameRecords (Part.not_mem_of_contains rfl) (Part.not_mem_of_contains rfl)
        (Part.not_mem_of_contains rfl)
    all_goals cases hr

/-- The loss of supply leaves the retained records (11 Table 11.1). -/
theorem exec_supplyLoss_sameRecords {kept : Bool} (run : exec (.supplyLoss kept) s = .next t) :
    s.sameRecords t ∧ t.phase = .unpowered := by
  cases run
  have frame := s.volatileLost_frame .unpowered (s.storeSurvives kept)
  refine ⟨⟨frame.journalReserved (by decide), (frame .journal (by decide)).2.1,
    fun w => by rw [frame.session w], fun l => ?_⟩, rfl⟩
  exact (congrArg Lane.inflight (s.volatileLost_lane l)).trans rfl

end

end Sys2Proof.Machine
end

section
/-! SUPPORT. The books at power-on (04 R90; 08 R158): what the in-flight records retain is given up lane by
lane, and with the last lane the books are closed and empty. -/

set_option Elab.async false

namespace Sys2Proof.Machine

section
variable {s t u v : State} {w : Window} {l : LaneId} {r : InFlight} {x : Lane} {a : List Part}

/-! ## A lane with no ticket -/

theorem State.laneTo.sameBooks (h : s.laneTo t l x a) (jobs : x.holdings = (s.lane l).holdings)
    (free : (s.lane l).free → x.free) (forms : .forms ∉ a := by decide) (slots : .slots ∉ a := by decide)
    (sessions : .sessions ∉ a := by decide) (journal : .journal ∉ a := by decide) : s.sameBooks t := by
  refine ⟨fun f => h.frame.form f forms, fun w k => h.frame.job w k slots,
    fun w => by rw [h.frame.session w sessions]; exact ⟨rfl, rfl⟩, h.frame.journalReserved journal,
    (h.frame .journal journal).2.1, fun m => ?_, fun m => ?_⟩
  · by_cases same : m = l
    · rw [same, h.self]
      exact jobs
    · rw [h.others m same]
  · by_cases same : m = l
    · rw [same, h.self]
      exact free
    · rw [h.others m same]
      exact id

theorem State.laneFault_sameBooks (none_ : (s.lane l).inflight = none) (k : FaultKind) (c : FaultContext) :
    s.sameBooks (s.laneFault l k c) := by
  rw [State.laneFault_eq k c none_]
  have stopped : s.sameBooks (s.moveLane l Lane.stopped) :=
    State.sameBooks_lane (f := Lane.stopped) rfl rfl rfl id
  exact (stopped.andThen (State.raiseLane_frame _ l k c).sameBooks).andThen
    (State.sameBooks_lane (f := Lane.lockedIn) rfl rfl rfl nofun)

theorem State.feedAttempt_sameBooks (none_ : (s.lane l).inflight = none) : s.sameBooks (s.feedAttempt l) := by
  have advanced := s.advanceHead_sameBooks (l := l)
  have still : ((s.advanceHead l).lane l).inflight = none := by
    unfold State.advanceHead
    split
    · split
      · rw [State.moveLane_lane_self, (s.changeMark_frame _ _ _).lane l (by decide)]
        exact none_
      · exact none_
    · exact none_
  unfold State.feedAttempt
  dsimp only
  generalize s.advanceHead l = t at advanced still ⊢
  refine advanced.andThen ?_
  split
  · exact State.stockOutEnd_sameBooks
  · split
    · exact State.sameBooks_lane (f := fun x => { x with deferred := some .feed }) rfl rfl rfl id
    · unfold State.issueFeed
      split
      · exact State.laneFault_sameBooks still _ _
      · exact State.sameBooks_lane (f := fun x =>
          { x with head := .notPositioned, awaiting := some .feed, deferred := none }) rfl rfl rfl id

theorem State.startPriming_sameBooks (seen : (s.lane l).cabinetSeen = (s.lane l).cabinetPin)
    (none_ : (s.lane l).inflight = none) : s.sameBooks (s.startPriming l) := by
  unfold State.startPriming
  rw [State.sampleAtPriming_none (Lane.sampled_same seen)]
  dsimp only
  split
  · exact State.enterHolding_sameBooks _
  · split
    · exact (State.sameBooks_lane (f := fun x => { x with state := .feeding, causes := .empty })
        rfl rfl rfl nofun).andThen
          (State.feedAttempt_sameBooks (by rw [State.moveLane_lane_self]; exact none_))
    · exact State.sameBooks_lane (f := fun x =>
        Lane.reading { x with state := .priming, causes := .empty, failedReads := 0 }) rfl rfl rfl nofun

/-! ## The books while the lanes start -/

/-- The books at power-on, while the lanes start: no job, and a session's reservations are what the
records not yet settled retain. -/
structure State.starting (s : State) : Prop where
  forms : ∀ f, (s.form f).counts fun _ => 0
  jobs : ∀ w k, s.job w k = none
  total : s.journalReserved = ∑ w, (s.session w).reserved
  room : s.journalInUse + s.journalReserved ≤ 4096
  due : ∀ w, (s.session w).reserved = ∑ l, (s.lane l).retainedFor w
  records : ∀ l r, (s.lane l).inflight = some r → 1 ≤ r.reserved

theorem Lane.retainedFor_congr {y : Lane} (inflight : y.inflight = x.inflight) (w : Window) :
    y.retainedFor w = x.retainedFor w := by
  unfold Lane.retainedFor
  rw [inflight]

theorem State.sameBooks.starting (h : s.sameBooks t)
    (inflight : ∀ l, (t.lane l).inflight = (s.lane l).inflight) (b : s.starting) : t.starting := by
  refine ⟨fun f => by rw [h.forms]; exact b.forms f, fun w k => (h.jobs w k).trans (b.jobs w k), ?_, ?_,
    fun w => ?_, fun l r record => b.records l r ((inflight l).symm.trans record)⟩
  · rw [h.reserved, b.total]
    exact Finset.sum_congr rfl fun w _ => (h.sessions w).2.symm
  · rw [h.inUse, h.reserved]
    exact b.room
  · rw [(h.sessions w).2, b.due w]
    exact Finset.sum_congr rfl fun l _ => (Lane.retainedFor_congr (inflight l) w).symm

/-- A lane settled: its record is dropped with what it retained, and at most that many entries are
written. -/
theorem State.starting.dropped (b : s.starting) (record : (s.lane l).inflight = some r)
    (lane : s.laneTo u l x a) (none_ : x.inflight = none)
    (money : ∀ w, (u.session w).reserved = (s.session w).reserved - if r.window = w then r.reserved else 0)
    (reserved : u.journalReserved = s.journalReserved - r.reserved)
    (inUse : u.journalInUse ≤ s.journalInUse + 1) (forms : .forms ∉ a := by decide)
    (slots : .slots ∉ a := by decide) : u.starting := by
  have retained : (s.lane l).retainedFor = fun w => if r.window = w then r.reserved else 0 :=
    Lane.retainedFor_some record
  have gone : (u.lane l).retainedFor = fun _ => 0 := Lane.retainedFor_none (by rw [lane.self]; exact none_)
  have few : r.reserved ≤ (s.session r.window).reserved := by
    have part := Finset.single_le_sum (f := fun m => (s.lane m).retainedFor r.window)
      (fun _ _ => Nat.zero_le _) (Finset.mem_univ l)
    rw [b.due, show r.reserved = (s.lane l).retainedFor r.window by rw [retained]; exact (if_pos rfl).symm]
    exact part
  obtain ⟨total, lowered⟩ := State.unreserve_total b.total few
  have one := b.records l r record
  have lowers : (s.unreserve r.window r.reserved).journalReserved = s.journalReserved - r.reserved := rfl
  refine ⟨fun f => by rw [lane.frame.form f forms]; exact b.forms f,
    fun w k => (lane.frame.job w k slots).trans (b.jobs w k), ?_, ?_, fun w => ?_, fun m i held => ?_⟩
  · rw [reserved, ← lowers, total]
    exact Finset.sum_congr rfl fun w _ => (s.unreserve_reserved w).trans (money w).symm
  · have room := b.room
    omega
  · have change := sum_differ_at (f := fun m => (s.lane m).retainedFor w)
      (g := fun m => (u.lane m).retainedFor w) l fun m other => by rw [lane.others m other]
    have due := b.due w
    simp only [retained, gone] at change
    rw [money]
    omega
  · by_cases same : m = l
    · rw [same, lane.self, none_] at held
      cases held
    · rw [lane.others m same] at held
      exact b.records m i held

/-! ## One lane started -/

theorem Lane.holdings_nil : x.holdings = [] ↔ x.handed = none ∧ x.inflight = none := by
  unfold Lane.holdings
  cases x.handed <;> cases x.inflight <;> simp

/-- What an idle lane's start leaves. -/
theorem State.sameBooks.settled (h : s.sameBooks t) (others : s.otherLanes t l) (b : s.starting)
    (free : (s.lane l).holdings = []) : t.starting ∧ (t.lane l).holdings = [] := by
  have now := (h.lanes l).trans free
  refine ⟨h.starting (fun m => ?_) b, now⟩
  by_cases same : m = l
  · rw [same, (Lane.holdings_nil.1 now).2, (Lane.holdings_nil.1 free).2]
  · rw [others m same]

/-- An unbegun record dropped. -/
theorem State.starting.unbegun (b : s.starting) (record : (s.lane l).inflight = some r)
    (handed : (s.lane l).handed = none) :
    (s.unbegunAtStart l r).starting ∧ ((s.unbegunAtStart l r).lane l).holdings = [] := by
  have there := s.unbegunAtStart_to l r
  have moved := (s.unreserve r.window r.reserved).moveLane_frame l fun x => { x with inflight := none }
  refine ⟨b.dropped record there rfl (fun w => ?_) moved.journalReserved ?_, ?_⟩
  · exact (congrArg Session.reserved (moved.session w)).trans (s.unreserve_reserved w)
  · exact Nat.le_succ_of_le (moved .journal (by decide)).2.1.le
  · rw [there.self]
    exact Lane.holdings_nil.2 ⟨handed, rfl⟩

/-- What a lost ticket's entry leaves of the journal's counts and the sessions' reservations. -/
theorem State.lostEntry_reserved {cls : Nat} {d : EntryData}
    (hv : v = ((s.changeMark cls r.serial .spoiled).unreserve r.window r.reserved).writeEntry r.window d) :
    (∀ w, (v.session w).reserved = (s.session w).reserved - if r.window = w then r.reserved else 0) ∧
      v.journalReserved = s.journalReserved - r.reserved ∧ v.journalInUse = s.journalInUse + 1 := by
  have marked := s.changeMark_frame cls r.serial .spoiled
  obtain ⟨u, hu⟩ : ∃ u, u = s.changeMark cls r.serial .spoiled := ⟨_, rfl⟩
  rw [← hu] at hv marked
  have lowered := u.unreserve_reserved (w := r.window) (n := r.reserved)
  have total : (u.unreserve r.window r.reserved).journalReserved = u.journalReserved - r.reserved := rfl
  have stays : (u.unreserve r.window r.reserved).journalInUse = u.journalInUse := rfl
  generalize u.unreserve r.window r.reserved = y at hv lowered total stays
  obtain ⟨session, sessions⟩ := y.writeEntry_session r.window d
  refine ⟨fun w => ?_, ?_, ?_⟩
  · have before := lowered w
    rw [marked.session w] at before
    rw [← before, hv]
    by_cases same : w = r.window
    · rw [same, session]
      exact (Session.withEntry_books _ d).2
    · rw [sessions w same]
  · rw [hv, y.writeEntry_reserved, total, marked.journalReserved]
  · rw [hv, (y.writeEntry_journal r.window d).2, stays, (marked .journal (by decide)).2.1]

/-- A begun ticket spoiled. -/
theorem State.starting.spoiled (b : s.starting) (record : (s.lane l).inflight = some r)
    (handed : (s.lane l).handed = none) :
    (s.spoiledAtStart l r).starting ∧ ((s.spoiledAtStart l r).lane l).holdings = [] := by
  have there := s.spoiledAtStart_to l r
  obtain ⟨v, hv⟩ : ∃ v, v = ((s.changeMark (s.mountedClass l) r.serial .spoiled).unreserve r.window
    r.reserved).writeEntry r.window (r.spoilEntry (s.mountedClass l) ((s.lane l).pack.getD 0)) := ⟨_, rfl⟩
  obtain ⟨money, reserved, inUse⟩ := State.lostEntry_reserved hv
  have rest : v.changesOnly (s.spoiledAtStart l r) [.faults, .queues, .lanes] := by
    rw [hv]
    exact State.changesOnly_then (c := [.faults, .queues, .lanes]) (State.raiseLane_frame _ l _ _)
      (State.moveLane_frame _ l _)
  refine ⟨b.dropped record there rfl (fun w => ?_) (rest.journalReserved.trans reserved) ?_, ?_⟩
  · exact (congrArg Session.reserved (rest.session w)).trans (money w)
  · exact ((rest .journal (by decide)).2.1.trans inUse).le
  · rw [there.self]
    exact Lane.holdings_nil.2 ⟨handed, rfl⟩

/-- A mounted lane started: it holds no job after. -/
theorem State.starting.startMounted (b : s.starting) (handed : (s.lane l).handed = none)
    (seen : (s.lane l).cabinetSeen = (s.lane l).cabinetPin) (head : (s.lane l).head ≠ .notPositioned) :
    (s.startMounted l).starting ∧ ((s.startMounted l).lane l).holdings = [] := by
  rcases s.startMounted_cases l with ⟨none_, e⟩ | ⟨r, record, -, e⟩ | ⟨r, record, -, e⟩ <;> rw [e]
  · obtain ⟨y, primed, -⟩ := State.startPriming_starts seen head none_
    exact (State.startPriming_sameBooks seen none_).settled primed.others b
      (Lane.holdings_nil.2 ⟨handed, none_⟩)
  · obtain ⟨dropped, free⟩ := b.unbegun record handed
    have there := s.unbegunAtStart_to l r
    have seen' : ((s.unbegunAtStart l r).lane l).cabinetSeen = ((s.unbegunAtStart l r).lane l).cabinetPin := by
      rw [there.self]
      exact seen
    have none_ := (Lane.holdings_nil.1 free).2
    obtain ⟨y, primed, -⟩ := State.startPriming_starts seen' (by rw [there.self]; exact head) none_
    exact (State.startPriming_sameBooks seen' none_).settled primed.others dropped free
  · obtain ⟨spoiled, free⟩ := b.spoiled record handed
    have there := s.spoiledAtStart_to l r
    have none_ := (Lane.holdings_nil.1 free).2
    obtain ⟨y, fed, -⟩ := State.feedAttempt_starts (s := s.spoiledAtStart l r) (l := l)
      (fun e => by rw [there.self]; nofun) none_
    exact (State.feedAttempt_sameBooks none_).settled fed.others spoiled free

/-- A lane started: it holds no job after, and the other lanes stand. -/
theorem State.starting.startLane (b : s.starting) (handed : (s.lane l).handed = none)
    (kept : (s.lane l).keptWf = true) :
    (s.startLane l).starting ∧ ((s.startLane l).lane l).holdings = [] := by
  have sampled := s.sampledAtStart_to l
  have same : s.sameBooks (s.sampledAtStart l) := sampled.sameBooks rfl fun free => free
  have starting := same.starting (fun m => by
    by_cases here : m = l
    · rw [here, sampled.self]
      rfl
    · rw [sampled.others m here]) b
  have reconciled : ∀ u : State, u.starting ∧ (u.lane l).holdings = [] →
      (u.reconcileCabinet l).starting ∧ ((u.reconcileCabinet l).lane l).holdings = [] := fun u h => by
    have frame := u.reconcileCabinet_frame l
    exact ⟨frame.sameBooks.starting (fun m => by rw [frame.lane m]) h.1, by rw [frame.lane l]; exact h.2⟩
  rw [State.startLane_eq]
  refine reconciled _ ?_
  split
  · rename_i mounted
    exact starting.startMounted (by rw [sampled.self]; exact handed) (by rw [sampled.self]; rfl)
      (by rw [sampled.self, Lane.started_head mounted]; nofun)
  · rename_i free
    have none_ : (s.lane l).inflight = none :=
      Option.not_isSome_iff_eq_none.1 fun some_ => free ((Lane.keptWf_iff _).1 kept some_)
    exact ⟨starting, (same.lanes l).trans (Lane.holdings_nil.2 ⟨handed, none_⟩)⟩

/-! ## All the lanes started -/

/-- With no lane's record left, and no job, the books are closed. -/
theorem State.starting.booked (b : s.starting) (free : ∀ l, (s.lane l).holdings = []) : s.booked := by
  have none_ : ∀ v, s.account [] v = 0 := fun v => by
    rw [State.account_nil]
    exact State.tally_zero fun u i j job => by rw [b.jobs] at job; cases job
  refine ⟨fun f => ?_, b.total, b.room, fun w => ?_, fun w k j _ job => ?_, fun l _ => ?_,
    fun l => Lane.free_of_none (Lane.holdings_nil.1 (free l)).2⟩
  · simp only [none_]
    exact b.forms f
  · rw [b.due, none_]
    exact Finset.sum_eq_zero fun l _ => by rw [Lane.retainedFor_none (Lane.holdings_nil.1 (free l)).2]
  · rw [b.jobs] at job
    cases job
  · unfold State.laneFits
    rw [free l]
    exact ⟨Nat.zero_le _, nofun⟩

theorem State.startLanes_booked : ∀ (xs : List LaneId) {s : State}, xs.Nodup → s.starting →
    (∀ l ∈ xs, (s.lane l).handed = none ∧ (s.lane l).keptWf = true) →
    (∀ l ∉ xs, (s.lane l).holdings = []) → (xs.foldl State.startLane s).booked
  | [], _, _, b, _, done => b.booked fun l => done l List.not_mem_nil
  | l :: xs, s, distinct, b, waiting, done => by
    obtain ⟨fresh, distinct⟩ := List.nodup_cons.1 distinct
    obtain ⟨handed, kept⟩ := waiting l List.mem_cons_self
    obtain ⟨starting, free⟩ := b.startLane handed kept
    obtain ⟨y, there, -⟩ := s.startLane_to l
    refine State.startLanes_booked xs distinct starting (fun m mem => ?_) fun m out => ?_
    · rw [there.others m fun e => fresh (e ▸ mem)]
      exact waiting m (List.mem_cons_of_mem _ mem)
    · by_cases same : m = l
      · rw [same]
        exact free
      · rw [there.others m same]
        exact done m fun mem => (List.mem_cons.1 mem).elim same out

/-! ## Power-on -/

theorem FormRecord.atStart_counts (f : FormRecord) : f.uncounted.atStart.counts fun _ => 0 := by
  unfold FormRecord.atStart
  split
  · exact ⟨rfl, rfl, nofun, nofun, fun _ positive => absurd positive (Nat.lt_irrefl 0)⟩
  · rename_i none_
    exact ⟨rfl, rfl, fun some_ => absurd some_ none_, nofun, fun _ positive => absurd positive (Nat.lt_irrefl 0)⟩

theorem State.poweredOn_starting (reservations : s.reservationsHold) : s.poweredOn.starting := by
  obtain ⟨total, room, records, retained, -⟩ := reservations
  obtain ⟨-, inUse, reserved⟩ := s.poweredOn_journal
  have money : ∀ w, (s.poweredOn.session w).reserved = s.retainedFor w := fun w => by
    rw [s.poweredOn_session]
  have record : ∀ l, (s.poweredOn.lane l).inflight = (s.lane l).inflight := fun l => by
    rw [s.poweredOn_lane]
    rfl
  have job : ∀ w k, s.poweredOn.job w k = none := fun w k =>
    (s.poweredOn_frame.job w k).trans (congrArg Slot.job (s.volatileLost_slot w k))
  refine ⟨fun f => ?_, job, ?_, ?_, fun w => ?_, fun l r held => records l r ((record l).symm.trans held)⟩
  · rw [s.poweredOn_form]
    exact (s.form f).atStart_counts
  · rw [reserved, sum_allWindows]
    exact Finset.sum_congr rfl fun w _ => (money w).symm
  · have fewer : ∑ w, s.retainedFor w ≤ ∑ w, (s.session w).reserved :=
      Finset.sum_le_sum fun w _ => retained w
    rw [inUse, reserved, sum_allWindows]
    rw [total, sum_allWindows] at room
    omega
  · rw [money, State.retainedFor, sum_allLanes]
    exact Finset.sum_congr rfl fun l _ => (Lane.retainedFor_congr (record l) w).symm

theorem State.powered_booked (reservations : s.reservationsHold) (kept : ∀ l, (s.lane l).keptWf = true) :
    s.powered.booked := by
  refine State.startLanes_booked allLanes (by decide) (State.poweredOn_starting reservations)
    (fun l _ => ?_) fun l out => absurd (mem_allLanes l) out
  rw [s.poweredOn_lane]
  exact ⟨rfl, kept l⟩

/-- A store taken as empty has empty books. -/
theorem State.startedEmpty_booked : s.startedEmpty.booked := by
  obtain ⟨forms, -, -, sessions⟩ := s.startedEmpty_tables
  have free : ∀ l, (s.startedEmpty.lane l).holdings = [] := fun l => by
    rw [s.startedEmpty_lane]
    rfl
  refine State.starting.booked ⟨fun f => ?_, fun w k => congrArg Slot.job (s.volatileLost_slot w k), ?_,
    Nat.zero_le _, fun w => ?_, fun l r record => ?_⟩ free
  · rw [forms]
    exact FormRecord.counts_undefined
  · exact (Finset.sum_eq_zero fun w _ => by rw [sessions]; rfl).symm
  · rw [sessions]
    refine (Finset.sum_eq_zero fun l _ => ?_).symm
    rw [Lane.retainedFor_none (Lane.holdings_nil.1 (free l)).2]
  · rw [(Lane.holdings_nil.1 (free l)).2] at record
    cases record

theorem exec_powerOn_booked (reservations : s.reservationsHold) (kept : ∀ l, (s.lane l).keptWf = true)
    (run : exec .powerOn s = .next t) : t.booked := by
  rcases exec_powerOn_cases run with e | empty
  · rw [e]
    exact State.powered_booked reservations kept
  · exact empty.sameBooks.booked s.startedEmpty_booked

end

end Sys2Proof.Machine
end

section
/-! O22: the tables, the form counts and the reservations at every step (02 R21; 08 R147 to R149, R158). -/

set_option Elab.async false

namespace Sys2Proof.Machine

section
variable {s t : State} {c : Instr}

theorem State.formCountsHold_of_unpowered (unpowered : s.phase = .unpowered) : s.formCountsHold :=
  fun supplied => absurd unpowered supplied

/-- A part without its supply stays without it at every command but its return. -/
theorem exec_unpowered_phase (unpowered : s.phase = .unpowered) (power : isPower c = false)
    (run : exec c s = .next t) : t.phase = .unpowered := by
  by_cases reset : c = .resetAsserted
  · subst reset
    cases run
    rw [if_pos unpowered]
    exact unpowered
  · have still : t.phase = s.phase := exec_changesOnly run .phase (phase_untouched power reset)
    exact still.trans unpowered

/-- While the part has its supply the books say what the rules say; while it has none, its records
stand. -/
theorem exec_reckoned (counts : s.formCountsHold) (reservations : s.reservationsHold)
    (lanes : s.lanesHold) (run : exec c s = .next t) : t.formCountsHold ∧ t.reservationsHold := by
  obtain ⟨wf, kept, starting⟩ := lanes
  by_cases power : isPower c = false
  · by_cases unpowered : s.phase = .unpowered
    · have records := exec_sameRecords unpowered (starting (by rw [unpowered]; nofun)) power run
      have still := exec_unpowered_phase unpowered power run
      exact ⟨State.formCountsHold_of_unpowered still, records.reservationsHold still reservations⟩
    · have booked := exec_booked power run (wf unpowered)
        (State.booked_of_holds unpowered counts reservations (wf unpowered))
      exact ⟨booked.formCountsHold, booked.reservationsHold⟩
  · cases c
    case supplyLoss =>
      obtain ⟨records, still⟩ := exec_supplyLoss_sameRecords run
      exact ⟨State.formCountsHold_of_unpowered still, records.reservationsHold still reservations⟩
    case powerOn =>
      have booked := exec_powerOn_booked reservations kept run
      exact ⟨booked.formCountsHold, booked.reservationsHold⟩
    all_goals exact absurd rfl power

/-- The form counts, the reservations, and the lanes' records they are read from. -/
structure State.reckoned (s : State) : Prop where
  counts : s.formCountsHold
  reservations : s.reservationsHold
  lanes : s.lanesHold

theorem exec_keeps_reckoned (h : s.reckoned) (run : exec c s = .next t) : t.reckoned := by
  obtain ⟨counts, reservations⟩ := exec_reckoned h.counts h.reservations h.lanes run
  exact ⟨counts, reservations, exec_lanesHold h.lanes run⟩

end

/-- Settles O22: the tables by what each operation writes to them, and the counts and the reservations by
the books, which every command keeps. -/
theorem tablesStayInRange : Obligations.TablesStayInRange := by
  unfold Obligations.TablesStayInRange
  intro s t run
  refine ⟨fun h => ?_, fun h => ?_, fun h => ?_, fun h => ?_, fun counts reservations lanes => ?_⟩
  · exact step_keeps (P := State.formsHold) (fun _ _ h => h) (fun _ _ _ h run => (exec_tablesHold run).forms h)
      h run
  · exact step_keeps (P := State.discountsHold) (fun _ _ h => h)
      (fun _ _ _ h run => (exec_tablesHold run).discounts h) h run
  · exact step_keeps (P := State.limitsHold) (fun _ _ h => h)
      (fun _ _ _ h run => (exec_tablesHold run).limits h) h run
  · exact step_keeps (P := State.sessionsHold) (fun _ _ h => h)
      (fun _ _ _ h run => (exec_tablesHold run).sessions h) h run
  · have kept := step_keeps (P := State.reckoned) (fun _ _ h => ⟨h.counts, h.reservations, h.lanes⟩)
      (fun _ _ _ h run => exec_keeps_reckoned h run) ⟨counts, reservations, lanes⟩ run
    exact ⟨kept.counts, kept.reservations⟩

end Sys2Proof.Machine
end
